-- ==== Sys2Proof/Word.lean ====
section
/-! DEFINITION. The words the 620 handles: bytes, bus levels and 16-bit checks. -/

namespace Sys2Proof

/-- One byte of a frame, of the tag or of the console port (11). -/
abbrev Byte := BitVec 8

/-- A bus level of the yard link: `true` is recessive and carries 1, `false` is dominant and
carries 0 (R1). -/
abbrev Bit := Bool

/-- A 16-bit check (R187): the check of a frame, or the check of a site key. -/
abbrev Check := BitVec 16

/-- The site key of the configuration record (R178). -/
abbrev SiteKey := BitVec 64

/-- One character as sampled on the TAG line (R48): bit 0 the start bit, bits 1 to 8 the data bits,
least significant first, bit 9 the parity bit, bits 10 and 11 the two stop bits. -/
abbrev TagChar := BitVec 12

/-- A level of the TAG line as sampled at the middle of a bit: `true` is high (R48). -/
abbrev TagLevel := Bool

end Sys2Proof
end

