-- ==== Sys2Proof/Syntax.lean ====
section
/-! DEFINITION. The commands: one constructor per row of spec/opcode_table.json, with the data the event carries.
The table gives its rows no operands; the operands here are what the rule of the row says arrives with the event
(log entry 1). -/

namespace Sys2Proof

/-- The eight filter cells (R82), in the order of their codes (11.6). -/
inductive Cell
  | a | b | c | noz | cpl | estop | svm | dhs
  deriving DecidableEq, Repr

/-- The two duty-cycle inputs (R95). -/
inductive DutyCell
  | tmp | gau
  deriving DecidableEq, Repr

/-- The three slots of an acknowledge window, each `true` when another station drives it dominant
(R8, R10, R11). What this station drives itself is not in here. -/
structure Slots where
  accept : Bool
  step : Bool
  void : Bool
  deriving DecidableEq, Repr

/-- The levels of the three meter sensors after the filter cells (R87). -/
structure Pattern where
  a : Bool
  b : Bool
  c : Bool
  deriving DecidableEq, Repr

/-- The commands of the 620: every row of the table. `rx` is the bits of a frame as this station reads
them, from the first bit of the sync byte to the last stuff bit after the check; `held` and
`samples` are the number of 1 MHz samples for which an input has stood at its level, counted from its last
change or from the last START, whichever came later (R83); `t` is a time in microseconds since reset; `line`
is what is read of the TAG line: the characters read back while the port drives, or the levels sampled in the
bits of the reply's characters since the command before; `body` is the body bytes of a console request; `clocked` is the number of bytes that the panel has
clocked out; `inputs` is the levels of the eight inputs, bit n the cell of code n. -/
inductive Instr
  -- link engine
  | frameStart (idle : Nat) (rivals : List Byte) (early : Bool)
  | numberClash (rival : List Bit)
  | frameAbandoned (rx : List Bit)
  | truncated (rx : List Bit)
  | replicaWindow (rx : List Bit) (slots : Slots)
  | foundingWindow (rx : List Bit) (slots : Slots)
  | serviceWindow (rx : List Bit) (slots : Slots)
  | censusSlotsEnd (map : BitVec 32)
  | undelivered (slots : Slots)
  | receiveFailure (rx : List Bit) (slots : Slots)
  | censusTimer
  -- replica engine: queues, retained write, joining, founding
  | frameDeferred
  | frameHeldForCatchUp
  | retainedWriteComplete
  | sequenceLimit
  | unknownKind
  | siteSet
  | censusPresent
  | join
  | announce
  | founderAnnounce
  | leave
  | snapHead
  | snap
  | snapEnd
  | snapAbort
  | noSnapHead
  | joinTimeout
  | listeningTimeout
  | joinHoldOffEnd
  | found
  | sealDue
  | sealRound
  | roundTimeout
  -- inlet tag port and identification
  | tagCommandStart (line : List TagChar)
  | tagIdent (line : List TagLevel)
  | tagUnlock (startBit : Bool)
  | tagRead (line : List TagLevel)
  | tagStage (line : List TagLevel)
  | tagCommit (line : List TagLevel)
  | tagRelock (startBit : Bool)
  | noReply
  | settlingEnd
  | keepAlive
  | unlockLost
  | cplRise (held : Nat)
  | cplFall (held : Nat)
  | wakingEnd
  | identTimeout
  | keyedId (body : List Byte)
  -- meter and sensor inputs
  | filterLockoutEnd (cell : Cell) (t : Nat)
  | meterStep (t held : Nat) (levels : Pattern)
  | reverseFlow (t held : Nat) (levels : Pattern)
  | meterFault (t held : Nat) (levels : Pattern)
  | unauthFlowTimeout
  | flowRateTimeout
  | recentFlowEnd
  | dutyMeasurement (input : DutyCell) (t : Nat)
  | dutyCycleTimeout (input : DutyCell)
  -- the activity
  | nozRise (held : Nat)
  | nozFall (held : Nat)
  | dhsFall (held : Nat)
  | estopRise (held : Nat)
  | estopFall (held : Nat)
  | noFlowTimeout
  | fullTimeout
  | settleTimeout
  | stoppingLimit
  -- applying a replica frame
  | openFill
  | progress
  | closeFill
  | grant
  | bar
  | unbar
  | drop
  | tankSet
  | order
  | deliveryOpen
  | deliveryClose
  | censusFlow
  | gauge
  | release
  | ccClear
  | time
  | stop
  | resume
  | adjust
  -- gauge unit, service responder, supply, clock
  | gaugePeriod
  | serviceRead
  | supplyDrop (held : Nat)
  | powerOnReset (inputs : BitVec 8)
  | clockTick
  -- console port
  | configure (body : List Byte)
  | start (body : List Byte)
  | reset (body : List Byte)
  | wipe (body : List Byte)
  | status (body : List Byte)
  | notice (body : List Byte)
  | consoleRead (body : List Byte)
  | preset (body : List Byte)
  | cancel (body : List Byte)
  | estop (body : List Byte)
  | consoleResume (body : List Byte)
  | delivery (body : List Byte)
  | gaugeNow (body : List Byte)
  | clearFault (body : List Byte)
  | consoleLeave (body : List Byte)
  | noRequest (clocked : Nat)
  | selRise (clocked : Nat) (partialRequest : List Byte) (inputs : BitVec 8)
  | attnReleaseEnd
  | dhsRise (held : Nat)
  | filterInputChange (cell : Cell) (samples : Nat)
  | dutyCycleFallingEdge (input : DutyCell) (t : Nat)
  | unknownRequestCode (code : Byte) (body : List Byte)
  deriving DecidableEq, Repr

end Sys2Proof
end

