-- ==== Sys2Proof/Config.lean ====
section
/-! DEFINITION. The free values: what the spec leaves open and no proof may look into. Each is applied to the
counter `free` of the state, so that every use is a fresh value. -/

namespace Sys2Proof

/-- R27 and R164 leave open whether a retained write in progress at a supply drop or a reset is
completed: "completed or not". Log entry 4. -/
opaque Config.writeCompletes : Nat → Bool

/-- R25 gives the site sequence number 48 bits and adds one at every applied frame, also at a station
whose number has already reached 2^48 − 1; the number reached then is not stated. Log entry 5. -/
opaque Config.sequenceBeyondLimit : Nat → BitVec 48

/-- R100 has STATUS answer the activity context, whose parts are four timers among others (section 6.1), and no rule
gives the value that a running timer is answered with: the time gone or the time left, or its unit. Log entry 15. -/
opaque Config.timerReading : Nat → BitVec 32

/-- R185: "Two notices raised at the same moment by different blocks may enter in either order." How
many notices of other blocks a notice passes. Log entry 6. -/
opaque Config.noticeHop : Nat → Nat

end Sys2Proof
end

