-- ==== Sys2Proof/Machine/State.lean ====
section
/-! DEFINITION. The state of the 620 as plain data, the reasons a step can stop, and the state after reset. -/

namespace Sys2Proof.Machine

/-! ## Names with codes (11.6, R190) -/

/-- Link state (R20). -/
inductive LinkState
  | offline | listening | joining | founding | inService | faulted
  deriving DecidableEq, Repr

/-- Membership of a station entry (R26). -/
inductive Membership
  | absent | joining | inService
  deriving DecidableEq, Repr

/-- Role of a station (R26). -/
inductive Role
  | dispense | receipt | office
  deriving DecidableEq, Repr

/-- Kind of an activity (R26). -/
inductive ActivityKind
  | fill | delivery
  deriving DecidableEq, Repr

/-- How an activity ended (R26). -/
inductive EndingKind
  | closed | orphaned | adjusted
  deriving DecidableEq, Repr

/-- Kind of a billing record (R149). -/
inductive RecordKind
  | fill | orphan | adjust | receipt
  deriving DecidableEq, Repr

/-- Identification mode. -/
inductive IdMode
  | tag | keyed
  deriving DecidableEq, Repr

/-- Restock state of a tank (R126, R130). -/
inductive RestockState
  | normal | low | ordered | delivery
  deriving DecidableEq, Repr

/-- Census kind (R22). -/
inductive CensusKind
  | present | flow
  deriving DecidableEq, Repr

/-- Mode of a GRANT (section 4.3). -/
inductive GrantMode
  | set | add
  deriving DecidableEq, Repr

/-- Unlock state of the inlet context (R53). -/
inductive UnlockState
  | locked | unlocked | lost
  deriving DecidableEq, Repr

/-- State of the gauge unit (section 7.5). -/
inductive GaugeState
  | idle | calling | sampling | sending
  deriving DecidableEq, Repr

/-- Supply state (R164). -/
inductive SupplyState
  | normal | powerDown
  deriving DecidableEq, Repr

/-- Phase of the retained activity record (R163). -/
inductive RecordPhase
  | running | ending | held | recovering | waitingRoom
  deriving DecidableEq, Repr

/-- Mode of a filter cell (R83). -/
inductive FilterMode
  | bypass | delayed | immediate
  deriving DecidableEq, Repr

/-- Sensor mode (R87). -/
inductive SensorMode
  | two | three
  deriving DecidableEq, Repr

/-- Bit rate of the yard link (R1, R178). -/
inductive BitRate
  | kbit62 | kbit125 | kbit250
  deriving DecidableEq, Repr

/-- The tables of the replica (11.6, table code). -/
inductive Table
  | site | stations | tanks | costCentres | machines | log
  deriving DecidableEq, Repr

/-- Every reason, result, cause and event name (R190); `noReason` is NONE. -/
inductive Reason
  | noReason
  | numberClash | keyMismatch | ownSlotSilent | sequenceLimit | outOfStep | receiveFailure
  | notAdmitted | closeUndelivered | noSnapHead | joinTimeout | catchUpOverflow | snapAborted
  | snapFault | catchUpGap | left | leaveFailed | admitted
  | malformed | siteStopped | notInService | stationBusy | unknownMachine | barred | heldElsewhere
  | misgrade | keyedNotPermitted | tankSuspect | logFull | noAllowance | noStock | notServed
  | tankBusy | noUllage | link | recoveryPending | noMatch | noRoom
  | preset | limit | noFlow | full | hung | hoseReleased | couplerLost | reverseFlow | meterFault
  | cancelled | siteStop | overrun | linkLost | powerLoss | orphaned
  | tagFormat | keyRejected | wrongClass | tagLink | identTimeout | tagChanged | tagLost | discarded
  | keyed | locked | writeFailed | verifyFailed
  | parity | frame | start | noReply | contention | check | refused
  | badConfig | noConfig | notWiped | wrongRole | belowMinimum | estopAsserted | notOrigin | noGauge
  | busy | flowPresent | estopInput | estopConsole | office | valve | noReading | noTank | flow
  | spread
  deriving DecidableEq, Repr

/-- The frame kinds (11.3). -/
inductive Kind
  | stop | resume
  | close | deliveryClose | adjust
  | openFill | deliveryOpen | progress | gauge
  | census
  | grant | bar | unbar | drop | release | tankSet | order | ccClear | siteSet | time
  | join | announce | leave | found | sealRound
  | read | data | busy
  | snapHead | snap | snapEnd | snapAbort
  deriving DecidableEq, Repr

/-! ## The replica (02 section 2.1, 2.2; 04; 07; 08) -/

/-- The stop fields of a STOPPED site (R24, R172). The reason is kept as its code byte, since R188
keeps one that names no reason. -/
structure StopInfo where
  origin : Nat
  reason : Byte
  seq : Nat
  deriving DecidableEq, Repr

/-- The site record (R24). The site state is RUNNING when `stop` is absent and STOPPED when present. -/
structure SiteRecord where
  seq : Nat
  nextRecord : Nat
  stop : Option StopInfo
  minFill : Nat
  tolerance : Nat
  keyed : Bool
  keyCheck : Check
  deriving DecidableEq, Repr

/-- The open activity of a station entry (R26): `party` is the machine or tanker, `volume` the granted
volume of a fill or the limit of a delivery. -/
structure OpenActivity where
  kind : ActivityKind
  openSeq : Nat
  party : Nat
  tank : Nat
  volume : Nat
  progress : Nat
  mode : IdMode
  openTime : Option Nat
  deriving DecidableEq, Repr

/-- How the last activity of a station ended (R26). -/
structure LastEnded where
  openSeq : Nat
  kind : EndingKind
  billed : Int
  deriving DecidableEq, Repr

/-- One entry of the station table (R26). -/
structure StationEntry where
  number : Nat
  membership : Membership
  role : Option Role
  hose : Option Nat
  served : Option (BitVec 8)
  misses : Nat
  donor : Option Nat
  donatingTo : Option Nat
  activity : Option OpenActivity
  last : Option LastEnded
  deriving DecidableEq, Repr

/-- The hold of a machine entry (R72). -/
structure Hold where
  station : Nat
  openSeq : Nat
  deriving DecidableEq, Repr

/-- The last fill of a machine entry (R73). -/
structure LastFill where
  record : Nat
  gross : Int
  deriving DecidableEq, Repr

/-- One entry of the machine table (R70). -/
structure MachineEntry where
  number : Nat
  grade : Nat
  capacity : Nat
  allowance : Int
  costCentre : Nat
  barred : Bool
  dropPending : Bool
  hold : Option Hold
  lastFill : Option LastFill
  deriving DecidableEq, Repr

/-- The last gauge of a tank (R126, R147). -/
structure LastGauge where
  volume : Int
  level : Nat
  station : Nat
  seq : Nat
  reconciled : Bool
  temperature : Option Int
  variance : Option Int
  deriving DecidableEq, Repr

/-- One entry of the tank table (R126). -/
structure TankEntry where
  number : Nat
  grade : Nat
  capacity : Nat
  book : Int
  reserved : Nat
  reorder : Nat
  restock : RestockState
  deliveryStation : Option Nat
  quietSince : Option Nat
  lastGauge : Option LastGauge
  suspect : Bool
  deriving DecidableEq, Repr

/-- One entry of the cost-centre table (R155). -/
structure CostCentre where
  number : Nat
  gross : Nat
  comp : Nat
  fills : Nat
  saturated : Bool
  deriving DecidableEq, Repr

/-- One billing record (R149). -/
structure Record where
  number : Nat
  madeBy : Nat
  kind : RecordKind
  station : Nat
  openSeq : Nat
  party : Nat
  tank : Nat
  gross : Int
  comp : Option Nat
  costCentre : Option Nat
  endReason : Option Reason
  mode : IdMode
  hours : Option Nat
  openTime : Option Nat
  endTime : Option Nat
  deriving DecidableEq, Repr

/-- The replica: the six shared tables (00 "The replica"). -/
structure Replica where
  site : SiteRecord
  stations : List StationEntry
  tanks : List TankEntry
  costCentres : List CostCentre
  machines : List MachineEntry
  log : List Record
  deriving DecidableEq, Repr

/-- One table entry as the snapshot stream, DATA and the console READ carry it (11.5). -/
inductive Entry
  | site (r : SiteRecord)
  | station (e : StationEntry)
  | tank (e : TankEntry)
  | costCentre (e : CostCentre)
  | machine (e : MachineEntry)
  | record (r : Record)
  deriving DecidableEq, Repr

/-! ## Frames (11.4) -/

/-- CLOSE and DELIVERY-CLOSE. -/
structure Closing where
  openSeq : Nat
  gross : Int
  comp : Option Nat
  endReason : Reason
  overrun : Int
  hours : Option Nat
  endTime : Option Nat
  deriving DecidableEq, Repr

/-- ADJUST (R169). -/
structure Adjusting where
  openSeq : Nat
  kind : ActivityKind
  party : Nat
  tank : Nat
  mode : IdMode
  billedBefore : Int
  delta : Int
  time : Option Nat
  deriving DecidableEq, Repr

/-- OPEN (R105). `mode` is absent when the mode byte names no mode; R106 refuses it. -/
structure OpenRequest where
  machine : Nat
  tank : Nat
  requested : Nat
  mode : Option IdMode
  hours : Option Nat
  openTime : Option Nat
  deriving DecidableEq, Repr

/-- DELIVERY-OPEN (R134). -/
structure DeliveryRequest where
  tank : Nat
  tanker : Nat
  grade : Nat
  declared : Nat
  mode : IdMode
  hours : Option Nat
  openTime : Option Nat
  deriving DecidableEq, Repr

/-- GAUGE (R145). -/
structure Gauging where
  tank : Nat
  level : Nat
  volume : Int
  temperature : Option Int
  census : Nat
  deriving DecidableEq, Repr

/-- GRANT (section 4.3). -/
structure Granting where
  machine : Nat
  mode : GrantMode
  value : Int
  grade : Nat
  capacity : Nat
  costCentre : Nat
  deriving DecidableEq, Repr

/-- TANK-SET (R129). -/
structure TankSetting where
  tank : Nat
  grade : Nat
  capacity : Nat
  reorder : Nat
  book : Option Int
  deriving DecidableEq, Repr

/-- JOIN (R34). -/
structure Joining where
  station : Nat
  role : Role
  hose : Option Nat
  served : Option (BitVec 8)
  keyCheck : Check
  retained : Nat
  deriving DecidableEq, Repr

/-- ANNOUNCE (R40, R46). -/
structure Announcing where
  founder : Bool
  role : Role
  hose : Option Nat
  served : Option (BitVec 8)
  keyCheck : Check
  deriving DecidableEq, Repr

/-- SEAL (R46). -/
structure Sealing where
  winner : Nat
  retained : Nat
  keyCheck : Check
  candidates : Nat
  deriving DecidableEq, Repr

/-- The entry counts of SNAP-HEAD (R37). -/
structure Counts where
  site : Nat
  stations : Nat
  tanks : Nat
  costCentres : Nat
  machines : Nat
  log : Nat
  deriving DecidableEq, Repr

/-- A frame's payload as the part reads it. `malformed` is a known kind whose payload R188 or R189
calls malformed, kept as its bytes; `unknown` is a kind the station does not know in its class (R29). -/
inductive Payload
  | stop (reason : Byte)
  | resume
  | close (c : Closing)
  | deliveryClose (c : Closing)
  | adjust (a : Adjusting)
  | openFill (o : OpenRequest)
  | deliveryOpen (d : DeliveryRequest)
  | progress (openSeq volume : Nat)
  | gauge (g : Gauging)
  | census (kind : CensusKind) (argument : Nat) (time : Option Nat)
  | grant (g : Granting)
  | bar (machine : Nat)
  | unbar (machine : Nat)
  | drop (machine : Nat)
  | release (upTo : Nat)
  | tankSet (t : TankSetting)
  | order (tank : Nat)
  | ccClear (costCentre : Nat)
  | siteSet (minFill tolerance : Option Nat) (keyed : Option Bool)
  | time (seconds : Nat)
  | join (j : Joining)
  | announce (a : Announcing)
  | leave
  | found (retained : Nat) (keyCheck : Check)
  | sealRound (x : Sealing)
  | read (table : Nat) (start count : Nat)
  | data (table : Nat) (seq : Nat) (entries : List Entry) (endFlag : Bool)
  | busy
  | snapHead (joinSeq : Nat) (keyCheck : Check) (counts : Counts)
  | snap (entries : List Entry)
  | snapEnd
  | snapAbort
  | malformed (kind : Kind) (bytes : List Byte)
  | unknown (cls : Nat) (kind : Byte) (bytes : List Byte)
  deriving DecidableEq, Repr

/-- A frame: sender and destination station, seq16 (0 where there is none), payload, and the slot map
of a census once its slots have ended (R18, R22). -/
structure Frame where
  sender : Nat
  dest : Nat
  seq16 : BitVec 16
  payload : Payload
  map : Option (BitVec 32)
  deriving DecidableEq, Repr

/-- What applying a frame hands to the frame's originating block (R28). -/
inductive ApplyResult
  | applied
  | noChange
  | granted (openSeq volume : Nat)
  | refused (reason : Reason)
  | closed (record : Nat)
  | census (quiet : Bool) (seq : Nat)
  | gauge (recorded reconciled : Bool) (variance : Option Int) (suspect : Bool)
  | noMatch
  | noRoom
  deriving DecidableEq, Repr

/-! ## Link engine (01) -/

/-- The blocks that originate frames (R14). -/
inductive Origin
  | census | membership | donation | responder | activity | gauge | stopPath
  deriving DecidableEq, Repr

/-- The outcomes a frame leaves the transmit queue with (R17). -/
inductive TxOutcome
  | accepted | taken | notTaken | undelivered | withdrawn | leftService
  deriving DecidableEq, Repr

/-- A frame in the transmit queue (R12, R14). -/
structure TxEntry where
  origin : Origin
  dest : Nat
  payload : Payload
  voids : Nat
  entered : Nat
  deriving DecidableEq, Repr

/-- A frame that its block keeps because the queue refused it (R14). -/
structure KeptFrame where
  origin : Origin
  dest : Nat
  payload : Payload
  deriving DecidableEq, Repr

/-- The own frame on the wire (00 "Queues"). -/
structure OnWire where
  origin : Origin
  frame : Frame
  deriving DecidableEq, Repr

/-- An accepted census whose 32 slots follow (R22): whether this station drives its own slot, and
whether the frame goes into its inbound queue. -/
structure SlotWait where
  frame : Frame
  answered : Bool
  queue : Bool
  deriving DecidableEq, Repr

/-- The receive errors (R19). -/
inductive RxError
  | sync | stuff | check | length | truncated | clash
  deriving DecidableEq, Repr

/-- The six receive error counts (R19). -/
structure RxCounts where
  sync : Nat
  stuff : Nat
  check : Nat
  length : Nat
  truncated : Nat
  clash : Nat
  deriving DecidableEq, Repr

/-- A timer: stopped, or running with its period in microseconds (log entry 3). -/
abbrev Timer := Option Nat

/-- The link engine and the census unit (01). -/
structure Link where
  state : LinkState
  reason : Reason
  acceptedSeq : Nat
  tx : List TxEntry
  kept : List KeptFrame
  entered : Nat
  wire : Option OnWire
  slots : Option SlotWait
  inbound : List Frame
  voidRun : Nat
  errors : RxCounts
  lostPlace : Bool
  voidHold : Bool
  censusTimer : Timer
  deriving DecidableEq, Repr

/-! ## Replica engine (02) -/

/-- A retained write in progress (R27): the replica as it stands after the frame, the frame, its
result, and whether the sequence limit was reached (R25). -/
structure Writing where
  replica : Replica
  frame : Frame
  result : ApplyResult
  limit : Bool
  deriving DecidableEq, Repr

/-- The join area of a joiner (R39): its donor, the join sequence, the counts of SNAP-HEAD, the
entries streamed so far, and the last entry's table and key. -/
structure JoinArea where
  donor : Nat
  joinSeq : Nat
  counts : Counts
  entries : List Entry
  deriving DecidableEq, Repr

/-- A candidate of a founding round (R44). -/
structure Candidate where
  station : Nat
  retained : Nat
  keyCheck : Check
  deriving DecidableEq, Repr

/-- A founding round (R44). -/
structure Round where
  sealer : Nat
  candidates : List Candidate
  deriving DecidableEq, Repr

/-- Where a donation stream stands (R37): the next frame to offer. -/
inductive StreamNext
  | head
  | body (sent : Nat)
  | finish
  deriving DecidableEq, Repr

/-- The donation stream (R37): the joiner, whether the JOIN's key check equals the site's, the next
frame, and whether that frame has been offered. -/
structure Stream where
  joiner : Nat
  keyOk : Bool
  next : StreamNext
  offered : Bool
  deriving DecidableEq, Repr

/-- The replica engine (02 section 2.3). -/
structure Engine where
  writing : Option Writing
  freeze : Bool
  catchUp : List Frame
  deferred : List Frame
  admitted : Bool
  leavePending : Bool
  listenTimer : Timer
  holdOff : Timer
  headTimer : Timer
  joinTimer : Timer
  roundTimer : Timer
  sealTimer : Timer
  heardNoted : Bool
  join : Option JoinArea
  round : Option Round
  foundSent : Bool
  stream : Option Stream
  abortTo : Option Nat
  deriving DecidableEq, Repr

/-- The service context (R152). `paused` marks a stream that a freeze cut and whose thaw is not yet over (R154). -/
structure ServiceContext where
  requester : Nat
  table : Nat
  position : Nat
  remaining : Nat
  lastBuilt : Bool
  paused : Bool
  deriving DecidableEq, Repr

/-- The service responder (R152): FREE without a context, STREAMING with one. -/
structure Responder where
  context : Option ServiceContext
  waitingBusy : Option Nat
  deriving DecidableEq, Repr

/-! ## Inlet tag and identification (03) -/

/-- Tag link state (R48). -/
inductive PortState
  | idle | sending | awaitingReply | receiving | settling
  deriving DecidableEq, Repr

/-- The identity block (R52, 11.7): sixteen bytes, each field as read. -/
structure IdentBlock where
  serial : BitVec 48
  format : Byte
  number : BitVec 16
  fleetClass : Byte
  guardTime : Byte
  gap : Byte
  issue : BitVec 32
  deriving DecidableEq, Repr

/-- The tag's machine record (R54, 11.7). -/
structure TagRecord where
  grade : Byte
  level : Byte
  capacity : BitVec 32
  hours : BitVec 32
  fleetData : BitVec 48
  deriving DecidableEq, Repr

/-- The last-fill record staged at write-back (R67, 11.7). -/
structure LastFillArea where
  record : Nat
  gross : Int
  station : Nat
  endTime : Option Nat
  keyCheck : Check
  deriving DecidableEq, Repr

/-- The commands of the tag (section 3.2). -/
inductive TagCommand
  | ident
  | unlock
  | read (address count : Nat)
  | stage
  | commit
  | relock
  deriving DecidableEq, Repr

/-- Why a tag command is sent: the run (R60, R61), the keep-alive (R57), the write-back (R68), or a
release (R56). -/
inductive TagPurpose
  | run | keepAlive | writeBack | release
  deriving DecidableEq, Repr

/-- The command the port is to send or has sent, with the attempts made (R51). -/
structure TagJob where
  command : TagCommand
  purpose : TagPurpose
  attempts : Nat
  deriving DecidableEq, Repr

/-- The error signature of the last transaction (R51); no command before the first one. -/
structure Signature where
  command : Option TagCommand
  attempts : Nat
  error : Reason
  deriving DecidableEq, Repr

/-- The inlet tag port (R48 to R51). `sent` is the characters driven in the transaction, none of one that was abandoned, `heard` the levels sampled of
its reply, a character under way included; `late` marks a reply character that came after a complete reply (R50). -/
structure Port where
  state : PortState
  guardTime : Nat
  gap : Nat
  signature : Signature
  job : Option TagJob
  sent : List TagChar
  heard : List TagLevel
  late : Bool
  deriving DecidableEq, Repr

/-- State of the identification controller (section 3.3). -/
inductive IdState
  | idle | waking | readingIdent | unlocking | readingRecord | checking | identified
  | failed (reason : Reason)
  | writing
  deriving DecidableEq, Repr

/-- An identification result (R64). -/
structure IdResult where
  mode : IdMode
  number : Nat
  grade : Nat
  capacity : Nat
  hours : Option Nat
  level : Option Nat
  deriving DecidableEq, Repr

/-- The inlet context (section 3.3). `pairs` counts the UNLOCK and READ pairs of the run (R61). -/
structure Inlet where
  mode : IdMode
  coupler : Bool
  block : Option IdentBlock
  record : Option TagRecord
  unlock : UnlockState
  pairs : Nat
  namedTank : Option Nat
  result : Option IdResult
  gradePending : Bool
  deriving DecidableEq, Repr

/-- A write-back request (R67): the last-fill record, and whether the coupler was lost. -/
structure WriteBackRequest where
  area : LastFillArea
  couplerLost : Bool
  deriving DecidableEq, Repr

/-- A write-back under way (R68): the record staged and the pass, 1 to 3. -/
structure WriteBack where
  area : LastFillArea
  pass : Nat
  deriving DecidableEq, Repr

/-- The identification controller (section 3.3). -/
structure Ident where
  state : IdState
  context : Option Inlet
  runTimer : Timer
  waiting : Option WriteBackRequest
  writing : Option WriteBack
  deriving DecidableEq, Repr

/-! ## Meter front end (05) -/

/-- A filter cell (R82 to R85). `threshold` is in the cell's unit: microseconds for A, B, C and SVM,
milliseconds for the switches. -/
structure FilterCell where
  mode : FilterMode
  threshold : Nat
  input : Bool
  output : Bool
  count : Nat
  lockout : Timer
  glitch : Bool
  glitches : Nat
  idle : Bool
  deriving DecidableEq, Repr

/-- The eight filter cells. -/
structure Cells where
  a : FilterCell
  b : FilterCell
  c : FilterCell
  noz : FilterCell
  cpl : FilterCell
  estop : FilterCell
  svm : FilterCell
  dhs : FilterCell
  deriving DecidableEq, Repr

/-- A duty-cycle cell (R95). -/
structure DutyState where
  running : Bool
  lastRise : Option Nat
  lastFall : Option Nat
  reading : Option Int
  waitTimer : Timer
  deriving DecidableEq, Repr

/-- The meter front end (05). -/
structure Meter where
  cells : Cells
  running : Bool
  position : Option Pattern
  lastStep : Option Nat
  phaseErrors : Nat
  acc : Int
  rev : Int
  comp : Int
  uncompensated : Bool
  flowRate : Option Nat
  lastBoundary : Option Nat
  flowTimer : Timer
  unauthVolume : Nat
  episode : Bool
  episodeNoticed : Bool
  episodeTimer : Timer
  recentTimer : Timer
  activityOpen : Bool
  tmp : DutyState
  gau : DutyState
  deriving DecidableEq, Repr

/-! ## Activity controller, output stage, gauge unit (06, 07) -/

/-- State of the fill or delivery controller (section 6.1, 7.3). `faulted` is FAULTED(VALVE). -/
inductive ActState
  | idle | awaitingId | opening
  | refused (reason : Reason)
  | flowing | slowing | stopping | closing | writeback | faulted
  deriving DecidableEq, Repr

/-- The four compare points (R111). -/
structure ComparePoints where
  slowDown : Int
  stop : Int
  progress : Int
  overrun : Int
  deriving DecidableEq, Repr

/-- The activity controller: state and activity context (section 6.1, R132). -/
structure Activity where
  state : ActState
  result : Option IdResult
  requested : Option Nat
  preset : Option Nat
  openSeq : Option Nat
  granted : Option Nat
  points : Option ComparePoints
  stopVolume : Option Int
  endReason : Option Reason
  pendingEnd : Option Reason
  faultPending : Bool
  linkLost : Bool
  couplerLost : Bool
  writeBackDone : Bool
  namedTank : Option Nat
  declared : Option Nat
  lastTank : Option Nat
  noFlow : Timer
  full : Timer
  settle : Timer
  limit : Timer
  deriving DecidableEq, Repr

/-- The requested state of the three outputs (R113). -/
structure Outputs where
  pump : Bool
  vmain : Bool
  vtrim : Bool
  deriving DecidableEq, Repr

/-- The gauge unit (section 7.5): its state, the census sequence, the readings and the GAUGE sent. -/
structure GaugeUnit where
  state : GaugeState
  censusSeq : Option Nat
  readings : List Nat
  sent : Option Gauging
  periodTimer : Timer
  deriving DecidableEq, Repr

/-! ## Supply unit and stop path (09) -/

/-- The retained activity record (R163). -/
structure ActRecord where
  kind : ActivityKind
  openSeq : Nat
  party : Nat
  tank : Nat
  volume : Nat
  gross : Int
  comp : Option Int
  progress : Nat
  endReason : Option Reason
  mode : IdMode
  deriving DecidableEq, Repr

/-- The supply and retained record unit (R163, R164). -/
structure Supply where
  state : SupplyState
  record : Option ActRecord
  phase : RecordPhase
  waitCensus : Bool
  deriving DecidableEq, Repr

/-- The console stop path (R171). -/
structure StopPath where
  wanted : Bool
  byConsole : Bool
  deriving DecidableEq, Repr

/-! ## Console port (10) -/

/-- The setting of one filter cell (R178 order 8). -/
structure FilterSetting where
  mode : FilterMode
  threshold : Nat
  deriving DecidableEq, Repr

/-- The configuration record (R178), field by field in the order of the table. -/
structure Settings where
  station : Nat
  role : Role
  rate : BitRate
  hose : Option Nat
  served : Option (BitVec 8)
  pulse : Nat
  sensors : SensorMode
  filters : List FilterSetting
  factors : List Nat
  tmp : Bool
  gaugeTank : Option Nat
  gaugeFactor : Option Nat
  strapping : Option (List (Nat × Nat))
  slowDown : Nat
  anticipation : Nat
  overrun : Nat
  progressStep : Nat
  key : SiteKey
  deriving DecidableEq, Repr

/-- An IDENT notice (R57, R64, R65, R66): the result, or the reason or event. -/
structure IdentNotice where
  event : Reason
  result : Option IdResult
  mode : IdMode
  block : Option IdentBlock
  fleetData : Option (BitVec 48)
  signature : Option Signature
  deriving DecidableEq, Repr

/-- What FILL_STATE and DELIVERY_STATE carry (R101, R132). -/
structure ActivityNotice where
  state : ActState
  endReason : Option Reason
  party : Option Nat
  mode : Option IdMode
  namedTank : Option Nat
  declared : Option Nat
  openSeq : Option Nat
  granted : Option Nat
  gross : Int
  comp : Option Int
  rate : Option Nat
  deriving DecidableEq, Repr

/-- The notices (R185). -/
inductive NoticeBody
  | fillState (x : ActivityNotice)
  | deliveryState (x : ActivityNotice)
  | ident (x : IdentNotice)
  | tagWritten (record : Nat)
  | tagNotWritten (reason : Reason) (record : Nat)
  | linkState (state : LinkState) (reason : Reason)
  | siteStop (origin : Nat) (reason : Byte)
  | siteResume
  | gaugeResult (g : Gauging) (recorded reconciled : Bool) (variance : Option Int) (suspect : Bool)
  | gaugeUnstable (cause : Reason)
  | flowUnauth (volume : Nat)
  | glitch (cell : Cell)
  | fault (cause : Reason)
  | unknownKind (sender cls : Nat) (kind : Byte) (seq16 : BitVec 16) (length : Nat)
  | supersededHistory (retained joinSeq : Nat)
  | recordUnmatched (openSeq : Nat) (kind : ActivityKind) (gross : Int)
  deriving DecidableEq, Repr

/-- A notice in the queue: its body, and the site sequence number when it was queued (R185). -/
structure Notice where
  seq : Nat
  body : NoticeBody
  deriving DecidableEq, Repr

/-- A reply in the reply buffer: the bytes not yet clocked out, and whether it answers NOTICE (R186). -/
structure Reply where
  bytes : List Byte
  toNotice : Bool
  deriving DecidableEq, Repr

/-- The console port (10). `raised` holds the notices raised in the step under way; it is empty
between steps (log entry 6). -/
structure Console where
  request : List Byte
  selected : Bool
  replies : List Reply
  noticeClocked : Bool
  notices : List Notice
  lost : Bool
  releasing : Bool
  config : Option Settings
  started : Bool
  resetPending : Bool
  raised : List Notice
  deriving DecidableEq, Repr

/-! ## The whole state -/

/-- The state of the 620, and the queue of the commands that wait. `wiped` says that the store has been wiped (R180),
`limitReached` that its site sequence number has reached 2^48 − 1 since (R25); both are retained with the store. -/
structure State where
  link : Link
  engine : Engine
  replica : Replica
  wiped : Bool
  limitReached : Bool
  responder : Responder
  port : Port
  ident : Ident
  meter : Meter
  activity : Activity
  outputs : Outputs
  gauge : GaugeUnit
  supply : Supply
  stop : StopPath
  console : Console
  clock : Option Nat
  free : Nat
  pending : List Instr
  deriving DecidableEq, Repr

/-- Why the machine stops with a fault: nothing does. Every fault the spec names (link state FAULTED,
FAULTED(VALVE), POWER_DOWN) is a state the machine goes on from, so this type has no constructor. -/
inductive Fault
  deriving DecidableEq, Repr

/-- Why a command is refused. -/
inductive Refusal
  /-- Raised by an arm of `exec` whose command has no meaning yet; safe (the model stops where the
  hardware goes on). No arm of this model raises it. -/
  | notModelled (mnemonic : String)
  deriving DecidableEq, Repr

/-! ## Reset -/

/-- An ABSENT station entry after WIPE (R26). -/
def StationEntry.wiped (n : Nat) : StationEntry :=
  { number := n, membership := .absent, role := none, hose := none, served := none, misses := 0,
    donor := none, donatingTo := none, activity := none, last := none }

/-- A cost-centre entry after WIPE (R155). -/
def CostCentre.wiped (n : Nat) : CostCentre :=
  { number := n, gross := 0, comp := 0, fills := 0, saturated := false }

/-- The tables after WIPE with a key of the given check (R24, R26, R69, R126, R148, R155). -/
def Replica.wiped (keyCheck : Check) : Replica :=
  { site := { seq := 0, nextRecord := 1, stop := none, minFill := 200, tolerance := 2500,
              keyed := false, keyCheck := keyCheck }
    stations := (List.range' 1 31).map StationEntry.wiped
    tanks := []
    costCentres := (List.range 64).map CostCentre.wiped
    machines := []
    log := [] }

/-- A filter cell after reset: its default setting, the output at the first sample's level, and
count, lockout and glitch record clear (R82, R85). -/
def FilterCell.reset (mode : FilterMode) (threshold : Nat) (level : Bool) : FilterCell :=
  { mode := mode, threshold := threshold, input := level, output := level, count := 0,
    lockout := none, glitch := false, glitches := 0, idle := false }

/-- The default settings of the eight cells (R85), on inputs at the given levels. -/
def Cells.reset (inputs : BitVec 8) : Cells :=
  { a := .reset .delayed 2 (inputs.getLsbD 0)
    b := .reset .delayed 2 (inputs.getLsbD 1)
    c := .reset .delayed 2 (inputs.getLsbD 2)
    noz := .reset .immediate 200 (inputs.getLsbD 3)
    cpl := .reset .delayed 200 (inputs.getLsbD 4)
    estop := .reset .immediate 50 (inputs.getLsbD 5)
    svm := .reset .delayed 50 (inputs.getLsbD 6)
    dhs := .reset .immediate 200 (inputs.getLsbD 7) }

/-- A duty-cycle cell after reset (R95). -/
def DutyState.reset : DutyState :=
  { running := false, lastRise := none, lastFall := none, reading := none, waitTimer := none }

/-- The link engine after reset (R8, R13, R14, R18, R19, R20, R23). -/
def Link.reset : Link :=
  { state := .offline, reason := .noReason, acceptedSeq := 0, tx := [], kept := [], entered := 0,
    wire := none, slots := none, inbound := [], voidRun := 0,
    errors := { sync := 0, stuff := 0, check := 0, length := 0, truncated := 0, clash := 0 },
    lostPlace := false, voidHold := false, censusTimer := none }

/-- The replica engine after reset (R27, R33). -/
def Engine.reset : Engine :=
  { writing := none, freeze := false, catchUp := [], deferred := [], admitted := false,
    leavePending := false, listenTimer := none, holdOff := none, headTimer := none,
    joinTimer := none, roundTimer := none, sealTimer := none, heardNoted := false, join := none,
    round := none, foundSent := false, stream := none, abortTo := none }

/-- The inlet tag port after reset (R48). -/
def Port.reset : Port :=
  { state := .idle, guardTime := 8, gap := 3,
    signature := { command := none, attempts := 0, error := .noReason }, job := none, sent := [],
    heard := [], late := false }

/-- The identification controller after reset (R58). -/
def Ident.reset : Ident :=
  { state := .idle, context := none, runTimer := none, waiting := none, writing := none }

/-- The meter front end after reset (R82 to R95, R99). -/
def Meter.reset (inputs : BitVec 8) : Meter :=
  { cells := .reset inputs, running := false, position := none, lastStep := none, phaseErrors := 0,
    acc := 0, rev := 0, comp := 0, uncompensated := false, flowRate := none, lastBoundary := none,
    flowTimer := none, unauthVolume := 0, episode := false, episodeNoticed := false,
    episodeTimer := none, recentTimer := none, activityOpen := false, tmp := .reset, gau := .reset }

/-- The activity controller after reset (R100, R132). -/
def Activity.reset : Activity :=
  { state := .idle, result := none, requested := none, preset := none, openSeq := none,
    granted := none, points := none, stopVolume := none, endReason := none, pendingEnd := none,
    faultPending := false, linkLost := false, couplerLost := false, writeBackDone := false,
    namedTank := none, declared := none, lastTank := none, noFlow := none,
    full := none, settle := none, limit := none }

/-- The gauge unit after reset (R143). -/
def GaugeUnit.reset : GaugeUnit :=
  { state := .idle, censusSeq := none, readings := [], sent := none, periodTimer := none }

/-- The console port after reset (R181, R186). -/
def Console.reset : Console :=
  { request := [], selected := false, replies := [], noticeClocked := false, notices := [],
    lost := false, releasing := false, config := none, started := false, resetPending := false,
    raised := [] }

/-- The state after a reset with the eight inputs at the given levels: every block at its reset value,
the retained memory as given. -/
def State.resetWith (inputs : BitVec 8) (replica : Replica) (wiped limitReached : Bool)
    (record : Option ActRecord) (free : Nat) (pending : List Instr) : State :=
  { link := .reset, engine := .reset, replica := replica, wiped := wiped,
    limitReached := limitReached, responder := { context := none, waitingBusy := none }, port := .reset, ident := .reset,
    meter := .reset inputs, activity := .reset,
    outputs := { pump := false, vmain := false, vtrim := false }, gauge := .reset,
    supply := { state := .normal, record := record, phase := .held, waitCensus := false },
    stop := { wanted := false, byConsole := false }, console := .reset, clock := none,
    free := free, pending := pending }

/-- The machine right after reset: a part that has never been wiped (its retained memory reads as the
wiped tables with key check 0, log entry 7), its inputs low (log entry 8), nothing pending. -/
def State.reset : State :=
  State.resetWith 0#8 (Replica.wiped 0#16) false false none 0 []

end Sys2Proof.Machine
end

