-- ==== Sys2Proof/Machine/Operands.lean ====
section
/-! DEFINITION. The byte and bit forms of everything the 620 sends or takes: little-endian fields, presence bytes,
code tables, the check, bit order, stuffing and its removal (11, R1, R2, R187, R188, R190). -/

namespace Sys2Proof.Machine

/-! ## Fields -/

/-- `n` bytes of a value, least significant byte first (11). -/
def leBytes : Nat → Nat → List Byte
  | 0, _ => []
  | n + 1, v => BitVec.ofNat 8 v :: leBytes n (v / 256)

/-- The value of a field sent least significant byte first. -/
def leNat : List Byte → Nat
  | [] => 0
  | b :: bs => b.toNat + 256 * leNat bs

/-- A signed field, two's complement (11). -/
def leInt (n : Nat) (v : Int) : List Byte := leBytes n (v % (2 ^ (8 * n) : Nat)).toNat

/-- The value of an `n` byte signed field, two's complement. -/
def signed (n v : Nat) : Int := if v < 2 ^ (8 * n - 1) then v else (v : Int) - (2 ^ (8 * n) : Nat)

/-- An optional field occupies its bytes when present and none when absent (R188). -/
def optBytes {α : Type} (f : α → List Byte) : Option α → List Byte
  | none => []
  | some v => f v

/-- A flag byte is 0 for clear and 1 for set (11). -/
def flagByte (b : Bool) : Byte := if b then 1 else 0

/-- The presence byte of a layout: bit k is set when optional field k is present (R188). -/
def presence : List Bool → Byte
  | [] => 0
  | b :: bs => flagByte b + 2 * presence bs

/-- A reader of a byte list: a value and the bytes left over, or nothing when malformed (R188). -/
abbrev Parse := StateT (List Byte) Option

/-- Read one byte. -/
def parseByte : Parse Byte := fun bs =>
  match bs with
  | [] => none
  | b :: rest => some (b, rest)

/-- Read an unsigned field of `n` bytes. -/
def parseNat (n : Nat) : Parse Nat := fun bs =>
  if bs.length < n then none else some (leNat (bs.take n), bs.drop n)

/-- Read a signed field of `n` bytes. -/
def parseInt (n : Nat) : Parse Int := do return signed n (← parseNat n)

/-- Read a field only when its presence bit is set. -/
def parseOpt {α : Type} (present : Bool) (p : Parse α) : Parse (Option α) :=
  if present then do return some (← p) else pure none

/-- Read a flag byte; other than 0 or 1 it is malformed (R188). -/
def parseFlag : Parse Bool := do
  let b ← parseByte
  if b = 0 then pure false else if b = 1 then pure true else failure

/-- Read a code byte; one that names no value is malformed (R188). -/
def parseCode {α : Type} (f : Byte → Option α) : Parse α := do
  match f (← parseByte) with
  | some x => pure x
  | none => failure

/-- Read a set of tanks that the layout requires to hold at least one (R188). -/
def parseTankSet : Parse (BitVec 8) := do
  let b ← parseByte
  if b = 0 then failure else pure b

/-- Read the presence byte of a layout with `n` optional fields; a bit beyond them is malformed (R188). -/
def parsePresence (n : Nat) : Parse Byte := do
  let b ← parseByte
  if b.toNat < 2 ^ n then pure b else failure

/-- Read a whole payload: bytes left over make it malformed (R189). -/
def parseAll {α : Type} (p : Parse α) (bs : List Byte) : Option α :=
  match p bs with
  | some (a, []) => some a
  | _ => none

/-- The set of tanks as its byte: the bit of value 2^(n−1) stands for tank n (11). -/
def tankInSet (set : BitVec 8) (tank : Nat) : Bool := decide (1 ≤ tank) && set.getLsbD (tank - 1)

/-! ## Code tables (11.3, 11.6, R190) -/

/-- The code of a value in its field's table. -/
def codeIn {α : Type} [DecidableEq α] (table : List (α × Nat)) (x : α) : Byte :=
  match table.find? (fun e => decide (e.1 = x)) with
  | some e => BitVec.ofNat 8 e.2
  | none => 0

/-- The value that a code byte names in a table, if it names one. -/
def ofCode {α : Type} (table : List (α × Nat)) (b : Byte) : Option α :=
  (table.find? (fun e => e.2 == b.toNat)).map Prod.fst

def tableCodes : List (Table × Nat) :=
  [(.site, 1), (.stations, 2), (.tanks, 3), (.costCentres, 4), (.machines, 5), (.log, 6)]

def membershipCodes : List (Membership × Nat) := [(.absent, 0), (.joining, 1), (.inService, 2)]

def roleCodes : List (Role × Nat) := [(.dispense, 1), (.receipt, 2), (.office, 3)]

def activityKindCodes : List (ActivityKind × Nat) := [(.fill, 1), (.delivery, 2)]

def endingKindCodes : List (EndingKind × Nat) := [(.closed, 1), (.orphaned, 2), (.adjusted, 3)]

def recordKindCodes : List (RecordKind × Nat) :=
  [(.fill, 1), (.orphan, 2), (.adjust, 3), (.receipt, 4)]

def idModeCodes : List (IdMode × Nat) := [(.tag, 1), (.keyed, 2)]

def restockCodes : List (RestockState × Nat) :=
  [(.normal, 0), (.low, 1), (.ordered, 2), (.delivery, 3)]

def censusKindCodes : List (CensusKind × Nat) := [(.present, 1), (.flow, 2)]

def grantModeCodes : List (GrantMode × Nat) := [(.set, 1), (.add, 2)]

def linkStateCodes : List (LinkState × Nat) :=
  [(.offline, 0), (.listening, 1), (.joining, 2), (.founding, 3), (.inService, 4), (.faulted, 5)]

def unlockCodes : List (UnlockState × Nat) := [(.locked, 0), (.unlocked, 1), (.lost, 2)]

def gaugeStateCodes : List (GaugeState × Nat) :=
  [(.idle, 0), (.calling, 1), (.sampling, 2), (.sending, 3)]

def supplyCodes : List (SupplyState × Nat) := [(.normal, 0), (.powerDown, 1)]

def phaseCodes : List (RecordPhase × Nat) :=
  [(.running, 0), (.ending, 1), (.held, 2), (.recovering, 3), (.waitingRoom, 4)]

def cellCodes : List (Cell × Nat) :=
  [(.a, 0), (.b, 1), (.c, 2), (.noz, 3), (.cpl, 4), (.estop, 5), (.svm, 6), (.dhs, 7)]

def filterModeCodes : List (FilterMode × Nat) := [(.bypass, 0), (.delayed, 1), (.immediate, 2)]

def bitRateCodes : List (BitRate × Nat) := [(.kbit62, 1), (.kbit125, 2), (.kbit250, 3)]

def sensorCodes : List (SensorMode × Nat) := [(.two, 2), (.three, 3)]

/-- Code of a fill or delivery controller state (11.6); a reason follows it as a byte of its own. -/
def ActState.code : ActState → Byte
  | .idle => 0 | .awaitingId => 1 | .opening => 2 | .refused _ => 3 | .flowing => 4 | .slowing => 5
  | .stopping => 6 | .closing => 7 | .writeback => 8 | .faulted => 9

/-- Code of an identification controller state (11.6). -/
def IdState.code : IdState → Byte
  | .idle => 0 | .waking => 1 | .readingIdent => 2 | .unlocking => 3 | .readingRecord => 4
  | .checking => 5 | .identified => 6 | .failed _ => 7 | .writing => 8

/-- R190: the codes rise by one from each base in the order listed. -/
def reasonBlocks : List (Nat × List Reason) :=
  [(0x00, [.noReason]),
   (0x01, [.numberClash, .keyMismatch, .ownSlotSilent, .sequenceLimit, .outOfStep, .receiveFailure,
     .notAdmitted, .closeUndelivered, .noSnapHead, .joinTimeout, .catchUpOverflow, .snapAborted,
     .snapFault, .catchUpGap, .left, .leaveFailed, .admitted]),
   (0x20, [.malformed, .siteStopped, .notInService, .stationBusy, .unknownMachine, .barred,
     .heldElsewhere, .misgrade, .keyedNotPermitted, .tankSuspect, .logFull, .noAllowance, .noStock,
     .notServed, .tankBusy, .noUllage, .link, .recoveryPending, .noMatch, .noRoom]),
   (0x40, [.preset, .limit, .noFlow, .full, .hung, .hoseReleased, .couplerLost, .reverseFlow,
     .meterFault, .cancelled, .siteStop, .overrun, .linkLost, .powerLoss, .orphaned]),
   (0x50, [.tagFormat, .keyRejected, .wrongClass, .tagLink, .identTimeout, .tagChanged, .tagLost,
     .discarded, .keyed, .locked, .writeFailed, .verifyFailed]),
   (0x60, [.parity, .frame, .start, .noReply, .contention, .check, .refused]),
   (0x70, [.badConfig, .noConfig, .notWiped, .wrongRole, .belowMinimum, .estopAsserted, .notOrigin,
     .noGauge, .busy, .flowPresent, .estopInput, .estopConsole, .office, .valve, .noReading,
     .noTank, .flow, .spread])]

/-- A block of R190 as a code table. -/
def numberFrom : Nat → List Reason → List (Reason × Nat)
  | _, [] => []
  | n, r :: rs => (r, n) :: numberFrom (n + 1) rs

def reasonCodes : List (Reason × Nat) := reasonBlocks.flatMap fun b => numberFrom b.1 b.2

/-- The code of a reason (R190). -/
def Reason.code (r : Reason) : Byte := codeIn reasonCodes r

/-- The frame kinds with class and code (11.3). -/
def kindCodes : List (Kind × Nat × Nat) :=
  [(.stop, 0, 0x01), (.resume, 0, 0x02),
   (.close, 1, 0x11), (.deliveryClose, 1, 0x12), (.adjust, 1, 0x13),
   (.openFill, 2, 0x21), (.deliveryOpen, 2, 0x22), (.progress, 2, 0x23), (.gauge, 2, 0x24),
   (.census, 3, 0x31),
   (.grant, 4, 0x41), (.bar, 4, 0x42), (.unbar, 4, 0x43), (.drop, 4, 0x44), (.release, 4, 0x45),
   (.tankSet, 4, 0x46), (.order, 4, 0x47), (.ccClear, 4, 0x48), (.siteSet, 4, 0x49),
   (.time, 4, 0x4A),
   (.join, 5, 0x51), (.announce, 5, 0x52), (.leave, 5, 0x53), (.found, 5, 0x54),
   (.sealRound, 5, 0x55),
   (.read, 6, 0x61), (.data, 6, 0x62), (.busy, 6, 0x63),
   (.snapHead, 7, 0x71), (.snap, 7, 0x72), (.snapEnd, 7, 0x73), (.snapAbort, 7, 0x74)]

/-- The class and code of a kind. -/
def Kind.codes (k : Kind) : Nat × Nat :=
  match kindCodes.find? (fun e => decide (e.1 = k)) with
  | some e => e.2
  | none => (0, 0)

/-- A kind code is known only in the class given for it (R189). -/
def kindOf (cls : Nat) (code : Byte) : Option Kind :=
  (kindCodes.find? (fun e => e.2.1 == cls && e.2.2 == code.toNat)).map Prod.fst

/-! ## Check (R187) -/

/-- One bit into the check register: divisor x^16 + x^12 + x^5 + 1. -/
def crcBit (reg : Check) (b : Bit) : Check :=
  if reg.msb != b then (reg <<< 1) ^^^ 0x1021#16 else reg <<< 1

/-- The bits of a byte, most significant first (R1). -/
def byteBits (b : Byte) : List Bit :=
  [b.getLsbD 7, b.getLsbD 6, b.getLsbD 5, b.getLsbD 4, b.getLsbD 3, b.getLsbD 2, b.getLsbD 1,
   b.getLsbD 0]

/-- The check over bytes, from the preset 0xFFFF, each byte most significant bit first. -/
def crc (bs : List Byte) : Check := (bs.flatMap byteBits).foldl crcBit 0xFFFF#16

/-- The check of a site key: over its 8 bytes, least significant byte first (R187). -/
def keyCheckOf (key : SiteKey) : Check := crc (leBytes 8 key.toNat)

/-! ## Bits on the wire (R1, R2) -/

/-- The bytes that data bits make, most significant bit first; bits short of a byte are left out. -/
def bytesOfBits : List Bit → List Byte
  | b7 :: b6 :: b5 :: b4 :: b3 :: b2 :: b1 :: b0 :: rest =>
    BitVec.ofBoolListBE [b7, b6, b5, b4, b3, b2, b1, b0] :: bytesOfBits rest
  | _ => []

/-- The length of the run of equal bits once `b` follows a run of `n` bits of value `v`. -/
def extendRun (v : Bit) (n : Nat) (b : Bit) : Nat := if b = v then n + 1 else 1

/-- Stuffing (R2): after five bits of equal value in a row one bit of the opposite value is inserted,
which counts as the first bit of the next run; one owed after the last bit is sent. -/
def stuffFrom : Bit → Nat → List Bit → List Bit
  | v, n, [] => if n = 5 then [!v] else []
  | v, n, b :: bs =>
    if n = 5 then (!v) :: b :: stuffFrom b (extendRun (!v) 1 b) bs
    else b :: stuffFrom b (extendRun v n b) bs

/-- The stuffed part of a frame, from its data bits. -/
def stuff (bits : List Bit) : List Bit := stuffFrom true 0 bits

/-- What a receiver finds bit by bit in the stuffed part (R2): a data bit, a stuffing violation that is
a STUFF error, or the bus recessive for 12 bit times, which ends the frame. -/
inductive RxEvent
  | bit (b : Bit)
  | violation
  | truncated
  deriving DecidableEq, Repr

/-- Removal of the stuff bits (R2). `v` and `n` are the run as the sender counts it and `r` the bit times
for which the bus has been recessive. A violation by recessive bits is TRUNCATED when the bus stays
recessive for 12 bit times from the start of the run, and a STUFF error otherwise. -/
def rxEventsFrom : Bit → Nat → Nat → List Bit → List RxEvent
  | _, _, _, [] => []
  | v, n, r, b :: bs =>
    let r' := if b then r + 1 else 0
    if n = 5 then
      if b = v then
        if b && decide (12 ≤ r' + (bs.takeWhile id).length) then [.truncated]
        else .violation :: rxEventsFrom b 1 r' bs
      else rxEventsFrom b 1 r' bs
    else .bit b :: rxEventsFrom b (extendRun v n b) r' bs

/-- What a receiver finds in the bits of a frame. -/
def rxEvents (raw : List Bit) : List RxEvent := rxEventsFrom true 0 0 raw

/-- What taking a number of data bits comes to. -/
inductive Taken
  | bits (bs : List Bit) (violated : Bool) (rest : List RxEvent)
  | stuffError
  | truncated (violated : Bool)
  | short
  deriving DecidableEq, Repr

/-- Take `n` data bits of the header, where any stuffing violation ends the reception (R7). -/
def takeStrict : Nat → List RxEvent → Taken
  | 0, evs => .bits [] false evs
  | _ + 1, [] => .short
  | _ + 1, .violation :: _ => .stuffError
  | _ + 1, .truncated :: _ => .truncated false
  | n + 1, .bit b :: evs =>
    match takeStrict n evs with
    | .bits bs v rest => .bits (b :: bs) v rest
    | other => other

/-- Take `n` data bits of the payload and check, where the receiver carries on after a stuffing
violation (R7); a truncation always ends the frame. -/
def takeLoose : Nat → Bool → List RxEvent → Taken
  | n, _, .violation :: evs => takeLoose n true evs
  | _, v, .truncated :: _ => .truncated v
  | 0, v, [] => .bits [] v []
  | 0, v, .bit b :: evs => .bits [] v (.bit b :: evs)
  | _ + 1, _, [] => .short
  | n + 1, v, .bit b :: evs =>
    match takeLoose n v evs with
    | .bits bs v' rest => .bits (b :: bs) v' rest
    | other => other

end Sys2Proof.Machine
end

