-- ==== Sys2Proof/Machine/Formats.lean ====
section
/-! DEFINITION. The layouts of payloads and table entries (11.4, 11.5): kinds, classes, lengths, encoding and
decoding. Which fields are signed is said in log entry 13. -/

namespace Sys2Proof.Machine

/-! ## Kind, class and category of a payload -/

/-- The known kind of a payload, malformed ones included; none for a kind the station does not know. -/
def Payload.kind? : Payload → Option Kind
  | .stop _ => some .stop
  | .resume => some .resume
  | .close _ => some .close
  | .deliveryClose _ => some .deliveryClose
  | .adjust _ => some .adjust
  | .openFill _ => some .openFill
  | .deliveryOpen _ => some .deliveryOpen
  | .progress _ _ => some .progress
  | .gauge _ => some .gauge
  | .census _ _ _ => some .census
  | .grant _ => some .grant
  | .bar _ => some .bar
  | .unbar _ => some .unbar
  | .drop _ => some .drop
  | .release _ => some .release
  | .tankSet _ => some .tankSet
  | .order _ => some .order
  | .ccClear _ => some .ccClear
  | .siteSet _ _ _ => some .siteSet
  | .time _ => some .time
  | .join _ => some .join
  | .announce _ => some .announce
  | .leave => some .leave
  | .found _ _ => some .found
  | .sealRound _ => some .sealRound
  | .read _ _ _ => some .read
  | .data _ _ _ _ => some .data
  | .busy => some .busy
  | .snapHead _ _ _ => some .snapHead
  | .snap _ => some .snap
  | .snapEnd => some .snapEnd
  | .snapAbort => some .snapAbort
  | .malformed k _ => some k
  | .unknown _ _ _ => none

/-- The class in the contention byte (section 1.2). -/
def Payload.cls (p : Payload) : Nat :=
  match p with
  | .unknown c _ _ => c
  | other =>
    match other.kind? with
    | some k => k.codes.1
    | none => 0

/-- The kind byte. -/
def Payload.kindByte (p : Payload) : Byte :=
  match p with
  | .unknown _ b _ => b
  | other =>
    match other.kind? with
    | some k => BitVec.ofNat 8 k.codes.2
    | none => 0

/-- FOUND and SEAL are the founding frames (R4). -/
def Payload.isFounding (p : Payload) : Bool :=
  p.kind? == some .found || p.kind? == some .sealRound

/-- A frame of class 0 to 5 is a replica frame unless it is a founding frame, its kind known or not
(R4). -/
def Payload.isReplica (p : Payload) : Bool := decide (p.cls ≤ 5) && !p.isFounding

/-- A frame of class 6 or 7 is a service frame (R4). -/
def Payload.isService (p : Payload) : Bool := decide (6 ≤ p.cls)

/-- Whether a frame of a class and kind byte is a replica frame, as a receiver tells before the length
(R4). -/
def replicaHeader (cls : Nat) (kind : Byte) : Bool :=
  decide (cls ≤ 5) && kindOf cls kind != some .found && kindOf cls kind != some .sealRound

/-! ## Lengths (R189) -/

/-- Whether some presence value gives a payload length to a kind's layout; for SNAP and DATA, whether
the length reaches the frame's own fixed fields. -/
def lengthFits (k : Kind) (n : Nat) : Bool :=
  match k with
  | .stop => n == 1
  | .resume | .leave | .snapEnd | .snapAbort | .busy => n == 0
  | .close | .deliveryClose => n == 16 || n == 20 || n == 24 || n == 28
  | .adjust => n == 20 || n == 24
  | .openFill => n == 9 || n == 13 || n == 17
  | .deliveryOpen => n == 10 || n == 14 || n == 18
  | .progress => n == 10
  | .gauge => n == 14 || n == 16
  | .census => n == 3 || n == 7
  | .grant => n == 13
  | .bar | .unbar | .drop => n == 2
  | .release | .time => n == 4
  | .tankSet => n == 11 || n == 15
  | .order | .ccClear => n == 1
  | .siteSet => decide (1 ≤ n) && decide (n ≤ 6)
  | .join => n == 11 || n == 12 || n == 13
  | .announce => n == 5 || n == 6 || n == 7
  | .found => n == 8
  | .sealRound => n == 10
  | .read => n == 6
  | .data => decide (9 ≤ n)
  | .snapHead => n == 16
  | .snap => decide (1 ≤ n)

/-! ## Table entries (11.5) -/

/-- Table of an entry. -/
def Entry.table : Entry → Table
  | .site _ => .site
  | .station _ => .stations
  | .tank _ => .tanks
  | .costCentre _ => .costCentres
  | .machine _ => .machines
  | .record _ => .log

/-- Key of an entry (R153); the site record has none. -/
def Entry.key : Entry → Nat
  | .site _ => 0
  | .station e => e.number
  | .tank e => e.number
  | .costCentre e => e.number
  | .machine e => e.number
  | .record r => r.number

def encodeSite (r : SiteRecord) : List Byte :=
  [presence [r.stop.isSome]] ++ leBytes 6 r.seq ++ leBytes 4 r.nextRecord ++ [flagByte r.stop.isSome]
    ++ optBytes (fun (x : StopInfo) => leBytes 1 x.origin ++ [x.reason] ++ leBytes 6 x.seq) r.stop
    ++ leBytes 2 r.minFill ++ leBytes 2 r.tolerance ++ [flagByte r.keyed] ++ leBytes 2 r.keyCheck.toNat

def encodeActivity (a : OpenActivity) : List Byte :=
  [codeIn activityKindCodes a.kind] ++ leBytes 6 a.openSeq ++ leBytes 2 a.party ++ leBytes 1 a.tank
    ++ leBytes 4 a.volume ++ leBytes 4 a.progress ++ [codeIn idModeCodes a.mode]
    ++ optBytes (leBytes 4) a.openTime

def encodeStation (e : StationEntry) : List Byte :=
  [presence [e.role.isSome, e.hose.isSome, e.served.isSome, e.donor.isSome, e.donatingTo.isSome,
    e.activity.isSome, (e.activity.bind OpenActivity.openTime).isSome, e.last.isSome]]
    ++ leBytes 1 e.number ++ [codeIn membershipCodes e.membership] ++ leBytes 1 e.misses
    ++ optBytes (fun x => [codeIn roleCodes x]) e.role ++ optBytes (leBytes 1) e.hose
    ++ optBytes (fun x => [x]) e.served ++ optBytes (leBytes 1) e.donor
    ++ optBytes (leBytes 1) e.donatingTo ++ optBytes encodeActivity e.activity
    ++ optBytes (fun (x : LastEnded) =>
        leBytes 6 x.openSeq ++ [codeIn endingKindCodes x.kind] ++ leInt 4 x.billed) e.last

def encodeTank (e : TankEntry) : List Byte :=
  [presence [e.deliveryStation.isSome, e.quietSince.isSome, e.lastGauge.isSome,
    (e.lastGauge.bind LastGauge.temperature).isSome, (e.lastGauge.bind LastGauge.variance).isSome]]
    ++ leBytes 1 e.number ++ leBytes 1 e.grade ++ leBytes 4 e.capacity ++ leInt 4 e.book
    ++ leBytes 4 e.reserved ++ leBytes 4 e.reorder ++ [codeIn restockCodes e.restock]
    ++ optBytes (leBytes 1) e.deliveryStation ++ optBytes (leBytes 6) e.quietSince
    ++ optBytes (fun (g : LastGauge) =>
        leInt 4 g.volume ++ leBytes 2 g.level ++ leBytes 1 g.station ++ leBytes 6 g.seq
          ++ [flagByte g.reconciled] ++ optBytes (leInt 2) g.temperature
          ++ optBytes (leInt 4) g.variance) e.lastGauge
    ++ [flagByte e.suspect]

def encodeCostCentre (e : CostCentre) : List Byte :=
  leBytes 1 e.number ++ leBytes 4 e.gross ++ leBytes 4 e.comp ++ leBytes 4 e.fills
    ++ [flagByte e.saturated]

def encodeMachine (e : MachineEntry) : List Byte :=
  [presence [e.hold.isSome, e.lastFill.isSome]]
    ++ leBytes 2 e.number ++ leBytes 1 e.grade ++ leBytes 4 e.capacity ++ leInt 4 e.allowance
    ++ leBytes 1 e.costCentre ++ [flagByte e.barred] ++ [flagByte e.dropPending]
    ++ optBytes (fun (h : Hold) => leBytes 1 h.station ++ leBytes 6 h.openSeq) e.hold
    ++ optBytes (fun (l : LastFill) => leBytes 4 l.record ++ leInt 4 l.gross) e.lastFill

def encodeRecord (r : Record) : List Byte :=
  [presence [r.comp.isSome, r.costCentre.isSome, r.endReason.isSome, r.hours.isSome,
    r.openTime.isSome, r.endTime.isSome]]
    ++ leBytes 4 r.number ++ leBytes 6 r.madeBy ++ [codeIn recordKindCodes r.kind]
    ++ leBytes 1 r.station ++ leBytes 6 r.openSeq ++ leBytes 2 r.party ++ leBytes 1 r.tank
    ++ leInt 4 r.gross ++ optBytes (leBytes 4) r.comp ++ optBytes (leBytes 1) r.costCentre
    ++ optBytes (fun x => [Reason.code x]) r.endReason ++ [codeIn idModeCodes r.mode]
    ++ optBytes (leBytes 4) r.hours ++ optBytes (leBytes 4) r.openTime
    ++ optBytes (leBytes 4) r.endTime

/-- An entry in its table's encoding. -/
def encodeEntry : Entry → List Byte
  | .site r => encodeSite r
  | .station e => encodeStation e
  | .tank e => encodeTank e
  | .costCentre e => encodeCostCentre e
  | .machine e => encodeMachine e
  | .record r => encodeRecord r

/-- The site record (11.5). The presence byte decides whether the site is stopped, and a reason byte is kept as it
stands (log entry 50). -/
def parseSite : Parse SiteRecord := do
  let p ← parsePresence 1
  let seq ← parseNat 6
  let nextRecord ← parseNat 4
  let _ ← parseFlag
  let stop ← parseOpt (p.getLsbD 0) (do
    let origin ← parseNat 1
    let reason ← parseByte
    let seq ← parseNat 6
    return { origin, reason, seq : StopInfo })
  let minFill ← parseNat 2
  let tolerance ← parseNat 2
  let keyed ← parseFlag
  let key ← parseNat 2
  return { seq, nextRecord, stop, minFill, tolerance, keyed, keyCheck := BitVec.ofNat 16 key }

def parseActivity (timed : Bool) : Parse OpenActivity := do
  let kind ← parseCode (ofCode activityKindCodes)
  let openSeq ← parseNat 6
  let party ← parseNat 2
  let tank ← parseNat 1
  let volume ← parseNat 4
  let progress ← parseNat 4
  let mode ← parseCode (ofCode idModeCodes)
  let openTime ← parseOpt timed (parseNat 4)
  return { kind, openSeq, party, tank, volume, progress, mode, openTime }

def parseLast : Parse LastEnded := do
  let openSeq ← parseNat 6
  let kind ← parseCode (ofCode endingKindCodes)
  let billed ← parseInt 4
  return { openSeq, kind, billed }

def parseStation : Parse StationEntry := do
  let p ← parsePresence 8
  if p.getLsbD 6 && !p.getLsbD 5 then failure
  let number ← parseNat 1
  let membership ← parseCode (ofCode membershipCodes)
  let misses ← parseNat 1
  let role ← parseOpt (p.getLsbD 0) (parseCode (ofCode roleCodes))
  let hose ← parseOpt (p.getLsbD 1) (parseNat 1)
  let served ← parseOpt (p.getLsbD 2) parseTankSet
  let donor ← parseOpt (p.getLsbD 3) (parseNat 1)
  let donatingTo ← parseOpt (p.getLsbD 4) (parseNat 1)
  let activity ← parseOpt (p.getLsbD 5) (parseActivity (p.getLsbD 6))
  let last ← parseOpt (p.getLsbD 7) parseLast
  return { number, membership, role, hose, served, misses, donor, donatingTo, activity, last }

def parseGaugeEntry (temp var : Bool) : Parse LastGauge := do
  let volume ← parseInt 4
  let level ← parseNat 2
  let station ← parseNat 1
  let seq ← parseNat 6
  let reconciled ← parseFlag
  let temperature ← parseOpt temp (parseInt 2)
  let variance ← parseOpt var (parseInt 4)
  return { volume, level, station, seq, reconciled, temperature, variance }

def parseTank : Parse TankEntry := do
  let p ← parsePresence 5
  if (p.getLsbD 3 || p.getLsbD 4) && !p.getLsbD 2 then failure
  let number ← parseNat 1
  let grade ← parseNat 1
  let capacity ← parseNat 4
  let book ← parseInt 4
  let reserved ← parseNat 4
  let reorder ← parseNat 4
  let restock ← parseCode (ofCode restockCodes)
  let deliveryStation ← parseOpt (p.getLsbD 0) (parseNat 1)
  let quietSince ← parseOpt (p.getLsbD 1) (parseNat 6)
  let lastGauge ← parseOpt (p.getLsbD 2) (parseGaugeEntry (p.getLsbD 3) (p.getLsbD 4))
  let suspect ← parseFlag
  return { number, grade, capacity, book, reserved, reorder, restock, deliveryStation, quietSince,
           lastGauge, suspect }

def parseCostCentre : Parse CostCentre := do
  let number ← parseNat 1
  let gross ← parseNat 4
  let comp ← parseNat 4
  let fills ← parseNat 4
  let saturated ← parseFlag
  return { number, gross, comp, fills, saturated }

def parseHold : Parse Hold := do
  let station ← parseNat 1
  let openSeq ← parseNat 6
  return { station, openSeq }

def parseLastFill : Parse LastFill := do
  let record ← parseNat 4
  let gross ← parseInt 4
  return { record, gross }

def parseMachine : Parse MachineEntry := do
  let p ← parsePresence 2
  let number ← parseNat 2
  let grade ← parseNat 1
  let capacity ← parseNat 4
  let allowance ← parseInt 4
  let costCentre ← parseNat 1
  let barred ← parseFlag
  let dropPending ← parseFlag
  let hold ← parseOpt (p.getLsbD 0) parseHold
  let lastFill ← parseOpt (p.getLsbD 1) parseLastFill
  return { number, grade, capacity, allowance, costCentre, barred, dropPending, hold, lastFill }

def parseRecord : Parse Record := do
  let p ← parsePresence 6
  let number ← parseNat 4
  let madeBy ← parseNat 6
  let kind ← parseCode (ofCode recordKindCodes)
  let station ← parseNat 1
  let openSeq ← parseNat 6
  let party ← parseNat 2
  let tank ← parseNat 1
  let gross ← parseInt 4
  let comp ← parseOpt (p.getLsbD 0) (parseNat 4)
  let costCentre ← parseOpt (p.getLsbD 1) (parseNat 1)
  let endReason ← parseOpt (p.getLsbD 2) (parseCode (ofCode reasonCodes))
  let mode ← parseCode (ofCode idModeCodes)
  let hours ← parseOpt (p.getLsbD 3) (parseNat 4)
  let openTime ← parseOpt (p.getLsbD 4) (parseNat 4)
  let endTime ← parseOpt (p.getLsbD 5) (parseNat 4)
  return { number, madeBy, kind, station, openSeq, party, tank, gross, comp, costCentre, endReason,
           mode, hours, openTime, endTime }

/-- An entry of a given table. -/
def parseEntry : Table → Parse Entry
  | .site => do return .site (← parseSite)
  | .stations => do return .station (← parseStation)
  | .tanks => do return .tank (← parseTank)
  | .costCentres => do return .costCentre (← parseCostCentre)
  | .machines => do return .machine (← parseMachine)
  | .log => do return .record (← parseRecord)

/-- `n` entries of one table, as DATA carries them. -/
def parseEntriesOf (t : Table) : Nat → Parse (List Entry)
  | 0 => pure []
  | n + 1 => do
    let e ← parseEntry t
    let es ← parseEntriesOf t n
    return e :: es

/-- `n` entries, each preceded by its table code, as SNAP carries them. -/
def parseCodedEntries : Nat → Parse (List Entry)
  | 0 => pure []
  | n + 1 => do
    let t ← parseCode (ofCode tableCodes)
    let e ← parseEntry t
    let es ← parseCodedEntries n
    return e :: es

/-! ## Payloads (11.4) -/

def encodeClosing (c : Closing) : List Byte :=
  [presence [c.comp.isSome, c.hours.isSome, c.endTime.isSome]]
    ++ leBytes 6 c.openSeq ++ leInt 4 c.gross ++ optBytes (leBytes 4) c.comp
    ++ [c.endReason.code] ++ leInt 4 c.overrun ++ optBytes (leBytes 4) c.hours
    ++ optBytes (leBytes 4) c.endTime

/-- The payload bytes of a frame. -/
def encodePayload : Payload → List Byte
  | .stop reason => [reason]
  | .resume => []
  | .close c => encodeClosing c
  | .deliveryClose c => encodeClosing c
  | .adjust a =>
    [presence [a.time.isSome]] ++ leBytes 6 a.openSeq ++ [codeIn activityKindCodes a.kind]
      ++ leBytes 2 a.party ++ leBytes 1 a.tank ++ [codeIn idModeCodes a.mode]
      ++ leInt 4 a.billedBefore ++ leInt 4 a.delta ++ optBytes (leBytes 4) a.time
  | .openFill o =>
    [presence [o.hours.isSome, o.openTime.isSome]] ++ leBytes 2 o.machine ++ leBytes 1 o.tank
      ++ leBytes 4 o.requested
      ++ [match o.mode with | some m => codeIn idModeCodes m | none => 0]
      ++ optBytes (leBytes 4) o.hours ++ optBytes (leBytes 4) o.openTime
  | .deliveryOpen d =>
    [presence [d.hours.isSome, d.openTime.isSome]] ++ leBytes 1 d.tank ++ leBytes 2 d.tanker
      ++ leBytes 1 d.grade ++ leBytes 4 d.declared ++ [codeIn idModeCodes d.mode]
      ++ optBytes (leBytes 4) d.hours ++ optBytes (leBytes 4) d.openTime
  | .progress openSeq volume => leBytes 6 openSeq ++ leBytes 4 volume
  | .gauge g =>
    [presence [g.temperature.isSome]] ++ leBytes 1 g.tank ++ leBytes 2 g.level ++ leInt 4 g.volume
      ++ optBytes (leInt 2) g.temperature ++ leBytes 6 g.census
  | .census kind argument time =>
    [presence [time.isSome]] ++ [codeIn censusKindCodes kind] ++ leBytes 1 argument
      ++ optBytes (leBytes 4) time
  | .grant g =>
    leBytes 2 g.machine ++ [codeIn grantModeCodes g.mode] ++ leInt 4 g.value ++ leBytes 1 g.grade
      ++ leBytes 4 g.capacity ++ leBytes 1 g.costCentre
  | .bar m => leBytes 2 m
  | .unbar m => leBytes 2 m
  | .drop m => leBytes 2 m
  | .release n => leBytes 4 n
  | .tankSet t =>
    [presence [t.book.isSome]] ++ leBytes 1 t.tank ++ leBytes 1 t.grade ++ leBytes 4 t.capacity
      ++ leBytes 4 t.reorder ++ optBytes (leInt 4) t.book
  | .order t => leBytes 1 t
  | .ccClear c => leBytes 1 c
  | .siteSet minFill tolerance keyed =>
    [presence [minFill.isSome, tolerance.isSome, keyed.isSome]] ++ optBytes (leBytes 2) minFill
      ++ optBytes (leBytes 2) tolerance ++ optBytes (fun b => [flagByte b]) keyed
  | .time t => leBytes 4 t
  | .join j =>
    [presence [j.hose.isSome, j.served.isSome]] ++ leBytes 1 j.station ++ [codeIn roleCodes j.role]
      ++ optBytes (leBytes 1) j.hose ++ optBytes (fun x => [x]) j.served
      ++ leBytes 2 j.keyCheck.toNat ++ leBytes 6 j.retained
  | .announce a =>
    [presence [a.hose.isSome, a.served.isSome]] ++ [flagByte a.founder] ++ [codeIn roleCodes a.role]
      ++ optBytes (leBytes 1) a.hose ++ optBytes (fun x => [x]) a.served
      ++ leBytes 2 a.keyCheck.toNat
  | .leave => []
  | .found retained keyCheck => leBytes 6 retained ++ leBytes 2 keyCheck.toNat
  | .sealRound x =>
    leBytes 1 x.winner ++ leBytes 6 x.retained ++ leBytes 2 x.keyCheck.toNat
      ++ leBytes 1 x.candidates
  | .read table start count => leBytes 1 table ++ leBytes 4 start ++ leBytes 1 count
  | .data table seq entries endFlag =>
    leBytes 1 table ++ leBytes 6 seq ++ leBytes 1 entries.length ++ [flagByte endFlag]
      ++ entries.flatMap encodeEntry
  | .busy => []
  | .snapHead joinSeq keyCheck c =>
    leBytes 6 joinSeq ++ leBytes 2 keyCheck.toNat ++ leBytes 1 c.site ++ leBytes 1 c.stations
      ++ leBytes 1 c.tanks ++ leBytes 1 c.costCentres ++ leBytes 2 c.machines ++ leBytes 2 c.log
  | .snap entries =>
    leBytes 1 entries.length
      ++ entries.flatMap (fun e => codeIn tableCodes e.table :: encodeEntry e)
  | .snapEnd => []
  | .snapAbort => []
  | .malformed _ bytes => bytes
  | .unknown _ _ bytes => bytes

def parseClosing : Parse Closing := do
  let p ← parsePresence 3
  let openSeq ← parseNat 6
  let gross ← parseInt 4
  let comp ← parseOpt (p.getLsbD 0) (parseNat 4)
  let endReason ← parseCode (ofCode reasonCodes)
  let overrun ← parseInt 4
  let hours ← parseOpt (p.getLsbD 1) (parseNat 4)
  let endTime ← parseOpt (p.getLsbD 2) (parseNat 4)
  return { openSeq, gross, comp, endReason, overrun, hours, endTime }

def parseAdjust : Parse Adjusting := do
  let p ← parsePresence 1
  let openSeq ← parseNat 6
  let kind ← parseCode (ofCode activityKindCodes)
  let party ← parseNat 2
  let tank ← parseNat 1
  let mode ← parseCode (ofCode idModeCodes)
  let billedBefore ← parseInt 4
  let delta ← parseInt 4
  let time ← parseOpt (p.getLsbD 0) (parseNat 4)
  return { openSeq, kind, party, tank, mode, billedBefore, delta, time }

def parseOpen : Parse OpenRequest := do
  let p ← parsePresence 2
  let machine ← parseNat 2
  let tank ← parseNat 1
  let requested ← parseNat 4
  let mode ← parseByte
  let hours ← parseOpt (p.getLsbD 0) (parseNat 4)
  let openTime ← parseOpt (p.getLsbD 1) (parseNat 4)
  return { machine, tank, requested, mode := ofCode idModeCodes mode, hours, openTime }

def parseDeliveryOpen : Parse DeliveryRequest := do
  let p ← parsePresence 2
  let tank ← parseNat 1
  let tanker ← parseNat 2
  let grade ← parseNat 1
  let declared ← parseNat 4
  let mode ← parseCode (ofCode idModeCodes)
  let hours ← parseOpt (p.getLsbD 0) (parseNat 4)
  let openTime ← parseOpt (p.getLsbD 1) (parseNat 4)
  return { tank, tanker, grade, declared, mode, hours, openTime }

def parseGauging : Parse Gauging := do
  let p ← parsePresence 1
  let tank ← parseNat 1
  let level ← parseNat 2
  let volume ← parseInt 4
  let temperature ← parseOpt (p.getLsbD 0) (parseInt 2)
  let census ← parseNat 6
  return { tank, level, volume, temperature, census }

def parseCensus : Parse Payload := do
  let p ← parsePresence 1
  let kind ← parseCode (ofCode censusKindCodes)
  let argument ← parseNat 1
  let time ← parseOpt (p.getLsbD 0) (parseNat 4)
  return .census kind argument time

def parseGrant : Parse Granting := do
  let machine ← parseNat 2
  let mode ← parseCode (ofCode grantModeCodes)
  let value ← parseInt 4
  let grade ← parseNat 1
  let capacity ← parseNat 4
  let costCentre ← parseNat 1
  return { machine, mode, value, grade, capacity, costCentre }

def parseTankSetting : Parse TankSetting := do
  let p ← parsePresence 1
  let tank ← parseNat 1
  let grade ← parseNat 1
  let capacity ← parseNat 4
  let reorder ← parseNat 4
  let book ← parseOpt (p.getLsbD 0) (parseInt 4)
  return { tank, grade, capacity, reorder, book }

def parseSiteSet : Parse Payload := do
  let p ← parsePresence 3
  let minFill ← parseOpt (p.getLsbD 0) (parseNat 2)
  let tolerance ← parseOpt (p.getLsbD 1) (parseNat 2)
  let keyed ← parseOpt (p.getLsbD 2) parseFlag
  return .siteSet minFill tolerance keyed

def parseJoin : Parse Joining := do
  let p ← parsePresence 2
  let station ← parseNat 1
  let role ← parseCode (ofCode roleCodes)
  let hose ← parseOpt (p.getLsbD 0) (parseNat 1)
  let served ← parseOpt (p.getLsbD 1) parseTankSet
  let key ← parseNat 2
  let retained ← parseNat 6
  return { station, role, hose, served, keyCheck := BitVec.ofNat 16 key, retained }

def parseAnnounce : Parse Announcing := do
  let p ← parsePresence 2
  let founder ← parseFlag
  let role ← parseCode (ofCode roleCodes)
  let hose ← parseOpt (p.getLsbD 0) (parseNat 1)
  let served ← parseOpt (p.getLsbD 1) parseTankSet
  let key ← parseNat 2
  return { founder, role, hose, served, keyCheck := BitVec.ofNat 16 key }

def parseSeal : Parse Sealing := do
  let winner ← parseNat 1
  let retained ← parseNat 6
  let key ← parseNat 2
  let candidates ← parseNat 1
  return { winner, retained, keyCheck := BitVec.ofNat 16 key, candidates }

def parseData : Parse Payload := do
  let code ← parseByte
  let seq ← parseNat 6
  let count ← parseNat 1
  let endFlag ← parseFlag
  match ofCode tableCodes code with
  | some t => return .data code.toNat seq (← parseEntriesOf t count) endFlag
  | none => if count = 0 then return .data code.toNat seq [] endFlag else failure

def parseSnapHead : Parse Payload := do
  let joinSeq ← parseNat 6
  let key ← parseNat 2
  let site ← parseNat 1
  let stations ← parseNat 1
  let tanks ← parseNat 1
  let costCentres ← parseNat 1
  let machines ← parseNat 2
  let log ← parseNat 2
  return .snapHead joinSeq (BitVec.ofNat 16 key) { site, stations, tanks, costCentres, machines, log }

/-- The payload of a known kind. -/
def parsePayload : Kind → Parse Payload
  | .stop => do return .stop (← parseByte)
  | .resume => pure .resume
  | .close => do return .close (← parseClosing)
  | .deliveryClose => do return .deliveryClose (← parseClosing)
  | .adjust => do return .adjust (← parseAdjust)
  | .openFill => do return .openFill (← parseOpen)
  | .deliveryOpen => do return .deliveryOpen (← parseDeliveryOpen)
  | .progress => do
    let openSeq ← parseNat 6
    let volume ← parseNat 4
    return .progress openSeq volume
  | .gauge => do return .gauge (← parseGauging)
  | .census => parseCensus
  | .grant => do return .grant (← parseGrant)
  | .bar => do return .bar (← parseNat 2)
  | .unbar => do return .unbar (← parseNat 2)
  | .drop => do return .drop (← parseNat 2)
  | .release => do return .release (← parseNat 4)
  | .tankSet => do return .tankSet (← parseTankSetting)
  | .order => do return .order (← parseNat 1)
  | .ccClear => do return .ccClear (← parseNat 1)
  | .siteSet => parseSiteSet
  | .time => do return .time (← parseNat 4)
  | .join => do return .join (← parseJoin)
  | .announce => do return .announce (← parseAnnounce)
  | .leave => pure .leave
  | .found => do
    let retained ← parseNat 6
    let key ← parseNat 2
    return .found retained (BitVec.ofNat 16 key)
  | .sealRound => do return .sealRound (← parseSeal)
  | .read => do
    let table ← parseNat 1
    let start ← parseNat 4
    let count ← parseNat 1
    return .read table start count
  | .data => parseData
  | .busy => pure .busy
  | .snapHead => parseSnapHead
  | .snap => do
    let n ← parseNat 1
    return .snap (← parseCodedEntries n)
  | .snapEnd => pure .snapEnd
  | .snapAbort => pure .snapAbort

/-- The payload that a frame's class, kind byte and payload bytes carry: malformed ones of a known kind
(R188, R189) and unknown kinds (R29) included, so that every frame has one. -/
def decodePayload (cls : Nat) (kind : Byte) (bytes : List Byte) : Payload :=
  match kindOf cls kind with
  | none => .unknown cls kind bytes
  | some k =>
    match parseAll (parsePayload k) bytes with
    | some p => p
    | none => .malformed k bytes

end Sys2Proof.Machine
end

