-- ==== Sys2Proof/Machine/Replica.lean ====
section
/-! DEFINITION. The effects of the replica frames on the six tables, as pure functions of the replica: the site
record and membership (02), the machine table (04), OPEN, PROGRESS and CLOSE (06), tanks (07), the billing log and
cost centres (08), orphaning, ADJUST, STOP and RESUME (09). -/

namespace Sys2Proof.Machine

/-! ## Looking up and changing entries -/

/-- The greatest site sequence number, 2^48 − 1 (R24, R25). -/
def maxSeq : Nat := 2 ^ 48 - 1

/-- The entry of a station number (R26). -/
def Replica.station? (r : Replica) (n : Nat) : Option StationEntry :=
  r.stations.find? fun e => e.number == n

/-- The entry of a machine number (R69). -/
def Replica.machine? (r : Replica) (n : Nat) : Option MachineEntry :=
  r.machines.find? fun e => e.number == n

/-- The entry of a tank number (R126). -/
def Replica.tank? (r : Replica) (n : Nat) : Option TankEntry :=
  r.tanks.find? fun e => e.number == n

/-- Change the entry of one station. -/
def Replica.modStation (r : Replica) (n : Nat) (f : StationEntry → StationEntry) : Replica :=
  { r with stations := r.stations.map fun e => if e.number = n then f e else e }

/-- Change the entry of one machine. -/
def Replica.modMachine (r : Replica) (n : Nat) (f : MachineEntry → MachineEntry) : Replica :=
  { r with machines := r.machines.map fun e => if e.number = n then f e else e }

/-- Change the entry of one tank. -/
def Replica.modTank (r : Replica) (n : Nat) (f : TankEntry → TankEntry) : Replica :=
  { r with tanks := r.tanks.map fun e => if e.number = n then f e else e }

/-- Insert a machine at its place in the order (R69). -/
def insertMachine (m : MachineEntry) : List MachineEntry → List MachineEntry
  | [] => [m]
  | e :: es => if m.number < e.number then m :: e :: es else e :: insertMachine m es

/-- Insert a tank at its place in the order (R126). -/
def insertTank (t : TankEntry) : List TankEntry → List TankEntry
  | [] => [t]
  | e :: es => if t.number < e.number then t :: e :: es else e :: insertTank t es

/-- Remove a machine's entry; the entries above it close up (R69). -/
def Replica.dropMachine (r : Replica) (n : Nat) : Replica :=
  { r with machines := r.machines.filter fun e => decide (e.number ≠ n) }

/-- The number of open activities, fills and deliveries alike (R106, R148). -/
def Replica.openCount (r : Replica) : Nat :=
  (r.stations.filter fun e => e.activity.isSome).length

/-- Whether a sender's entry is IN_SERVICE with role OFFICE (R29). -/
def Replica.isOffice (r : Replica) (n : Nat) : Bool :=
  match r.station? n with
  | some e => e.membership == .inService && e.role == some .office
  | none => false

/-- Whether a sender's entry is IN_SERVICE. -/
def Replica.inService (r : Replica) (n : Nat) : Bool :=
  match r.station? n with
  | some e => e.membership == .inService
  | none => false

/-- The machine numbers 0 and 65 535 name no machine (R69). -/
def namesMachine (n : Nat) : Bool := decide (1 ≤ n) && decide (n ≤ 65534)

/-! ## Bounded sums -/

/-- Allowance and book stock are left at the bound they would pass (R71, R127). -/
def boundVolume (v : Int) : Int := max (-1000000000) (min 1000000000 v)

/-- Whether a volume lies within −1 000 000 000 to +1 000 000 000 dL (R75, R129). -/
def inVolumeRange (v : Int) : Bool := decide (-1000000000 ≤ v) && decide (v ≤ 1000000000)

/-- A cost-centre field after a charge: left at its bound if it would pass it (R156). -/
def chargeField (x : Nat) (d : Int) : Nat := (max 0 (min (2 ^ 32 - 1) ((x : Int) + d))).toNat

/-- Whether a charge would carry a cost-centre field past a bound (R156). -/
def chargePasses (x : Nat) (d : Int) : Bool :=
  decide ((x : Int) + d < 0) || decide ((2 ^ 32 - 1 : Int) < (x : Int) + d)

/-- Charge a cost centre: gross, compensated and fill count, each bounded on its own; the saturated flag
is set when any would pass its bound (R156). -/
def CostCentre.charge (e : CostCentre) (gross comp fills : Int) : CostCentre :=
  { e with
    gross := chargeField e.gross gross
    comp := chargeField e.comp comp
    fills := chargeField e.fills fills
    saturated := e.saturated || chargePasses e.gross gross || chargePasses e.comp comp
      || chargePasses e.fills fills }

/-- Charge the entry of a cost-centre number (R155, R156). -/
def Replica.charge (r : Replica) (n : Nat) (gross comp fills : Int) : Replica :=
  { r with costCentres := r.costCentres.map fun e =>
      if e.number = n then e.charge gross comp fills else e }

/-! ## Tanks -/

/-- Available stock: book stock less reserved, possibly negative (R127). -/
def TankEntry.available (t : TankEntry) : Int := t.book - (t.reserved : Int)

/-- The restock evaluation (R130). -/
def TankEntry.evaluate (t : TankEntry) : TankEntry :=
  match t.restock with
  | .normal => if t.available < (t.reorder : Int) then { t with restock := .low } else t
  | .low | .ordered => if (t.reorder : Int) ≤ t.available then { t with restock := .normal } else t
  | .delivery => t

/-- Change a tank's book by an amount within its bounds, its reservation, and clear quiet-since (R127,
R128); then the restock evaluation runs. -/
def TankEntry.post (t : TankEntry) (book : Int) (released : Nat) : TankEntry :=
  TankEntry.evaluate
    { t with book := boundVolume (t.book + book), reserved := t.reserved - released,
             quietSince := none }

/-- The ending of a delivery (R130, R139, R162): the book rises, quiet-since is cleared, the restock
state becomes NORMAL, the delivery station is cleared, and the restock evaluation runs. -/
def TankEntry.endDelivery (t : TankEntry) (received : Int) : TankEntry :=
  TankEntry.evaluate
    { t with book := boundVolume (t.book + received), quietSince := none, restock := .normal,
             deliveryStation := none }

/-! ## The billing log -/

/-- Append a record with the next record number, which then increases by one (R148, R150). -/
def Replica.append (r : Replica) (rec : Record) : Replica :=
  { r with log := r.log ++ [{ rec with number := r.site.nextRecord }]
           site := { r.site with nextRecord := r.site.nextRecord + 1 } }

/-- The LOG_FULL test of an OPEN or DELIVERY-OPEN, the activity it would open counted in the numbering
test (R106 order 10, R150). -/
def Replica.logFull (r : Replica) : Bool :=
  decide (512 ≤ r.log.length + r.openCount)
    || decide (2 ^ 32 - 1 < r.site.nextRecord + (r.openCount + 1))

/-- The room test of an append that is not an ending (R150). -/
def Replica.hasRoom (r : Replica) : Bool :=
  decide (r.log.length + r.openCount < 512) && decide (r.site.nextRecord + r.openCount < 2 ^ 32 - 1)

/-- The cost centre that a machine's entry holds, 0 where it has no entry (R74, R169). -/
def Replica.costCentreOf (r : Replica) (machine : Nat) : Nat :=
  match r.machine? machine with
  | some m => m.costCentre
  | none => 0

/-! ## The ending of a fill at its machine (R71, R72, R80) -/

/-- The ending's changes to the machine entry: the allowance falls by the volume billed, the hold is
cleared, the last fill is set by a CLOSE; then a drop-pending entry is removed. -/
def Replica.endFillAtMachine (r : Replica) (machine : Nat) (billed : Int)
    (lastFill : Option LastFill) : Replica :=
  let pending := match r.machine? machine with
    | some m => m.dropPending
    | none => false
  if pending then r.dropMachine machine
  else r.modMachine machine fun m =>
    { m with allowance := boundVolume (m.allowance - billed), hold := none,
             lastFill := match lastFill with | some l => some l | none => m.lastFill }

/-- Clear a station entry's open activity and set last ended. -/
def Replica.endAtStation (r : Replica) (n openSeq : Nat) (kind : EndingKind) (billed : Int) :
    Replica :=
  r.modStation n fun e => { e with activity := none, last := some { openSeq, kind, billed } }

/-! ## Orphaning (R160 to R162) -/

/-- Orphaning of an open fill (R161). -/
def Replica.orphanFill (r : Replica) (n : Nat) (a : OpenActivity) (endTime : Option Nat) : Replica :=
  let p : Int := a.progress
  let cc := r.costCentreOf a.party
  let r := r.append
    { number := 0, madeBy := r.site.seq, kind := .orphan, station := n, openSeq := a.openSeq,
      party := a.party, tank := a.tank, gross := p, comp := none, costCentre := some cc,
      endReason := some .orphaned, mode := a.mode, hours := none, openTime := a.openTime, endTime }
  let r := r.endFillAtMachine a.party p none
  let r := r.modTank a.tank fun t => t.post (-p) a.volume
  let r := r.charge cc p p 1
  r.endAtStation n a.openSeq .orphaned p

/-- Orphaning of an open delivery (R162). -/
def Replica.orphanDelivery (r : Replica) (n : Nat) (a : OpenActivity) (endTime : Option Nat) :
    Replica :=
  let p : Int := a.progress
  let r := r.append
    { number := 0, madeBy := r.site.seq, kind := .receipt, station := n, openSeq := a.openSeq,
      party := a.party, tank := a.tank, gross := p, comp := none, costCentre := none,
      endReason := some .orphaned, mode := .tag, hours := none, openTime := a.openTime, endTime }
  let r := r.modTank a.tank fun t => t.endDelivery p
  r.endAtStation n a.openSeq .orphaned p

/-- Orphaning of a station's open activity, if it has one (R160). -/
def Replica.orphan (r : Replica) (n : Nat) (endTime : Option Nat) : Replica :=
  match r.station? n with
  | some e =>
    match e.activity with
    | some a =>
      match a.kind with
      | .fill => r.orphanFill n a endTime
      | .delivery => r.orphanDelivery n a endTime
    | none => r
  | none => r

/-! ## Membership (R31, R32, R35, R42, R43, R47) -/

/-- End any donation in which an entry takes part (R32): a JOINING entry's donor loses its donating-to;
the joiner of an IN_SERVICE entry loses its donor. -/
def Replica.endDonation (r : Replica) (n : Nat) : Replica :=
  match r.station? n with
  | some e =>
    let r := match e.membership, e.donor with
      | .joining, some d => r.modStation d fun x => { x with donatingTo := none }
      | _, _ => r
    match e.membership, e.donatingTo with
    | .inService, some j => r.modStation j fun x => { x with donor := none }
    | _, _ => r
  | none => r

/-- Make an entry ABSENT: its optional parts absent except last ended, misses 0 (R32, R43, R47). -/
def StationEntry.absent (e : StationEntry) : StationEntry :=
  { StationEntry.wiped e.number with last := e.last }

/-- Removal of an entry (R32), and the LEAVE effect (R43): the activity is orphaned, the donation
ended, the entry made ABSENT. -/
def Replica.remove (r : Replica) (endTime : Option Nat) (n : Nat) : Replica :=
  ((r.orphan n endTime).endDonation n).modStation n StationEntry.absent

/-- The misses of an entry after a PRESENT census with the given slot map (R31). -/
def StationEntry.missesAfter (e : StationEntry) (map : BitVec 32) : Nat :=
  match e.membership with
  | .absent => e.misses
  | .inService => if map.getLsbD e.number then 0 else e.misses + 1
  | .joining =>
    match e.donor with
    | some _ => if map.getLsbD e.number then 0 else e.misses + 1
    | none => e.misses + 1

/-- CENSUS(PRESENT): the misses of every entry first, then the removals in increasing number (R31, R32). -/
def presentEffect (r : Replica) (map : BitVec 32) (time : Option Nat) : Replica × ApplyResult :=
  let r1 : Replica :=
    { r with stations := r.stations.map fun e => { e with misses := e.missesAfter map } }
  let gone := (r1.stations.filter fun e => decide (3 ≤ e.misses)).map StationEntry.number
  (gone.foldl (fun acc n => acc.remove time n) r1, .applied)

/-- The donor that a JOIN chooses: the lowest-numbered entry that is IN_SERVICE, of role DISPENSE or
RECEIPT, without a donating-to (R35). -/
def Replica.freeDonor (r : Replica) : Option Nat :=
  (r.stations.find? fun e =>
    e.membership == .inService && (e.role == some .dispense || e.role == some .receipt)
      && e.donatingTo.isNone).map StationEntry.number

/-- End the earlier donation of a joiner that sends a new JOIN (R35). -/
def Replica.endJoinersDonation (r : Replica) (n : Nat) (donor : Nat) : Replica :=
  (r.modStation donor fun x => { x with donatingTo := none }).modStation n fun x =>
    { x with donor := none }

/-- JOIN (R35). -/
def joinEffect (r : Replica) (sender : Nat) (j : Joining) : Replica × ApplyResult :=
  if j.station ≠ sender then (r, .noChange) else
  match r.station? sender with
  | none => (r, .noChange)
  | some e =>
    if e.membership = .inService then (r, .noChange) else
    let r1 := match e.membership, e.donor with
      | .joining, some d => r.endJoinersDonation sender d
      | _, _ => r
    match r1.freeDonor with
    | none => (r1, .noChange)
    | some d =>
      let r2 := r1.modStation sender fun x =>
        { x with membership := .joining, role := some j.role, hose := j.hose, served := j.served,
                 misses := 0, donor := some d }
      (r2.modStation d fun x => { x with donatingTo := some sender }, .applied)

/-- A non-founder ANNOUNCE (R42). A JOINING entry that has lost its donor can no longer become IN_SERVICE by its
current join (R31), so its ANNOUNCE is applied as no change (log entry 39). -/
def announceEffect (r : Replica) (sender : Nat) (a : Announcing) : Replica × ApplyResult :=
  match r.station? sender with
  | none => (r, .noChange)
  | some e =>
    if e.membership ≠ .joining then (r, .noChange) else
    match e.donor with
    | none => (r, .noChange)
    | some d =>
      let r1 := r.modStation d fun x => { x with donatingTo := none }
      if a.keyCheck = r.site.keyCheck then
        (r1.modStation sender fun x =>
          { x with membership := .inService, role := some a.role, hose := a.hose, served := a.served,
                   misses := 0, donor := none }, .applied)
      else (r1.modStation sender fun x => { x with donor := none }, .applied)

/-- One entry of the founding sweep: the activity orphaned without end time, the entry ABSENT (R47). -/
def Replica.sweepOne (r : Replica) (n : Nat) : Replica :=
  (r.orphan n none).modStation n StationEntry.absent

/-- An ANNOUNCE with the founder flag: the founding sweep (R47). -/
def founderEffect (r : Replica) (sender : Nat) (a : Announcing) : Replica × ApplyResult :=
  let r1 := { r with site := { r.site with keyCheck := a.keyCheck } }
  let others := (r1.stations.map StationEntry.number).filter fun n => decide (n ≠ sender)
  let r2 := others.foldl Replica.sweepOne r1
  (r2.modStation sender fun x =>
    { x with membership := .inService, role := some a.role, hose := a.hose, served := a.served,
             misses := 0, donor := none, donatingTo := none }, .applied)

/-- LEAVE (R43): orphaning as in removal, without end time. -/
def leaveEffect (r : Replica) (sender : Nat) : Replica × ApplyResult :=
  (r.remove none sender, .applied)

/-! ## Site parameters, stop and resume (R30, R172, R173) -/

/-- Whether an optional field is absent or in a range. -/
def optIn (lo hi : Nat) : Option Nat → Bool
  | none => true
  | some v => decide (lo ≤ v) && decide (v ≤ hi)

/-- SITE-SET (R30), with the ranges of R24. -/
def siteSetEffect (r : Replica) (minFill tolerance : Option Nat) (keyed : Option Bool) :
    Replica × ApplyResult :=
  if (minFill.isSome || tolerance.isSome || keyed.isSome) && optIn 10 5000 minFill
      && optIn 10 50000 tolerance then
    ({ r with site := { r.site with
        minFill := minFill.getD r.site.minFill
        tolerance := tolerance.getD r.site.tolerance
        keyed := keyed.getD r.site.keyed } }, .applied)
  else (r, .noChange)

/-- STOP (R172). -/
def stopEffect (r : Replica) (sender : Nat) (reason : Byte) : Replica × ApplyResult :=
  ({ r with site := { r.site with stop := some { origin := sender, reason, seq := r.site.seq } } },
    .applied)

/-- RESUME (R173). -/
def resumeEffect (r : Replica) (sender : Nat) : Replica × ApplyResult :=
  match r.site.stop with
  | none => (r, .noChange)
  | some x =>
    if x.origin = sender ∨ r.isOffice sender = true then
      ({ r with site := { r.site with stop := none } }, .applied)
    else (r, .noChange)

/-! ## OPEN, PROGRESS, CLOSE (R106 to R108, R115, R121, R122) -/

/-- An OPEN is malformed (R106). -/
def OpenRequest.malformed (o : OpenRequest) : Bool :=
  !namesMachine o.machine || decide (o.requested = 0) || decide (99999 < o.requested)
    || o.mode.isNone || decide (o.tank < 1) || decide (8 < o.tank)

/-- The first reason that refuses a well-formed OPEN, in the order of R106. -/
def openRefusal (r : Replica) (sender : Nat) (o : OpenRequest) : Option Reason :=
  match r.station? sender with
  | none => if r.site.stop.isSome then some .siteStopped else some .notInService
  | some e =>
    if r.site.stop.isSome then some .siteStopped
    else if e.membership ≠ .inService ∨ e.role ≠ some .dispense ∨ e.hose ≠ some o.tank then
      some .notInService
    else if e.activity.isSome then some .stationBusy
    else match r.machine? o.machine with
    | none => some .unknownMachine
    | some m =>
      if m.barred then some .barred
      else if m.hold.isSome then some .heldElsewhere
      else match r.tank? o.tank with
      | none => some .misgrade
      | some t =>
        if m.grade ≠ t.grade then some .misgrade
        else if o.mode = some .keyed ∧ r.site.keyed = false then some .keyedNotPermitted
        else if t.suspect then some .tankSuspect
        else if r.logFull then some .logFull
        else none

/-- The grant: the least of the requested volume, the allowance and the available stock (R107). -/
def openGrant (o : OpenRequest) (m : MachineEntry) (t : TankEntry) : Int :=
  min (o.requested : Int) (min m.allowance t.available)

/-- Why a grant below the minimum fill is refused (R107). -/
def volumeRefusal (o : OpenRequest) (m : MachineEntry) (t : TankEntry) : Reason :=
  if m.allowance ≤ (o.requested : Int) ∧ m.allowance ≤ t.available then .noAllowance else .noStock

/-- The changes of a granted OPEN, in the order of R108. -/
def grantFill (r : Replica) (sender : Nat) (o : OpenRequest) (volume : Nat) : Replica :=
  let seq := r.site.seq
  let act : OpenActivity :=
    { kind := .fill, openSeq := seq, party := o.machine, tank := o.tank, volume, progress := 0,
      mode := o.mode.getD .tag, openTime := o.openTime }
  let r := r.modStation sender fun e => { e with activity := some act }
  let r := r.modMachine o.machine fun m => { m with hold := some { station := sender, openSeq := seq } }
  r.modTank o.tank fun t =>
    TankEntry.evaluate { t with reserved := t.reserved + volume, quietSince := none }

/-- OPEN (R106, R107, R108). -/
def openEffect (r : Replica) (sender : Nat) (o : OpenRequest) : Replica × ApplyResult :=
  if o.malformed then (r, .refused .malformed) else
  match openRefusal r sender o with
  | some reason => (r, .refused reason)
  | none =>
    match r.machine? o.machine, r.tank? o.tank with
    | some m, some t =>
      let volume := openGrant o m t
      if volume < (r.site.minFill : Int) then (r, .refused (volumeRefusal o m t))
      else (grantFill r sender o volume.toNat, .granted r.site.seq volume.toNat)
    | _, _ => (r, .noChange)

/-- The open activity of a sender with the given open sequence. -/
def Replica.activityOf (r : Replica) (sender openSeq : Nat) : Option OpenActivity :=
  match r.station? sender with
  | some e =>
    match e.activity with
    | some a => if a.openSeq = openSeq then some a else none
    | none => none
  | none => none

/-- PROGRESS (R115). -/
def progressEffect (r : Replica) (sender openSeq volume : Nat) : Replica × ApplyResult :=
  match r.activityOf sender openSeq with
  | some a =>
    (r.modStation sender fun e => { e with activity := some { a with progress := volume } }, .applied)
  | none => (r, .noChange)

/-- The end reasons that a CLOSE takes as well formed (R121). -/
def fillEndReasons : List Reason :=
  [.preset, .noFlow, .full, .hung, .couplerLost, .reverseFlow, .meterFault, .cancelled, .siteStop,
   .overrun, .powerLoss, .linkLost]

/-- The end reasons that a DELIVERY-CLOSE takes as well formed (R139). -/
def deliveryEndReasons : List Reason :=
  [.limit, .noFlow, .hoseReleased, .couplerLost, .reverseFlow, .meterFault, .cancelled, .siteStop,
   .overrun, .linkLost, .powerLoss]

/-- A closing frame is malformed (R121, R139). -/
def Closing.malformed (c : Closing) (reasons : List Reason) : Bool :=
  decide (c.gross < 0) || decide (c.overrun < 0) || !reasons.contains c.endReason

/-- The changes of a CLOSE that finds its fill, in the order of R122. -/
def closeFillOf (r : Replica) (sender : Nat) (a : OpenActivity) (c : Closing) : Replica :=
  let number := r.site.nextRecord
  let cc := r.costCentreOf a.party
  let r := r.append
    { number := 0, madeBy := r.site.seq, kind := .fill, station := sender, openSeq := a.openSeq,
      party := a.party, tank := a.tank, gross := c.gross, comp := c.comp, costCentre := some cc,
      endReason := some c.endReason, mode := a.mode, hours := c.hours, openTime := a.openTime,
      endTime := c.endTime }
  let r := r.endFillAtMachine a.party c.gross (some { record := number, gross := c.gross })
  let r := r.modTank a.tank fun t => t.post (-c.gross) a.volume
  let r := r.charge cc c.gross (match c.comp with | some v => (v : Int) | none => c.gross) 1
  r.endAtStation sender a.openSeq .closed c.gross

/-- CLOSE (R121, R122). -/
def closeEffect (r : Replica) (sender : Nat) (c : Closing) : Replica × ApplyResult :=
  if c.malformed fillEndReasons then (r, .noChange) else
  match r.activityOf sender c.openSeq with
  | some a =>
    if a.kind = .fill then (closeFillOf r sender a c, .closed r.site.nextRecord) else (r, .noChange)
  | none => (r, .noChange)

/-! ## GRANT, BAR, UNBAR, DROP (R75 to R79) -/

/-- A GRANT is applied as no change for a reason in its own fields (R75). -/
def Granting.malformed (g : Granting) : Bool :=
  !namesMachine g.machine || decide (g.grade < 1) || decide (7 < g.grade)
    || decide (g.capacity = 0) || decide (99999 < g.capacity) || decide (63 < g.costCentre)
    || !inVolumeRange g.value

/-- GRANT for a machine with an entry (R75, R77). -/
def grantExisting (r : Replica) (g : Granting) (m : MachineEntry) : Replica × ApplyResult :=
  let value := match g.mode with
    | .set => g.value
    | .add => m.allowance + g.value
  if inVolumeRange value then
    (r.modMachine g.machine fun x =>
      { x with grade := g.grade, capacity := g.capacity, costCentre := g.costCentre,
               allowance := value, dropPending := false }, .applied)
  else (r, .noChange)

/-- GRANT for a machine with no entry (R75, R76). -/
def grantNew (r : Replica) (g : Granting) : Replica × ApplyResult :=
  if r.machines.length < 256 then
    let entry : MachineEntry :=
      { number := g.machine, grade := g.grade, capacity := g.capacity, allowance := g.value,
        costCentre := g.costCentre, barred := false, dropPending := false, hold := none,
        lastFill := none }
    ({ r with machines := insertMachine entry r.machines }, .applied)
  else (r, .noChange)

/-- GRANT (R75 to R77). -/
def grantEffect (r : Replica) (g : Granting) : Replica × ApplyResult :=
  if g.malformed then (r, .noChange) else
  match r.machine? g.machine with
  | some m => grantExisting r g m
  | none => grantNew r g

/-- BAR and UNBAR (R78): set the barred flag to a value it does not have yet. -/
def barEffect (r : Replica) (machine : Nat) (value : Bool) : Replica × ApplyResult :=
  if namesMachine machine then
    match r.machine? machine with
    | some m =>
      if m.barred = value then (r, .noChange)
      else (r.modMachine machine fun x => { x with barred := value }, .applied)
    | none => (r, .noChange)
  else (r, .noChange)

/-- DROP (R79). -/
def dropEffect (r : Replica) (machine : Nat) : Replica × ApplyResult :=
  if namesMachine machine then
    match r.machine? machine with
    | some m =>
      match m.hold with
      | none => (r.dropMachine machine, .applied)
      | some _ =>
        if m.dropPending then (r, .noChange)
        else (r.modMachine machine fun x => { x with dropPending := true }, .applied)
    | none => (r, .noChange)
  else (r, .noChange)

/-! ## Tanks and deliveries (R129, R131, R135, R139) -/

/-- A TANK-SET is applied as no change for a reason in its own fields (R129). -/
def TankSetting.malformed (t : TankSetting) : Bool :=
  decide (t.tank < 1) || decide (8 < t.tank) || decide (t.grade < 1) || decide (7 < t.grade)
    || decide (t.capacity < 1000) || decide (10000000 < t.capacity) || decide (t.capacity < t.reorder)
    || (match t.book with | some b => !inVolumeRange b | none => false)

/-- Whether any station entry has an open activity on a tank (R129). -/
def Replica.tankInUse (r : Replica) (tank : Nat) : Bool :=
  r.stations.any fun e =>
    match e.activity with
    | some a => a.tank == tank
    | none => false

/-- The entry that TANK-SET creates, before the restock evaluation (R126). -/
def newTank (t : TankSetting) : TankEntry :=
  { number := t.tank, grade := t.grade, capacity := t.capacity, book := t.book.getD 0,
    reserved := 0, reorder := t.reorder, restock := .normal, deliveryStation := none,
    quietSince := none, lastGauge := none, suspect := false }

/-- TANK-SET on a present tank, before the restock evaluation (R129). -/
def TankEntry.setBy (t : TankEntry) (x : TankSetting) : TankEntry :=
  { t with
    grade := x.grade
    capacity := x.capacity
    reorder := x.reorder
    book := x.book.getD t.book
    quietSince := if x.book.isSome then none else t.quietSince
    suspect := false }

/-- TANK-SET (R129). -/
def tankSetEffect (r : Replica) (x : TankSetting) : Replica × ApplyResult :=
  if x.malformed then (r, .noChange) else
  match r.tank? x.tank with
  | none => ({ r with tanks := insertTank (newTank x).evaluate r.tanks }, .applied)
  | some t =>
    if t.grade ≠ x.grade ∧ r.tankInUse x.tank = true then (r, .noChange)
    else (r.modTank x.tank fun e => (e.setBy x).evaluate, .applied)

/-- ORDER (R131). -/
def orderEffect (r : Replica) (tank : Nat) : Replica × ApplyResult :=
  match r.tank? tank with
  | some t =>
    if t.restock = .low then (r.modTank tank fun e => { e with restock := .ordered }, .applied)
    else (r, .noChange)
  | none => (r, .noChange)

/-- A DELIVERY-OPEN is malformed (R135). -/
def DeliveryRequest.malformed (d : DeliveryRequest) : Bool :=
  decide (d.tank < 1) || decide (8 < d.tank) || !namesMachine d.tanker || decide (d.grade < 1)
    || decide (7 < d.grade) || decide (d.declared < 1000) || decide (999999 < d.declared)

/-- The limit of a delivery: the smaller of the declared volume plus 2 % and the capacity less the book
less 2 % of the capacity (R135). Of the second term the 2 % alone are rounded down (log entry 53). -/
def deliveryLimit (d : DeliveryRequest) (t : TankEntry) : Int :=
  min ((d.declared + d.declared * 2 / 100 : Nat) : Int)
    ((t.capacity : Int) - t.book - ((t.capacity * 2 / 100 : Nat) : Int))

/-- The first reason that refuses a well-formed DELIVERY-OPEN, in the order of R135. -/
def deliveryRefusal (r : Replica) (sender : Nat) (d : DeliveryRequest) : Option Reason :=
  match r.station? sender with
  | none => if r.site.stop.isSome then some .siteStopped else some .notInService
  | some e =>
    if r.site.stop.isSome then some .siteStopped
    else if e.membership ≠ .inService ∨ e.role ≠ some .receipt then some .notInService
    else if e.activity.isSome then some .stationBusy
    else if !tankInSet (e.served.getD 0) d.tank then some .notServed
    else match r.tank? d.tank with
    | none => some .misgrade
    | some t =>
      if t.restock = .delivery then some .tankBusy
      else if t.grade ≠ d.grade then some .misgrade
      else if r.logFull then some .logFull
      else if deliveryLimit d t < 1000 then some .noUllage
      else none

/-- The changes of a granted DELIVERY-OPEN (R135). -/
def grantDelivery (r : Replica) (sender : Nat) (d : DeliveryRequest) (limit : Nat) : Replica :=
  let seq := r.site.seq
  let act : OpenActivity :=
    { kind := .delivery, openSeq := seq, party := d.tanker, tank := d.tank, volume := limit,
      progress := 0, mode := d.mode, openTime := d.openTime }
  let r := r.modStation sender fun e => { e with activity := some act }
  r.modTank d.tank fun t =>
    { t with restock := .delivery, deliveryStation := some sender, quietSince := none }

/-- DELIVERY-OPEN (R135). -/
def deliveryOpenEffect (r : Replica) (sender : Nat) (d : DeliveryRequest) : Replica × ApplyResult :=
  if d.malformed then (r, .refused .malformed) else
  match deliveryRefusal r sender d with
  | some reason => (r, .refused reason)
  | none =>
    match r.tank? d.tank with
    | some t =>
      let limit := (deliveryLimit d t).toNat
      (grantDelivery r sender d limit, .granted r.site.seq limit)
    | none => (r, .noChange)

/-- The changes of a DELIVERY-CLOSE that finds its delivery, in the order of R139. The mode of its RECEIPT record is TAG
(R149), where the DELIVERY-OPEN carried KEYED too, which R135 does not test (log entry 46). -/
def closeDeliveryOf (r : Replica) (sender : Nat) (a : OpenActivity) (c : Closing) : Replica :=
  let r := r.append
    { number := 0, madeBy := r.site.seq, kind := .receipt, station := sender, openSeq := a.openSeq,
      party := a.party, tank := a.tank, gross := c.gross, comp := c.comp, costCentre := none,
      endReason := some c.endReason, mode := .tag, hours := c.hours, openTime := a.openTime,
      endTime := c.endTime }
  let r := r.modTank a.tank fun t => t.endDelivery c.gross
  r.endAtStation sender a.openSeq .closed c.gross

/-- DELIVERY-CLOSE (R139). -/
def deliveryCloseEffect (r : Replica) (sender : Nat) (c : Closing) : Replica × ApplyResult :=
  if c.malformed deliveryEndReasons then (r, .noChange) else
  match r.activityOf sender c.openSeq with
  | some a =>
    if a.kind = .delivery then (closeDeliveryOf r sender a c, .closed r.site.nextRecord)
    else (r, .noChange)
  | none => (r, .noChange)

/-! ## FLOW census and gauge (R142, R147) -/

/-- Whether a FLOW census finds a tank quiet (R142). -/
def TankEntry.quietAt (t : TankEntry) (map : BitVec 32) : Bool :=
  map == 0 && t.reserved == 0 && t.restock != .delivery

/-- CENSUS(FLOW) for a tank (R142). -/
def flowEffect (r : Replica) (tank : Nat) (map : BitVec 32) : Replica × ApplyResult :=
  match r.tank? tank with
  | some t =>
    let quiet := t.quietAt map
    (r.modTank tank fun e => { e with quietSince := if quiet then some r.site.seq else none },
      .census quiet r.site.seq)
  | none => (r, .noChange)

/-- GAUGE (R147). -/
def gaugeEffect (r : Replica) (sender : Nat) (g : Gauging) : Replica × ApplyResult :=
  match r.tank? g.tank with
  | none => (r, .noChange)
  | some t =>
    if 20000 < g.level ∨ g.volume < 0 ∨ 10000000 < g.volume ∨ r.inService sender = false then
      (r, .noChange)
    else
      let reconciled := decide (t.quietSince = some g.census)
      let variance := g.volume - t.book
      let suspect := t.suspect || (reconciled && decide (r.site.tolerance < variance.natAbs))
      let gaugeEntry : LastGauge :=
        { volume := g.volume, level := g.level, station := sender, seq := r.site.seq, reconciled,
          temperature := g.temperature, variance := if reconciled then some variance else none }
      (r.modTank g.tank fun e => { e with lastGauge := some gaugeEntry, suspect },
        .gauge true reconciled (if reconciled then some variance else none) suspect)

/-! ## RELEASE, CC-CLEAR, ADJUST (R151, R157, R169) -/

/-- RELEASE (R151): the records at or below the number leave from the front. -/
def releaseEffect (r : Replica) (upTo : Nat) : Replica × ApplyResult :=
  ({ r with log := r.log.dropWhile fun x => decide (x.number ≤ upTo) }, .applied)

/-- CC-CLEAR (R157). -/
def ccClearEffect (r : Replica) (n : Nat) : Replica × ApplyResult :=
  if n ≤ 63 then
    ({ r with costCentres := r.costCentres.map fun e =>
        if e.number = n then CostCentre.wiped n else e }, .applied)
  else (r, .noChange)

/-- Whether an ADJUST matches its sender's last ended (R169). -/
def Replica.adjustMatches (r : Replica) (sender : Nat) (a : Adjusting) : Bool :=
  match r.station? sender with
  | some e =>
    match e.last with
    | some l =>
      decide (a.delta ≠ 0) && decide (l.openSeq = a.openSeq) && decide (l.kind ≠ .closed)
        && decide (l.billed = a.billedBefore)
    | none => false
  | none => false

/-- The changes of an ADJUST of a fill to machine and cost centre (R169 step 2). The allowance falls by the delta, where
R71 speaks of adding it (log entry 48). -/
def Replica.adjustFill (r : Replica) (machine cc : Nat) (d : Int) : Replica :=
  (r.modMachine machine fun m => { m with allowance := boundVolume (m.allowance - d) }).charge
    cc d d 0

/-- The changes of an ADJUST that matches and has room, in the order of R169. -/
def adjustBy (r : Replica) (sender : Nat) (a : Adjusting) : Replica :=
  let cc := r.costCentreOf a.party
  let r := r.append
    { number := 0, madeBy := r.site.seq, kind := .adjust, station := sender, openSeq := a.openSeq,
      party := a.party, tank := a.tank, gross := a.delta, comp := none,
      costCentre := (match a.kind with | .fill => some cc | .delivery => none),
      endReason := none, mode := a.mode, hours := none, openTime := none, endTime := a.time }
  let r := match a.kind with
    | .fill => r.adjustFill a.party cc a.delta
    | .delivery => r
  let r := r.modTank a.tank fun t =>
    t.post (match a.kind with | .fill => -a.delta | .delivery => a.delta) 0
  let last : LastEnded :=
    { openSeq := a.openSeq, kind := .adjusted, billed := a.billedBefore + a.delta }
  r.modStation sender fun e => { e with last := some last }

/-- ADJUST (R169). -/
def adjustEffect (r : Replica) (sender : Nat) (a : Adjusting) : Replica × ApplyResult :=
  if r.adjustMatches sender a then
    if r.hasRoom then (adjustBy r sender a, .applied) else (r, .noRoom)
  else (r, .noMatch)

/-! ## The effect of any replica frame -/

/-- The office kinds (R29). -/
def Kind.isOffice : Kind → Bool
  | .grant | .bar | .unbar | .drop | .release | .tankSet | .order | .ccClear | .siteSet | .time => true
  | _ => false

/-- The effect of a frame of an office kind whose sender is an in-service office, and of every other
kind. -/
def kindEffect (r : Replica) (f : Frame) : Replica × ApplyResult :=
  match f.payload with
  | .stop reason => stopEffect r f.sender reason
  | .resume => resumeEffect r f.sender
  | .close c => closeEffect r f.sender c
  | .deliveryClose c => deliveryCloseEffect r f.sender c
  | .adjust a => adjustEffect r f.sender a
  | .openFill o => openEffect r f.sender o
  | .deliveryOpen d => deliveryOpenEffect r f.sender d
  | .progress openSeq volume => progressEffect r f.sender openSeq volume
  | .gauge g => gaugeEffect r f.sender g
  | .census .present _ time => presentEffect r (f.map.getD 0) time
  | .census .flow tank _ => flowEffect r tank (f.map.getD 0)
  | .grant g => grantEffect r g
  | .bar m => barEffect r m true
  | .unbar m => barEffect r m false
  | .drop m => dropEffect r m
  | .release n => releaseEffect r n
  | .tankSet t => tankSetEffect r t
  | .order t => orderEffect r t
  | .ccClear n => ccClearEffect r n
  | .siteSet a b c => siteSetEffect r a b c
  | .time _ => (r, .applied)
  | .join j => joinEffect r f.sender j
  | .announce a => if a.founder then founderEffect r f.sender a else announceEffect r f.sender a
  | .leave => leaveEffect r f.sender
  | _ => (r, .noChange)

/-- Whether a frame is refused because its kind is an office kind and its sender no in-service office
(R29). -/
def officeRefuses (r : Replica) (f : Frame) : Bool :=
  match f.payload.kind? with
  | some k => k.isOffice && !r.isOffice f.sender
  | none => false

/-- The effect of a replica frame on the tables, and its result (R27, R28). The replica given already
bears the frame's own sequence. -/
def applyEffect (r : Replica) (f : Frame) : Replica × ApplyResult :=
  if officeRefuses r f then (r, .noChange) else kindEffect r f

end Sys2Proof.Machine
end

