-- ==== Sys2Proof/Machine/Wire.lean ====
section
/-! DEFINITION. A frame as bytes and bits on the yard link, and what a receiver makes of the bits it reads
(11.1, R2, R4, R7, R19, R187, R189). -/

namespace Sys2Proof.Machine

/-! ## Sending -/

/-- The contention byte: class × 32 + sender station (11.1). -/
def contentionByte (cls sender : Nat) : Byte := BitVec.ofNat 8 (cls * 32 + sender)

/-- The bytes the check is computed over: contention byte to the end of the payload (R187). -/
def checkedBytes (f : Frame) : List Byte :=
  let body := encodePayload f.payload
  [contentionByte f.payload.cls f.sender, BitVec.ofNat 8 f.dest, f.payload.kindByte]
    ++ (if f.payload.isReplica then leBytes 2 f.seq16.toNat else [])
    ++ leBytes 1 body.length ++ body

/-- The bytes of a frame: sync, the checked bytes, and the check, low byte first (11.1, R187). -/
def frameBytes (f : Frame) : List Byte :=
  0x93#8 :: checkedBytes f ++ leBytes 2 (crc (checkedBytes f)).toNat

/-- The data bits of a frame, most significant bit of each byte first (R1). -/
def frameBits (f : Frame) : List Bit := (frameBytes f).flatMap byteBits

/-- The bits a sender drives in the stuffed part of a frame (R2). -/
def wireBits (f : Frame) : List Bit := stuff (frameBits f)

/-- How many bits of the stuffed part have gone by at the end of the contention byte (R5, R6): the sync
byte and the contention byte with the stuff bits among them. -/
def contentionEnd (f : Frame) : Nat := (stuff ((frameBits f).take 16)).length

/-- The bus is dominant when any station drives dominant (R1). -/
def busLevel (x y : Bit) : Bit := x && y

/-- Whether a sender of `own` reads dominant while sending recessive somewhere in the bits, another
station driving `rival` (R5, R6). -/
def readsDominant (own rival : List Bit) : Bool :=
  (own.zip rival).any fun p => p.1 && !busLevel p.1 p.2

/-! ## Receiving -/

/-- A frame followed to its window: the frame as read, and its error if it was not good (R7). -/
structure RxFrame where
  frame : Frame
  error : Option RxError
  deriving DecidableEq, Repr

/-- What a receiver makes of the bits it reads (R7). `abandoned` and `truncated` name the error that is
counted; `short` is bits that settle nothing yet. -/
inductive Rx
  | abandoned (e : RxError)
  | truncated (e : RxError)
  | window (f : RxFrame)
  | short
  deriving DecidableEq, Repr

/-- The value of a field read as bits, most significant bit of each byte first. -/
def fieldOf (bits : List Bit) : Nat := leNat (bytesOfBits bits)

/-- The destination that a class takes: 0 for classes 0 to 5, 1 to 31 for classes 6 and 7 (R4, R7). -/
def destFits (cls dest : Nat) : Bool :=
  if cls ≤ 5 then dest == 0 else decide (1 ≤ dest) && decide (dest ≤ 31)

/-- Whether a length byte is free of a LENGTH error (R7, R189). -/
def lengthOk (cls : Nat) (kind : Byte) (n : Nat) : Bool :=
  decide (n ≤ 112) &&
    match kindOf cls kind with
    | some k => lengthFits k n
    | none => true

/-- Payload and check of a frame whose header is read (R7): from here the receiver goes on to the
window whatever it finds, unless the bus stays recessive. -/
def receiveBody (cls sender dest : Nat) (kind : Byte) (seq16 : BitVec 16) (header : List Byte)
    (n : Nat) (evs : List RxEvent) : Rx :=
  match takeLoose (8 * n + 16) false evs with
  | .stuffError => .short
  | .short => .short
  | .truncated violated => .truncated (if violated then .stuff else .truncated)
  | .bits bs violated rest =>
    match rest with
    | .truncated :: _ => .truncated (if violated then .stuff else .truncated)
    | _ =>
      let body := bytesOfBits (bs.take (8 * n))
      let check := fieldOf (bs.drop (8 * n))
      let error :=
        if violated then some RxError.stuff
        else if (crc (header ++ body)).toNat = check then none
        else some RxError.check
      .window { frame := { sender, dest, seq16, payload := decodePayload cls kind body, map := none },
                error := error }

/-- A reader of the next `n` header bits, any violation in which abandons the frame (R7). -/
def readHeader (n : Nat) (evs : List RxEvent) (k : List Byte → List RxEvent → Rx) : Rx :=
  match takeStrict n evs with
  | .bits bs _ rest => k (bytesOfBits bs) rest
  | .stuffError => .abandoned .stuff
  | .truncated _ => .truncated .truncated
  | .short => .short

/-- The length byte and what follows it. -/
def receiveLength (cls sender dest : Nat) (kind : Byte) (seq16 : BitVec 16) (header : List Byte)
    (evs : List RxEvent) : Rx :=
  readHeader 8 evs fun bytes rest =>
    let n := leNat bytes
    if lengthOk cls kind n then
      receiveBody cls sender dest kind seq16 (header ++ bytes) n rest
    else .abandoned .length

/-- Reception of a frame (R7), from its first bit to the last bit after its check: SYNC, LENGTH and
stuffing errors of the header abandon it, in the order in which they come. -/
def receive (raw : List Bit) : Rx :=
  readHeader 8 (rxEvents raw) fun sync evs1 =>
    if sync != [0x93#8] then .abandoned .sync else
    readHeader 8 evs1 fun contention evs2 =>
      let cls := leNat contention / 32
      let sender := leNat contention % 32
      if sender = 0 then .abandoned .sync else
      readHeader 8 evs2 fun destination evs3 =>
        let dest := leNat destination
        if !destFits cls dest then .abandoned .sync else
        readHeader 8 evs3 fun kindBytes evs4 =>
          let kind := BitVec.ofNat 8 (leNat kindBytes)
          let header := contention ++ destination ++ kindBytes
          if replicaHeader cls kind then
            readHeader 16 evs4 fun seqBytes evs5 =>
              receiveLength cls sender dest kind (BitVec.ofNat 16 (leNat seqBytes))
                (header ++ seqBytes) evs5
          else receiveLength cls sender dest kind 0 header evs4

end Sys2Proof.Machine
end

