-- ==== Sys2Proof/Machine/Flags.lean ====
section
/-! DEFINITION. What the blocks read from the state: settings in force, marks and levels that several rules test, the
three outputs and ATTN (R113, R186), and the volumes read from the accumulators (R89, R90, R99). -/

namespace Sys2Proof.Machine

/-! ## Settings (R178, R179) -/

/-- The settings in force: the configuration record from START on (R179). -/
def State.settings (s : State) : Option Settings :=
  if s.console.started then s.console.config else none

/-- The own station number, 0 before START. -/
def State.me (s : State) : Nat :=
  match s.settings with
  | some c => c.station
  | none => 0

/-- The configured role, taken at START (R177). -/
def State.role (s : State) : Option Role := s.settings.map Settings.role

/-- The configured hose tank. -/
def State.hose (s : State) : Option Nat := s.settings.bind Settings.hose

/-- The configured served tanks. -/
def State.served (s : State) : Option (BitVec 8) := s.settings.bind Settings.served

/-- The configured gauge tank. -/
def State.gaugeTank (s : State) : Option Nat := s.settings.bind Settings.gaugeTank

/-- The check of the configured site key (R187). -/
def State.keyCheck (s : State) : Check :=
  match s.settings with
  | some c => keyCheckOf c.key
  | none => 0

/-- The own entry of the station table. -/
def State.ownEntry (s : State) : Option StationEntry := s.replica.station? s.me

/-- The link state is IN_SERVICE. -/
def State.inService (s : State) : Bool := s.link.state == .inService

/-! ## Outputs (R113) -/

/-- Whether a frame is a STOP. -/
def Frame.isStop (f : Frame) : Bool := f.payload.kind? == some .stop

/-- A STOP frame has been accepted at this station and is not yet applied (R113, R172). -/
def State.stopUnapplied (s : State) : Bool :=
  s.link.inbound.any Frame.isStop || s.engine.deferred.any Frame.isStop
    || s.engine.catchUp.any Frame.isStop
    || (match s.engine.writing with | some w => w.frame.isStop | none => false)

/-- The forced-off state of the output stage (R113). -/
def State.forcedOff (s : State) : Bool :=
  !s.inService || s.meter.cells.estop.output || s.activity.state == .faulted
    || s.activity.faultPending || s.stopUnapplied || s.replica.site.stop.isSome
    || s.supply.state == .powerDown

/-- The PUMP output (R113). -/
def State.pump (s : State) : Bool := s.outputs.pump && !s.forcedOff

/-- The VMAIN output (R113). -/
def State.vmain (s : State) : Bool := s.outputs.vmain && !s.forcedOff

/-- The VTRIM output (R113). -/
def State.vtrim (s : State) : Bool := s.outputs.vtrim && !s.forcedOff

/-- ATTN, `true` when asserted (R186). -/
def State.attn (s : State) : Bool := !s.console.notices.isEmpty && !s.console.releasing

/-! ## Meter readings -/

/-- The gross volume in decilitres, rounded down (R89). -/
def Meter.gross (m : Meter) : Int := m.acc / 100000

/-- The reverse volume in decilitres (R90). -/
def Meter.reverse (m : Meter) : Int := m.rev / 100000

/-- The compensated volume: to the nearest decilitre, one half upward (R99). -/
def Meter.compVolume (m : Meter) : Int := (m.comp + 5000) / 10000

/-- The compensated volume as the activity reports it: absent while UNCOMPENSATED (R99). -/
def Meter.reportedComp (m : Meter) : Option Int :=
  if m.uncompensated then none else some m.compVolume

/-- The station has recent flow (R94). -/
def Meter.recentFlow (m : Meter) : Bool := m.recentTimer.isSome

/-! ## Census answers (R31, R141) -/

/-- Whether the station answers a FLOW census for a tank (R141). -/
def State.answersFlow (s : State) (tank : Nat) : Bool :=
  s.meter.recentFlow &&
    match s.role with
    | some .dispense => s.hose == some tank
    | some .receipt => s.activity.lastTank == some tank
    | _ => false

/-- Whether the station drives its own slot in a census that follows (R22, R31, R141). -/
def State.answersCensus (s : State) (p : Payload) : Bool :=
  (s.inService || s.link.state == .joining) &&
    match p with
    | .census .present _ _ => true
    | .census .flow tank _ => s.answersFlow tank
    | _ => false

/-! ## The activity -/

/-- A fill or delivery is being metered at full or trim rate. -/
def ActState.flows : ActState → Bool
  | .flowing | .slowing => true
  | _ => false

/-- The nozzle of a DISPENSE station is lifted. -/
def State.nozzle (s : State) : Bool := s.meter.cells.noz.output

/-- The identification result held and complete (R63, R102). -/
def State.completeResult (s : State) : Option IdResult :=
  match s.ident.state, s.ident.context with
  | .identified, some c => if c.gradePending then none else c.result
  | _, _ => none

/-- The unlock state of the context, LOCKED without one (R53). -/
def State.unlock (s : State) : UnlockState :=
  match s.ident.context with
  | some c => c.unlock
  | none => .locked

end Sys2Proof.Machine
end

