-- ==== Sys2Proof/Machine/Ops.lean ====
section
/-! DEFINITION. The operations that every block shares: raising notices (R185), offering, withdrawing and taking frames
out of the transmit queue (R14 to R16), taking frames from the inbound queue (R18), and what surrounds every command
(POWER_DOWN, R164; the notices of one step, log entry 6). -/

namespace Sys2Proof.Machine

/-! ## Notices (R185) -/

/-- The block that raises a notice. Those of the link engine and the replica engine come from one block
here, since one of them acts on the other's word (log entry 6). -/
inductive NoticeBlock
  | activity | identification | link | gauge | meter | supply
  deriving DecidableEq, Repr

/-- The block of a notice kind (R185). -/
def NoticeBody.block : NoticeBody → NoticeBlock
  | .fillState _ => .activity
  | .deliveryState _ => .activity
  | .fault _ => .activity
  | .ident _ => .identification
  | .tagWritten _ => .identification
  | .tagNotWritten _ _ => .identification
  | .linkState _ _ => .link
  | .siteStop _ _ => .link
  | .siteResume => .link
  | .unknownKind _ _ _ _ _ => .link
  | .supersededHistory _ _ => .link
  | .gaugeResult _ _ _ _ _ => .gauge
  | .gaugeUnstable _ => .gauge
  | .flowUnauth _ => .meter
  | .glitch _ => .meter
  | .recordUnmatched _ _ _ => .supply

/-- Raise a notice in the step under way, with the site sequence number of the last completed retained
write (R185). -/
def State.raise (b : NoticeBody) (s : State) : State :=
  { s with console := { s.console with
      raised := s.console.raised ++ [{ seq := s.replica.site.seq, body := b }] } }

/-- Put a notice before up to `hop` notices of other blocks; the newest notice is first. -/
def hopIn (n : Notice) : Nat → List Notice → List Notice
  | 0, l => n :: l
  | _ + 1, [] => [n]
  | h + 1, m :: l => if m.body.block = n.body.block then n :: m :: l else m :: hopIn n h l

/-- The notices of one step in an order in which they may enter (R185): notices of different blocks in
any order, which is a free value. -/
def arrange : Nat → List Notice → List Notice → List Notice
  | _, acc, [] => acc.reverse
  | k, acc, n :: rest => arrange (k + 1) (hopIn n (Config.noticeHop k) acc) rest

/-- Whether notices of more than one block are raised. -/
def mixedBlocks : List Notice → Bool
  | [] => false
  | n :: rest => rest.any fun m => decide (m.body.block ≠ n.body.block)

/-- Enter one notice; with 16 in the queue it is lost and the lost flag is set (R185). -/
def Console.enter (c : Console) (n : Notice) : Console :=
  if c.notices.length < 16 then { c with notices := c.notices ++ [n] } else { c with lost := true }

/-- Enter the notices of the step under way. -/
def State.commitNotices (s : State) : State :=
  let raised := s.console.raised
  let mixed := mixedBlocks raised
  let ordered := if mixed then arrange s.free [] raised else raised
  { s with
    console := { ordered.foldl Console.enter s.console with raised := [] }
    free := if mixed then s.free + raised.length else s.free }

/-- What surrounds a command: in POWER_DOWN no block takes any event (R164); otherwise the command has
its effect and the notices it raised enter the queue. -/
def State.act (f : State → State) (s : State) : State :=
  if s.supply.state = .powerDown then s else (f s).commitNotices

/-! ## Transmit queue (R14 to R16) -/

/-- The frame an origin has in the queue. -/
def Link.queued (l : Link) (o : Origin) : Option TxEntry := l.tx.find? fun e => e.origin == o

/-- Whether an origin's frame is the one on the wire. -/
def Link.onWire (l : Link) (o : Origin) : Bool :=
  match l.wire with
  | some w => w.origin == o
  | none => false

/-- Enter a frame in the queue (R14). -/
def Link.enter (l : Link) (o : Origin) (dest : Nat) (p : Payload) : Link :=
  let e : TxEntry := { origin := o, dest, payload := p, voids := 0, entered := l.entered }
  { l with tx := l.tx ++ [e], entered := l.entered + 1 }

/-- The open sequence of an activity's frame. -/
def Payload.activitySeq : Payload → Option Nat
  | .progress n _ => some n
  | .close c => some c.openSeq
  | .deliveryClose c => some c.openSeq
  | _ => none

/-- Whether an offered frame replaces a queued one that is not on the wire (R15). -/
def replaces (new old : Payload) : Bool :=
  old.kind? == some .progress && new.activitySeq.isSome &&
    (new.kind? == some .progress || new.activitySeq == old.activitySeq)

/-- Replace an origin's queued frame; the entry time stays (R15). -/
def Link.replace (l : Link) (o : Origin) (dest : Nat) (p : Payload) : Link :=
  { l with tx := l.tx.map fun e =>
      if e.origin = o then { e with dest, payload := p, voids := 0 } else e }

/-- The block keeps a frame whose offer was refused; it drops an older one that it kept (R14, R115; that every block does
so is log entry 18). -/
def Link.keep (l : Link) (o : Origin) (dest : Nat) (p : Payload) : Link :=
  let k : KeptFrame := { origin := o, dest, payload := p }
  { l with kept := (l.kept.filter fun e => decide (e.origin ≠ o)) ++ [k] }

/-- Drop the frame that an origin keeps. -/
def Link.dropKept (l : Link) (o : Origin) : Link :=
  { l with kept := l.kept.filter fun e => decide (e.origin ≠ o) }

/-- Offer a frame to the transmit queue (R14, R15). A frame that replaces a queued PROGRESS is newer than any that the
block keeps, so the block drops the kept one (R115). -/
def Link.offer (l : Link) (o : Origin) (dest : Nat) (p : Payload) : Link :=
  match l.queued o with
  | none => l.enter o dest p
  | some e =>
    if replaces p e.payload && !l.onWire o then (l.replace o dest p).dropKept o else l.keep o dest p

/-- Offer a replica or founding frame. -/
def State.offer (o : Origin) (p : Payload) (s : State) : State :=
  { s with link := s.link.offer o 0 p }

/-- Offer a service frame to a station. -/
def State.offerTo (o : Origin) (dest : Nat) (p : Payload) (s : State) : State :=
  { s with link := s.link.offer o dest p }

/-- Take an origin's frame out of the queue and off the wire. -/
def Link.remove (l : Link) (o : Origin) : Link :=
  { l with
    tx := l.tx.filter fun e => decide (e.origin ≠ o)
    wire := if l.onWire o then none else l.wire }

/-- The block offers its kept frame again when its queued frame has left (R14). -/
def Link.offerKept (l : Link) (o : Origin) : Link :=
  match l.queued o, l.kept.find? fun e => e.origin == o with
  | none, some k => (l.dropKept o).enter o k.dest k.payload
  | _, _ => l

/-- An origin's frame, if it is queued and not on the wire and its kind is as asked (R16). -/
def Link.withdrawable (l : Link) (o : Origin) (k : Kind) : Bool :=
  match l.queued o with
  | some e => e.payload.kind? == some k && !l.onWire o
  | none => false

/-- Withdraw a queued frame that is not on the wire (R16); on the wire the request is refused. -/
def State.withdraw (o : Origin) (k : Kind) (s : State) : State :=
  if s.link.withdrawable o k then { s with link := s.link.remove o } else s

/-- The order of the queue: by class, then by time of entry (R14). -/
def TxEntry.before (a b : TxEntry) : Bool :=
  decide (a.payload.cls < b.payload.cls)
    || (a.payload.cls == b.payload.cls && decide (a.entered < b.entered))

/-- The first of a list in queue order. -/
def firstInOrder : List TxEntry → Option TxEntry
  | [] => none
  | e :: es =>
    match firstInOrder es with
    | none => some e
    | some m => if m.before e then some m else some e

/-- Whether the link state may send a frame (R14); an IN_SERVICE station passes over its replica frames
while its inbound queue holds 8 entries. -/
def Link.maySend (l : Link) (p : Payload) : Bool :=
  match l.state with
  | .listening => p.kind? == some .join || p.kind? == some .found
  | .founding => p.kind? == some .found || p.kind? == some .sealRound
  | .inService =>
    if p.isReplica then p.kind? != some .join && decide (l.inbound.length < 8)
    else p.isService
  | _ => false

/-- The frame with which the station contends (R14). -/
def Link.nextToSend (l : Link) : Option TxEntry := firstInOrder (l.tx.filter fun e => l.maySend e.payload)

/-! ## Receive errors and inbound queue (R18, R19) -/

/-- A receive error count, which stays at 65 535 (R19). -/
def countUp (n : Nat) : Nat := if n < 65535 then n + 1 else n

/-- Count a receive error (R19). -/
def RxCounts.add (c : RxCounts) : RxError → RxCounts
  | .sync => { c with sync := countUp c.sync }
  | .stuff => { c with stuff := countUp c.stuff }
  | .check => { c with check := countUp c.check }
  | .length => { c with length := countUp c.length }
  | .truncated => { c with truncated := countUp c.truncated }
  | .clash => { c with clash := countUp c.clash }

/-- Count a receive error, in every link state except OFFLINE (R19). -/
def Link.countError (l : Link) (e : RxError) : Link :=
  if l.state = .offline then l else { l with errors := l.errors.add e }

/-- Place a frame at the tail of the inbound queue (R18). -/
def Link.enqueue (l : Link) (f : Frame) : Link :=
  if l.inbound.length < 8 then { l with inbound := l.inbound ++ [f] } else l

/-- Take the front of the inbound queue away. -/
def State.popInbound (s : State) : State :=
  { s with link := { s.link with inbound := s.link.inbound.drop 1 } }

/-! ## Clearing the record and the clock -/

/-- Clear the retained activity record (R163). -/
def State.clearRecord (s : State) : State :=
  { s with supply := { s.supply with record := none, phase := .held, waitCensus := false } }

/-- Change the retained activity record. -/
def State.modRecord (f : ActRecord → ActRecord) (s : State) : State :=
  { s with supply := { s.supply with record := s.supply.record.map f } }

/-- Put the record in a phase (R163). -/
def State.setPhase (p : RecordPhase) (s : State) : State :=
  { s with supply := { s.supply with phase := p } }

end Sys2Proof.Machine
end

