-- ==== Sys2Proof/Machine/Ident.lean ====
section
/-! DEFINITION. What the other blocks ask of the identification controller: release of a held result (R64) and the
write-back of the last fill (R67), with the discarding of an inlet context and the starting of a tag command. -/

namespace Sys2Proof.Machine

/-- Abandon the port's command (R65). What came late after the reply before stays the start of an error in the next
attempt (R50); of a transaction that is abandoned nothing is kept, and what the tag still replies to it is not read (log
entry 20). -/
def Port.abandon (p : Port) : Port :=
  { p with job := none, heard := []
           sent := if p.state = .idle ∨ p.state = .settling then p.sent else []
           state := if p.state = .settling then .settling else .idle }

/-- Make a command due at the port, with its attempts counted afresh (R49, R51). A command under way is
abandoned; the line's guard keeps the next one off (log entry 20). -/
def Port.due (p : Port) (c : TagCommand) (u : TagPurpose) : Port :=
  { p.abandon with job := some { command := c, purpose := u, attempts := 0 } }

/-- Make a tag command due. -/
def State.sendTag (c : TagCommand) (u : TagPurpose) (s : State) : State :=
  { s with port := s.port.due c u }

/-- Discard the inlet context: the controller is IDLE, the guard and gap settings return to 8 and 3, the
attempt counts go with the context (R49, R51, R64, R65). -/
def State.discardContext (s : State) : State :=
  { s with ident := Ident.reset, port := { s.port.abandon with guardTime := 8, gap := 3 } }

/-- Discard the context, sending RELOCK if the unlock state is UNLOCKED (R56, R58, R64). That RELOCK waits for the
guard of 8 that the discard brings back: the rules name RELOCK before the discard and no guard for it (log entry
41). -/
def State.relockAndDiscard (s : State) : State :=
  if s.unlock = .unlocked then s.discardContext.sendTag .relock .release else s.discardContext

/-- The activity controller releases the held result (R64); nothing is held in other states than
IDENTIFIED. -/
def State.releaseResult (s : State) : State :=
  if s.ident.state = .identified then s.relockAndDiscard else s

/-- The inlet context is discarded, whatever the run has come to (R134). So an accepted STOP in AWAITING_ID ends a run
at RECEIPT, where R60 has a STOP interrupt none (log entry 47). -/
def State.releaseContext (s : State) : State :=
  if s.ident.context.isSome then s.relockAndDiscard else s

/-- Change the inlet context. -/
def State.modContext (f : Inlet → Inlet) (s : State) : State :=
  { s with ident := { s.ident with context := s.ident.context.map f } }

/-- Start the write-back passes (R67, R68). -/
def State.startWriting (area : LastFillArea) (s : State) : State :=
  { s with ident := { s.ident with state := .writing, writing := some { area, pass := 1 } } }.sendTag
    .stage .writeBack

/-- Act on a write-back request by the context (R67). The second component says whether the request was
answered TAG_NOT_WRITTEN at once. -/
def State.takeWriteBack (q : WriteBackRequest) (s : State) : State × Bool :=
  if q.couplerLost then (s.raise (.tagNotWritten .couplerLost q.area.record), true) else
  match s.ident.state, s.ident.context with
  | .identified, some c =>
    match c.mode, c.unlock with
    | .tag, .unlocked => (s.startWriting q.area, false)
    | .tag, _ => (s.discardContext.raise (.tagNotWritten .locked q.area.record), true)
    | .keyed, _ => (s.discardContext.raise (.tagNotWritten .keyed q.area.record), true)
  | _, _ => (s.raise (.tagNotWritten .couplerLost q.area.record), true)

/-- Whether a keep-alive IDENT is running, with its attempts (R67). -/
def Port.keepsAlive (p : Port) : Bool :=
  match p.job with
  | some j => j.purpose == .keepAlive
  | none => false

/-- The activity controller asks for write-back (R67); during a keep-alive the request waits for its end. -/
def State.requestWriteBack (q : WriteBackRequest) (s : State) : State × Bool :=
  if s.port.keepsAlive then ({ s with ident := { s.ident with waiting := some q } }, false)
  else s.takeWriteBack q

end Sys2Proof.Machine
end

