-- ==== Sys2Proof/Machine/Recovery.lean ====
section
/-! DEFINITION. The retained activity record (R163) and its recovery (R167, R168, R170). -/

namespace Sys2Proof.Machine

/-- A recovery CLOSE or DELIVERY-CLOSE (R168). -/
def ActRecord.closing (r : ActRecord) : Payload :=
  let c : Closing :=
    { openSeq := r.openSeq, gross := max 0 r.gross, comp := r.comp.map Int.toNat,
      endReason := r.endReason.getD .powerLoss, overrun := 0, hours := none, endTime := none }
  match r.kind with
  | .fill => .close c
  | .delivery => .deliveryClose c

/-- The ADJUST for a record that the site billed at another volume (R169). -/
def ActRecord.adjusting (r : ActRecord) (billed : Int) (clock : Option Nat) : Payload :=
  .adjust
    { openSeq := r.openSeq, kind := r.kind, party := r.party, tank := r.tank, mode := r.mode,
      billedBefore := billed, delta := r.gross - billed, time := clock }

/-- Offer a recovery frame and wait for it (R168). -/
def State.offerRecovery (p : Payload) (s : State) : State :=
  (s.offer .activity p).setPhase .recovering

/-- What recovery does with the record against the station's last ended (R167). -/
def State.recoverByLast (r : ActRecord) (last : Option LastEnded) (s : State) : State :=
  match last with
  | some l =>
    if l.openSeq = r.openSeq then
      match l.kind with
      | .closed => s.clearRecord
      | _ =>
        if l.billed = r.gross then s.clearRecord
        else s.offerRecovery (r.adjusting l.billed s.clock)
    else s.clearRecord.raise (.recordUnmatched r.openSeq r.kind r.gross)
  | none => s.clearRecord.raise (.recordUnmatched r.openSeq r.kind r.gross)

/-- Recovery compares the record with the own entry (R167). -/
def State.recover (r : ActRecord) (s : State) : State :=
  match s.ownEntry with
  | some e =>
    match e.activity with
    | some a =>
      if a.openSeq = r.openSeq then s.offerRecovery r.closing else s.recoverByLast r e.last
    | none => s.recoverByLast r e.last
  | none => s.recoverByLast r none

/-- Recovery runs when the record is HELD, the station admitted, the freeze flag clear, and the record
does not wait for a PRESENT census (R167, R170). -/
def State.runRecovery (s : State) : State :=
  match s.supply.record with
  | some r =>
    if s.supply.phase = .held ∧ s.engine.admitted = true ∧ s.engine.freeze = false
        ∧ s.supply.waitCensus = false then s.recover r
    else s
  | none => s

/-- The record passes to phase HELD; recovery runs at once at an admitted station (R165 to R167). -/
def State.holdRecord (s : State) : State := (s.setPhase .held).runRecovery

/-- The record that admission makes from an open activity of the own entry (R167). -/
def ActRecord.fromActivity (a : OpenActivity) : ActRecord :=
  { kind := a.kind, openSeq := a.openSeq, party := a.party, tank := a.tank, volume := a.volume,
    gross := a.progress, comp := none, progress := a.progress, endReason := some .powerLoss,
    mode := a.mode }

/-- At admission without a record, one is made from the open activity that the own entry shows (R167). -/
def State.createFromEntry (s : State) : State :=
  match s.supply.record, s.ownEntry.bind StationEntry.activity with
  | none, some a =>
    { s with supply := { s.supply with record := some (ActRecord.fromActivity a), phase := .held } }
  | _, _ => s

/-- The unit is told of the admission (R33, R167). A record that waited for a PRESENT census when the station left
service does not wait on: R167 leaves it open (log entry 25). -/
def State.recoverAtAdmission (s : State) : State :=
  let s := s.createFromEntry
  { s with supply := { s.supply with waitCensus := false } }.runRecovery

/-- The result of a recovery CLOSE, DELIVERY-CLOSE or ADJUST (R168, R170). -/
def State.recoveryResult (res : ApplyResult) (s : State) : State :=
  match res with
  | .closed _ => s.clearRecord
  | .applied => s.clearRecord
  | .noRoom => s.setPhase .waitingRoom
  | _ => s.holdRecord

/-- The station applies a RELEASE: a record in WAITING_ROOM returns to HELD and recovery runs (R151,
R170). -/
def State.releaseApplied (s : State) : State :=
  if s.supply.phase = .waitingRoom ∧ s.supply.record.isSome = true then s.holdRecord else s

/-- The station applies a PRESENT census: a record that waited for it is recovered (R170). -/
def State.presentApplied (s : State) : State :=
  if s.supply.waitCensus then
    { s with supply := { s.supply with waitCensus := false } }.runRecovery
  else s

/-- The ADJUST left UNDELIVERED: the record is HELD and waits for a PRESENT census (R170). -/
def State.adjustUndelivered (s : State) : State :=
  { s with supply := { s.supply with phase := .held, waitCensus := true } }

/-- A boundary event writes gross and compensated volume into the record while the activity runs (R163). -/
def State.recordBoundary (s : State) : State :=
  if s.supply.phase = .running then
    s.modRecord fun r => { r with gross := s.meter.gross, comp := s.meter.reportedComp }
  else s

end Sys2Proof.Machine
end

