-- ==== Sys2Proof/Machine/Activity.lean ====
section
/-! DEFINITION. The activity controller: the fill controller of a DISPENSE station (06) and the delivery controller of a
RECEIPT station (07), which run by the same rules with the differences of R132 to R140. -/

namespace Sys2Proof.Machine

/-! ## Notices and states (R101, R132) -/

/-- What FILL_STATE and DELIVERY_STATE carry (R101, R132). Whether an activity is open, for the compensated volume, is
read as the meter front end counts it, until STOPPING ends (R91), and not by the station entry, where it is open until
the closing frame is applied: the notice of CLOSING carries none (log entry 59). -/
def State.activityNotice (s : State) : ActivityNotice :=
  { state := s.activity.state
    endReason := s.activity.endReason
    party := s.activity.result.map IdResult.number
    mode := s.activity.result.map IdResult.mode
    namedTank := s.activity.namedTank
    declared := s.activity.declared
    openSeq := s.activity.openSeq
    granted := s.activity.granted
    gross := s.meter.gross
    comp := if s.meter.activityOpen then s.meter.reportedComp else none
    rate := s.meter.flowRate }

/-- Queue the notice of the controller's state (R101, R132). -/
def State.raiseActivity (s : State) : State :=
  match s.role with
  | some .receipt => s.raise (.deliveryState s.activityNotice)
  | _ => s.raise (.fillState s.activityNotice)

/-- Change the controller's state, with its notice (R101). -/
def State.enterAct (st : ActState) (s : State) : State :=
  { s with activity := { s.activity with state := st } }.raiseActivity

/-- Withdraw every output request (R113). -/
def State.outputsOff (s : State) : State :=
  { s with outputs := { pump := false, vmain := false, vtrim := false } }

/-- Empty the activity context; the preset and the last delivery tank are kept as given (R104, R132). -/
def State.clearActivity (preset : Option Nat) (s : State) : State :=
  { s with activity := { Activity.reset with preset, lastTank := s.activity.lastTank } }

/-- A RECEIPT station discards the inlet context with its named tank, whatever the run has come to, on its return to
IDLE and on entry to REFUSED: a new delivery needs the tanker coupled again (R134). -/
def State.releaseAtReceipt (s : State) : State :=
  match s.role with
  | some .receipt => s.releaseContext
  | _ => s

/-- Return to IDLE (R100, R104). -/
def State.toIdle (preset : Option Nat) (s : State) : State :=
  (s.releaseAtReceipt.clearActivity preset).enterAct .idle

/-- Enter REFUSED(reason), releasing the identification result (R112, R134). -/
def State.refuse (r : Reason) (s : State) : State :=
  s.releaseAtReceipt.releaseResult.enterAct (.refused r)

/-- Enter REFUSED(reason) out of OPENING, which clears the preset (R104, R109). -/
def State.refuseOpening (r : Reason) (s : State) : State :=
  { s with activity := { s.activity with preset := none, pendingEnd := none } }.refuse r

/-- Enter FAULTED(VALVE); the fault-pending mark is cleared (R123, R138). The rest of the context stays as it stands
until CLEAR-FAULT leads to IDLE, where it is empty (R100): what becomes of it in FAULTED(VALVE) the rules do not say (log
entry 56). -/
def State.enterFaultedValve (s : State) : State :=
  { s with activity := { s.activity with faultPending := false } }.enterAct .faulted

/-! ## WRITEBACK (R123, R165, R166) -/

/-- WRITEBACK ends when the write-back has ended and the nozzle is hung, or the fault-pending mark is
set (R123). -/
def State.checkWriteback (s : State) : State :=
  if s.activity.state = .writeback ∧ s.activity.writeBackDone = true then
    if s.activity.faultPending then s.enterFaultedValve
    else if s.nozzle then s
    else s.toIdle none
  else s

/-- The identification controller has handed back TAG_WRITTEN or TAG_NOT_WRITTEN (R123). -/
def State.writeBackEnded (s : State) : State :=
  { s with activity := { s.activity with writeBackDone := true } }.checkWriteback

/-- After a closing that needs no write-back: the result is released; the fill controller enters
WRITEBACK with the condition met, the delivery controller IDLE, either FAULTED(VALVE) instead if its
fault-pending mark is set (R123, R138, R165, R166). -/
def State.endWithoutWriteBack (s : State) : State :=
  let s := s.releaseResult
  if s.activity.faultPending then s.enterFaultedValve else
  match s.role with
  | some .receipt => s.toIdle none
  | _ =>
    ({ s with activity := { s.activity with writeBackDone := true } }.enterAct .writeback).checkWriteback

/-! ## Asking for the fill or delivery (R103, R105, R134) -/

/-- The start volume of the request: the inlet capacity, reduced by a reported level (R103 steps 1, 2). -/
def startVolume (r : IdResult) : Nat :=
  match r.level with
  | none => r.capacity
  | some level =>
    min r.capacity (r.capacity * (100 - level) / 100 + r.capacity * 5 / 100)

/-- The requested volume (R103). -/
def requestedVolume (r : IdResult) (preset : Option Nat) (minFill : Nat) : Nat :=
  let v := match preset with
    | some p => min p (startVolume r)
    | none => startVolume r
  min 99999 (max minFill v)

/-- The OPEN of a fill (R105). -/
def State.openRequest (r : IdResult) (volume : Nat) (s : State) : OpenRequest :=
  { machine := r.number, tank := s.hose.getD 0, requested := volume, mode := some r.mode,
    hours := r.hours, openTime := s.clock }

/-- The DELIVERY-OPEN of a delivery (R134). -/
def State.deliveryRequest (r : IdResult) (s : State) : DeliveryRequest :=
  { tank := s.activity.namedTank.getD 0, tanker := r.number, grade := r.grade,
    declared := s.activity.declared.getD 0, mode := .tag, hours := r.hours, openTime := s.clock }

/-- Offer OPEN or DELIVERY-OPEN and enter OPENING (R102, R105, R134). -/
def State.offerOpen (r : IdResult) (s : State) : State :=
  match s.role with
  | some .receipt => (s.offer .activity (.deliveryOpen (s.deliveryRequest r))).enterAct .opening
  | _ =>
    let v := requestedVolume r s.activity.preset s.replica.site.minFill
    ({ s with activity := { s.activity with requested := some v } }.offer .activity
      (.openFill (s.openRequest r v))).enterAct .opening

/-- Look at the result held, in AWAITING_ID (R102, R134). A station that is not admitted and holds a retained record
meets two rows, which R102 and R134 do not order; NOT_IN_SERVICE comes first here (log entry 43). -/
def State.lookAtResult (s : State) : State :=
  if s.activity.state ≠ .awaitingId then s else
  match s.completeResult with
  | none => s
  | some r =>
    let s := { s with activity := { s.activity with result := some r, couplerLost := false } }
    if s.engine.admitted = false then s.refuse .notInService
    else if s.supply.record.isSome then s.refuse .recoveryPending
    else s.offerOpen r

/-- The identification controller reports a new IDENTIFIED result: looked at in AWAITING_ID, released in
FAULTED(VALVE), left held otherwise (R102, R119). -/
def State.resultReported (s : State) : State :=
  if s.activity.state = .faulted then s.releaseResult else s.lookAtResult

/-! ## Opening (R109 to R111, R136) -/

/-- The end reason that a stop point's crossing gives (R114, R137). -/
def State.stopReason (s : State) : Reason :=
  match s.role with
  | some .receipt => .limit
  | _ => .preset

/-- Enter STOPPING with an end reason (R114, R116 to R118). -/
def State.stopWith (r : Reason) (s : State) : State :=
  let s := s.outputsOff.modRecord fun x => { x with endReason := some r }
  { s with activity := { s.activity with
      stopVolume := some s.meter.gross, endReason := some r, pendingEnd := none, noFlow := none,
      full := none, settle := some 2000000, limit := some 10000000 } }.enterAct .stopping

/-- An event that ends a flowing activity (R117, R137). -/
def State.endFlow (r : Reason) (s : State) : State :=
  if s.activity.state.flows then s.stopWith r else s

/-- Zero the meter's counts at a grant (R91). -/
def Meter.zero (m : Meter) : Meter :=
  { m with acc := 0, rev := 0, phaseErrors := 0, comp := 0, uncompensated := false, flowRate := none,
           lastBoundary := none, flowTimer := none, unauthVolume := 0, episode := false,
           episodeNoticed := false, episodeTimer := none, activityOpen := true }

/-- The progress step: 1 000.0 L at a RECEIPT station, the configured one otherwise (R100, R132). -/
def State.progressStep (s : State) : Nat :=
  match s.settings, s.role with
  | _, some .receipt => 10000
  | some c, _ => c.progressStep
  | none, _ => 0

/-- The four compare points of a grant (R111, R136). -/
def State.comparePoints (volume : Nat) (s : State) : ComparePoints :=
  match s.settings with
  | some c =>
    { slowDown := (volume : Int) - c.slowDown, stop := (volume : Int) - c.anticipation,
      progress := s.progressStep, overrun := (volume : Int) + c.overrun }
  | none => { slowDown := volume, stop := volume, progress := s.progressStep, overrun := volume }

/-- The retained activity record of a grant (R111, R136, R163). -/
def State.newRecord (openSeq volume : Nat) (s : State) : ActRecord :=
  { kind := match s.role with | some .receipt => .delivery | _ => .fill
    openSeq
    party := (s.activity.result.map IdResult.number).getD 0
    tank := match s.role with | some .receipt => s.activity.namedTank.getD 0 | _ => s.hose.getD 0
    volume
    gross := 0
    comp := some 0
    progress := 0
    endReason := none
    mode := (s.activity.result.map IdResult.mode).getD .tag }

/-- The last delivery tank after an opening (R132, R136). -/
def State.openedTank (s : State) : Option Nat :=
  match s.role with
  | some .receipt => s.activity.namedTank
  | _ => s.activity.lastTank

/-- The record, the counts, the context and the compare points of a grant (R111 steps 1 to 4, R136). -/
def State.setUpActivity (openSeq volume : Nat) (s : State) : State :=
  { s with
    supply := { s.supply with record := some (s.newRecord openSeq volume), phase := .running }
    meter := s.meter.zero
    activity := { s.activity with
      openSeq := some openSeq, granted := some volume, points := some (s.comparePoints volume),
      preset := none, noFlow := some 20000000, lastTank := s.openedTank } }

/-- Request PUMP and VTRIM, and VMAIN at full rate (R113). -/
def State.requestOutputs (vmain : Bool) (s : State) : State :=
  { s with outputs := { pump := true, vmain, vtrim := true } }

/-- Open at full rate, or at trim rate when the slow-down point is crossed at the opening; then the stop
point, if it is crossed at the opening (R111, R114). -/
def State.startFlow (p : ComparePoints) (s : State) : State :=
  let s := if p.slowDown ≤ 0 then (s.requestOutputs false).enterAct .slowing
    else (s.requestOutputs true).enterAct .flowing
  if p.stop ≤ 0 then s.stopWith s.stopReason else s

/-- The granted result of the own OPEN or DELIVERY-OPEN in OPENING (R109, R111, R136). -/
def State.takeGrant (openSeq volume : Nat) (s : State) : State :=
  let pending := s.activity.pendingEnd
  let s := s.setUpActivity openSeq volume
  match pending with
  | some r => s.stopWith r
  | none => s.startFlow (s.comparePoints volume)

/-- The result of the own OPEN or DELIVERY-OPEN (R109, R136). -/
def State.openResult (res : ApplyResult) (s : State) : State :=
  if s.activity.state ≠ .opening then s else
  match res with
  | .granted openSeq volume => s.takeGrant openSeq volume
  | .refused r => s.refuseOpening r
  | .noChange => s.refuseOpening .malformed
  | _ => s

/-- The reason of the REFUSED state that a withdrawal with a pending end reason leads to (R110). -/
def refusalOf : Reason → Reason
  | .siteStop => .siteStopped
  | r => r

/-- The own OPEN or DELIVERY-OPEN was withdrawn (R110, R136): IDLE for a hang or a released hose,
REFUSED for the others. -/
def State.openWithdrawn (s : State) : State :=
  match s.activity.pendingEnd with
  | some .hung => s.toIdle none
  | some .hoseReleased => s.toIdle none
  | some r => s.refuseOpening (refusalOf r)
  | none => s

/-- The kind of frame that asks for the activity. -/
def State.openKind (s : State) : Kind :=
  match s.role with
  | some .receipt => .deliveryOpen
  | _ => .openFill

/-- An event that would end a flowing activity, taken in OPENING (R110, R136): the first one sets the
pending end reason and asks for the OPEN back. -/
def State.pendEnd (r : Reason) (s : State) : State :=
  match s.activity.pendingEnd with
  | some _ => s
  | none =>
    let s := { s with activity := { s.activity with pendingEnd := some r } }
    if s.link.withdrawable .activity s.openKind then
      (s.withdraw .activity s.openKind).openWithdrawn
    else s

/-- An event that ends an activity that opens or flows (R110, R117, R136, R137). -/
def State.endEvent (r : Reason) (s : State) : State :=
  match s.activity.state with
  | .opening => s.pendEnd r
  | .flowing => s.stopWith r
  | .slowing => s.stopWith r
  | _ => s

/-! ## Switches, coupler, CANCEL and STOP (R102, R110, R112, R117, R123, R124, R134, R137, R140, R172) -/

/-- The filtered NOZ output rises (R102). -/
def State.nozRise (s : State) : State :=
  match s.role with
  | some .dispense => if s.activity.state = .idle then (s.enterAct .awaitingId).lookAtResult else s
  | _ => s

/-- The filtered NOZ output falls (R104, R110, R112, R117, R123). -/
def State.nozFall (s : State) : State :=
  match s.role with
  | some .dispense =>
    match s.activity.state with
    | .awaitingId => s.toIdle s.activity.preset
    | .refused _ => s.toIdle none
    | .writeback => s.checkWriteback
    | _ => s.endEvent .hung
  | _ => s

/-- The filtered DHS output falls (R134, R136, R137). -/
def State.dhsFall (s : State) : State :=
  match s.role with
  | some .receipt =>
    match s.activity.state with
    | .awaitingId => s.toIdle none
    | .refused _ => s.toIdle none
    | _ => s.endEvent .hoseReleased
  | _ => s

/-- Whether the controller acts on a result: from OPENING to CLOSING. -/
def ActState.engaged : ActState → Bool
  | .opening | .flowing | .slowing | .stopping | .closing => true
  | _ => false

/-- The identification controller reports the coupler lost (R65, R67, R110, R117, R137). -/
def State.couplerLost (s : State) : State :=
  match s.activity.result with
  | some r =>
    if s.activity.state.engaged = true ∧ r.mode = .tag then
      { s with activity := { s.activity with couplerLost := true } }.endEvent .couplerLost
    else s
  | none => s

/-- A STOP frame is accepted at an IN_SERVICE station (R110, R117, R134, R137, R172). -/
def State.stopAccepted (s : State) : State :=
  match s.activity.state with
  | .awaitingId => s.refuse .siteStopped
  | _ => s.endEvent .siteStop

/-- Whether CANCEL is taken (R124, R140). -/
def ActState.takesCancel : ActState → Bool
  | .awaitingId | .opening | .flowing | .slowing => true
  | _ => false

/-- A CANCEL that is taken (R124, R140). -/
def State.cancelActivity (s : State) : State :=
  match s.activity.state with
  | .awaitingId => s.refuse .cancelled
  | _ => s.endEvent .cancelled

/-! ## The end of STOPPING, and the closing (R118 to R120, R123, R138, R165, R166) -/

/-- The CLOSE or DELIVERY-CLOSE built when STOPPING ends (R120, R138). -/
def State.closing (s : State) : Closing :=
  { openSeq := s.activity.openSeq.getD 0
    gross := max 0 s.meter.gross
    comp := s.meter.reportedComp.map Int.toNat
    endReason := s.activity.endReason.getD .noReason
    overrun := max 0 (s.meter.gross - s.activity.stopVolume.getD 0)
    hours := s.activity.result.bind IdResult.hours
    endTime := s.clock }

/-- The closing frame of the role (R120, R138). -/
def State.closingFrame (s : State) : Payload :=
  match s.role with
  | some .receipt => .deliveryClose s.closing
  | _ => .close s.closing

/-- Stop the timers of the activity. -/
def Activity.stopTimers (a : Activity) : Activity :=
  { a with noFlow := none, full := none, settle := none, limit := none }

/-- The meter front end is told that the activity has ended, and STOPPING's timers stop (R91, R118). -/
def State.activityEnded (s : State) : State :=
  { s with meter := { s.meter with activityOpen := false }, activity := s.activity.stopTimers }

/-- Build and offer the closing frame and enter CLOSING (R120, R138). -/
def State.offerClose (s : State) : State :=
  ((s.offer .activity s.closingFrame).setPhase .ending).enterAct .closing

/-- STOPPING ended with the link lost: no closing frame; the record is HELD (R165). -/
def State.endLinkLost (s : State) : State :=
  State.holdRecord
    (State.endWithoutWriteBack { s with activity := { s.activity with linkLost := false } })

/-- STOPPING ends (R118, R120, R138, R165). -/
def State.endStopping (s : State) : State :=
  let s := s.activityEnded
  if s.activity.linkLost || !s.engine.admitted then s.endLinkLost else s.offerClose

/-- The last-fill record of an own CLOSE (R67). -/
def State.lastFillArea (record : Nat) (c : Closing) (s : State) : LastFillArea :=
  { record, gross := c.gross, station := s.me, endTime := c.endTime, keyCheck := s.keyCheck }

/-- The applied result of the own CLOSE: the record is cleared, write-back asked for, WRITEBACK entered
(R123). -/
def State.closeApplied (record : Nat) (c : Closing) (s : State) : State :=
  let q : WriteBackRequest :=
    { area := s.lastFillArea record c, couplerLost := s.activity.couplerLost }
  let r := s.clearRecord.requestWriteBack q
  let s := { r.1 with activity := { r.1.activity with writeBackDone := r.2 } }.enterAct .writeback
  s.checkWriteback

/-- The applied result of the own DELIVERY-CLOSE (R138). -/
def State.deliveryApplied (s : State) : State :=
  let s := s.clearRecord.releaseResult
  if s.activity.faultPending then s.enterFaultedValve else s.toIdle none

/-- The closing frame was applied as no change, or left the queue unsettled: the record is HELD (R123,
R138, R166). -/
def State.closeUnsettled (s : State) : State := s.endWithoutWriteBack.holdRecord

/-- The result of the own CLOSE or DELIVERY-CLOSE in CLOSING (R123, R138, R166). -/
def State.closeResult (c : Closing) (res : ApplyResult) (s : State) : State :=
  match res, s.role with
  | .closed _, some .receipt => s.deliveryApplied
  | .closed n, _ => s.closeApplied n c
  | _, _ => s.closeUnsettled

/-! ## Steps and boundaries (R114 to R119, R137, R138) -/

/-- Offer PROGRESS at a progress point (R114, R115). -/
def State.offerProgress (s : State) : State :=
  s.offer .activity (.progress (s.activity.openSeq.getD 0) s.meter.gross.toNat)

/-- The slow-down point, in FLOWING (R114). -/
def State.crossSlowDown (p : ComparePoints) (s : State) : State :=
  if s.activity.state = .flowing ∧ p.slowDown ≤ s.meter.gross then
    { s with outputs := { s.outputs with vmain := false } }.enterAct .slowing
  else s

/-- The next progress point, in FLOWING or SLOWING (R114). -/
def State.crossProgress (p : ComparePoints) (s : State) : State :=
  if s.activity.state.flows = true ∧ p.progress ≤ s.meter.gross then
    let next : ComparePoints := { p with progress := p.progress + s.progressStep }
    { s with activity := { s.activity with points := some next } }.offerProgress.raiseActivity
  else s

/-- The stop point, in FLOWING or SLOWING (R114, R137). -/
def State.crossStop (p : ComparePoints) (s : State) : State :=
  if s.activity.state.flows = true ∧ p.stop ≤ s.meter.gross then s.stopWith s.stopReason else s

/-- Overrun, in STOPPING (R119, R138). -/
def State.overrun (s : State) : State :=
  let s := s.modRecord fun r => { r with endReason := some .overrun }
  { s with activity := { s.activity with endReason := some .overrun, faultPending := true } }.raise
    (.fault .valve) |>.endStopping

/-- A forward boundary event at the activity controller: the crossings in the order slow-down, progress,
stop; in STOPPING the overrun limit (R114, R119). -/
def State.activityBoundary (s : State) : State :=
  match s.activity.points with
  | none => s
  | some p =>
    if s.activity.state = .stopping then
      if p.overrun < s.meter.gross then s.overrun else s
    else ((s.crossSlowDown p).crossProgress p).crossStop p

/-- The full timer is kept by the fill controller alone (R116, R136). -/
def State.fullPeriod (s : State) : Timer :=
  match s.role with
  | some .receipt => none
  | _ => some 5000000

/-- A step at the activity controller's timers (R116, R118, R136). -/
def State.activityStep (forward : Bool) (s : State) : State :=
  match s.activity.state with
  | .stopping => { s with activity := { s.activity with settle := some 2000000 } }
  | .flowing | .slowing =>
    if forward || s.activity.noFlow.isNone then
      { s with activity := { s.activity with noFlow := none, full := s.fullPeriod } }
    else s
  | _ => s

/-- The meter's limits in FLOWING and SLOWING: reverse volume above 10 dL, phase errors above 8 (R117,
R137). -/
def State.meterLimits (s : State) : State :=
  if 10 < s.meter.reverse then s.endFlow .reverseFlow
  else if 8 < s.meter.phaseErrors then s.endFlow .meterFault
  else s

/-! ## Losing the link (R165, R166) -/

/-- The station leaves IN_SERVICE: the controller by its state, for FLOWING, SLOWING and STOPPING (R165);
OPENING and CLOSING take the LEFT_SERVICE outcome of their frame. -/
def State.activityLinkLost (s : State) : State :=
  match s.activity.state with
  | .flowing | .slowing =>
    { s with activity := { s.activity with linkLost := true } }.stopWith .linkLost
  | .stopping => { s with activity := { s.activity with linkLost := true } }
  | _ => s

/-- The own activity frame left with LEFT_SERVICE, or OPEN or DELIVERY-OPEN with UNDELIVERED (R109,
R166, R168, R170). -/
def State.activityFrameLost (p : Payload) (s : State) : State :=
  match p.kind? with
  | some .openFill => if s.activity.state = .opening then s.refuseOpening .link else s
  | some .deliveryOpen => if s.activity.state = .opening then s.refuseOpening .link else s
  | some .close => if s.activity.state = .closing then s.closeUnsettled else s.holdRecord
  | some .deliveryClose => if s.activity.state = .closing then s.closeUnsettled else s.holdRecord
  | some .adjust => s.holdRecord
  | _ => s

/-- The result of an own frame of the activity controller's place in the queue (R28). -/
def State.activityResult (p : Payload) (res : ApplyResult) (s : State) : State :=
  match p with
  | .openFill _ => s.openResult res
  | .deliveryOpen _ => s.openResult res
  | .progress openSeq volume =>
    match res with
    | .applied => s.modRecord fun r => if r.openSeq = openSeq then { r with progress := volume } else r
    | _ => s
  | .close c => if s.activity.state = .closing then s.closeResult c res else s.recoveryResult res
  | .deliveryClose c => if s.activity.state = .closing then s.closeResult c res else s.recoveryResult res
  | .adjust _ => s.recoveryResult res
  | _ => s

end Sys2Proof.Machine
end

