-- ==== Sys2Proof/Machine/Identify.lean ====
section
/-! DEFINITION. The inlet tag port and the identification controller's runs, keep-alive and write-back (03). -/

namespace Sys2Proof.Machine

/-! ## Characters (R48, R50, 11.7) -/

/-- The data byte of a character: bits 1 to 8 (R48). -/
def charByte (c : TagChar) : Byte := c.extractLsb' 1 8

/-- The number of ones among some bits. -/
def onesIn (bits : List Bool) : Nat := (bits.filter id).length

/-- The error of a received character, in the order of its bits: START, PARITY, FRAME (R48, R50). -/
def charError (c : TagChar) : Option Reason :=
  if c.getLsbD 0 then some .start
  else if (onesIn (byteBits (charByte c)) + (if c.getLsbD 9 then 1 else 0)) % 2 = 1 then some .parity
  else if c.getLsbD 10 && c.getLsbD 11 then none
  else some .frame

/-- The first error among received characters. -/
def firstCharError : List TagChar → Option Reason
  | [] => none
  | c :: cs =>
    match charError c with
    | some e => some e
    | none => firstCharError cs

/-- The levels sampled in the twelve bits of a character (R48). -/
def charLevels (c : TagChar) : List TagLevel := (List.range 12).map c.getLsbD

/-- A line of levels that carries whole characters. -/
def lineOf (cs : List TagChar) : List TagLevel := cs.flatMap charLevels

/-- The whole characters among sampled levels. -/
def wholeChars : List TagLevel → List TagChar
  | a :: b :: c :: d :: e :: f :: g :: h :: i :: j :: k :: l :: rest =>
    BitVec.ofBoolListLE [a, b, c, d, e, f, g, h, i, j, k, l] :: wholeChars rest
  | _ => []

/-- The levels of a character under way, after the whole ones. -/
def partChar (line : List TagLevel) : List TagLevel := line.drop (12 * (line.length / 12))

/-- The error that the levels of a character under way show already (R48, R50): a start bit high at its middle,
parity, a stop bit low. -/
def partError (part : List TagLevel) : Option Reason :=
  match part with
  | [] => none
  | b :: rest =>
    if b then some .start
    else if rest.length < 9 then none
    else if onesIn (rest.take 9) % 2 = 1 then some .parity
    else if (rest.drop 9).any (fun x => !x) then some .frame
    else none

/-- The sum of bytes modulo 256 is 0 (R50). -/
def sumsToZero (bs : List Byte) : Bool := (bs.foldl (fun a b => a + b) (0 : Byte)) == 0

/-- The reply codes (11.7). -/
def ackCode : Byte := 0x5A
def refuseCode : Byte := 0xC3
def failCode : Byte := 0xE1
def busyCode : Byte := 0x96

/-- What a data reply comes to: nothing yet, an error of R50, or its bytes without the check byte. -/
inductive DataReply
  | incomplete
  | error (r : Reason)
  | data (bs : List Byte)
  deriving DecidableEq, Repr

/-- A data reply of `n` bytes and its check byte (R50, R52); characters after it fall into the next
guard (`laterThan`). -/
def dataReply (n : Nat) (reply : List TagChar) : DataReply :=
  let taken := reply.take (n + 1)
  match firstCharError taken with
  | some e => .error e
  | none =>
    if taken.length < n + 1 then .incomplete
    else
      let bytes := taken.map charByte
      if sumsToZero bytes then .data (bytes.take n) else .error .check

/-- The reply to READ between its characters: REFUSE alone, or a data reply of the count (R50, R54). -/
def readReply (n : Nat) (reply : List TagChar) : DataReply :=
  match dataReply n reply with
  | .incomplete => if reply.map charByte = [refuseCode] then .error .refused else .incomplete
  | r => r

/-- The reply to READ as it stands on a line: while a second character comes, what came first is no REFUSE. -/
def readLine (n : Nat) (line : List TagLevel) : DataReply :=
  if (partChar line).isEmpty then readReply n (wholeChars line) else dataReply n (wholeChars line)

/-- What it is that no further character comes, with some of a reply heard (R50, R54): at READ a data reply that is
whole in itself has another length than the count, CHECK (log entry 17). -/
def silenceError (c : TagCommand) (heard : List TagLevel) : Reason :=
  match c with
  | .read _ _ =>
    if heard.isEmpty = false ∧ sumsToZero ((wholeChars heard).map charByte) = true then .check
    else .noReply
  | _ => .noReply

/-- Whether anything was heard beyond a number of characters: the start of an error in the next attempt (R50). -/
def laterThan (n : Nat) (line : List TagLevel) : Bool := decide (12 * n < line.length)

/-- What a single-character reply comes to. -/
inductive CharReply
  | incomplete
  | error (r : Reason)
  | code (b : Byte)
  deriving DecidableEq, Repr

/-- A single-character reply; the codes that the command allows are given (R50, R55). -/
def charReply (allowed : List Byte) : List TagChar → CharReply
  | [] => .incomplete
  | c :: _ =>
    match charError c with
    | some e => .error e
    | none => if allowed.contains (charByte c) then .code (charByte c) else .error .check

/-- The reply to COMMIT: BUSY characters, then ACK or FAIL (R55). -/
def commitReply : List TagChar → CharReply
  | [] => .incomplete
  | c :: cs =>
    match charError c with
    | some e => .error e
    | none =>
      if charByte c = busyCode then commitReply cs
      else if charByte c = ackCode ∨ charByte c = failCode then .code (charByte c)
      else .error .check

/-- How many BUSY characters lead a reply to COMMIT (R55). -/
def busyCount : List TagChar → Nat
  | [] => 0
  | c :: cs => if charByte c = busyCode then busyCount cs + 1 else 0

/-! ## Areas (11.7) -/

/-- The identity block from its 16 bytes (11.7). -/
def parseBlock (bs : List Byte) : IdentBlock :=
  { serial := BitVec.ofNat 48 (leNat (bs.take 6))
    format := bs.getD 6 0
    number := BitVec.ofNat 16 (leNat ((bs.drop 7).take 2))
    fleetClass := bs.getD 9 0
    guardTime := bs.getD 10 0
    gap := bs.getD 11 0
    issue := BitVec.ofNat 32 (leNat ((bs.drop 12).take 4)) }

/-- The machine record from its 16 bytes (11.7). -/
def parseTagRecord (bs : List Byte) : TagRecord :=
  { grade := bs.getD 0 0
    level := bs.getD 1 0
    capacity := BitVec.ofNat 32 (leNat ((bs.drop 2).take 4))
    hours := BitVec.ofNat 32 (leNat ((bs.drop 6).take 4))
    fleetData := BitVec.ofNat 48 (leNat ((bs.drop 10).take 6)) }

/-- The 16 bytes of the last-fill area (R67, 11.7). -/
def LastFillArea.bytes (a : LastFillArea) : List Byte :=
  leBytes 4 a.record ++ leInt 4 a.gross ++ leBytes 1 a.station ++ [flagByte a.endTime.isSome]
    ++ leBytes 4 (a.endTime.getD 0) ++ leBytes 2 a.keyCheck.toNat

/-- The identity block is well formed (R60). -/
def IdentBlock.wellFormed (b : IdentBlock) : Bool :=
  (b.format == 1 || b.format == 2) && namesMachine b.number.toNat
    && (b.fleetClass == 1 || b.fleetClass == 2)
    && decide (2 ≤ b.guardTime.toNat) && decide (b.guardTime.toNat ≤ 32)
    && decide (b.gap.toNat ≤ 3)

/-- The reported level: absent on a format 1 tag and where the tag gives 255 (R54, R64). -/
def reportedLevel (b : IdentBlock) (r : TagRecord) : Option Nat :=
  if b.format = 1 ∨ r.level = 255 then none else some r.level.toNat

/-- The machine record is well formed (R62 order 3); the level of a format 1 tag is taken as absent
(log entry 17). -/
def TagRecord.wellFormed (b : IdentBlock) (r : TagRecord) : Bool :=
  decide (1 ≤ r.grade.toNat) && decide (r.grade.toNat ≤ 7) && r.capacity != 0
    && (match reportedLevel b r with | none => true | some l => decide (l ≤ 100))

/-! ## Sending (R49) -/

/-- The command character (11.7). -/
def TagCommand.code : TagCommand → Byte
  | .ident => 0x31 | .unlock => 0x32 | .read _ _ => 0x33 | .stage => 0x34 | .commit => 0x35
  | .relock => 0x36

/-- The operand bytes of a command (section 3.2, R53, R68). -/
def State.operands (c : TagCommand) (s : State) : List Byte :=
  match c with
  | .unlock => match s.settings with | some x => leBytes 8 x.key.toNat | none => []
  | .read address count => [BitVec.ofNat 8 address, BitVec.ofNat 8 count]
  | .stage =>
    match s.ident.writing with
    | some w => [0, 16] ++ w.area.bytes
    | none => []
  | _ => []

/-- A byte as the port drives it: start bit low, data, even parity, two stop bits high (R48). -/
def charOf (b : Byte) : TagChar :=
  BitVec.ofNat 12 (2 * b.toNat + 512 * (onesIn (byteBits b) % 2) + 3072)

/-- The characters of a command: the wake, the command character and the operands (R49). -/
def State.commandChars (c : TagCommand) (s : State) : List TagChar :=
  ([0xA6, c.code] ++ s.operands c).map charOf

/-- The station releases the line high in some bit of a character and reads it low (R48, R50). -/
def contends (driven read : TagChar) : Bool := (driven &&& ~~~read) != 0#12

/-- The characters that are driven as the line is read back, up to the one that meets contention, and whether one
did (R48, R50). -/
def driveChars : List TagChar → List TagChar → List TagChar × Bool
  | c :: cs, r :: rs =>
    if contends c r then ([c], true)
    else
      let x := driveChars cs rs
      (c :: x.1, x.2)
  | _, _ => ([], false)

/-- Whether the port may drive the line: not in OFFLINE, but for the RELOCK that OFFLINE asks for (R48,
R58). -/
def State.mayDrive (j : TagJob) (s : State) : Bool := s.link.state != .offline || j.purpose == .release

/-- The signature of an attempt that ended (R51). -/
def Port.sign (p : Port) (j : TagJob) (e : Reason) : Port :=
  { p with signature := { command := some j.command, attempts := j.attempts, error := e } }

/-- An attempt ends with an error: the port goes to SETTLING; RELOCK is not repeated (R50, R51, R56). -/
def State.attemptFailed (j : TagJob) (e : Reason) (s : State) : State :=
  let p := s.port.sign j e
  { s with port := { p with state := .settling, heard := [], late := false,
                            job := if j.command = .relock then none else some j } }

/-- A transaction ends without error: the port is IDLE and the command done (R48, R51). `late` says that more was
heard after its reply (R50). -/
def State.transactionDone (j : TagJob) (late : Bool) (s : State) : State :=
  let p := s.port.sign j .noReason
  { s with port := { p with state := .idle, job := none, heard := [], late } }

/-- The port drives what is left of its command, and reads `line` back (R48, R50): contention ends the attempt; with
the last character the port awaits the reply. -/
def State.driveCommand (j : TagJob) (line : List TagChar) (s : State) : State :=
  let all := s.commandChars j.command
  let x := driveChars (all.drop s.port.sent.length) line
  let sent := s.port.sent ++ x.1
  if x.2 then State.attemptFailed j .contention { s with port := { s.port with sent } }
  else
    { s with port := { s.port with
        sent, state := if sent.length < all.length then .sending else .awaitingReply } }

/-- An attempt at RELOCK makes the unlock state LOCKED, whatever becomes of it (R53, R56). -/
def State.lockFor (c : TagCommand) (s : State) : State :=
  if c = .relock then s.modContext fun x => { x with unlock := .locked } else s

/-- The port begins an attempt: it is SENDING the wake, the command and its operands (R48, R49, R53). -/
def State.beginCommand (j : TagJob) (s : State) : State :=
  { s with port := { s.port with job := some j, sent := [], heard := [], state := .sending } }

/-- TAG_COMMAND_START: an attempt begins and its characters are driven, or the driving of one goes on; `line` is what
is read back of them. A character that came late after the last reply ends the attempt before anything is sent, with
CHECK (R50, log entry 45). -/
def State.startCommand (line : List TagChar) (s : State) : State :=
  match s.port.job with
  | some j =>
    if s.mayDrive j = false then s
    else if s.port.state = .sending then s.driveCommand j line
    else if s.port.state = .idle then
      let j := { j with attempts := j.attempts + 1 }
      let s := s.lockFor j.command
      if s.port.late then s.attemptFailed j .check else (s.beginCommand j).driveCommand j line
    else s
  | none => s

/-- The command whose reply the port awaits or takes. -/
def State.awaited (s : State) : Option TagJob :=
  if s.port.state = .awaitingReply ∨ s.port.state = .receiving then s.port.job else none

/-- Whether the last transaction had a reply to such a command, which is complete, and the port waits for the next
one: what comes now comes late (R50). Behind a transaction that was abandoned nothing is late: the port has then no
characters of it (log entry 20). A run begins behind a line that has been high for 10 ms, so nothing is late before its
first reply (R59). -/
def State.replied (p : TagCommand → Bool) (s : State) : Bool :=
  s.port.state == .idle && !s.port.sent.isEmpty && s.port.signature.error == .noReason
    && s.port.signature.command.any p && s.ident.state != .waking && s.ident.state != .readingIdent

/-- Reply characters that no transaction awaits: after a complete reply they are the start of an error in the next
attempt (R50, log entry 45). -/
def State.strayReply (p : TagCommand → Bool) (line : List TagLevel) (s : State) : State :=
  if s.replied p && !line.isEmpty then { s with port := { s.port with late := true } } else s

/-- The reply is not complete: the port is RECEIVING while a character is under way, and awaits the next one
otherwise; what is sampled of a character may show an error already (R48, R50). -/
def State.hearOn (j : TagJob) (line : List TagLevel) (s : State) : State :=
  match partError (partChar line) with
  | some e => s.attemptFailed j e
  | none =>
    { s with port := { s.port with
        heard := line, state := if (partChar line).isEmpty then .awaitingReply else .receiving } }

/-! ## The end of a run (R62 to R65) -/

/-- An IDENT notice (R57, R64, R65). -/
def State.identNotice (event : Reason) (s : State) : IdentNotice :=
  { event
    result := if event = .noReason then s.ident.context.bind Inlet.result else none
    mode := match s.ident.context with | some c => c.mode | none => .tag
    block := s.ident.context.bind Inlet.block
    fleetData := (s.ident.context.bind Inlet.record).map TagRecord.fleetData
    signature := if event = .tagLink then some s.port.signature else none }

/-- Queue an IDENT notice. -/
def State.raiseIdent (event : Reason) (s : State) : State := s.raise (.ident (s.identNotice event))

/-- RELOCK if the unlock state is UNLOCKED (R56). -/
def State.relockIfUnlocked (s : State) : State :=
  if s.unlock = .unlocked then s.sendTag .relock .release else s

/-- The controller goes to FAILED(reason): notice, RELOCK where due, run timer stopped (R64). R63 has a RECEIPT station
send RELOCK at once when a run ends FAILED, where R56 and R64 ask for the unlock state UNLOCKED: none is sent here in
LOCKED or LOST, at any role (log entry 57). -/
def State.identFail (r : Reason) (s : State) : State :=
  State.relockIfUnlocked
    (State.raiseIdent r { s with ident := { s.ident with state := .failed r, runTimer := none } })

/-- The station's role is RECEIPT. -/
def State.isReceipt (s : State) : Bool := s.role == some .receipt

/-- The controller goes to IDENTIFIED with a result and hands it on; a receipt station sends RELOCK at
once (R63, R64). -/
def State.identSucceed (r : IdResult) (pending : Bool) (s : State) : State :=
  let s := s.modContext fun c => { c with result := some r, gradePending := pending }
  let s := State.raiseIdent .noReason
    { s with ident := { s.ident with state := .identified, runTimer := none } }
  let s := if s.isReceipt then s.relockIfUnlocked else s
  s.resultReported

/-- The grade of a tank of the local tank table. -/
def State.tankGrade (tank : Option Nat) (s : State) : Option Nat :=
  (tank.bind s.replica.tank?).map TankEntry.grade

/-- The tank whose grade is compared in CHECKING: the hose tank, or the named tank (R62 order 5, R63). -/
def State.checkedTank (s : State) : Option Nat :=
  if s.isReceipt then s.ident.context.bind Inlet.namedTank else s.hose

/-- The machine-table checks of a DISPENSE station (R62 orders 6 to 8). -/
def State.machineCheck (machine : Nat) (s : State) : Option Reason :=
  match s.replica.machine? machine with
  | none => some .unknownMachine
  | some m => if m.barred then some .barred else if m.hold.isSome then some .heldElsewhere else none

/-- The fleet class that fits the role (R62 order 4). -/
def State.classFits (b : IdentBlock) (s : State) : Bool :=
  match s.role with
  | some .dispense => b.fleetClass == 1
  | some .receipt => b.fleetClass == 2
  | _ => false

/-- Whether the grade check is left open: at RECEIPT with no named tank (R63). -/
def State.gradeOpen (s : State) : Bool := s.isReceipt && s.checkedTank.isNone

/-- The checks of CHECKING, in their order (R62, R63). -/
def State.checkFailure (b : IdentBlock) (r : TagRecord) (s : State) : Option Reason :=
  if r.wellFormed b = false then some .tagFormat
  else if s.classFits b = false then some .wrongClass
  else if s.gradeOpen = false ∧ s.tankGrade s.checkedTank ≠ some r.grade.toNat then some .misgrade
  else if s.isReceipt then none
  else s.machineCheck b.number.toNat

/-- The result of a run of mode TAG (R64). -/
def tagResult (b : IdentBlock) (r : TagRecord) : IdResult :=
  { mode := .tag, number := b.number.toNat, grade := r.grade.toNat, capacity := r.capacity.toNat,
    hours := some r.hours.toNat, level := reportedLevel b r }

/-- CHECKING (R62, R63). -/
def State.checking (b : IdentBlock) (r : TagRecord) (s : State) : State :=
  match s.checkFailure b r with
  | some e => s.identFail e
  | none => s.identSucceed (tagResult b r) s.gradeOpen

/-- A named tank reaches the identification controller's context (R63, R133). -/
def State.nameTank (tank : Nat) (s : State) : State :=
  let s := s.modContext fun c => { c with namedTank := some tank }
  match s.ident.state, s.ident.context with
  | .identified, some c =>
    if c.gradePending then
      if s.tankGrade (some tank) = c.result.map IdResult.grade ∧ c.result.isSome = true then
        s.modContext fun c => { c with gradePending := false }
      else s.identFail .misgrade
    else s
  | _, _ => s

/-! ## A run (R59 to R61, R65) -/

/-- The named tank that a new context takes: the delivery controller's, in AWAITING_ID (R133). -/
def State.tankForContext (s : State) : Option Nat :=
  if s.activity.state = .awaitingId then s.activity.namedTank else none

/-- A new inlet context. -/
def newInlet (mode : IdMode) (coupler : Bool) (tank : Option Nat) : Inlet :=
  { mode, coupler, block := none, record := none, unlock := .locked, pairs := 0, namedTank := tank,
    result := none, gradePending := false }

/-- Nothing that came late is left to spoil the next attempt: the line starts anew (R59, R65). -/
def State.forgetLate (s : State) : State := { s with port := { s.port with late := false } }

/-- A run starts (R59). -/
def State.startRun (s : State) : State :=
  let tank := s.tankForContext
  let s := s.discardContext.forgetLate
  { s with
    ident := { s.ident with
      state := .waking, context := some (newInlet .tag true tank), runTimer := some 5000000 } }

/-- Whether CPL rising starts a run (R58, R59). -/
def State.runMayStart (s : State) : Bool :=
  s.link.state != .offline &&
    match s.ident.state, s.ident.context with
    | .idle, _ => true
    | .failed _, some c => c.mode == .keyed
    | _, _ => false

/-- The filtered CPL output rises (R59). -/
def State.cplRise (s : State) : State := if s.runMayStart then s.startRun else s

/-- Write-back ends without the coupler (R65, R67, R68). -/
def State.writeBackLost (record : Nat) (s : State) : State :=
  (s.raise (.tagNotWritten .couplerLost record)).writeBackEnded

/-- The filtered CPL output falls with a TAG context (R65): a run is DISCARDED, a held result's loss is
told, a write-back ends. -/
def State.loseCoupler (s : State) : State :=
  let old := s.ident
  let gone := s.discardContext.forgetLate
  match old.state with
  | .waking | .readingIdent | .unlocking | .readingRecord | .checking =>
    gone.raise (.ident (s.identNotice .discarded))
  | .identified =>
    let s := gone.couplerLost
    match old.waiting with
    | some q => s.writeBackLost q.area.record
    | none => s
  | .writing =>
    match old.writing with
    | some w => gone.writeBackLost w.area.record
    | none => gone
  | _ => gone

/-- Drop a RELOCK that has not been sent yet (R56). -/
def Port.dropRelock (p : Port) : Port :=
  match p.job with
  | some j => if j.command = .relock ∧ j.attempts = 0 then { p with job := none } else p
  | none => p

/-- The filtered CPL output falls (R65); with a KEYED context nothing happens here, and with none only a
RELOCK that still waits is dropped, since none is sent after a coupler loss (R56). -/
def State.cplFall (s : State) : State :=
  match s.ident.context with
  | some c => if c.mode = .tag then s.loseCoupler else s
  | none => { s with port := s.port.dropRelock }

/-- The line has been high for 10 ms in WAKING (R59). -/
def State.wakingEnd (s : State) : State :=
  if s.ident.state = .waking then
    { s with ident := { s.ident with state := .readingIdent } }.sendTag .ident .run
  else s

/-- The run timer runs out (R65): the port stops driving, no RELOCK is sent, at a RECEIPT station neither (log entry
57). -/
def State.identTimeout (s : State) : State :=
  if s.ident.runTimer.isSome then
    State.raiseIdent .identTimeout
      { s with port := s.port.abandon,
               ident := { s.ident with state := .failed .identTimeout, runTimer := none } }
  else s

/-- A good IDENT reply of the run (R49, R52, R60). -/
def State.identRead (b : IdentBlock) (s : State) : State :=
  let s := s.modContext fun c => { c with block := some b }
  if b.wellFormed then
    { s with port := { s.port with guardTime := b.guardTime.toNat, gap := b.gap.toNat },
             ident := { s.ident with state := .unlocking } }.sendTag .unlock .run
  else s.identFail .tagFormat

/-- A write-back request that waited for the keep-alive is taken (R67). -/
def State.takeWaiting (s : State) : State :=
  match s.ident.waiting with
  | some q =>
    let r := { s with ident := { s.ident with waiting := none } }.takeWriteBack q
    if r.2 then r.1.writeBackEnded else r.1
  | none => s

/-- The unlock state becomes LOST, with an IDENT notice of the event (R57). -/
def State.keepAliveLost (event : Reason) (s : State) : State :=
  ((s.modContext fun c => { c with unlock := .lost }).raiseIdent event).takeWaiting

/-- A good IDENT reply of the keep-alive is compared with the held block (R57). -/
def State.keepAliveRead (b : IdentBlock) (s : State) : State :=
  if s.ident.context.bind Inlet.block = some b then s.takeWaiting else s.keepAliveLost .tagChanged

/-- The IDENT transaction ends (R52, R57, R60). -/
def State.tagIdent (line : List TagLevel) (s : State) : State :=
  let line := s.port.heard ++ line
  match s.awaited with
  | some j =>
    if j.command = .ident then
      match dataReply 16 (wholeChars line) with
      | .incomplete => s.hearOn j line
      | .error e => s.attemptFailed j e
      | .data bs =>
        let s := s.transactionDone j (laterThan 17 line)
        if j.purpose = .keepAlive then s.keepAliveRead (parseBlock bs) else s.identRead (parseBlock bs)
    else s
  | none => s.strayReply (· == .ident) line

/-- The guard after UNLOCK passes (R53, R61); a start bit in it is a CHECK error (R50). -/
def State.tagUnlock (startBit : Bool) (s : State) : State :=
  match s.awaited with
  | some j =>
    if j.command = .unlock then
      if startBit then s.attemptFailed j .check
      else
        let s := s.transactionDone j false
        { s with ident := { s.ident with state := .readingRecord } }.sendTag (.read 16 16) .run
    else s
  | none => s

/-- The guard after RELOCK passes; the unlock state is LOCKED either way (R56). -/
def State.tagRelock (startBit : Bool) (s : State) : State :=
  match s.awaited with
  | some j =>
    if j.command = .relock then
      let s := s.modContext fun c => { c with unlock := .locked }
      if startBit then s.attemptFailed j .check else s.transactionDone j false
    else s
  | none => s

/-! ## Write-back (R67, R68) -/

/-- Write-back ends: RELOCK unless LOST, result handed over and noticed, context discarded, IDLE (R68). -/
def State.endWriting (n : NoticeBody) (s : State) : State :=
  let relock := decide (s.unlock ≠ .lost)
  let s := s.discardContext
  let s := if relock then s.sendTag .relock .release else s
  (s.raise n).writeBackEnded

/-- The record number being written back. -/
def State.writtenRecord (s : State) : Nat :=
  match s.ident.writing with
  | some w => w.area.record
  | none => 0

/-- A pass ended with FAIL or a mismatch: the next pass, or the end after the third (R68). -/
def State.passFailed (r : Reason) (s : State) : State :=
  match s.ident.writing with
  | some w =>
    if w.pass < 3 then
      let next : WriteBack := { w with pass := w.pass + 1 }
      { s with ident := { s.ident with writing := some next } }.sendTag .stage .writeBack
    else s.endWriting (.tagNotWritten r w.area.record)
  | none => s

/-- STAGE is answered ACK (R55, R68). -/
def State.tagStage (line : List TagLevel) (s : State) : State :=
  let line := s.port.heard ++ line
  match s.awaited with
  | some j =>
    if j.command = .stage then
      match charReply [ackCode] (wholeChars line) with
      | .incomplete => s.hearOn j line
      | .error e => s.attemptFailed j e
      | .code _ => (s.transactionDone j (laterThan 1 line)).sendTag .commit .writeBack
    else s
  | none => s.strayReply (· == .stage) line

/-- COMMIT ends with ACK or FAIL (R55, R68). -/
def State.tagCommit (line : List TagLevel) (s : State) : State :=
  let line := s.port.heard ++ line
  match s.awaited with
  | some j =>
    if j.command = .commit then
      match commitReply (wholeChars line) with
      | .incomplete => s.hearOn j line
      | .error e => s.attemptFailed j e
      | .code b =>
        let s := s.transactionDone j (laterThan (busyCount (wholeChars line) + 1) line)
        if b = ackCode then s.sendTag (.read 32 16) .writeBack else s.passFailed .writeFailed
    else s
  | none => s.strayReply (· == .commit) line

/-- The verify READ's data is compared with the staged bytes (R68). -/
def State.verify (bs : List Byte) (s : State) : State :=
  match s.ident.writing with
  | some w =>
    if bs = w.area.bytes then s.endWriting (.tagWritten w.area.record) else s.passFailed .verifyFailed
  | none => s

/-- The READ of the machine record was REFUSED (R61). -/
def State.readRefused (s : State) : State :=
  let s := s.modContext fun c => { c with pairs := c.pairs + 1 }
  match s.ident.context with
  | some c =>
    if c.pairs < 3 then
      { s with ident := { s.ident with state := .unlocking } }.sendTag .unlock .run
    else { s with port := { s.port with job := none } }.identFail .keyRejected
  | none => s

/-- The machine record was read (R53, R61). -/
def State.recordRead (bs : List Byte) (s : State) : State :=
  let r := parseTagRecord bs
  let s := s.modContext fun c => { c with unlock := .unlocked, record := some r }
  let s := { s with ident := { s.ident with state := .checking } }
  match s.ident.context.bind Inlet.block with
  | some b => s.checking b r
  | none => s

/-- The verify READ was REFUSED: the unlock state is LOST (R53, R68). -/
def State.verifyRefused (s : State) : State :=
  let s := { s with port := { s.port with job := none } }
  let s := s.modContext fun c => { c with unlock := .lost }
  s.endWriting (.tagNotWritten .locked s.writtenRecord)

/-- Whether a command is READ. -/
def TagCommand.isRead : TagCommand → Bool
  | .read _ _ => true
  | _ => false

/-- A READ ends (R54, R61, R68). -/
def State.tagRead (line : List TagLevel) (s : State) : State :=
  let line := s.port.heard ++ line
  match s.awaited with
  | some j =>
    match j.command with
    | .read _ count =>
      match readLine count line with
      | .incomplete => s.hearOn j line
      | .error e =>
        let s := s.attemptFailed j e
        if e = .refused then
          if j.purpose = .writeBack then s.verifyRefused else s.readRefused
        else s
      | .data bs =>
        let s := s.transactionDone j (laterThan (count + 1) line)
        if j.purpose = .writeBack then s.verify bs else s.recordRead bs
    | _ => s
  | none => s.strayReply TagCommand.isRead line

/-! ## No reply, settling, keep-alive, unlock lost -/

/-- Whether a command has a reply that can fail to come: UNLOCK and RELOCK have none (R48, R50). -/
def TagCommand.hasReply : TagCommand → Bool
  | .unlock | .relock => false
  | _ => true

/-- No start bit arrives in time, or COMMIT stays BUSY, a character under way or not (R50, R54, R55). -/
def State.noReply (s : State) : State :=
  match s.awaited with
  | some j =>
    if j.command.hasReply = true ∧ (s.port.state = .awaitingReply ∨ j.command = .commit) then
      s.attemptFailed j (silenceError j.command s.port.heard)
    else s
  | none => s

/-- A command is exhausted: the identification controller is told (R51, R57, R60, R61, R68). -/
def State.exhausted (j : TagJob) (s : State) : State :=
  let s := { s with port := { s.port with job := none } }
  match j.purpose with
  | .run => s.identFail .tagLink
  | .keepAlive => s.keepAliveLost .tagLost
  | .writeBack => s.endWriting (.tagNotWritten .tagLink s.writtenRecord)
  | .release => s

/-- The port leaves SETTLING: the next attempt is due, or the command is exhausted after 3 (R50, R51). -/
def State.settlingEnd (s : State) : State :=
  if s.port.state = .settling then
    let s := { s with port := { s.port with state := .idle } }
    match s.port.job with
    | some j => if 3 ≤ j.attempts then s.exhausted j else s
    | none => s
  else s

/-- Whether the tag is kept awake (R57). -/
def State.keptAwake (s : State) : Bool :=
  s.role == some .dispense && s.ident.state == .identified && s.unlock == .unlocked
    && (match s.ident.context with | some c => c.mode == .tag | none => false)

/-- 50 ms after the last character the keep-alive IDENT is sent (R57). -/
def State.keepAlive (s : State) : State :=
  if s.keptAwake = true ∧ s.port.job = none ∧ s.port.state = .idle then s.sendTag .ident .keepAlive
  else s

/-- The line has been high for more than 100 ms while UNLOCKED (R53). What becomes of a keep-alive IDENT that is due or
under way R57 does not say: it runs on here with its attempts and is judged as it ends, while no further one is started
(log entry 58). -/
def State.unlockLost (s : State) : State :=
  if s.unlock = .unlocked then
    { s.modContext (fun c => { c with unlock := .lost }) with port := s.port.dropRelock }
  else s

/-! ## Keyed identification (R66) and OFFLINE (R58) -/

/-- The checks of a keyed identification, in their order (R66). -/
def State.keyedFailure (machine : Nat) (s : State) : Option Reason :=
  match s.replica.machine? machine with
  | none => some .unknownMachine
  | some m =>
    if s.tankGrade s.hose ≠ some m.grade then some .misgrade
    else if m.barred then some .barred
    else if m.hold.isSome then some .heldElsewhere
    else none

/-- The result of a keyed identification (R66). -/
def State.keyedResult (machine : Nat) (s : State) : IdResult :=
  match s.replica.machine? machine with
  | some m => { mode := .keyed, number := machine, grade := m.grade, capacity := m.capacity,
                hours := none, level := none }
  | none => { mode := .keyed, number := machine, grade := 0, capacity := 0, hours := none,
              level := none }

/-- A KEYED-ID answered DONE (R66). -/
def State.keyedIdentify (machine : Nat) (s : State) : State :=
  let s := s.discardContext
  let s := { s with ident := { s.ident with context := some (newInlet .keyed false none) } }
  match s.keyedFailure machine with
  | some r => s.identFail r
  | none => s.identSucceed (s.keyedResult machine) false

/-- The link state becomes OFFLINE: RELOCK if UNLOCKED, context discarded, IDLE (R58). For a write-back under way or
waited for, R58 gives no result, and none is reported (log entry 40). -/
def State.identOffline (s : State) : State := s.relockAndDiscard

end Sys2Proof.Machine
end

