-- ==== Sys2Proof/Machine/Supply.lean ====
section
/-! DEFINITION. The console stop path (R171, R173) and the supply-drop event (R164). -/

namespace Sys2Proof.Machine

/-! ## Stop path (R171, R173) -/

/-- The reason of the STOP that the path offers (R171). -/
def StopPath.reason (p : StopPath) : Byte :=
  if p.byConsole then Reason.code .estopConsole else Reason.code .estopInput

/-- While the stop-wanted mark is set and the station is IN_SERVICE, the path offers STOP (R171). -/
def State.offerStop (s : State) : State :=
  if s.stop.wanted = true ∧ s.inService = true ∧ (s.link.queued .stopPath).isNone = true then
    s.offer .stopPath (.stop s.stop.reason)
  else s

/-- Set the stop-wanted mark; a RESUME that is queued and not on the wire is withdrawn, and one that the
path keeps is dropped with it (R171, log entry 18). -/
def State.wantStop (byConsole : Bool) (s : State) : State :=
  let p : StopPath :=
    { wanted := true, byConsole := if s.stop.wanted then s.stop.byConsole else byConsole }
  let s := State.withdraw .stopPath .resume { s with stop := p }
  State.offerStop { s with link := s.link.dropKept .stopPath }

/-- The path's STOP or RESUME left the queue with an outcome (R171, R173). -/
def State.stopPathOutcome (p : Payload) (oc : TxOutcome) (s : State) : State :=
  let s := match p, oc with
    | .stop _, .accepted => { s with stop := { wanted := false, byConsole := false } }
    | .stop _, .leftService => { s with stop := { wanted := false, byConsole := false } }
    | .resume, .undelivered =>
      if s.inService && !s.stop.wanted then s.offer .stopPath .resume else s
    | _, _ => s
  s.offerStop

/-- The filtered ESTOP output rises (R171). -/
def State.estopRise (s : State) : State := s.wantStop false

/-- At admission with the filtered ESTOP output asserted and the site RUNNING, the mark is set (R171). -/
def State.stopAtAdmission (s : State) : State :=
  if s.meter.cells.estop.output && s.replica.site.stop.isNone then s.wantStop false else s

/-! ## Supply drop (R86, R164) -/

/-- A retained write in progress is completed or not (R27, R164): a free value (log entry 4). -/
def State.settleWrite (s : State) : State :=
  match s.engine.writing with
  | some w =>
    { s with
      engine := { s.engine with writing := none }
      replica := if Config.writeCompletes s.free then w.replica else s.replica
      limitReached := s.limitReached || (Config.writeCompletes s.free && w.limit)
      free := s.free + 1 }
  | none => s

/-- The record of a running activity takes its final values (R164). -/
def State.finalRecord (s : State) : State :=
  if s.supply.phase = .running then
    s.modRecord fun r =>
      { r with gross := s.meter.gross, comp := s.meter.reportedComp,
               endReason := some (r.endReason.getD .powerLoss) }
  else s

/-- The supply-drop event (R164): every block stops; what it holds stays as it stands. -/
def State.supplyDrop (s : State) : State :=
  let s := s.finalRecord.settleWrite
  { s with
    link := { s.link with wire := none }
    port := { s.port with sent := [] }
    supply := { s.supply with state := .powerDown } }

end Sys2Proof.Machine
end

