-- ==== Sys2Proof/Machine/Meter.lean ====
section
/-! DEFINITION. The meter front end (05): filter cells, phase discriminator, volumes, compensation, flow rate,
unauthorised flow and duty-cycle inputs. -/

namespace Sys2Proof.Machine

/-! ## Filter cells (R82 to R85) -/

/-- The cell of a name. -/
def Cells.get (c : Cells) : Cell → FilterCell
  | .a => c.a | .b => c.b | .c => c.c | .noz => c.noz | .cpl => c.cpl | .estop => c.estop
  | .svm => c.svm | .dhs => c.dhs

/-- Replace the cell of a name. -/
def Cells.set (c : Cells) (n : Cell) (x : FilterCell) : Cells :=
  match n with
  | .a => { c with a := x } | .b => { c with b := x } | .c => { c with c := x }
  | .noz => { c with noz := x } | .cpl => { c with cpl := x } | .estop => { c with estop := x }
  | .svm => { c with svm := x } | .dhs => { c with dhs := x }

/-- The unit of a cell's threshold in microseconds: 1 for meter and supply cells, 1 000 for switch cells
(R83). -/
def cellUnit : Cell → Nat
  | .a | .b | .c | .svm => 1
  | .noz | .cpl | .estop | .dhs => 1000

/-- The mode in force: a threshold of 0 makes the cell BYPASS (R83). -/
def FilterCell.modeInForce (x : FilterCell) : FilterMode :=
  if x.threshold = 0 then .bypass else x.mode

/-- The threshold in microseconds (R84). -/
def FilterCell.micros (x : FilterCell) (n : Cell) : Nat := x.threshold * cellUnit n

/-- Whether a cell passes a change to a level that its input has held for some samples (R83 to R85). -/
def FilterCell.passes (x : FilterCell) (n : Cell) (level : Bool) (held : Nat) : Bool :=
  !x.idle && x.output != level &&
    match x.modeInForce with
    | .bypass => true
    | .immediate => x.lockout.isNone
    | .delayed =>
      decide (x.micros n ≤ held + (if x.input = level then x.count else 0))

/-- The cell after it has passed a change (R84, R85). -/
def FilterCell.pass (x : FilterCell) (n : Cell) (level : Bool) : FilterCell :=
  { x with
    input := level
    output := level
    count := 0
    lockout := match x.modeInForce with | .immediate => some (x.micros n) | _ => none }

/-- A glitch at a cell (R85): the first one of an episode also queues a notice. -/
def FilterCell.glitched (x : FilterCell) : FilterCell :=
  if x.glitch then { x with glitches := if x.glitches < 255 then x.glitches + 1 else x.glitches }
  else { x with glitch := true, glitches := 1 }

/-- Change the cells. -/
def State.setCell (n : Cell) (x : FilterCell) (s : State) : State :=
  { s with meter := { s.meter with cells := s.meter.cells.set n x } }

/-- Record a glitch of a cell (R85). -/
def State.glitch (n : Cell) (s : State) : State :=
  let x := s.meter.cells.get n
  let s := s.setCell n x.glitched
  if x.glitch then s else s.raise (.glitch n)

/-- The sample at which a DELAYED cell's input returns inside the threshold (R84, R85): the count
reached by then is kept, to run back down. -/
def State.inputReturns (n : Cell) (count : Nat) (s : State) : State :=
  let x := s.meter.cells.get n
  let s := s.setCell n { x with input := x.output, count }
  if 0 < count then s.glitch n else s

/-- A change of a raw input that does not change the filtered output (R84, R85). `samples` is how long
the input stood at its level before the change. -/
def State.inputChange (n : Cell) (samples : Nat) (s : State) : State :=
  let x := s.meter.cells.get n
  if x.idle then s else
  match x.modeInForce with
  | .bypass => s
  | .immediate =>
    if x.lockout.isSome then (s.setCell n { x with input := !x.input }).glitch n else s
  | .delayed =>
    if x.input = x.output then
      s.setCell n { x with input := !x.input, count := x.count - samples }
    else if x.count + samples < x.micros n then s.inputReturns n (x.count + samples)
    else s

/-! ## Volume, compensation and flow rate (R89, R90, R92, R98, R99) -/

/-- An accumulator after a step: it stays at the bound that the step would pass (R89). -/
def accumulate (v d : Int) : Int :=
  let bound : Int := 2 ^ 47 - 1
  if v + d < -bound then -bound else if bound < v + d then bound else v + d

/-- Interpolation between two factors, to the nearest integer, one half upward (R98). -/
def interpolate (lo hi tenths : Int) : Int := lo + ((hi - lo) * tenths + 50) / 100

/-- The factor of a temperature by the table of 9 points from −20.0 °C in steps of 10.0 °C (R98). -/
def compFactor (factors : List Nat) (temp : Int) : Int :=
  let at' (i : Nat) : Int := factors.getD i 10000
  if temp ≤ -200 then at' 0
  else if 600 ≤ temp then at' 8
  else
    let i := ((temp + 200) / 100).toNat
    interpolate (at' i) (at' (i + 1)) ((temp + 200) % 100)

/-- The weight of a boundary, and whether TMP gives one (R99). -/
def State.boundaryFactor (s : State) : Int :=
  match s.meter.tmp.reading, s.settings with
  | some t, some c => compFactor c.factors t
  | _, _ => 10000

/-- The compensation of a boundary (R99). -/
def State.compensate (forward : Bool) (s : State) : State :=
  let f := s.boundaryFactor
  { s with meter := { s.meter with
      comp := if forward then s.meter.comp + f else s.meter.comp - f
      uncompensated := s.meter.uncompensated || s.meter.tmp.reading.isNone } }

/-- The flow rate at a boundary event at time `t` (R92). -/
def Meter.rateAt (m : Meter) (forward : Bool) (t : Nat) : Meter :=
  if forward then
    { m with
      flowRate := m.lastBoundary.map fun b => 60000000 / (t - b)
      lastBoundary := some t
      flowTimer := some 10000000 }
  else { m with flowRate := some 0, lastBoundary := none, flowTimer := none }

/-- A boundary event (R89): compensation, flow rate, the record, and, forward, the compare points. -/
def State.boundary (forward : Bool) (t : Nat) (s : State) : State :=
  let s := s.compensate forward
  let s := { s with meter := s.meter.rateAt forward t }.recordBoundary
  if forward then s.activityBoundary else s

/-- The pulse weight in microlitres (R89). -/
def State.pulse (s : State) : Int :=
  match s.settings with
  | some c => c.pulse
  | none => 0

/-! ## Unauthorised flow (R93) -/

/-- A step while no activity is open: volume and episode (R93). -/
def Meter.unauthStep (m : Meter) (forward : Bool) (pulse : Nat) : Meter :=
  if m.activityOpen then m
  else if forward then
    { m with unauthVolume := m.unauthVolume + pulse, episode := true, episodeTimer := some 60000000 }
  else if m.episode then { m with episodeTimer := some 60000000 }
  else m

/-- The FLOW_UNAUTH notice, once in an episode (R93). -/
def State.flowUnauth (s : State) : State :=
  if s.meter.episode = true ∧ s.meter.episodeNoticed = false ∧ 500000 < s.meter.unauthVolume then
    State.raise (.flowUnauth (s.meter.unauthVolume / 100000))
      { s with meter := { s.meter with episodeNoticed := true } }
  else s

/-! ## Steps and phase errors (R88) -/

/-- A step moves the accumulators (R89, R90). -/
def Meter.turn (m : Meter) (forward : Bool) (pulse : Int) (t : Nat) : Meter :=
  { m with
    acc := accumulate m.acc (if forward then pulse else -pulse)
    rev := if forward then m.rev else accumulate m.rev pulse
    lastStep := some t }

/-- A forward or reverse step at time `t` (R88 to R94). -/
def State.meterStep (forward : Bool) (t : Nat) (s : State) : State :=
  let before := s.meter.gross
  let s := { s with meter := (s.meter.turn forward s.pulse t).unauthStep forward s.pulse.toNat }
  let s := s.flowUnauth.activityStep forward
  let s := if s.meter.gross ≠ before then s.boundary forward t else s
  s.meterLimits

/-- A phase error: one is added to the count, and the limit is looked at (R88, R117). -/
def State.phaseError (s : State) : State :=
  State.meterLimits { s with meter := { s.meter with phaseErrors := countUp s.meter.phaseErrors } }

/-- The cycle of legal patterns in forward order (R87). -/
def cycle : SensorMode → List Pattern
  | .two => [⟨false, false, false⟩, ⟨true, false, false⟩, ⟨true, true, false⟩, ⟨false, true, false⟩]
  | .three => [⟨true, false, false⟩, ⟨true, true, false⟩, ⟨false, true, false⟩, ⟨false, true, true⟩,
               ⟨false, false, true⟩, ⟨true, false, true⟩]

/-- The pattern as the sensor mode sees it: C is not part of it in 2-sensor mode (R87). -/
def seenPattern (m : SensorMode) (p : Pattern) : Pattern :=
  match m with
  | .two => { p with c := false }
  | .three => p

/-- Whether a pattern is legal (R87). -/
def legal (m : SensorMode) (p : Pattern) : Bool := (cycle m).contains p

/-- The successor of a pattern in a cycle that goes on to `first`. -/
def nextIn (first p : Pattern) : List Pattern → Option Pattern
  | [] => none
  | [x] => if x = p then some first else none
  | x :: y :: rest => if x = p then some y else nextIn first p (y :: rest)

/-- The forward neighbour (R87). -/
def forwardOf (m : SensorMode) (p : Pattern) : Option Pattern :=
  match cycle m with
  | [] => none
  | x :: rest => nextIn x p (x :: rest)

/-- How a new pattern is judged against the position (R88). -/
inductive Judged
  | forward | reverse | error (moves : Bool) | same | first
  deriving DecidableEq, Repr

/-- Whether 20 µs or more have passed since the last step (R88). -/
def Meter.spaced (m : Meter) (t : Nat) : Bool :=
  match m.lastStep with
  | some l => decide (l + 20 ≤ t)
  | none => true

/-- The judgement of a changed pattern at time `t` (R87, R88). While the position is unset no pattern is a phase
error; R87 says so of the first legal one only (log entry 42). -/
def judge (mode : SensorMode) (m : Meter) (p : Pattern) (t : Nat) : Judged :=
  match m.position with
  | none => if legal mode p then .first else .same
  | some q =>
    if p = q then .same
    else if forwardOf mode q = some p then if m.spaced t then .forward else .error true
    else if forwardOf mode p = some q then if m.spaced t then .reverse else .error true
    else .error (legal mode p)

/-- The pattern of the three filtered outputs. -/
def Cells.pattern (c : Cells) : Pattern := ⟨c.a.output, c.b.output, c.c.output⟩

/-- Set the position. -/
def State.setPosition (p : Pattern) (s : State) : State :=
  { s with meter := { s.meter with position := some p } }

/-- The discriminator judges the pattern as it now stands (R87, R88); every change gives recent flow
(R94). It is held until START. -/
def State.patternChanged (t : Nat) (s : State) : State :=
  match s.meter.running, s.settings with
  | true, some c =>
    let p := seenPattern c.sensors s.meter.cells.pattern
    let j := judge c.sensors s.meter p t
    let s := { s with meter := { s.meter with recentTimer := some 2000000 } }
    match j with
    | .forward => (s.setPosition p).meterStep true t
    | .reverse => (s.setPosition p).meterStep false t
    | .error true => (s.setPosition p).phaseError
    | .error false => s.phaseError
    | .first => s.setPosition p
    | .same => s
  | _, _ => s

/-! ## Events of the cells -/

/-- A change of a filtered output is handed to the cell's consumers (R82). -/
def State.outputChanged (n : Cell) (level : Bool) (t : Nat) (s : State) : State :=
  match n with
  | .a | .b | .c => s.patternChanged t
  | .noz => if level then s.nozRise else s.nozFall
  | .cpl => if level then s.cplRise else s.cplFall
  | .estop => if level then s.estopRise else s
  | .svm => if level then s.supplyDrop else s
  | .dhs => if level then s else s.dhsFall

/-- A switch or monitor cell passes a change, if it may (R82 to R85). -/
def State.cellPasses (n : Cell) (level : Bool) (held : Nat) (s : State) : State :=
  let x := s.meter.cells.get n
  if x.passes n level held then (s.setCell n (x.pass n level)).outputChanged n level 0 else s

/-- The lockout of an IMMEDIATE cell ends (R85). Where those of several sensor cells end in one sample with a change
to pass, METER_STEP brings the pattern of that sample (R88). -/
def State.lockoutEnd (n : Cell) (t : Nat) (s : State) : State :=
  let x := s.meter.cells.get n
  if x.lockout.isNone then s
  else if x.input = x.output then s.setCell n { x with lockout := none }
  else (s.setCell n (x.pass n x.input)).outputChanged n x.input t

/-- Whether the lockout of an IMMEDIATE cell ends in the sample with its input away from its output, so that it passes
the change with the rest of the sample (R85, R88). -/
def FilterCell.unlocks (x : FilterCell) (level : Bool) : Bool :=
  !x.idle && x.lockout.isSome && x.input == level && x.output != level

/-- A meter cell takes its part of a new pattern; absent when it cannot pass it. A pattern is that of one sample, so
cells whose lockouts end in it change together (R88). -/
def passTo (x : FilterCell) (n : Cell) (level : Bool) (held : Nat) : Option FilterCell :=
  if x.output = level then some x
  else if x.passes n level held || x.unlocks level then some (x.pass n level)
  else none

/-- The cells after the filtered pattern changes to new levels; absent when some cell cannot pass its
change, or none changes. -/
def Cells.passPattern (c : Cells) (p : Pattern) (held : Nat) : Option Cells :=
  if c.pattern = p then none else
  match passTo c.a .a p.a held, passTo c.b .b p.b held, passTo c.c .c p.c held with
  | some a, some b, some c' => some { c with a := a, b := b, c := c' }
  | _, _, _ => none

/-- A change of the filtered sensor pattern in one sample (R88). -/
def State.pattern (t held : Nat) (p : Pattern) (s : State) : State :=
  match s.meter.cells.passPattern p held with
  | some cells => State.patternChanged t { s with meter := { s.meter with cells } }
  | none => s

/-- A change of the filtered pattern that brings the reverse volume above 10 dL (R117). -/
def State.reverseFlow (t held : Nat) (p : Pattern) (s : State) : State :=
  if s.meter.reverse ≤ 10 ∧ 10 < (s.pattern t held p).meter.reverse then s.pattern t held p else s

/-- A change of the filtered pattern that brings the phase-error count above 8 (R117). -/
def State.meterFault (t held : Nat) (p : Pattern) (s : State) : State :=
  if s.meter.phaseErrors ≤ 8 ∧ 8 < (s.pattern t held p).meter.phaseErrors then s.pattern t held p
  else s

/-! ## Timers of the meter (R92 to R94) -/

/-- 10 s without a forward boundary (R92). -/
def State.flowRateTimeout (s : State) : State :=
  if s.meter.flowTimer.isSome then
    { s with meter := { s.meter with flowRate := some 0, lastBoundary := none, flowTimer := none } }
  else s

/-- 60 s without a step in an episode (R93). -/
def State.unauthTimeout (s : State) : State :=
  if s.meter.episodeTimer.isSome then
    { s with meter := { s.meter with
        unauthVolume := 0, episode := false, episodeNoticed := false, episodeTimer := none } }
  else s

/-- 2 s since the pattern last changed (R94). -/
def State.recentFlowEnd (s : State) : State :=
  { s with meter := { s.meter with recentTimer := none } }

/-! ## Duty-cycle inputs (R95 to R97) -/

/-- The temperature of a duty, in tenths of a degree (R96). -/
def temperatureOf (high period : Nat) : Option Int :=
  let duty := high * 10000 / period
  if 1000 ≤ duty ∧ duty ≤ 9000 then some (((duty - 1000) * 5 / 32 : Nat) - 400) else none

/-- The level of a pulse, in millimetres (R97). -/
def levelOf (high factor : Nat) : Option Int :=
  let level := high * factor / 1000
  if level ≤ 20000 then some level else none

/-- The cell of a duty-cycle input. -/
def Meter.duty (m : Meter) : DutyCell → DutyState
  | .tmp => m.tmp
  | .gau => m.gau

/-- Replace the cell of a duty-cycle input. -/
def State.setDuty (n : DutyCell) (d : DutyState) (s : State) : State :=
  match n with
  | .tmp => { s with meter := { s.meter with tmp := d } }
  | .gau => { s with meter := { s.meter with gau := d } }

/-- The reading of a completed measurement (R96, R97). -/
def State.measure (n : DutyCell) (high period : Nat) (s : State) : Option Int :=
  match n with
  | .tmp => temperatureOf high period
  | .gau => levelOf high ((s.settings.bind Settings.gaugeFactor).getD 0)

/-- A rising edge at a running cell at time `t`: the state after it, and whether it completed a
measurement (R95). -/
def State.dutyRise (n : DutyCell) (t : Nat) (s : State) : State × Bool :=
  let d := s.meter.duty n
  if d.running = false then (s, false) else
  match d.lastRise, d.lastFall with
  | some rise, some fall =>
    (s.setDuty n { d with lastRise := some t, lastFall := none, waitTimer := some 250000,
                          reading := s.measure n (fall - rise) (t - rise) }, true)
  | _, _ =>
    (s.setDuty n { d with lastRise := some t, lastFall := none, waitTimer := some 250000 }, false)

/-- A falling edge at a running cell at time `t` (R95). -/
def State.dutyFall (n : DutyCell) (t : Nat) (s : State) : State :=
  let d := s.meter.duty n
  if d.running then
    s.setDuty n { d with lastFall := if d.lastRise.isSome then some t else none,
                         waitTimer := some 250000 }
  else s

/-- 250 ms without an edge: the reading becomes absent and the edge times are cleared (R95). -/
def State.dutyTimeout (n : DutyCell) (s : State) : State :=
  let d := s.meter.duty n
  if d.waitTimer.isSome then
    s.setDuty n { d with lastRise := none, lastFall := none, reading := none, waitTimer := none }
  else s

/-! ## START (R83, R87, R95) -/

/-- The setting of a cell in the configuration record, in the order of the cell codes (R178 order 8). -/
def Settings.filter (c : Settings) (i : Nat) : FilterSetting :=
  c.filters.getD i { mode := .bypass, threshold := 0 }

/-- A cell takes its setting at START: output kept, count and lockout cleared (R83); an idle cell holds
its output deasserted (R82). Filtering starts from that sample, and later commands count their samples from it at the
earliest (log entry 34). A glitch record from before stays, but for a cell in BYPASS or idle, which keeps none (R82, R83,
log entry 49). -/
def FilterCell.configure (x : FilterCell) (f : FilterSetting) (idle : Bool) : FilterCell :=
  let x := { x with mode := f.mode, threshold := f.threshold }
  let keepsNone := idle || x.modeInForce == .bypass
  { x with
    count := 0
    lockout := none
    idle := idle
    input := x.input && !idle
    output := x.output && !idle
    glitch := x.glitch && !keepsNone
    glitches := if keepsNone then 0 else x.glitches }

/-- The eight cells at START: NOZ idle at every role but DISPENSE (R82, R100), DHS at every role but RECEIPT
(R82, R132), C in 2-sensor mode (R82). -/
def Cells.configure (c : Cells) (k : Settings) : Cells :=
  { a := c.a.configure (k.filter 0) false
    b := c.b.configure (k.filter 1) false
    c := c.c.configure (k.filter 2) (k.sensors == .two)
    noz := c.noz.configure (k.filter 3) (k.role != .dispense)
    cpl := c.cpl.configure (k.filter 4) false
    estop := c.estop.configure (k.filter 5) false
    svm := c.svm.configure (k.filter 6) false
    dhs := c.dhs.configure (k.filter 7) (k.role != .receipt) }

/-- The meter front end at START (R83, R87, R95). The discriminator takes the pattern as its position the
first time only: it runs until reset. -/
def Meter.configure (m : Meter) (k : Settings) : Meter :=
  let cells := m.cells.configure k
  let p := seenPattern k.sensors cells.pattern
  { m with
    cells
    running := true
    position := if m.running then m.position else if legal k.sensors p then some p else none
    tmp := { m.tmp with running := k.tmp }
    gau := { m.gau with running := k.gaugeTank.isSome } }

end Sys2Proof.Machine
end

