-- ==== Sys2Proof/Machine/Gauge.lean ====
section
/-! DEFINITION. The gauge unit (07 section 7.5). -/

namespace Sys2Proof.Machine

/-- The unit empties its context and returns to IDLE; the period timer is left as it is (R146). -/
def State.gaugeIdle (s : State) : State :=
  { s with gauge := { GaugeUnit.reset with periodTimer := s.gauge.periodTimer } }

/-- A run ends with GAUGE_UNSTABLE (R143 to R146). -/
def State.gaugeUnstable (cause : Reason) (s : State) : State :=
  s.gaugeIdle.raise (.gaugeUnstable cause)

/-- A run starts (R143). -/
def State.gaugeStart (tank : Nat) (s : State) : State :=
  if s.meter.gau.reading.isNone then s.gaugeUnstable .noReading
  else if (s.replica.tank? tank).isNone then s.gaugeUnstable .noTank
  else
    State.offer .gauge (.census .flow tank s.clock)
      { s with gauge := { s.gauge with state := .calling } }

/-- The period timer of 10 min runs out (R143). -/
def State.gaugePeriod (s : State) : State :=
  match s.gauge.periodTimer, s.gaugeTank with
  | some _, some tank =>
    let s := { s with gauge := { s.gauge with periodTimer := some 600000000 } }
    if s.gauge.state = .idle then s.gaugeStart tank else s
  | _, _ => s

/-- The result of the unit's own FLOW census (R142, R144). SAMPLING is entered also when the GAU reading became absent
during CALLING: R145 speaks only of its becoming absent (log entry 44). -/
def State.gaugeCensus (res : ApplyResult) (s : State) : State :=
  if s.gauge.state ≠ .calling then s else
  match res with
  | .census true seq =>
    { s with gauge := { s.gauge with state := .sampling, censusSeq := some seq, readings := [] } }
  | _ => s.gaugeUnstable .flow

/-- The volume of a level by the strapping table, above the point `(l0, v0)` (R145). -/
def strapFrom (level l0 v0 : Nat) : List (Nat × Nat) → Nat
  | [] => v0
  | (l1, v1) :: rest =>
    if level < l1 then v0 + (v1 - v0) * (level - l0) / (l1 - l0) else strapFrom level l1 v1 rest

/-- The volume of a level by the strapping table (R145). -/
def strapVolume (points : List (Nat × Nat)) (level : Nat) : Nat :=
  match points with
  | [] => 0
  | (l0, v0) :: rest => if level ≤ l0 then v0 else strapFrom level l0 v0 rest

/-- The GAUGE of sixteen readings (R145). -/
def State.gauging (readings : List Nat) (s : State) : Gauging :=
  let level := readings.sum / 16
  { tank := s.gaugeTank.getD 0
    level
    volume := strapVolume ((s.settings.bind Settings.strapping).getD []) level
    temperature := s.meter.tmp.reading
    census := s.gauge.censusSeq.getD 0 }

/-- The highest reading exceeds the lowest by more than 10 mm (R145). -/
def spreadOut (readings : List Nat) : Bool :=
  readings.any fun a => readings.any fun b => decide (b + 10 < a)

/-- Sixteen readings are held (R145). -/
def State.gaugeDone (readings : List Nat) (s : State) : State :=
  if spreadOut readings then s.gaugeUnstable .spread
  else
    let g := s.gauging readings
    State.offer .gauge (.gauge g)
      { s with gauge := { s.gauge with state := .sending, readings, sent := some g } }

/-- A completed GAU measurement in SAMPLING (R145). -/
def State.gaugeReading (s : State) : State :=
  if s.gauge.state ≠ .sampling then s else
  match s.meter.gau.reading with
  | none => s.gaugeUnstable .noReading
  | some l =>
    let readings := s.gauge.readings ++ [l.toNat]
    if readings.length < 16 then { s with gauge := { s.gauge with readings } }
    else s.gaugeDone readings

/-- The GAU reading became absent (R145). -/
def State.gaugeNoReading (s : State) : State :=
  if s.gauge.state = .sampling ∧ s.meter.gau.reading = none then s.gaugeUnstable .noReading else s

/-- The result of the unit's GAUGE (R146, R147). -/
def State.gaugeApplied (g : Gauging) (res : ApplyResult) (s : State) : State :=
  if s.gauge.state ≠ .sending then s else
  match res with
  | .gauge recorded reconciled variance suspect =>
    s.gaugeIdle.raise (.gaugeResult g recorded reconciled variance suspect)
  | _ =>
    let suspect := match s.replica.tank? g.tank with | some t => t.suspect | none => false
    s.gaugeIdle.raise (.gaugeResult g false false none suspect)

/-- The unit's frame left UNDELIVERED (R144, R146). -/
def State.gaugeFrameLost (s : State) : State :=
  match s.gauge.state with
  | .calling | .sending => s.gaugeUnstable .link
  | _ => s

/-- The station leaves IN_SERVICE: the timer stops and a run ends with cause LINK (R143). -/
def State.gaugeLinkLost (s : State) : State :=
  let s := { s with gauge := { s.gauge with periodTimer := none } }
  if s.gauge.state = .idle then s else s.gaugeUnstable .link

/-- The period timer starts at admission, at a station with a gauge tank (R143). -/
def State.gaugeAdmitted (s : State) : State :=
  if s.gaugeTank.isSome then
    { s with gauge := { s.gauge with periodTimer := some 600000000 } }
  else s

/-- A rising edge on TMP or GAU (R95, R145). -/
def State.dutyMeasurement (n : DutyCell) (t : Nat) (s : State) : State :=
  let r := s.dutyRise n t
  if n = .gau ∧ r.2 = true then r.1.gaugeReading else r.1

/-- 250 ms without an edge on TMP or GAU (R95, R145). -/
def State.dutyCycleTimeout (n : DutyCell) (s : State) : State :=
  if n = .gau then (s.dutyTimeout n).gaugeNoReading else s.dutyTimeout n

end Sys2Proof.Machine
end

