-- ==== Sys2Proof/Machine/Service.lean ====
section
/-! DEFINITION. The service responder (R152 to R154) and the donation stream of a donor (R36 to R38). -/

namespace Sys2Proof.Machine

/-! ## Tables as entries (R37, R153) -/

/-- The entries of a table in increasing key (R37, R153). -/
def Replica.entriesOf (r : Replica) : Table → List Entry
  | .site => [.site r.site]
  | .stations => r.stations.map .station
  | .tanks => r.tanks.map .tank
  | .costCentres => r.costCentres.map .costCentre
  | .machines => r.machines.map .machine
  | .log => r.log.map .record

/-- The entries of the snapshot stream in its fixed order (R37). -/
def Replica.entries (r : Replica) : List Entry :=
  r.entriesOf .site ++ r.entriesOf .stations ++ r.entriesOf .tanks ++ r.entriesOf .costCentres
    ++ r.entriesOf .machines ++ r.entriesOf .log

/-- The counts of SNAP-HEAD (R37). -/
def Replica.counts (r : Replica) : Counts :=
  { site := 1, stations := r.stations.length, tanks := r.tanks.length,
    costCentres := r.costCentres.length, machines := r.machines.length, log := r.log.length }

/-- The entries of a table from a key on; the site record's key is not read (R153). -/
def Replica.entriesFrom (r : Replica) (t : Table) (key : Nat) : List Entry :=
  match t with
  | .site => r.entriesOf .site
  | _ => (r.entriesOf t).filter fun e => decide (key ≤ e.key)

/-! ## Service responder -/

/-- The next DATA of a context and the context after it (R153). -/
def buildData (r : Replica) (c : ServiceContext) : Payload × ServiceContext :=
  match ofCode tableCodes (BitVec.ofNat 8 c.table) with
  | none => (.data c.table r.site.seq [] true, { c with lastBuilt := true })
  | some t =>
    let found := r.entriesFrom t c.position
    let taken := found.take (min 2 c.remaining)
    let remaining := c.remaining - taken.length
    let last := remaining == 0 || (found.drop taken.length).isEmpty
    let position := match taken.getLast? with | some e => e.key + 1 | none => c.position
    (.data c.table r.site.seq taken last, { c with position, remaining, lastBuilt := last })

/-- With no frame of the responder queued: the waiting BUSY is offered, or else the next DATA is built,
unless the last one has been, the freeze flag is set, or the thaw goes on (R152, R154). While a BUSY of the responder
is queued its place is taken, so the first DATA of a READ taken at FREE is built when that BUSY has left (log entry
38). -/
def State.responderPump (s : State) : State :=
  if (s.link.queued .responder).isSome then s else
  match s.responder.waitingBusy with
  | some r =>
    State.offerTo .responder r .busy { s with responder := { s.responder with waitingBusy := none } }
  | none =>
    match s.responder.context with
    | some c =>
      if c.lastBuilt || s.engine.freeze || c.paused then s
      else
        let d := buildData s.replica c
        State.offerTo .responder c.requester d.1
          { s with responder := { s.responder with context := some d.2 } }
    | none => s

/-- A BUSY for a requester: offered, or kept as the waiting BUSY, or dropped (R152). -/
def State.offerBusy (requester : Nat) (s : State) : State :=
  if (s.link.queued .responder).isNone then s.offerTo .responder requester .busy
  else if s.responder.waitingBusy.isNone then
    { s with responder := { s.responder with waitingBusy := some requester } }
  else s

/-- The context that a READ gives; an unknown table or a count outside 1 to 64 gives one with nothing
remaining (R152). -/
def readContext (requester table start count : Nat) : ServiceContext :=
  let known := (ofCode tableCodes (BitVec.ofNat 8 table)).isSome && decide (table < 256)
  if known && decide (1 ≤ count) && decide (count ≤ 64) then
    { requester, table, position := start, remaining := count, lastBuilt := false, paused := false }
  else
    { requester, table, position := start, remaining := 0, lastBuilt := false, paused := false }

/-- The responder takes a READ (R152). -/
def State.takeRead (requester table start count : Nat) (s : State) : State :=
  if s.engine.freeze || s.responder.context.isSome then s.offerBusy requester
  else
    State.responderPump { s with responder :=
      { s.responder with context := some (readContext requester table start count) } }

/-- The outcome of a frame of the responder (R154). -/
def State.responderOutcome (p : Payload) (oc : TxOutcome) (s : State) : State :=
  match p with
  | .data _ _ _ endFlag =>
    if oc = .taken ∧ endFlag = false then s.responderPump
    else State.responderPump { s with responder := { s.responder with context := none } }
  | _ => s.responderPump

/-- The station leaves IN_SERVICE: FREE, no waiting BUSY (R154). -/
def State.responderFree (s : State) : State :=
  { s with responder := { context := none, waitingBusy := none } }

/-! ## Donation -/

/-- The payload of the next frame of a stream (R37). -/
def streamFrame (r : Replica) : StreamNext → Payload
  | .head => .snapHead r.site.seq r.site.keyCheck r.counts
  | .body sent => .snap ((r.entries.drop sent).take 2)
  | .finish => .snapEnd

/-- With no frame of the stream queued: an owed SNAP-ABORT is offered first, then the next frame (R37,
R38). -/
def State.donationPump (s : State) : State :=
  if (s.link.queued .donation).isSome then s else
  match s.engine.abortTo with
  | some j => State.offerTo .donation j .snapAbort { s with engine := { s.engine with abortTo := none } }
  | none =>
    match s.engine.stream with
    | some d =>
      if d.offered then s
      else
        State.offerTo .donation d.joiner (streamFrame s.replica d.next)
          { s with engine := { s.engine with stream := some { d with offered := true } } }
    | none => s

/-- Freeze as the donor of a joiner and begin its stream (R36, R37). -/
def State.freezeFor (joiner : Nat) (keyCheck : Check) (s : State) : State :=
  let d : Stream :=
    { joiner, keyOk := keyCheck == s.replica.site.keyCheck, next := .head, offered := false }
  State.donationPump { s with engine := { s.engine with freeze := true, stream := some d } }

/-- While deferred frames are still to be applied, a stream that was cut by the freeze waits on (R38, R154). -/
def Responder.await (p : Responder) (thawed : Bool) : Responder :=
  { p with context := p.context.map fun c => { c with paused := !thawed } }

/-- The donation ends: the freeze flag is cleared and the thaw starts; recovery, which waited for it, goes on, and a
stream of the responder when the deferred frames are applied (R38, R154, R167). -/
def State.thaw (s : State) : State :=
  let s := { s with
    engine := { s.engine with freeze := false, stream := none }
    responder := s.responder.await s.engine.deferred.isEmpty }
  s.runRecovery.responderPump

/-- SNAP-ABORT is owed to the joiner, and the thaw starts (R38). One that is owed to an earlier joiner still gives way
to it (log entry 18). -/
def State.abortDonation (joiner : Nat) (s : State) : State :=
  (State.donationPump
    { s with engine := { s.engine with stream := none, abortTo := some joiner } }).thaw

/-- The next frame of the stream is due (R37). -/
def State.streamNext (d : Stream) (n : StreamNext) (s : State) : State :=
  State.donationPump
    { s with engine := { s.engine with stream := some { d with next := n, offered := false } } }

/-- What follows the frame that was Taken (R37). -/
def State.streamTaken (d : Stream) (s : State) : State :=
  match d.next with
  | .head => if d.keyOk then s.streamNext d (.body 0) else s.thaw
  | .body sent =>
    if sent + 2 < s.replica.entries.length then s.streamNext d (.body (sent + 2))
    else s.streamNext d .finish
  | .finish => s.thaw

/-- The outcome of a frame of the donation's place in the queue (R38); that of SNAP-ABORT is not acted
on. -/
def State.donationOutcome (p : Payload) (oc : TxOutcome) (s : State) : State :=
  match s.engine.stream with
  | some d =>
    if p = .snapAbort ∨ d.offered = false then s.donationPump
    else if oc = .taken then s.streamTaken d
    else s.abortDonation d.joiner
  | none => s.donationPump

/-- The kinds of the stream that an overflow takes back (R38). -/
def State.withdrawStream (s : State) : State :=
  ((s.withdraw .donation .snapHead).withdraw .donation .snap).withdraw .donation .snapEnd

/-- The 65th replica frame reaches a frozen donor (R36, R38): the donation is aborted. -/
def State.deferOverflow (s : State) : State :=
  match s.engine.stream with
  | some d => s.withdrawStream.abortDonation d.joiner
  | none => s.thaw

end Sys2Proof.Machine
end

