-- ==== Sys2Proof/Machine/Link.lean ====
section
/-! DEFINITION. Link states and what changes with them (R20, R21), the reactions to a frame's outcome (R17), listening,
joining and the founding round as far as they follow from these (R33, R34, R41, R45). -/

namespace Sys2Proof.Machine

/-! ## Changing the link state (R13, R20, R34) -/

/-- The listening period of 4 s starts on entering LISTENING and stops elsewhere (R34). A frame noted in a hold-off that
still runs is forgotten as LISTENING is entered anew (log entry 52). -/
def Engine.onLinkState (e : Engine) (st : LinkState) : Engine :=
  match st with
  | .listening => { e with listenTimer := some 4000000, heardNoted := false, foundSent := false }
  | _ => { e with listenTimer := none }

/-- Change the link state, with its LINK_STATE notice; the consecutive-void count returns to 0 (R13,
R20). -/
def State.setLink (st : LinkState) (r : Reason) (s : State) : State :=
  State.raise (.linkState st r)
    { s with link := { s.link with state := st, reason := r, voidRun := 0 },
             engine := s.engine.onLinkState st }

/-! ## Leaving service and faulting (R17, R18, R21, R28, R143, R154, R165, R184) -/

/-- Everything the link and replica engines drop when the station leaves IN_SERVICE or JOINING, or enters
FAULTED (R17, R18, R21, R28, R38). A census whose slots follow is read on, but neither answered nor
queued. -/
def State.dropQueues (s : State) : State :=
  { s with
    link := { s.link with
      tx := [], kept := [], wire := none, inbound := [], censusTimer := none
      slots := s.link.slots.map fun w => { w with answered := false, queue := false } }
    engine := { s.engine with
      freeze := false, catchUp := [], deferred := [], admitted := false, leavePending := false,
      headTimer := none, joinTimer := none, roundTimer := none, sealTimer := none, join := none,
      round := none, stream := none, abortTo := none } }

/-- A block is told LEFT_SERVICE for its frame (R17, R28). -/
def State.tellLeft (o : Origin) (p : Payload) (s : State) : State :=
  match o with
  | .activity => s.activityFrameLost p
  | .stopPath => s.stopPathOutcome p .leftService
  | _ => s

/-- A block is told LEFT_SERVICE for an own frame that was accepted and not yet applied (R28). -/
def State.tellLost (f : Frame) (s : State) : State := s.activityFrameLost f.payload

/-- The own frames among the queues that are emptied unapplied (R28). -/
def State.ownFrames (s : State) : List Frame :=
  (s.link.inbound ++ s.engine.catchUp ++ s.engine.deferred).filter fun f => f.sender == s.me

/-- The blocks are told what they lose. -/
def State.tellAllLeft (tx : List TxEntry) (kept : List KeptFrame) (own : List Frame) (s : State) :
    State :=
  let s := tx.foldl (fun s e => s.tellLeft e.origin e.payload) s
  let s := kept.foldl (fun s e => s.tellLeft e.origin e.payload) s
  own.foldl (fun s f => s.tellLost f) s

/-- A LEAVE that was queued or awaited its application has another outcome than its application (R184). The notice is no
change of link state, and the reason of the last change stays (R20, log entry 54). -/
def State.leaveFailed (s : State) : State :=
  State.raise (.linkState s.link.state .leaveFailed)
    { s with engine := { s.engine with leavePending := false } }

/-- Whether the own LEAVE is being written: its application is then under way (R28). -/
def State.writesLeave (s : State) : Bool :=
  match s.engine.writing with
  | some w => w.frame.payload == .leave && w.frame.sender == s.me
  | none => false

/-- Leave the present link state for one in which nothing of it goes on: LISTENING after leaving service
or abandoning a join, FAULTED, or OFFLINE (R20, R21, R165). -/
def State.dropOut (st : LinkState) (r : Reason) (s : State) : State :=
  let s' := s.dropQueues.setLink st r
  let s' := if s.inService then s'.activityLinkLost else s'
  let s' := s'.tellAllLeft s.link.tx s.link.kept s.ownFrames
  let s' := if s.engine.leavePending && r != .left && !s.writesLeave then s'.leaveFailed else s'
  let s' := s'.responderFree
  if s.inService then s'.gaugeLinkLost else s'

/-- Leave IN_SERVICE for LISTENING (R21). -/
def State.leaveService (r : Reason) (s : State) : State := s.dropOut .listening r

/-- Enter FAULTED (R20, R21). -/
def State.enterFaulted (r : Reason) (s : State) : State := s.dropOut .faulted r

/-- The join hold-off of 1 s + 50 ms × station number (R34). -/
def State.holdOffPeriod (s : State) : Nat := 1000000 + 50000 * s.me

/-- A joiner abandons its join (R41). -/
def State.abandonJoin (cause : Reason) (s : State) : State :=
  let s := s.dropOut .listening cause
  { s with engine := { s.engine with holdOff := some s.holdOffPeriod } }

/-! ## Membership frames (R34, R40, R44, R46) -/

/-- The JOIN of this station (R34). -/
def State.joinFrame (s : State) : Payload :=
  .join { station := s.me, role := s.role.getD .dispense, hose := s.hose, served := s.served,
          keyCheck := s.keyCheck, retained := s.replica.site.seq }

/-- The ANNOUNCE of this station (R40, R46). -/
def State.announceFrame (founder : Bool) (s : State) : Payload :=
  .announce { founder, role := s.role.getD .dispense, hose := s.hose, served := s.served,
              keyCheck := s.keyCheck }

/-- The FOUND of this station (R34). -/
def State.foundFrame (s : State) : Payload := .found s.replica.site.seq s.keyCheck

/-- A heard frame at a LISTENING station (R34): noted during the hold-off; otherwise a FOUND that waits
is withdrawn and JOIN offered, and the listening timer stops. -/
def State.noteHeard (s : State) : State :=
  if s.engine.holdOff.isSome then { s with engine := { s.engine with heardNoted := true } }
  else
    let s := s.withdraw .membership .found
    let s := { s with engine := { s.engine with listenTimer := none } }
    if (s.link.queued .membership).isSome then s else s.offer .membership s.joinFrame

/-- The listening timer restarts at the end of every frame followed to its end (R34). -/
def State.restartListening (s : State) : State :=
  if s.engine.listenTimer.isSome then
    { s with engine := { s.engine with listenTimer := some 4000000 } }
  else s

/-- A JOIN or FOUND left UNDELIVERED in LISTENING: the listening period restarts as on entering (R34). -/
def State.listenAgain (s : State) : State :=
  if s.link.state = .listening then { s with engine := s.engine.onLinkState .listening } else s

/-- A founding round ends without going into service: LISTENING with a fresh listening period, a queued
FOUND or SEAL withdrawn, or left to run if on the wire (R45, R46). -/
def State.endRound (st : LinkState) (r : Reason) (s : State) : State :=
  let s := (s.withdraw .membership .found).withdraw .membership .sealRound
  let s := { s with link := s.link.dropKept .membership }
  State.setLink st r
    { s with engine := { s.engine with round := none, roundTimer := none, sealTimer := none } }

/-- The own JOIN is accepted: JOINING, with the head timer of 1 s and the join timer of 30 s (R39). -/
def State.enterJoining (s : State) : State :=
  State.setLink .joining .noReason
    { s with engine := { s.engine with
        headTimer := some 1000000, joinTimer := some 30000000, join := none, catchUp := [] } }

/-- The census period of 2 s + 20 ms × station number (R23). -/
def State.censusPeriod (s : State) : Nat := 2000000 + 20000 * s.me

/-- Enter IN_SERVICE (R8, R23, R40, R46): accepted sequence, census timer, and ANNOUNCE; a stop that is
still wanted is offered (R171). -/
def State.enterService (founder : Bool) (s : State) : State :=
  let s := State.setLink .inService .noReason
    { s with link := { s.link with
        acceptedSeq := s.replica.site.seq, censusTimer := some s.censusPeriod } }
  (s.offer .membership (s.announceFrame founder)).offerStop

/-! ## The outcome of an own frame (R17) -/

/-- The outcome of a membership frame (R34, R39, R40, R43, R45). -/
def State.membershipOutcome (p : Payload) (oc : TxOutcome) (s : State) : State :=
  match p, oc with
  | .join _, .accepted => if s.link.state = .listening then s.enterJoining else s
  | .join _, .undelivered => s.listenAgain
  | .found _ _, .accepted => { s with engine := { s.engine with foundSent := true } }
  | .found _ _, .undelivered => s.listenAgain
  | .sealRound _, .undelivered =>
    if s.link.state = .founding then s.endRound .listening .noReason else s
  | .announce _, .undelivered => s.leaveService .notAdmitted
  | .leave, .undelivered => s.leaveFailed
  | _, _ => s

/-- The activity controller's frame left UNDELIVERED (R109, R115, R166, R168, R170). -/
def State.activityUndelivered (p : Payload) (s : State) : State :=
  match p.kind? with
  | some .close => (s.leaveService .closeUndelivered).activityFrameLost p
  | some .deliveryClose => (s.leaveService .closeUndelivered).activityFrameLost p
  | some .adjust => s.adjustUndelivered
  | _ => s.activityFrameLost p

/-- An originating block takes the outcome of its frame (R17). -/
def State.blockOutcome (o : Origin) (p : Payload) (oc : TxOutcome) (s : State) : State :=
  match o with
  | .census => s
  | .membership => s.membershipOutcome p oc
  | .donation => s.donationOutcome p oc
  | .responder => s.responderOutcome p oc
  | .activity => match oc with | .undelivered => s.activityUndelivered p | _ => s
  | .gauge => match oc with | .undelivered => s.gaugeFrameLost | _ => s
  | .stopPath => s.stopPathOutcome p oc

/-- A frame leaves the transmit queue with its outcome; then its block offers a frame that it kept (R14,
R17). -/
def State.frameLeaves (e : TxEntry) (oc : TxOutcome) (s : State) : State :=
  let s := { s with link := s.link.remove e.origin }
  let s := s.blockOutcome e.origin e.payload oc
  { s with link := s.link.offerKept e.origin }

/-- The own frame was void in its window (R12): its count is advanced and the next start held for 24 bit
times; at the sixteenth void it leaves UNDELIVERED. -/
def State.ownVoid (e : TxEntry) (s : State) : State :=
  let s := { s with link := { s.link with wire := none, voidHold := true } }
  if e.voids + 1 < 16 then
    { s with link := { s.link with tx := s.link.tx.map fun x =>
        if x.origin = e.origin then { x with voids := e.voids + 1 } else x } }
  else s.frameLeaves e .undelivered

end Sys2Proof.Machine
end

