-- ==== Sys2Proof/Machine/Engine.lean ====
section
/-! DEFINITION. The replica engine: applying a frame, the retained write and what its completion hands over (R25 to R29,
R33, R36), deferring and catching up (R36, R39), joining (R39 to R41), listening and founding (R34, R44 to R46). -/

namespace Sys2Proof.Machine

/-! ## Applying a frame (R25, R27) -/

/-- The site sequence number that a frame takes: one more, and a free value beyond 2^48 − 1 (R25, log
entry 5). -/
def nextSeq (r : Replica) (free : Nat) : Nat :=
  if r.site.seq < maxSeq then r.site.seq + 1 else (Config.sequenceBeyondLimit free).toNat

/-- The counter of free values after a frame took its sequence. -/
def freeAfterSeq (r : Replica) (free : Nat) : Nat := if r.site.seq < maxSeq then free else free + 1

/-- The retained write that applying a frame comes to (R25, R27). It ends with the fault of R25 when it brings the
number to 2^48 − 1, and, once the number has been there, at every frame until the store is wiped. -/
def applyFrame (r : Replica) (reached : Bool) (f : Frame) (free : Nat) : Writing :=
  let e := applyEffect { r with site := { r.site with seq := nextSeq r free } } f
  { replica := e.1, frame := f, result := e.2,
    limit := reached || decide (maxSeq ≤ r.site.seq + 1) }

/-- The UNKNOWN_KIND notice of a frame (R29). -/
def unknownNotice (f : Frame) (cls : Nat) (kind : Byte) (bytes : List Byte) : NoticeBody :=
  .unknownKind f.sender cls kind f.seq16 bytes.length

/-- What the station itself takes from a frame as it applies it: notices (R29, R172, R173), the local
clock (R158), and the stop wanted again by an asserted ESTOP input (R171). -/
def State.localEffects (f : Frame) (res : ApplyResult) (s : State) : State :=
  match f.payload, res with
  | .unknown cls kind bytes, _ => s.raise (unknownNotice f cls kind bytes)
  | .stop reason, _ => s.raise (.siteStop f.sender reason)
  | .resume, .applied =>
    let s := s.raise .siteResume
    if s.meter.cells.estop.output then s.wantStop false else s
  | .time t, .applied => { s with clock := some t }
  | _, _ => s

/-- The front of the deferred queue, during the thaw, or else of the inbound queue (R38). -/
def State.nextFrame (s : State) : Option Frame :=
  if s.engine.deferred.isEmpty then s.link.inbound.head? else s.engine.deferred.head?

/-- Take the next frame from where it waits. -/
def State.popNext (s : State) : State :=
  if s.engine.deferred.isEmpty then s.popInbound
  else { s with engine := { s.engine with deferred := s.engine.deferred.drop 1 } }

/-- The engine may apply a frame: IN_SERVICE, not frozen, no retained write in progress (R27, R36). -/
def State.mayApply (s : State) : Bool :=
  s.inService && !s.engine.freeze && s.engine.writing.isNone

/-- The replica frame that the engine applies next, if it may apply one. -/
def State.toApply (s : State) : Option Frame :=
  if s.mayApply then
    match s.nextFrame with
    | some f => if f.payload.isReplica then some f else none
    | none => none
  else none

/-- Apply a frame: its effect is computed and its retained write begins (R27). -/
def State.beginWrite (f : Frame) (s : State) : State :=
  let w := applyFrame s.replica s.limitReached f s.free
  let s := s.popNext
  State.localEffects f w.result
    { s with engine := { s.engine with writing := some w }, free := freeAfterSeq s.replica s.free }

/-- A row that applies frames of some kind applies the next frame if it is one (log entries 11, 12). -/
def State.applyRow (sel : Payload → Bool) (s : State) : State :=
  match s.toApply with
  | some f => if sel f.payload then s.beginWrite f else s
  | none => s

/-- A frame of a known kind, malformed ones included. -/
def isKind (k : Kind) (p : Payload) : Bool := p.kind? == some k

/-- A FLOW census. -/
def isFlowCensus : Payload → Bool
  | .census .flow _ _ => true
  | _ => false

/-- A census that is no FLOW census: PRESENT, or malformed. -/
def isPresentCensus (p : Payload) : Bool := isKind .census p && !isFlowCensus p

/-- An ANNOUNCE with the founder flag. -/
def isFounderAnnounce : Payload → Bool
  | .announce a => a.founder
  | _ => false

/-! ## Completion of the retained write (R25, R28, R33, R36) -/

/-- Whether a station's entry is IN_SERVICE after a write. -/
def Replica.admits (r : Replica) (n : Nat) : Bool := r.inService n

/-- The result of an own frame goes to its originating block (R28). -/
def State.handResult (p : Payload) (res : ApplyResult) (s : State) : State :=
  match p with
  | .gauge g => s.gaugeApplied g res
  | .census .flow _ _ => s.gaugeCensus res
  | _ => s.activityResult p res

/-- The station's own LEAVE is applied: OFFLINE with reason LEFT (R43, R58). -/
def State.leaveApplied (s : State) : State := (s.dropOut .offline .left).identOffline

/-- Admission (R33, R143, R167, R171, R185). -/
def State.becomeAdmitted (s : State) : State :=
  let s := { s with engine := { s.engine with admitted := true } }
  let s := s.gaugeAdmitted.raise (.linkState .inService .admitted)
  s.stopAtAdmission.recoverAtAdmission

/-- Whether a frame is an ANNOUNCE. -/
def Payload.isAnnounce : Payload → Bool
  | .announce _ => true
  | .malformed .announce _ => true
  | _ => false

/-- Admission and its loss at the end of a frame's retained write (R33). `was` says whether the own entry
was IN_SERVICE before the frame. -/
def State.standing (was : Bool) (f : Frame) (s : State) : State :=
  let own := f.sender == s.me && f.payload.isAnnounce
  if s.inService = false then s
  else if s.replica.admits s.me then (if own then s.becomeAdmitted else s)
  else if was || own then s.leaveService .notAdmitted
  else s

/-- A JOIN that names this station as donor freezes it (R36). -/
def State.becomeDonor (f : Frame) (res : ApplyResult) (s : State) : State :=
  match f.payload, res with
  | .join j, .applied =>
    if s.inService = true ∧ (s.replica.station? f.sender).bind StationEntry.donor = some s.me then
      s.freezeFor f.sender j.keyCheck
    else s
  | _, _ => s

/-- What the supply and retained record unit takes from a RELEASE or a PRESENT census that the station applies (R151,
R170): each one, a RELEASE applied as no change (its sender is no office, R29) as well, since that is applied and
counted too (00 "Terms"). -/
def State.tellRecovery (f : Frame) (s : State) : State :=
  match f.payload with
  | .release _ | .malformed .release _ => s.releaseApplied
  | .census .present _ _ => s.presentApplied
  | _ => s

/-- Own frames: the result is handed over, and an own LEAVE takes the station OFFLINE (R28, R43). -/
def State.ownApplied (f : Frame) (res : ApplyResult) (s : State) : State :=
  if f.sender = s.me then
    if f.payload = .leave then s.leaveApplied else s.handResult f.payload res
  else s

/-- The thaw is over once the deferred queue is applied and no freeze has begun anew: a stream that the freeze cut
goes on, from the replica as the thaw leaves it (R38, R154). -/
def State.resumeStream (s : State) : State :=
  match s.responder.context with
  | some c =>
    if c.paused = true ∧ s.engine.freeze = false ∧ s.engine.deferred.isEmpty = true then
      let c' : ServiceContext := { c with paused := false }
      State.responderPump { s with responder := { s.responder with context := some c' } }
    else s
  | none => s

/-- The retained write is complete: the replica is the written one, the result goes to its block, and what
the rules hang on the end of the write follows (R25, R28, R33, R36, R151, R154, R170). A frame that reaches the
sequence limit may also take the station out of service (R33, R43); the spec gives no order of the two, and here the
fault comes last (log entry 36). -/
def State.writeDone (w : Writing) (s : State) : State :=
  let was := s.replica.admits s.me
  let s := { s with
    replica := w.replica
    limitReached := s.limitReached || w.limit
    engine := { s.engine with writing := none } }
  let s := (s.ownApplied w.frame w.result).standing was w.frame
  let s := ((s.becomeDonor w.frame w.result).tellRecovery w.frame).resumeStream
  if w.limit then s.enterFaulted .sequenceLimit else s

/-- The retained write in progress completes (R28). -/
def State.completeWrite (s : State) : State :=
  match s.engine.writing with
  | some w => s.writeDone w
  | none => s

/-- The retained write that reaches the sequence limit completes (R25). -/
def State.completeAtLimit (s : State) : State :=
  match s.engine.writing with
  | some w => if w.limit then s.writeDone w else s
  | none => s

/-! ## Deferring and catching up (R36, R39) -/

/-- A frozen donor takes a replica frame from the inbound queue (R36); a 65th aborts the donation (R38). -/
def State.deferFrame (s : State) : State :=
  match s.link.inbound.head? with
  | some f =>
    if s.inService = true ∧ s.engine.freeze = true ∧ s.engine.writing.isNone = true
        ∧ f.payload.isReplica = true then
      if s.engine.deferred.length < 64 then
        let s := s.popInbound
        { s with engine := { s.engine with deferred := s.engine.deferred ++ [f] } }
      else s.deferOverflow
    else s
  | none => s

/-- A joiner takes a replica frame from the inbound queue (R39); a 65th abandons the join (R41). -/
def State.holdForCatchUp (s : State) : State :=
  match s.link.inbound.head? with
  | some f =>
    if s.link.state = .joining ∧ s.engine.writing.isNone = true ∧ f.payload.isReplica = true then
      if s.engine.catchUp.length < 64 then
        let s := s.popInbound
        { s with engine := { s.engine with catchUp := s.engine.catchUp ++ [f] } }
      else s.abandonJoin .catchUpOverflow
    else s
  | none => s

/-! ## Joining (R39 to R41) -/

/-- Take the front of the inbound queue if it is of a kind, and act on it. -/
def State.takeKind (k : Kind) (f : Frame → State → State) (s : State) : State :=
  match s.link.inbound.head? with
  | some x => if x.payload.kind? = some k then f x s.popInbound else s
  | none => s

/-- The engine takes a founding or snapshot frame, if no retained write is in progress (R27). -/
def State.engineTakes (k : Kind) (f : Frame → State → State) (s : State) : State :=
  if s.engine.writing.isNone then s.takeKind k f else s

/-- SNAP-HEAD at a joiner (R39). -/
def State.snapHead (f : Frame) (s : State) : State :=
  if s.link.state ≠ .joining then s else
  match s.engine.join, f.payload with
  | none, .snapHead joinSeq keyCheck counts =>
    if keyCheck ≠ s.keyCheck then s.enterFaulted .keyMismatch
    else
      let area : JoinArea := { donor := f.sender, joinSeq, counts, entries := [] }
      { s with engine := { s.engine with headTimer := none, join := some area } }
  | _, _ => s

/-- Whether an entry continues the fixed order of the stream without a gap or a repeat (R37, R39). A gap is a key that
comes out of its order, or a missing station or cost centre; that a table is skipped, or a tank, machine or record
number passed over, shows at SNAP-END against the counts (log entry 23). -/
def continuesOrder (last : Option Entry) (e : Entry) : Bool :=
  match last, e with
  | none, .site _ => true
  | some (.site _), .station x => x.number == 1
  | some (.station a), .station b => decide (a.number < 31) && b.number == a.number + 1
  | some (.station a), .tank _ => a.number == 31
  | some (.station a), .costCentre c => a.number == 31 && c.number == 0
  | some (.tank a), .tank b => decide (a.number < b.number)
  | some (.tank _), .costCentre c => c.number == 0
  | some (.costCentre a), .costCentre b => decide (a.number < 63) && b.number == a.number + 1
  | some (.costCentre a), .machine _ => a.number == 63
  | some (.costCentre a), .record _ => a.number == 63
  | some (.machine a), .machine b => decide (a.number < b.number)
  | some (.machine _), .record _ => true
  | some (.record a), .record b => decide (a.number < b.number)
  | _, _ => false

/-- Entries added to the join area one after another, absent when the order is broken (R39). -/
def addEntries : List Entry → List Entry → Option (List Entry)
  | have', [] => some have'
  | have', e :: es =>
    if continuesOrder have'.getLast? e then addEntries (have' ++ [e]) es else none

/-- SNAP at a joiner (R39). -/
def State.snap (f : Frame) (s : State) : State :=
  match s.engine.join with
  | none => s
  | some a =>
    if s.link.state ≠ .joining ∨ f.sender ≠ a.donor then s else
    match f.payload with
    | .snap es =>
      match addEntries a.entries es with
      | some entries => { s with engine := { s.engine with join := some { a with entries } } }
      | none => s.abandonJoin .snapFault
    | _ => s.abandonJoin .snapFault

/-- SNAP-ABORT at a joiner (R41). -/
def State.snapAbort (f : Frame) (s : State) : State :=
  match s.engine.join with
  | none => s
  | some a =>
    if s.link.state = .joining ∧ f.sender = a.donor then s.abandonJoin .snapAborted else s

/-- The tables of the join area (R39, R40); absent when the stream was not whole. -/
def JoinArea.replica? (a : JoinArea) : Option Replica :=
  match a.entries with
  | .site x :: rest =>
    let r : Replica :=
      { site := { x with seq := a.joinSeq }
        stations := rest.filterMap fun e => match e with | .station y => some y | _ => none
        tanks := rest.filterMap fun e => match e with | .tank y => some y | _ => none
        costCentres := rest.filterMap fun e => match e with | .costCentre y => some y | _ => none
        machines := rest.filterMap fun e => match e with | .machine y => some y | _ => none
        log := rest.filterMap fun e => match e with | .record y => some y | _ => none }
    if r.counts = a.counts ∧ r.stations.length = 31 ∧ r.costCentres.length = 64 then some r else none
  | _ => none

/-- How the frames that wait at a joiner end (R25, R40 step 3). -/
inductive CaughtUp
  | done | gap | limit
  deriving DecidableEq, Repr

/-- The seq16 check of the catch-up, from which JOIN is exempt (R40). -/
def seqFits (r : Replica) (f : Frame) : Bool :=
  isKind .join f.payload || f.seq16 == BitVec.ofNat 16 (r.site.seq + 1)

/-- The frames that wait at a joiner are applied in order, each checked first (R40 step 3). The retained record unit
is told of a RELEASE here as anywhere (R27, R151, R170). -/
def State.catchUpWith : List Frame → State → State × CaughtUp
  | [], s => (s, .done)
  | f :: fs, s =>
    if seqFits s.replica f then
      let w := applyFrame s.replica s.limitReached f s.free
      let s := State.localEffects f w.result { s with free := freeAfterSeq s.replica s.free }
      let s := { s with replica := w.replica, limitReached := s.limitReached || w.limit }
      let s := s.tellRecovery f
      if w.limit then (s, .limit) else State.catchUpWith fs s
    else (s, .gap)

/-- The replica frames that wait at a joiner, in their order. -/
def State.waitingFrames (s : State) : List Frame :=
  s.engine.catchUp ++ s.link.inbound.filter fun f => f.payload.isReplica

/-- The join is complete: IN_SERVICE, ANNOUNCE, and SUPERSEDED_HISTORY where due (R40). -/
def State.joinDone (retained joinSeq : Nat) (s : State) : State :=
  let s := { s with
    link := { s.link with inbound := [] }
    engine := { s.engine with catchUp := [], join := none, headTimer := none, joinTimer := none } }
  let s := s.enterService false
  if joinSeq < retained then s.raise (.supersededHistory retained joinSeq) else s

/-- The join area becomes the replica and the waiting frames are applied (R40). A gap among them abandons the join,
and the retained replica is again the one from before the JOIN (R41, log entry 19). -/
def State.install (r : Replica) (s : State) : State :=
  let retained := s.replica.site.seq
  let c := State.catchUpWith s.waitingFrames { s with replica := r }
  match c.2 with
  | .done => c.1.joinDone retained r.site.seq
  | .gap => { c.1 with replica := s.replica }.abandonJoin .catchUpGap
  | .limit => c.1.enterFaulted .sequenceLimit

/-- Whether an accepted census still collects its slots for the inbound queue (R22). -/
def State.censusPending (s : State) : Bool :=
  match s.link.slots with
  | some w => w.queue
  | none => false

/-- SNAP-END at a joiner (R40). -/
def State.snapEnd (f : Frame) (s : State) : State :=
  match s.engine.join with
  | none => s
  | some a =>
    if s.link.state ≠ .joining ∨ f.sender ≠ a.donor then s else
    match a.replica? with
    | some r => s.install r
    | none => s.abandonJoin .snapFault

/-- SNAP-END is taken when no accepted census still collects its slots, so that no accepted replica frame
is left out (R40 step 4). -/
def State.takeSnapEnd (s : State) : State :=
  if s.censusPending then s else s.engineTakes .snapEnd State.snapEnd

/-- The head timer runs out (R41). -/
def State.noSnapHead (s : State) : State :=
  if s.link.state = .joining ∧ s.engine.headTimer.isSome = true then s.abandonJoin .noSnapHead else s

/-- The join timer runs out (R41). -/
def State.joinTimeout (s : State) : State :=
  if s.link.state = .joining ∧ s.engine.joinTimer.isSome = true then s.abandonJoin .joinTimeout else s

/-! ## Listening and founding (R34, R44 to R46) -/

/-- 4 s pass in LISTENING with no frame followed to its end (R34). -/
def State.listeningTimeout (s : State) : State :=
  if s.link.state = .listening ∧ s.engine.listenTimer.isSome = true then
    State.offer .membership s.foundFrame { s with engine := { s.engine with listenTimer := none } }
  else s

/-- The join hold-off ends (R34): JOIN is offered for a frame noted in it, in LISTENING alone; a note that ends in another
link state is dropped (log entry 52). -/
def State.holdOffEnd (s : State) : State :=
  if s.engine.holdOff.isSome then
    let noted := s.engine.heardNoted
    let s := { s with engine := { s.engine with holdOff := none, heardNoted := false } }
    if noted = true ∧ s.link.state = .listening then s.noteHeard else s
  else s

/-- The candidate that a FOUND names (R44). -/
def candidateOf (f : Frame) : Option Candidate :=
  match f.payload with
  | .found retained keyCheck => some { station := f.sender, retained, keyCheck }
  | _ => none

/-- The own FOUND is in the transmit queue. -/
def State.foundQueued (s : State) : Bool :=
  match s.link.queued .membership with
  | some e => isKind .found e.payload
  | none => false

/-- A FOUND opens a round at a LISTENING station (R44); the sealer is its sender, which starts its seal
delay on its own FOUND (R46). -/
def State.openRound (c : Candidate) (s : State) : State :=
  let own := c.station == s.me
  let sent := s.engine.foundSent || own
  let r : Round := { sealer := c.station, candidates := [c] }
  let s := s.setLink .founding .noReason
  let s := { s with engine := { s.engine with
    round := some r, roundTimer := some 5000000, foundSent := sent
    sealTimer := if own then some 2000000 else none } }
  if sent || s.foundQueued then s else s.offer .membership s.foundFrame

/-- A FOUND adds a candidate at a FOUNDING station; a second one is ignored (R44). -/
def State.addCandidate (c : Candidate) (r : Round) (s : State) : State :=
  let sent := s.engine.foundSent || c.station == s.me
  let known := r.candidates.any fun x => x.station == c.station
  let r' : Round :=
    if known = false ∧ r.candidates.length < 31 then { r with candidates := r.candidates ++ [c] } else r
  { s with engine := { s.engine with round := some r', foundSent := sent } }

/-- An accepted FOUND is taken (R44), by the link state as it is then: one accepted while FOUNDING and taken after the
round has ended opens a new round (log entry 51). -/
def State.takeFound (f : Frame) (s : State) : State :=
  match candidateOf f, s.link.state, s.engine.round with
  | some c, .listening, _ => s.openRound c
  | some c, .founding, some r => s.addCandidate c r
  | _, _, _ => s

/-- The better of two candidates: the higher retained sequence, among equals the lower station (R46). -/
def Candidate.better (a b : Candidate) : Candidate :=
  if a.retained < b.retained ∨ (a.retained = b.retained ∧ b.station < a.station) then b else a

/-- The winner among candidates (R46). -/
def winnerOf : List Candidate → Option Candidate
  | [] => none
  | c :: cs => some (cs.foldl Candidate.better c)

/-- The SEAL of a round as its candidate list stands (R46). -/
def Round.sealFrame (r : Round) : Option Payload :=
  (winnerOf r.candidates).map fun w =>
    .sealRound { winner := w.station, retained := w.retained, keyCheck := w.keyCheck,
                 candidates := r.candidates.length }

/-- The seal delay of 2 s ends: the sealer offers SEAL (R46). -/
def State.sealDue (s : State) : State :=
  if s.engine.sealTimer.isNone then s else
  let s := { s with engine := { s.engine with sealTimer := none } }
  match s.engine.round.bind Round.sealFrame with
  | some p => if s.link.state = .founding then s.offer .membership p else s
  | none => s

/-- An accepted SEAL is taken (R46), by the link state as it is then: one taken after the round has ended is dropped
(log entry 51). -/
def State.takeSeal (f : Frame) (s : State) : State :=
  if s.link.state ≠ .founding then s else
  match f.payload with
  | .sealRound x =>
    if x.winner = s.me then
      let s := s.withdraw .membership .found
      let s := { s with
        link := s.link.dropKept .membership
        engine := { s.engine with round := none, roundTimer := none, sealTimer := none } }
      s.enterService true
    else if x.keyCheck = s.keyCheck then s.endRound .listening .noReason
    else s.enterFaulted .keyMismatch
  | _ => s

/-- A SEAL has been accepted and waits in the inbound queue (R45, R46). -/
def Link.sealWaits (l : Link) : Bool :=
  l.inbound.any fun f => match f.payload with | .sealRound _ => true | _ => false

/-- The round timer of 5 s runs out (R45): the round is abandoned with no SEAL accepted; an accepted one that waits
decides it when it is taken. -/
def State.roundTimeout (s : State) : State :=
  if s.link.state = .founding ∧ s.engine.roundTimer.isSome = true then
    if s.link.sealWaits then { s with engine := { s.engine with roundTimer := none } }
    else s.endRound .listening .noReason
  else s

/-- A heard frame at a FOUNDING station: the round is abandoned and JOIN offered at once (R45). -/
def State.roundHeard (s : State) : State := (s.endRound .listening .noReason).noteHeard

/-- The service responder takes a READ from the inbound queue (R18, R152); a READ whose bytes are
malformed counts as one of an unknown table (R188). -/
def State.serviceRead (f : Frame) (s : State) : State :=
  if s.inService then
    match f.payload with
    | .read table start count => s.takeRead f.sender table start count
    | _ => s.takeRead f.sender 0 0 0
  else s

end Sys2Proof.Machine
end

