-- ==== Sys2Proof/Machine/Window.lean ====
section
/-! DEFINITION. Starting a frame (R3, R5, R14), the acknowledge windows (R8 to R13), receive errors (R7, R19), number clash
(R6) and the census slots (R22). -/

namespace Sys2Proof.Machine

/-! ## Starting a frame (R3 to R5, R14) -/

/-- The start gap in bit times (R3). -/
def Link.startGap (l : Link) : Nat := if l.lostPlace then 48 else if l.voidHold then 24 else 12

/-- The seq16 that a frame goes on the wire with (R4). -/
def Link.seq16For (l : Link) (p : Payload) : BitVec 16 :=
  if p.isReplica ∧ p.kind? ≠ some .join then BitVec.ofNat 16 (l.acceptedSeq + 1) else 0

/-- The payload that goes on the wire: a SEAL's choice is made anew at each attempt, from the FOUNDs that the FOUND row
has taken by then (R46). R46 does not say when the inbound queue is drained into the candidate list; an accepted FOUND
that still waits there is left out of the choice (log entry 37). -/
def State.wirePayload (p : Payload) (s : State) : Payload :=
  match p, s.engine.round.bind Round.sealFrame with
  | .sealRound _, some q => q
  | _, _ => p

/-- The frame with which the station contends. -/
def State.wireFrame (e : TxEntry) (s : State) : Frame :=
  let p := s.wirePayload e.payload
  { sender := s.me, dest := e.dest, seq16 := s.link.seq16For p, payload := p, map := none }

/-- Contention is lost to a frame that starts one bit earlier or has a lower contention byte (R5). -/
def losesContention (own : Byte) (rivals : List Byte) (early : Bool) : Bool :=
  early || rivals.any fun r => decide (r.toNat < own.toNat)

/-- The station starts a frame (R14): it goes on the wire unless contention is lost. -/
def State.frameStart (idle : Nat) (rivals : List Byte) (early : Bool) (s : State) : State :=
  match s.link.nextToSend with
  | some e =>
    if s.link.wire.isNone = true ∧ s.link.slots.isNone = true ∧ s.link.startGap ≤ idle then
      let f := s.wireFrame e
      let s := { s with link := { s.link with voidHold := false } }
      if losesContention (contentionByte f.payload.cls f.sender) rivals early then s
      else { s with link := { s.link with wire := some { origin := e.origin, frame := f },
                                          lostPlace := false } }
    else s
  | none => s

/-- Another sender of the same number shows in the read-back after the contention byte (R6). -/
def State.numberClash (rival : List Bit) (s : State) : State :=
  match s.link.wire with
  | some w =>
    if readsDominant ((wireBits w.frame).drop (contentionEnd w.frame)) rival then
      State.enterFaulted .numberClash { s with link := s.link.countError .clash }
    else s
  | none => s

/-! ## Abandoned and truncated frames (R2, R7) -/

/-- Whether the station follows frames of others now. -/
def State.follows (s : State) : Bool :=
  s.link.state != .offline && s.link.wire.isNone && s.link.slots.isNone

/-- An error that ends a frame before its window is counted, and the 48-bit gap is owed (R3, R7). -/
def State.losePlace (e : RxError) (s : State) : State :=
  { s with link := { s.link.countError e with lostPlace := true } }

/-- A receiver abandons a frame (R7). -/
def State.frameAbandoned (rx : List Bit) (s : State) : State :=
  if s.follows then
    match receive rx with
    | .abandoned e => s.losePlace e
    | _ => s
  else s

/-- The bus stays recessive inside a frame (R2, R7). -/
def State.truncatedFrame (rx : List Bit) (s : State) : State :=
  if s.follows then
    match receive rx with
    | .truncated e => s.losePlace e
    | _ => s
  else s

/-! ## The slots of a window (R8 to R11, R13) -/

/-- The outcome of a replica frame's window (R9). -/
inductive WindowOutcome
  | accepted | voidByVoid | voidByStep
  deriving DecidableEq, Repr

/-- The outcome read from the three slots (R9). -/
def windowOutcome (x : Slots) : WindowOutcome :=
  if x.void then .voidByVoid else if x.step && !x.accept then .voidByStep else .accepted

/-- What a station drives in a window. -/
inductive Drive
  | accept | step | void | nothing
  deriving DecidableEq, Repr

/-- The slots on the bus: those of the others and the own one (R1). -/
def busSlots (x : Slots) : Drive → Slots
  | .accept => { x with accept := true }
  | .step => { x with step := true }
  | .void => { x with void := true }
  | .nothing => x

/-- The category of a frame (R4). -/
inductive Category
  | replica | founding | service
  deriving DecidableEq, Repr

/-- The category of a frame (R4). -/
def Payload.category (p : Payload) : Category :=
  if p.isFounding then .founding else if p.isReplica then .replica else .service

/-- The frame was not good, or there is no room for it (R8, R10, R11). -/
def Link.mustVoid (l : Link) (r : RxFrame) : Bool := r.error.isSome || decide (8 ≤ l.inbound.length)

/-- The slot driven in a replica frame's window, IN_SERVICE (R8). -/
def Link.replicaDrive (l : Link) (r : RxFrame) : Drive :=
  if l.mustVoid r then .void
  else if isKind .join r.frame.payload then .accept
  else if r.frame.seq16 = BitVec.ofNat 16 (l.acceptedSeq + 1) then .accept
  else .step

/-- The service kinds that a link state takes (R11). -/
def LinkState.takes (st : LinkState) (p : Payload) : Bool :=
  match st with
  | .inService => isKind .read p
  | .joining => isKind .snapHead p || isKind .snap p || isKind .snapEnd p || isKind .snapAbort p
  | _ => false

/-- What the station drives in the window of a frame it has followed as a receiver (R8, R10, R11). -/
def State.drive (r : RxFrame) (s : State) : Drive :=
  match r.frame.payload.category, s.link.state with
  | .replica, .inService => s.link.replicaDrive r
  | .founding, .listening => if s.link.mustVoid r then .void else .nothing
  | .founding, .founding => if s.link.mustVoid r then .void else .nothing
  | .service, .offline => .nothing
  | .service, .faulted => .nothing
  | .service, st =>
    if r.frame.dest ≠ s.me then .nothing
    else if s.link.mustVoid r then .void
    else if st.takes r.frame.payload then .accept
    else .nothing
  | _, _ => .nothing

/-- The consecutive-void count after a window (R13). -/
def State.countVoids (d : Drive) (s : State) : State :=
  match d with
  | .void =>
    if s.link.voidRun + 1 < 8 then { s with link := { s.link with voidRun := s.link.voidRun + 1 } }
    else if s.inService then s.leaveService .receiveFailure
    else { s with link := { s.link with voidRun := 0 } }
  | .nothing => s
  | _ => { s with link := { s.link with voidRun := 0 } }

/-! ## Replica frames (R8, R9, R16, R18, R22, R23) -/

/-- A frame is a CENSUS(PRESENT). -/
def Payload.callsPresent : Payload → Bool
  | .census .present _ _ => true
  | _ => false

/-- An accepted PRESENT census restarts the census timer and withdraws the own one that waits (R16,
R23). -/
def State.presentAccepted (s : State) : State :=
  let s := { s with link := { s.link with censusTimer := some s.censusPeriod } }
  s.withdraw .census .census

/-- A census that is accepted: its slots follow, and every station that followed it reads them (R22); `queue` says
whether the frame goes into the inbound queue behind them. -/
def State.censusAccepted (f : Frame) (queue : Bool) (s : State) : State :=
  let w : SlotWait := { frame := f, answered := s.answersCensus f.payload, queue }
  { s with link := { s.link with slots := some w } }

/-- The slots behind an accepted frame of which nothing is placed in the inbound queue: those of a CENSUS are read, by a
station that is out of service as the window ends (R21, R22). -/
def State.slotsFollow (f : Frame) (s : State) : State :=
  if isKind .census f.payload then s.censusAccepted f false else s

/-- An accepted replica frame at an IN_SERVICE station (R8, R9, R172). R8 gives the accepted sequence 48 bits and does
not say what follows 2^48 − 1; here it counts on, and only its low 48 bits are shown (log entry 5). -/
def State.acceptReplica (f : Frame) (s : State) : State :=
  let s := { s with link := { s.link with acceptedSeq := s.link.acceptedSeq + 1 } }
  if isKind .census f.payload then
    let s := s.censusAccepted f true
    if f.payload.callsPresent then s.presentAccepted else s
  else
    let s := { s with link := s.link.enqueue f }
    if f.isStop then s.stopAccepted else s

/-- An accepted replica frame at a JOINING station (R9, R18, R22): with 8 entries waiting it is lost to the station,
whether it was good here or not, and the join is abandoned before the slots (R21). The slots of a CENSUS are read and answered either way; only a good frame is placed
in the inbound queue (log entry 30). -/
def State.joiningReplica (r : RxFrame) (s : State) : State :=
  if 8 ≤ s.link.inbound.length then (s.abandonJoin .catchUpOverflow).slotsFollow r.frame
  else if isKind .census r.frame.payload then s.censusAccepted r.frame r.error.isNone
  else if r.error.isSome then s
  else { s with link := s.link.enqueue r.frame }

/-- A replica frame followed to its window at a LISTENING station (R22, R34); the slots of an accepted CENSUS are
read, good or not. -/
def State.listeningReplica (r : RxFrame) (x : Slots) (s : State) : State :=
  if windowOutcome x ≠ .accepted then s
  else
    let s := s.slotsFollow r.frame
    if isKind .join r.frame.payload && !x.accept then s else s.noteHeard

/-- A replica frame followed to its window at a FOUNDING station (R22, R45); the slots of an accepted CENSUS are read,
good or not. -/
def State.foundingReplica (r : RxFrame) (x : Slots) (s : State) : State :=
  if windowOutcome x ≠ .accepted then s
  else
    let s := s.slotsFollow r.frame
    if isKind .join r.frame.payload then s else s.roundHeard

/-- What a receiver takes from the window of a replica frame, all slots `x` read (R9); one that finds itself out of step
leaves service before the slots of a CENSUS, reads them and does not answer (R21, R22). -/
def State.receiverReplica (r : RxFrame) (d : Drive) (x : Slots) (s : State) : State :=
  match s.link.state with
  | .inService =>
    match d, windowOutcome x with
    | .accept, .accepted => s.acceptReplica r.frame
    | .step, .accepted => (s.leaveService .outOfStep).slotsFollow r.frame
    | _, _ => s
  | .joining => if windowOutcome x = .accepted then s.joiningReplica r else s
  | .listening => s.listeningReplica r x
  | .founding => s.foundingReplica r x
  | _ => s

/-! ## Founding and service frames (R10, R11) -/

/-- What a receiver takes from the window of a founding frame (R10). -/
def State.receiverFounding (r : RxFrame) (x : Slots) (s : State) : State :=
  match s.link.state with
  | .listening | .founding =>
    if x.void then s else { s with link := s.link.enqueue r.frame }
  | _ => s

/-- What the addressee takes from the window of a service frame (R11). -/
def State.receiverService (r : RxFrame) (d : Drive) (s : State) : State :=
  match d with
  | .accept => { s with link := s.link.enqueue r.frame }
  | _ => s

/-! ## The end of a window -/

/-- The error of a followed frame is counted, and the station has its place again (R3, R7, R34). -/
def State.followed (r : RxFrame) (s : State) : State :=
  let l := match r.error with
    | some e => s.link.countError e
    | none => s.link
  State.restartListening { s with link := { l with lostPlace := false } }

/-- The end of the window of a frame followed as a receiver; `x` is what the others drive (R8 to R13). -/
def State.receiverWindow (r : RxFrame) (x : Slots) (s : State) : State :=
  let s := s.followed r
  let d := s.drive r
  let s' := s.countVoids d
  if d = .void then s'
  else
    match r.frame.payload.category with
    | .replica => s'.receiverReplica r d (busSlots x d)
    | .founding => s'.receiverFounding r (busSlots x d)
    | .service => s'.receiverService r d

/-- The own replica frame is accepted (R9). -/
def State.ownAccepted (e : TxEntry) (f : Frame) (s : State) : State :=
  let s := if s.inService then s.acceptReplica f else s
  s.frameLeaves e .accepted

/-- The end of the window of an own replica frame (R9, R12). -/
def State.ownReplica (e : TxEntry) (f : Frame) (x : Slots) (s : State) : State :=
  match windowOutcome x with
  | .accepted => s.ownAccepted e f
  | .voidByVoid => s.ownVoid e
  | .voidByStep =>
    if s.inService then s.leaveService .outOfStep else (s.frameLeaves e .leftService).listenAgain

/-- The end of the window of an own founding frame (R10). -/
def State.ownFounding (e : TxEntry) (f : Frame) (x : Slots) (s : State) : State :=
  if x.void then s.ownVoid e
  else
    let s := if s.link.state = .listening ∨ s.link.state = .founding then
      { s with link := s.link.enqueue f } else s
    s.frameLeaves e .accepted

/-- The end of the window of an own service frame (R11). -/
def State.ownService (e : TxEntry) (x : Slots) (s : State) : State :=
  if x.void then s.ownVoid e
  else if x.accept then s.frameLeaves e .taken
  else s.frameLeaves e .notTaken

/-- The end of the window of the own frame on the wire. -/
def State.ownWindow (w : OnWire) (x : Slots) (s : State) : State :=
  match s.link.queued w.origin with
  | some e =>
    match w.frame.payload.category with
    | .replica => s.ownReplica e w.frame x
    | .founding => s.ownFounding e w.frame x
    | .service => s.ownService e x
  | none => s

/-- The window of a frame of a category ends: the own frame on the wire, or the frame that the bits read
give (R9 to R11). -/
def State.window (k : Category) (rx : List Bit) (x : Slots) (s : State) : State :=
  match s.link.wire with
  | some w => if w.frame.payload.category = k then s.ownWindow w x else s
  | none =>
    if s.follows then
      match receive rx with
      | .window r => if r.frame.payload.category = k then s.receiverWindow r x else s
      | _ => s
    else s

/-- The window in which the own frame is void for the sixteenth time (R12). -/
def State.undelivered (x : Slots) (s : State) : State :=
  match s.link.wire with
  | some w =>
    match s.link.queued w.origin with
    | some e => if x.void = true ∧ e.voids = 15 then s.ownWindow w x else s
    | none => s
  | none => s

/-- The window with which the consecutive-void count reaches 8 (R13). -/
def State.receiveFailure (rx : List Bit) (x : Slots) (s : State) : State :=
  if s.follows = true ∧ s.link.voidRun = 7 then
    match receive rx with
    | .window r => if s.drive r = .void then s.receiverWindow r x else s
    | _ => s
  else s

/-! ## Census slots and timer (R22, R23) -/

/-- Slot 31 ends (R22): an own PRESENT slot read back recessive faults the station; otherwise the census
enters the inbound queue with its map. -/
def State.slotsEnd (map : BitVec 32) (s : State) : State :=
  match s.link.slots with
  | some w =>
    let s := { s with link := { s.link with slots := none } }
    if w.answered && w.frame.payload.callsPresent && !map.getLsbD s.me then
      s.enterFaulted .ownSlotSilent
    else if w.queue then { s with link := s.link.enqueue { w.frame with map := some map } }
    else s
  | none => s

/-- The census timer runs out (R23). -/
def State.censusTimeout (s : State) : State :=
  if s.link.censusTimer.isSome then
    let s := { s with link := { s.link with censusTimer := some s.censusPeriod } }
    if (s.link.queued .census).isSome then s else s.offer .census (.census .present 0 s.clock)
  else s

end Sys2Proof.Machine
end

