-- ==== Sys2Proof/Machine/Report.lean ====
section
/-! DEFINITION. The bodies of the console port: replies, notices and the STATUS report (R175, R182, R185, 11.8; log entry
15), and the configuration record (R178, R179, 11.8). -/

namespace Sys2Proof.Machine

/-! ## Replies (R175, 11.8) -/

/-- A reply: code, two-byte length, body. -/
def replyBytes (code : Byte) (body : List Byte) : List Byte := code :: leBytes 2 body.length ++ body

/-- DONE with its body. -/
def doneReply (body : List Byte) : List Byte := replyBytes 0x80 body

/-- REFUSED with a reason. -/
def refusedReply (r : Reason) : List Byte := replyBytes 0x81 [r.code]

/-- REFUSED(BAD_CONFIG, field). -/
def badConfigReply (field : Nat) : List Byte :=
  replyBytes 0x81 [Reason.code .badConfig, BitVec.ofNat 8 field]

/-- BAD_REQUEST. -/
def badRequestReply : List Byte := replyBytes 0x82 []

/-- WRONG_STATE. -/
def wrongStateReply : List Byte := replyBytes 0x83 []

/-! ## Field widths (11.8) -/

/-- A state with its reason byte, NONE without one. -/
def actStateBytes (st : ActState) : List Byte :=
  match st with
  | .refused r => [st.code, r.code]
  | .faulted => [st.code, Reason.code .valve]
  | _ => [st.code, 0]

/-- The state of the identification controller with its reason byte. -/
def idStateBytes (st : IdState) : List Byte :=
  match st with
  | .failed r => [st.code, r.code]
  | _ => [st.code, 0]

/-- A reason that may be absent, NONE then. -/
def reasonOr (r : Option Reason) : Byte := (r.getD .noReason).code

/-- A tag error signature (11.8): line code, attempts, error. Before any transaction the code and the attempts read 0
(log entry 15). -/
def signatureBytes (x : Signature) : List Byte :=
  [match x.command with
    | some .ident => 0x31 | some .unlock => 0x32 | some (.read _ _) => 0x33 | some .stage => 0x34
    | some .commit => 0x35 | some .relock => 0x36 | none => 0x00,
   BitVec.ofNat 8 x.attempts, x.error.code]

/-- An identification result without its optional fields' presence bits (R64). -/
def resultBytes (r : IdResult) : List Byte :=
  [codeIn idModeCodes r.mode] ++ leBytes 2 r.number ++ leBytes 1 r.grade ++ leBytes 4 r.capacity
    ++ optBytes (leBytes 4) r.hours ++ optBytes (leBytes 1) r.level

/-! ## Notices (R185, 11.8) -/

/-- The code of a notice kind (11.8). -/
def NoticeBody.kindCode : NoticeBody → Byte
  | .fillState _ => 0x01 | .deliveryState _ => 0x02 | .ident _ => 0x03 | .tagWritten _ => 0x04
  | .tagNotWritten _ _ => 0x05 | .linkState _ _ => 0x06 | .siteStop _ _ => 0x07 | .siteResume => 0x08
  | .gaugeResult _ _ _ _ _ => 0x09 | .gaugeUnstable _ => 0x0A | .flowUnauth _ => 0x0B
  | .glitch _ => 0x0C | .fault _ => 0x0D | .unknownKind _ _ _ _ _ => 0x0E
  | .supersededHistory _ _ => 0x0F | .recordUnmatched _ _ _ => 0x10

/-- The optional fields of a notice, in its order. An end reason that is not fixed yet is an absent field in FILL_STATE
and DELIVERY_STATE, and not the reason NONE (log entry 15). -/
def NoticeBody.present : NoticeBody → List Bool
  | .fillState x =>
    [x.endReason.isSome, x.party.isSome, x.openSeq.isSome, x.comp.isSome, x.rate.isSome]
  | .deliveryState x =>
    [x.endReason.isSome, x.party.isSome, x.namedTank.isSome, x.declared.isSome, x.openSeq.isSome,
      x.comp.isSome, x.rate.isSome]
  | .ident x =>
    [x.result.isSome, (x.result.bind IdResult.hours).isSome, (x.result.bind IdResult.level).isSome,
      x.block.isSome, x.fleetData.isSome, x.signature.isSome]
  | .gaugeResult g _ _ variance _ => [g.temperature.isSome, variance.isSome]
  | _ => []

/-- The fields of FILL_STATE (R101). An end reason that is not fixed yet takes no byte, by its presence bit: R101 says no
more than "once one has been fixed" (log entry 15). -/
def fillStateBytes (x : ActivityNotice) : List Byte :=
  actStateBytes x.state ++ optBytes (fun r => [Reason.code r]) x.endReason
    ++ optBytes (leBytes 2) x.party
    ++ (if x.party.isSome then [codeIn idModeCodes (x.mode.getD .tag)] else [])
    ++ optBytes (leBytes 6) x.openSeq
    ++ (if x.openSeq.isSome then leBytes 4 (x.granted.getD 0) else [])
    ++ leInt 4 x.gross ++ optBytes (leInt 4) x.comp ++ optBytes (leBytes 4) x.rate

/-- The fields of DELIVERY_STATE (R132); an end reason that is not fixed yet takes no byte (log entry 15). -/
def deliveryStateBytes (x : ActivityNotice) : List Byte :=
  actStateBytes x.state ++ optBytes (fun r => [Reason.code r]) x.endReason
    ++ optBytes (leBytes 2) x.party ++ optBytes (leBytes 1) x.namedTank
    ++ optBytes (leBytes 4) x.declared ++ optBytes (leBytes 6) x.openSeq
    ++ (if x.openSeq.isSome then leBytes 4 (x.granted.getD 0) else [])
    ++ leInt 4 x.gross ++ optBytes (leInt 4) x.comp ++ optBytes (leBytes 4) x.rate

/-- The fields of IDENT (R57, R64, 11.7), one layout for all its raising rules (log entry 15). -/
def identBytes (x : IdentNotice) : List Byte :=
  [x.event.code] ++ optBytes resultBytes x.result
    ++ optBytes (fun (b : IdentBlock) => leBytes 6 b.serial.toNat ++ leBytes 4 b.issue.toNat) x.block
    ++ optBytes (fun d => leBytes 6 d.toNat) x.fleetData ++ [codeIn idModeCodes x.mode]
    ++ optBytes signatureBytes x.signature

/-- The fields of a notice, in the order of its raising rule. -/
def NoticeBody.fieldBytes : NoticeBody → List Byte
  | .fillState x => fillStateBytes x
  | .deliveryState x => deliveryStateBytes x
  | .ident x => identBytes x
  | .tagWritten record => leBytes 4 record
  | .tagNotWritten reason record => [reason.code] ++ leBytes 4 record
  | .linkState st r => [codeIn linkStateCodes st, r.code]
  | .siteStop origin reason => leBytes 1 origin ++ [reason]
  | .siteResume => []
  | .gaugeResult g recorded reconciled variance suspect =>
    leBytes 1 g.tank ++ leBytes 2 g.level ++ leInt 4 g.volume ++ optBytes (leInt 2) g.temperature
      ++ leBytes 6 g.census ++ [flagByte recorded, flagByte reconciled]
      ++ optBytes (leInt 4) variance ++ [flagByte suspect]
  | .gaugeUnstable cause => [cause.code]
  | .flowUnauth v => leBytes 4 v
  | .glitch n => [codeIn cellCodes n]
  | .fault cause => [cause.code]
  | .unknownKind sender cls kind seq16 length =>
    leBytes 1 sender ++ leBytes 1 cls ++ [kind] ++ leBytes 2 seq16.toNat ++ leBytes 1 length
  | .supersededHistory retained joinSeq => leBytes 6 retained ++ leBytes 6 joinSeq
  | .recordUnmatched openSeq kind gross =>
    leBytes 6 openSeq ++ [codeIn activityKindCodes kind] ++ leInt 4 gross

/-- The body of a NOTICE reply (11.8, R188): presence byte, lost flag, and the notice, if there is one. -/
def noticeReplyBody (n : Option Notice) (lost : Bool) : List Byte :=
  match n with
  | none => [presence [false], flagByte lost]
  | some x =>
    [presence (true :: x.body.present), flagByte lost, x.body.kindCode] ++ leBytes 6 x.seq
      ++ x.body.fieldBytes

/-! ## STATUS (R182) -/

/-- The group "link". -/
def statusLink (l : Link) : List Byte :=
  [codeIn linkStateCodes l.state, l.reason.code] ++ leBytes 6 l.acceptedSeq
    ++ leBytes 2 l.errors.sync ++ leBytes 2 l.errors.stuff ++ leBytes 2 l.errors.check
    ++ leBytes 2 l.errors.length ++ leBytes 2 l.errors.truncated ++ leBytes 2 l.errors.clash
    ++ leBytes 1 l.tx.length ++ leBytes 1 l.inbound.length

/-- The groups "replica" and "supply". -/
def statusReplica (s : State) : List Byte :=
  leBytes 6 s.replica.site.seq ++ [flagByte s.engine.freeze, flagByte s.engine.admitted]
    ++ leBytes 1 s.engine.catchUp.length ++ leBytes 1 s.engine.deferred.length
    ++ [codeIn supplyCodes s.supply.state]

/-- The eight filtered outputs as one byte: the bit of value 2^n for the cell of code n (11.8). -/
def Cells.outputByte (c : Cells) : Byte :=
  presence [c.a.output, c.b.output, c.c.output, c.noz.output, c.cpl.output, c.estop.output,
    c.svm.output, c.dhs.output]

/-- A glitch record: flag byte and count byte (11.8). -/
def FilterCell.glitchBytes (x : FilterCell) : List Byte :=
  [flagByte x.glitch, BitVec.ofNat 8 x.glitches]

/-- The group "inputs". -/
def statusInputs (m : Meter) : List Byte :=
  [m.cells.outputByte] ++ m.cells.a.glitchBytes ++ m.cells.b.glitchBytes ++ m.cells.c.glitchBytes
    ++ m.cells.noz.glitchBytes ++ m.cells.cpl.glitchBytes ++ m.cells.estop.glitchBytes
    ++ m.cells.svm.glitchBytes ++ m.cells.dhs.glitchBytes ++ leBytes 2 m.phaseErrors
    ++ optBytes (leInt 2) m.tmp.reading ++ optBytes (leInt 2) m.gau.reading

/-- The group "meter". -/
def statusMeter (m : Meter) : List Byte :=
  leInt 4 m.gross ++ leInt 4 m.reverse ++ optBytes (leInt 4) m.reportedComp
    ++ optBytes (leBytes 4) m.flowRate ++ leBytes 6 m.unauthVolume ++ [flagByte m.episode]

/-- The group "identification". -/
def statusIdent (s : State) : List Byte :=
  idStateBytes s.ident.state
    ++ optBytes (fun (c : Inlet) => [codeIn idModeCodes c.mode]) s.ident.context
    ++ [codeIn unlockCodes s.unlock] ++ signatureBytes s.port.signature

/-- The compare points (R111). -/
def pointsBytes (p : ComparePoints) : List Byte :=
  leInt 4 p.slowDown ++ leInt 4 p.stop ++ leInt 4 p.progress ++ leInt 4 p.overrun

/-- One of the timers of the activity as STATUS reports it: 0 when stopped, a free value when running (log entry
15). -/
def timerBytes (free : Nat) (t : Timer) : List Byte :=
  leBytes 4 (if t.isSome then (Config.timerReading free).toNat else 0)

/-- The parts of the context that both controllers end with (section 6.1, R100, R132): end reason and pending end
reason, fault-pending mark, the four timers, link-lost mark. -/
def contextTail (free : Nat) (a : Activity) : List Byte :=
  [reasonOr a.endReason, reasonOr a.pendingEnd, flagByte a.faultPending]
    ++ timerBytes free a.noFlow ++ timerBytes (free + 1) a.full ++ timerBytes (free + 2) a.settle
    ++ timerBytes (free + 3) a.limit ++ [flagByte a.linkLost]

/-- The context of the fill controller, its presence byte first (R100). -/
def fillContextBytes (free : Nat) (a : Activity) : List Byte :=
  [presence [a.result.isSome, (a.result.bind IdResult.hours).isSome,
    (a.result.bind IdResult.level).isSome, a.requested.isSome, a.preset.isSome, a.openSeq.isSome,
    a.points.isSome, a.stopVolume.isSome]]
    ++ optBytes resultBytes a.result ++ optBytes (leBytes 4) a.requested
    ++ optBytes (leBytes 4) a.preset ++ optBytes (leBytes 6) a.openSeq
    ++ (if a.openSeq.isSome then leBytes 4 (a.granted.getD 0) else [])
    ++ optBytes pointsBytes a.points ++ optBytes (leInt 4) a.stopVolume ++ contextTail free a

/-- The context of the delivery controller, its presence byte first (R132). The named tank and the declared volume
share one bit of it (log entry 15). -/
def deliveryContextBytes (free : Nat) (a : Activity) : List Byte :=
  [presence [a.result.isSome, (a.result.bind IdResult.hours).isSome,
    (a.result.bind IdResult.level).isSome, a.namedTank.isSome, a.lastTank.isSome, a.openSeq.isSome,
    a.points.isSome, a.stopVolume.isSome]]
    ++ optBytes resultBytes a.result ++ optBytes (leBytes 1) a.namedTank
    ++ (if a.namedTank.isSome then leBytes 4 (a.declared.getD 0) else [])
    ++ optBytes (leBytes 1) a.lastTank ++ optBytes (leBytes 6) a.openSeq
    ++ (if a.openSeq.isSome then leBytes 4 (a.granted.getD 0) else [])
    ++ optBytes pointsBytes a.points ++ optBytes (leInt 4) a.stopVolume ++ contextTail free a

/-- The groups "activity" and "gauge". -/
def statusActivity (s : State) : List Byte :=
  actStateBytes s.activity.state
    ++ (match s.role with
        | some .receipt => deliveryContextBytes s.free s.activity
        | _ => fillContextBytes s.free s.activity)
    ++ [flagByte s.activity.faultPending, codeIn gaugeStateCodes s.gauge.state]

/-- The retained activity record, its presence byte first, and its phase (R163). -/
def recordBytes (r : ActRecord) (phase : RecordPhase) : List Byte :=
  [presence [r.comp.isSome, r.endReason.isSome], codeIn activityKindCodes r.kind]
    ++ leBytes 6 r.openSeq ++ leBytes 2 r.party ++ leBytes 1 r.tank ++ leBytes 4 r.volume
    ++ leInt 4 r.gross ++ optBytes (leInt 4) r.comp ++ leBytes 4 r.progress
    ++ optBytes (fun x => [Reason.code x]) r.endReason
    ++ [codeIn idModeCodes r.mode, codeIn phaseCodes phase]

/-- The group "console". -/
def statusConsole (s : State) : List Byte :=
  optBytes (fun (c : Settings) => leBytes 2 (keyCheckOf c.key).toNat) s.console.config
    ++ [flagByte s.console.started] ++ leBytes 1 s.console.notices.length
    ++ [flagByte s.console.lost] ++ optBytes (leBytes 4) s.clock ++ [flagByte s.clock.isSome]

/-- The tanks of the local replica, a presence byte first: R127 has STATUS report the book stock and the reserved
volume, whose difference is the available stock, with the entry (log entry 15). -/
def statusTanks (r : Replica) : List Byte :=
  [presence ((List.range' 1 8).map fun n => (r.tank? n).isSome)]
    ++ r.tanks.flatMap fun t => encodeEntry (.tank t)

/-- The body of a STATUS reply: the groups of R182 in their table order (11.8), and the tanks (R127). -/
def State.statusBody (s : State) : List Byte :=
  [presence [s.meter.tmp.reading.isSome, s.meter.gau.reading.isSome, s.meter.reportedComp.isSome,
    s.meter.flowRate.isSome, s.ident.context.isSome, s.supply.record.isSome,
    s.console.config.isSome, s.clock.isSome]]
    ++ statusLink s.link ++ statusReplica s ++ statusInputs s.meter ++ statusMeter s.meter
    ++ statusIdent s ++ statusActivity s
    ++ optBytes (fun r => recordBytes r s.supply.phase) s.supply.record ++ statusConsole s
    ++ statusTanks s.replica

/-! ## The configuration record (R178, 11.8) -/

/-- A configuration record as read, before its fields are checked. -/
structure RawConfig where
  station : Nat
  role : Role
  rate : Byte
  hose : Option Nat
  served : Option (BitVec 8)
  pulse : Nat
  sensors : Byte
  filters : List (Byte × Nat)
  factors : List Nat
  tmp : Bool
  gaugeTank : Option Nat
  gaugeFactor : Option Nat
  strapping : Option (List (Nat × Nat))
  slowDown : Nat
  anticipation : Nat
  overrun : Nat
  progressStep : Nat
  key : SiteKey
  deriving DecidableEq, Repr

/-- `n` things read one after another. -/
def parseMany {α : Type} (p : Parse α) : Nat → Parse (List α)
  | 0 => pure []
  | n + 1 => do
    let x ← p
    let xs ← parseMany p n
    return x :: xs

/-- One filter setting: mode and threshold. -/
def parseFilter : Parse (Byte × Nat) := do
  let mode ← parseByte
  let threshold ← parseNat 2
  return (mode, threshold)

/-- One strapping point: level and volume. -/
def parsePoint : Parse (Nat × Nat) := do
  let level ← parseNat 2
  let volume ← parseNat 4
  return (level, volume)

/-- The strapping table: point count, then the points. -/
def parseStrapping : Parse (List (Nat × Nat)) := do
  let n ← parseNat 1
  parseMany parsePoint n

/-- The configuration record in the order of R178 (11.8). -/
def parseConfig : Parse RawConfig := do
  let p ← parsePresence 5
  let station ← parseNat 1
  let role ← parseCode (ofCode roleCodes)
  let rate ← parseByte
  let hose ← parseOpt (p.getLsbD 0) (parseNat 1)
  let served ← parseOpt (p.getLsbD 1) parseTankSet
  let pulse ← parseNat 2
  let sensors ← parseByte
  let filters ← parseMany parseFilter 8
  let factors ← parseMany (parseNat 2) 9
  let tmp ← parseFlag
  let gaugeTank ← parseOpt (p.getLsbD 2) (parseNat 1)
  let gaugeFactor ← parseOpt (p.getLsbD 3) (parseNat 2)
  let strapping ← parseOpt (p.getLsbD 4) parseStrapping
  let slowDown ← parseNat 2
  let anticipation ← parseNat 1
  let overrun ← parseNat 2
  let progressStep ← parseNat 2
  let key ← parseNat 8
  return { station, role, rate, hose, served, pulse, sensors, filters, factors, tmp, gaugeTank,
           gaugeFactor, strapping, slowDown, anticipation, overrun, progressStep,
           key := BitVec.ofNat 64 key }

/-- A value lies in a range. -/
def within (lo hi v : Nat) : Bool := decide (lo ≤ v) && decide (v ≤ hi)

/-- An optional field that is required in one case and must be absent otherwise (R178). -/
def requiredWhen {α : Type} (c : Bool) (ok : α → Bool) : Option α → Bool
  | some v => c && ok v
  | none => !c

/-- Levels strictly ascending, volumes not descending (R178 order 13). -/
def ascending : List (Nat × Nat) → Bool
  | a :: b :: rest => decide (a.1 < b.1) && decide (a.2 ≤ b.2) && ascending (b :: rest)
  | _ => true

/-- A strapping table is valid (R178 order 13). -/
def strappingOk (points : List (Nat × Nat)) : Bool :=
  within 2 16 points.length && ascending points
    && points.all fun p => decide (p.1 ≤ 20000) && decide (p.2 ≤ 10000000)

/-- The fields of R178 with their checks, in order. -/
def RawConfig.checks (c : RawConfig) : List (Nat × Bool) :=
  [(1, within 1 31 c.station),
   (2, true),
   (3, (ofCode bitRateCodes c.rate).isSome),
   (4, requiredWhen (c.role == .dispense) (within 1 8) c.hose),
   (5, requiredWhen (c.role == .receipt) (fun x => x != 0) c.served),
   (6, within 1 65535 c.pulse),
   (7, (ofCode sensorCodes c.sensors).isSome),
   (8, c.filters.all fun f => (ofCode filterModeCodes f.1).isSome),
   (9, c.factors.all (within 9000 11000)),
   (10, true),
   (11, match c.gaugeTank with | some t => within 1 8 t | none => true),
   (12, requiredWhen c.gaugeTank.isSome (within 1 4000) c.gaugeFactor),
   (13, requiredWhen c.gaugeTank.isSome strappingOk c.strapping),
   (14, decide (c.slowDown ≤ 5000)),
   (15, decide (c.anticipation ≤ 200)),
   (16, within 5 1000 c.overrun),
   (17, within 100 10000 c.progressStep),
   (18, true)]

/-- The first field that fails (R178). -/
def RawConfig.firstFault (c : RawConfig) : Option Nat :=
  (c.checks.find? fun x => !x.2).map Prod.fst

/-- The settings of a record that passes its checks. -/
def RawConfig.settings (c : RawConfig) : Settings :=
  { station := c.station, role := c.role, rate := (ofCode bitRateCodes c.rate).getD .kbit125,
    hose := c.hose, served := c.served, pulse := c.pulse,
    sensors := (ofCode sensorCodes c.sensors).getD .two,
    filters := c.filters.map fun f =>
      { mode := (ofCode filterModeCodes f.1).getD .bypass, threshold := f.2 }
    factors := c.factors, tmp := c.tmp, gaugeTank := c.gaugeTank, gaugeFactor := c.gaugeFactor,
    strapping := c.strapping, slowDown := c.slowDown, anticipation := c.anticipation,
    overrun := c.overrun, progressStep := c.progressStep, key := c.key }

end Sys2Proof.Machine
end

