-- ==== Sys2Proof/Machine/Console.lean ====
section
/-! DEFINITION. The console port: transactions, requests and their answers (10), and reset (R181). -/

namespace Sys2Proof.Machine

/-! ## Transactions (R175, R176) -/

/-- Put a reply behind what the reply buffer holds (R176). -/
def State.reply (bytes : List Byte) (toNotice : Bool) (s : State) : State :=
  { s with console := { s.console with
      replies := s.console.replies ++ [{ bytes, toNotice }] } }

/-- Reply bytes clocked out: the replies left, and whether the last byte of a reply to NOTICE was among
them (R176, R186). -/
def clockOut : Nat → List Reply → List Reply × Bool
  | _, [] => ([], false)
  | n, r :: rs =>
    if n < r.bytes.length then ({ r with bytes := r.bytes.drop n } :: rs, false)
    else
      let x := clockOut (n - r.bytes.length) rs
      (x.1, x.2 || r.toNotice)

/-- Clock out a number of reply bytes. -/
def State.clockBytes (n : Nat) (s : State) : State :=
  let x := clockOut n s.console.replies
  { s with console := { s.console with
      replies := x.1, noticeClocked := s.console.noticeClocked || x.2 } }

/-- Requests that are answered in POWER_DOWN: RESET and STATUS (R164, R176). -/
def answeredInPowerDown (code : Byte) : Bool := code == 0x03 || code == 0x05

/-- A complete request (R175, R176): after an earlier request of the transaction its bytes are ignored;
behind a reply that is unfinished as the transaction opens it is answered WRONG_STATE (log entry 16); `fits` says that its
length and layout are those of the request; `f` is the answer of the block that owns it. -/
def State.request (code : Byte) (body : List Byte) (fits : Bool) (f : State → State × List Byte)
    (s : State) : State :=
  if s.console.request.isEmpty = false then s else
  let pendingReply := !s.console.replies.isEmpty
  let s := { s with console := { s.console with
    request := code :: leBytes 2 body.length ++ body, selected := true } }
  if pendingReply || (s.supply.state == .powerDown && !answeredInPowerDown code) then
    s.reply wrongStateReply false
  else if fits then
    let r := f s
    r.1.reply r.2 (code == 0x06)
  else s.reply badRequestReply false

/-- A request answered WRONG_STATE in OFFLINE without being passed on (R177), after a LEAVE as before a START (log entry
28). -/
def notOffline (f : State → State × List Byte) (s : State) : State × List Byte :=
  if s.link.state = .offline then (s, wrongStateReply) else f s

/-- A transaction opened by 0x00: only unfinished reply bytes are clocked out (R175, R176). -/
def State.noRequest (clocked : Nat) (s : State) : State :=
  if s.console.request.isEmpty then
    State.clockBytes clocked
      { s with console := { s.console with request := [0x00], selected := true } }
  else s

/-! ## Reset (R181) -/

/-- Reset: every block at its reset value, retained memory kept; a supply that fails at the first sample
is a supply drop (R82, R164). -/
def State.resetNow (inputs : BitVec 8) (s : State) : State :=
  let s := s.settleWrite
  let r := State.resetWith inputs s.replica s.wiped s.limitReached s.supply.record s.free s.pending
  if inputs.getLsbD 6 then r.supplyDrop else r

/-- The partial request that SEL discards, answered BAD_REQUEST (R176). Where SEL rises before one whole byte has come in
there is no request to discard, and no BAD_REQUEST is put in the reply buffer: R176 does not say (log entry 16). -/
def State.discardPartial (partialRequest : List Byte) (s : State) : State :=
  match s.console.request, partialRequest with
  | [], b :: _ => if b = 0 then s else s.reply badRequestReply false
  | _, _ => s

/-- The transaction ends: the ATTN release interval begins if the last byte of a reply to NOTICE was
clocked out in it (R186); in POWER_DOWN ATTN keeps its level. -/
def State.endTransaction (s : State) : State :=
  { s with console := { s.console with
      request := [], selected := false, noticeClocked := false
      releasing := s.console.releasing ||
        (s.console.noticeClocked && s.supply.state != .powerDown) } }

/-- SEL rises (R175, R176, R181, R186). -/
def State.selRise (clocked : Nat) (partialRequest : List Byte) (inputs : BitVec 8) (s : State) :
    State :=
  let s := ((s.clockBytes clocked).discardPartial partialRequest).endTransaction
  if s.console.resetPending then s.resetNow inputs else s

/-- The ATTN release interval ends (R186). -/
def State.attnReleaseEnd (s : State) : State :=
  { s with console := { s.console with releasing := false } }

/-! ## Configuration and start (R178 to R180) -/

/-- CONFIGURE (R178, R179). -/
def State.configure (c : RawConfig) (s : State) : State × List Byte :=
  if s.link.state ≠ .offline ∨ s.console.started = true then (s, wrongStateReply)
  else
    match c.firstFault with
    | some n => (s, badConfigReply n)
    | none => ({ s with console := { s.console with config := some c.settings } }, doneReply [])

/-- Every block takes its settings, and the link state becomes LISTENING with the 48-bit start gap
(R179). A 24-bit hold still owed from an own void before a LEAVE is forgotten here: R3 and R179 do not say that START ends
it (log entry 55). -/
def State.startWith (c : Settings) (s : State) : State :=
  let s := { s with
    console := { s.console with started := true }
    meter := s.meter.configure c
    link := { s.link with lostPlace := true, voidHold := false } }
  s.setLink .listening .noReason

/-- START (R179). -/
def State.startRequest (s : State) : State × List Byte :=
  if s.link.state ≠ .offline then (s, wrongStateReply)
  else
    match s.console.config with
    | none => (s, refusedReply .noConfig)
    | some c =>
      if s.wiped then (s.startWith c, doneReply []) else (s, refusedReply .notWiped)

/-- The body of WIPE's DONE reply (R180, 11.8). -/
def wipeBody : Option ActRecord → List Byte
  | none => [0]
  | some r => [1, codeIn activityKindCodes r.kind] ++ leBytes 6 r.openSeq ++ leInt 4 r.gross

/-- WIPE (R180). -/
def State.wipe (key : Nat) (s : State) : State × List Byte :=
  if s.link.state ≠ .offline then (s, wrongStateReply)
  else
    (State.clearRecord
      { s with replica := Replica.wiped (keyCheckOf (BitVec.ofNat 64 key)), wiped := true,
               limitReached := false },
      doneReply (wipeBody s.supply.record))

/-- RESET (R181): it takes effect when SEL next rises. -/
def State.resetRequest (s : State) : State × List Byte :=
  ({ s with console := { s.console with resetPending := true } }, doneReply [])

/-! ## Reading the station (R182, R183, R185) -/

/-- Clear a glitch record (R85). -/
def FilterCell.clearGlitch (x : FilterCell) : FilterCell := { x with glitch := false, glitches := 0 }

/-- Clear the eight glitch records (R85, R182). -/
def Cells.clearGlitches (c : Cells) : Cells :=
  { a := c.a.clearGlitch, b := c.b.clearGlitch, c := c.c.clearGlitch, noz := c.noz.clearGlitch,
    cpl := c.cpl.clearGlitch, estop := c.estop.clearGlitch, svm := c.svm.clearGlitch,
    dhs := c.dhs.clearGlitch }

/-- STATUS (R182); in POWER_DOWN every count keeps its value (R86), and so does what the report shows. The counter of
free values goes on by the four that the timers take (log entry 15). -/
def State.statusRequest (s : State) : State × List Byte :=
  (if s.supply.state = .powerDown then s
   else { s with meter := { s.meter with cells := s.meter.cells.clearGlitches }, free := s.free + 4 },
   doneReply s.statusBody)

/-- NOTICE (R185). -/
def State.noticeRequest (s : State) : State × List Byte :=
  match s.console.notices with
  | [] =>
    ({ s with console := { s.console with lost := false } },
      doneReply (noticeReplyBody none s.console.lost))
  | n :: rest =>
    ({ s with console := { s.console with notices := rest, lost := false } },
      doneReply (noticeReplyBody (some n) s.console.lost))

/-- The entry of a key, and the next key (R153, R183). -/
def readTable (r : Replica) (t : Table) (key : Nat) : Option Entry × Option Nat :=
  match t with
  | .site => (some (.site r.site), none)
  | _ =>
    ((r.entriesOf t).find? fun e => e.key == key,
     ((r.entriesOf t).find? fun e => decide (key < e.key)).map Entry.key)

/-- The body of READ's DONE reply (11.8). -/
def readBody (r : Replica) (t : Table) (key : Nat) : List Byte :=
  let x := readTable r t key
  [presence [x.1.isSome, x.2.isSome]] ++ leBytes 6 r.site.seq ++ optBytes encodeEntry x.1
    ++ optBytes (leBytes 4) x.2

/-- READ (R183). -/
def State.readRequest (table : Byte) (key : Nat) (s : State) : State × List Byte :=
  match ofCode tableCodes table with
  | some t => (s, doneReply (readBody s.replica t key))
  | none => (s, badRequestReply)

/-! ## The attendant's requests -/

/-- PRESET (R104). -/
def State.presetRequest (v : Nat) (s : State) : State × List Byte :=
  if 99999 < v then (s, badRequestReply)
  else if s.role ≠ some .dispense then (s, refusedReply .wrongRole)
  else if s.activity.state ≠ .idle ∧ s.activity.state ≠ .awaitingId then (s, wrongStateReply)
  else if v = 0 then
    ({ s with activity := { s.activity with preset := none } }, doneReply [])
  else if v < s.replica.site.minFill then (s, refusedReply .belowMinimum)
  else ({ s with activity := { s.activity with preset := some v } }, doneReply [])

/-- The identification controller is IDLE or FAILED (R66). -/
def IdState.takesKeyed : IdState → Bool
  | .idle | .failed _ => true
  | _ => false

/-- KEYED-ID (R66). -/
def State.keyedRequest (machine : Nat) (s : State) : State × List Byte :=
  if machine = 0 ∨ machine = 65535 then (s, badRequestReply)
  else if s.role ≠ some .dispense then (s, refusedReply .wrongRole)
  else if s.meter.cells.cpl.output = true ∨ s.ident.state.takesKeyed = false then (s, wrongStateReply)
  else if s.replica.site.keyed = false then (s, refusedReply .keyedNotPermitted)
  else (s.keyedIdentify machine, doneReply [])

/-- CANCEL (R124, R140). -/
def State.cancelRequest (s : State) : State × List Byte :=
  if s.role = some .office then (s, refusedReply .wrongRole)
  else if s.activity.state.takesCancel then (s.cancelActivity, doneReply [])
  else (s, wrongStateReply)

/-- ESTOP (R171). -/
def State.estopRequest (s : State) : State × List Byte :=
  if s.inService then (s.wantStop true, doneReply []) else (s, refusedReply .notInService)

/-- RESUME (R173). -/
def State.resumeRequest (s : State) : State × List Byte :=
  if s.inService = false then (s, refusedReply .notInService)
  else if s.meter.cells.estop.output then (s, refusedReply .estopAsserted)
  else
    match s.replica.site.stop with
    | none => (s, wrongStateReply)
    | some x =>
      if x.origin = s.me then (s.offer .stopPath .resume, doneReply [])
      else (s, refusedReply .notOrigin)

/-- A DELIVERY answered DONE (R63, R133, R134). -/
def State.startDelivery (tank declared : Nat) (s : State) : State :=
  let s := { s with activity :=
    { s.activity with namedTank := some tank, declared := some declared } }
  ((s.nameTank tank).enterAct .awaitingId).lookAtResult

/-- DELIVERY (R133, R140). -/
def State.deliveryAnswer (tank declared : Nat) (s : State) : State × List Byte :=
  if within 1 8 tank = false ∨ within 1000 999999 declared = false then (s, badRequestReply)
  else if s.role ≠ some .receipt then (s, refusedReply .wrongRole)
  else if tankInSet (s.served.getD 0) tank = false then (s, refusedReply .notServed)
  else if s.activity.state ≠ .idle ∨ s.meter.cells.dhs.output = false then (s, wrongStateReply)
  else (s.startDelivery tank declared, doneReply [])

/-- GAUGE-NOW (R143). -/
def State.gaugeNowRequest (s : State) : State × List Byte :=
  match s.gaugeTank with
  | none => (s, refusedReply .noGauge)
  | some tank =>
    if s.engine.admitted = false then (s, refusedReply .notInService)
    else if s.gauge.state ≠ .idle then (s, refusedReply .busy)
    else (s.gaugeStart tank, doneReply [])

/-- CLEAR-FAULT on a valve fault (R174). -/
def State.clearValveFault (s : State) : State × List Byte :=
  if s.activity.state = .faulted then
    if s.meter.episode then (s, refusedReply .flowPresent) else (s.toIdle none, doneReply [])
  else (s, doneReply [])

/-- CLEAR-FAULT (R174). -/
def State.clearFaultRequest (s : State) : State × List Byte :=
  if s.link.state = .faulted then (s.setLink .listening .noReason).clearValveFault
  else if s.activity.state = .faulted then s.clearValveFault
  else (s, wrongStateReply)

/-- LEAVE (R184). -/
def State.leaveRequest (s : State) : State × List Byte :=
  if s.inService = false ∨ s.engine.admitted = false then (s, refusedReply .notInService)
  else if s.engine.leavePending then (s, wrongStateReply)
  else if s.activity.state ≠ .idle then (s, wrongStateReply)
  else if s.supply.record.isSome then (s, refusedReply .recoveryPending)
  else
    (State.offer .membership .leave { s with engine := { s.engine with leavePending := true } },
      doneReply [])

/-! ## Bodies -/

/-- The request codes of 11.8. -/
def knownRequest (code : Byte) : Bool := decide (1 ≤ code.toNat) && decide (code.toNat ≤ 0x10)

/-- A request whose body is one layout, read whole (R175, R188). -/
def State.requestWith {α : Type} (code : Byte) (body : List Byte) (p : Parse α)
    (f : α → State → State × List Byte) (s : State) : State :=
  match parseAll p body with
  | some x => s.request code body true (f x)
  | none => s.request code body false fun s => (s, badRequestReply)

/-- The layout of a request without a body. -/
def parseNothing : Parse Unit := pure ()

/-- The body of DELIVERY: tank, declared volume. -/
def parseDelivery : Parse (Nat × Nat) := do
  let tank ← parseNat 1
  let declared ← parseNat 4
  return (tank, declared)

/-- The body of READ: table code, key. -/
def parseReadKey : Parse (Byte × Nat) := do
  let table ← parseByte
  let key ← parseNat 4
  return (table, key)

/-- The local clock advances by one each second once it is set (R158). -/
def State.tick (s : State) : State :=
  match s.clock with
  | some t => { s with clock := some (if t + 1 < 2 ^ 32 then t + 1 else 0) }
  | none => s

end Sys2Proof.Machine
end

