-- ==== Sys2Proof/Machine/Answer.lean ====
section
/-! DEFINITION. What the rows of the table share: the type of a command's answer, the frame kinds that one row tells
apart from another, and the timers of the activity. -/

namespace Sys2Proof.Machine

/-- What a command answers. -/
abbrev Answer := Host.Outcome State Fault Refusal

/-! ## Frames that a row applies -/

/-- A replica frame of a kind that the station does not know (R29). -/
def isUnknownKind (p : Payload) : Bool := p.kind?.isNone

/-- An ANNOUNCE without the founder flag, malformed ones included. -/
def isJoinerAnnounce (p : Payload) : Bool := isKind .announce p && !isFounderAnnounce p

/-! ## Timers of the activity (R116, R118, R137) -/

/-- The no-flow timer of 20 s runs out (R116, R137). -/
def State.noFlowTimeout (s : State) : State :=
  if s.activity.noFlow.isSome then s.endFlow .noFlow else s

/-- The full timer of 5 s runs out (R116). -/
def State.fullTimeout (s : State) : State :=
  if s.activity.full.isSome then s.endFlow .full else s

/-- The settle timer of 2 s runs out in STOPPING (R118). -/
def State.settleTimeout (s : State) : State :=
  if s.activity.state = .stopping ∧ s.activity.settle.isSome = true then s.endStopping else s

/-- The stopping limit of 10 s runs out in STOPPING (R118). -/
def State.stoppingLimit (s : State) : State :=
  if s.activity.state = .stopping ∧ s.activity.limit.isSome = true then s.endStopping else s

/-! ## Unknown requests (R175) -/

/-- A complete request of a code that 11.8 does not list; 0x00 is no request, and a listed code has a row
of its own. -/
def State.unknownRequest (code : Byte) (body : List Byte) (s : State) : State :=
  if knownRequest code || code == 0 then s
  else s.request code body false fun s => (s, badRequestReply)

end Sys2Proof.Machine
end

