-- ==== Sys2Proof/Machine/ActivityRows.lean ====
section
/-! DEFINITION. The commands of the fill and delivery controllers (06, 07) and of the ESTOP switch (09). -/

namespace Sys2Proof.Machine

/-- NOZ_RISE (R102): the filtered NOZ output rises. -/
def execNozRise (held : Nat) (s : State) : Answer := .next (s.act (State.cellPasses .noz true held))

/-- NOZ_FALL (R104, R110, R112, R117, R123): the filtered NOZ output falls. -/
def execNozFall (held : Nat) (s : State) : Answer :=
  .next (s.act (State.cellPasses .noz false held))

/-- DHS_FALL (R134, R136, R137): the filtered DHS output falls. -/
def execDhsFall (held : Nat) (s : State) : Answer :=
  .next (s.act (State.cellPasses .dhs false held))

/-- ESTOP_RISE (R113, R171): the filtered ESTOP output rises. -/
def execEstopRise (held : Nat) (s : State) : Answer :=
  .next (s.act (State.cellPasses .estop true held))

/-- ESTOP_FALL (R113): the filtered ESTOP output falls. -/
def execEstopFall (held : Nat) (s : State) : Answer :=
  .next (s.act (State.cellPasses .estop false held))

/-- NO_FLOW_TIMEOUT (R116): the no-flow timer of 20 s runs out. -/
def execNoFlowTimeout (s : State) : Answer := .next (s.act State.noFlowTimeout)

/-- FULL_TIMEOUT (R116): the full timer of 5 s runs out. -/
def execFullTimeout (s : State) : Answer := .next (s.act State.fullTimeout)

/-- SETTLE_TIMEOUT (R118): the settle timer of 2 s runs out. -/
def execSettleTimeout (s : State) : Answer := .next (s.act State.settleTimeout)

/-- STOPPING_LIMIT (R118): the stopping limit of 10 s runs out. -/
def execStoppingLimit (s : State) : Answer := .next (s.act State.stoppingLimit)

end Sys2Proof.Machine
end

