-- ==== Sys2Proof/Machine/ApplyRows.lean ====
section
/-! DEFINITION. The commands that apply a replica frame (R27): one meaning for each kind. What a kind does to the tables is its
effect in Replica.lean; the table kinds a row takes are told apart by their payload. -/

namespace Sys2Proof.Machine

/-- UNKNOWN_KIND (R29): a replica frame of unknown kind is applied. -/
def execUnknownKind (s : State) : Answer := .next (s.act (State.applyRow isUnknownKind))

/-- SITE_SET (R30): a SITE-SET is applied. -/
def execSiteSet (s : State) : Answer := .next (s.act (State.applyRow (isKind .siteSet)))

/-- CENSUS_PRESENT (R31, R32): a PRESENT census is applied. -/
def execCensusPresent (s : State) : Answer := .next (s.act (State.applyRow isPresentCensus))

/-- JOIN (R35): a JOIN is applied. -/
def execJoin (s : State) : Answer := .next (s.act (State.applyRow (isKind .join)))

/-- ANNOUNCE (R42): an ANNOUNCE without the founder flag is applied. -/
def execAnnounce (s : State) : Answer := .next (s.act (State.applyRow isJoinerAnnounce))

/-- FOUNDER_ANNOUNCE (R47): an ANNOUNCE with the founder flag is applied. -/
def execFounderAnnounce (s : State) : Answer := .next (s.act (State.applyRow isFounderAnnounce))

/-- LEAVE (R43): a LEAVE is applied. -/
def execLeave (s : State) : Answer := .next (s.act (State.applyRow (isKind .leave)))

/-- OPEN (R106 to R108): an OPEN is applied. -/
def execOpenFill (s : State) : Answer := .next (s.act (State.applyRow (isKind .openFill)))

/-- PROGRESS (R115): a PROGRESS is applied. -/
def execProgress (s : State) : Answer := .next (s.act (State.applyRow (isKind .progress)))

/-- CLOSE (R121, R122): a CLOSE is applied. -/
def execCloseFill (s : State) : Answer := .next (s.act (State.applyRow (isKind .close)))

/-- GRANT (R75 to R77): a GRANT is applied. -/
def execGrant (s : State) : Answer := .next (s.act (State.applyRow (isKind .grant)))

/-- BAR (R78): a BAR is applied. -/
def execBar (s : State) : Answer := .next (s.act (State.applyRow (isKind .bar)))

/-- UNBAR (R78): an UNBAR is applied. -/
def execUnbar (s : State) : Answer := .next (s.act (State.applyRow (isKind .unbar)))

/-- DROP (R79): a DROP is applied. -/
def execDrop (s : State) : Answer := .next (s.act (State.applyRow (isKind .drop)))

/-- TANK_SET (R129): a TANK-SET is applied. -/
def execTankSet (s : State) : Answer := .next (s.act (State.applyRow (isKind .tankSet)))

/-- ORDER (R131): an ORDER is applied. -/
def execOrder (s : State) : Answer := .next (s.act (State.applyRow (isKind .order)))

/-- DELIVERY_OPEN (R135): a DELIVERY-OPEN is applied. -/
def execDeliveryOpen (s : State) : Answer := .next (s.act (State.applyRow (isKind .deliveryOpen)))

/-- DELIVERY_CLOSE (R139): a DELIVERY-CLOSE is applied. -/
def execDeliveryClose (s : State) : Answer := .next (s.act (State.applyRow (isKind .deliveryClose)))

/-- CENSUS_FLOW (R142): a FLOW census is applied. -/
def execCensusFlow (s : State) : Answer := .next (s.act (State.applyRow isFlowCensus))

/-- GAUGE (R147): a GAUGE is applied. -/
def execGauge (s : State) : Answer := .next (s.act (State.applyRow (isKind .gauge)))

/-- RELEASE (R151): a RELEASE is applied. -/
def execRelease (s : State) : Answer := .next (s.act (State.applyRow (isKind .release)))

/-- CC_CLEAR (R157): a CC-CLEAR is applied. -/
def execCcClear (s : State) : Answer := .next (s.act (State.applyRow (isKind .ccClear)))

/-- TIME (R158): a TIME is applied. -/
def execTime (s : State) : Answer := .next (s.act (State.applyRow (isKind .time)))

/-- STOP (R172): a STOP is applied. -/
def execStop (s : State) : Answer := .next (s.act (State.applyRow (isKind .stop)))

/-- RESUME (R173): a RESUME is applied. -/
def execResume (s : State) : Answer := .next (s.act (State.applyRow (isKind .resume)))

/-- ADJUST (R169): an ADJUST is applied. -/
def execAdjust (s : State) : Answer := .next (s.act (State.applyRow (isKind .adjust)))

end Sys2Proof.Machine
end

