-- ==== Sys2Proof/Machine/ConsoleRows.lean ====
section
/-! DEFINITION. The commands of the console port (10): the requests of R177's table and the events of the port. -/

namespace Sys2Proof.Machine

/-- CONFIGURE (R178, R179). -/
def execConfigure (body : List Byte) (s : State) : Answer :=
  .next ((s.requestWith 0x01 body parseConfig State.configure).commitNotices)

/-- START (R179). -/
def execStart (body : List Byte) (s : State) : Answer :=
  .next ((s.requestWith 0x02 body parseNothing fun _ => State.startRequest).commitNotices)

/-- RESET (R181). -/
def execReset (body : List Byte) (s : State) : Answer :=
  .next ((s.requestWith 0x03 body parseNothing fun _ => State.resetRequest).commitNotices)

/-- WIPE (R180). -/
def execWipe (body : List Byte) (s : State) : Answer :=
  .next ((s.requestWith 0x04 body (parseNat 8) State.wipe).commitNotices)

/-- STATUS (R182). -/
def execStatus (body : List Byte) (s : State) : Answer :=
  .next ((s.requestWith 0x05 body parseNothing fun _ => State.statusRequest).commitNotices)

/-- NOTICE (R185). -/
def execNotice (body : List Byte) (s : State) : Answer :=
  .next ((s.requestWith 0x06 body parseNothing fun _ => State.noticeRequest).commitNotices)

/-- Console READ (R183). -/
def execConsoleRead (body : List Byte) (s : State) : Answer :=
  .next ((s.requestWith 0x07 body parseReadKey fun x => State.readRequest x.1 x.2).commitNotices)

/-- PRESET (R104, R177). -/
def execPreset (body : List Byte) (s : State) : Answer :=
  .next ((s.requestWith 0x08 body (parseNat 4) fun v => notOffline (State.presetRequest v)).commitNotices)

/-- KEYED-ID (R66, R177). -/
def execKeyedId (body : List Byte) (s : State) : Answer :=
  .next ((s.requestWith 0x09 body (parseNat 2) fun n => notOffline (State.keyedRequest n)).commitNotices)

/-- CANCEL (R124, R140, R177). -/
def execCancel (body : List Byte) (s : State) : Answer :=
  .next ((s.requestWith 0x0A body parseNothing fun _ => notOffline State.cancelRequest).commitNotices)

/-- Console ESTOP (R171). -/
def execEstop (body : List Byte) (s : State) : Answer :=
  .next ((s.requestWith 0x0B body parseNothing fun _ => State.estopRequest).commitNotices)

/-- Console RESUME (R173). -/
def execConsoleResume (body : List Byte) (s : State) : Answer :=
  .next ((s.requestWith 0x0C body parseNothing fun _ => State.resumeRequest).commitNotices)

/-- DELIVERY (R133, R140, R177). -/
def execDelivery (body : List Byte) (s : State) : Answer :=
  .next ((s.requestWith 0x0D body parseDelivery fun x => notOffline (State.deliveryAnswer x.1 x.2)).commitNotices)

/-- GAUGE-NOW (R143). -/
def execGaugeNow (body : List Byte) (s : State) : Answer :=
  .next ((s.requestWith 0x0E body parseNothing fun _ => State.gaugeNowRequest).commitNotices)

/-- CLEAR-FAULT (R174). -/
def execClearFault (body : List Byte) (s : State) : Answer :=
  .next ((s.requestWith 0x0F body parseNothing fun _ => State.clearFaultRequest).commitNotices)

/-- Console LEAVE (R184). -/
def execConsoleLeave (body : List Byte) (s : State) : Answer :=
  .next ((s.requestWith 0x10 body parseNothing fun _ => State.leaveRequest).commitNotices)

/-- A request code that 11.8 does not list is answered BAD_REQUEST (R175). -/
def execUnknownRequestCode (code : Byte) (body : List Byte) (s : State) : Answer :=
  .next ((s.unknownRequest code body).commitNotices)

/-- A transaction opened by 0x00 clocks out `clocked` bytes (R175, R176). -/
def execNoRequest (clocked : Nat) (s : State) : Answer :=
  .next ((s.noRequest clocked).commitNotices)

/-- SEL rises (R175, R176, R181, R186). -/
def execSelRise (clocked : Nat) (partialRequest : List Byte) (inputs : BitVec 8) (s : State) : Answer :=
  .next ((s.selRise clocked partialRequest inputs).commitNotices)

/-- ATTN_RELEASE_END (R186): the release interval of 10 µs ends. -/
def execAttnReleaseEnd (s : State) : Answer := .next (s.act State.attnReleaseEnd)

end Sys2Proof.Machine
end

