-- ==== Sys2Proof/Machine/EngineRows.lean ====
section
/-! DEFINITION. The commands of the replica engine's own work (02): deferring, catching up, joining, founding and the end of a
retained write. -/

namespace Sys2Proof.Machine

/-- FRAME_DEFERRED (R36): a frozen donor takes a replica frame from its inbound queue. -/
def execFrameDeferred (s : State) : Answer := .next (s.act State.deferFrame)

/-- FRAME_HELD_FOR_CATCH_UP (R39): a joiner takes a replica frame from its inbound queue. -/
def execFrameHeldForCatchUp (s : State) : Answer := .next (s.act State.holdForCatchUp)

/-- RETAINED_WRITE_COMPLETE (R28, R33): the retained write in progress completes. -/
def execRetainedWriteComplete (s : State) : Answer := .next (s.act State.completeWrite)

/-- SEQUENCE_LIMIT (R25): the retained write completes with which the sequence reaches 2^48 − 1. -/
def execSequenceLimit (s : State) : Answer := .next (s.act State.completeAtLimit)

/-- SNAP_HEAD (R39): the joiner takes a SNAP-HEAD. -/
def execSnapHead (s : State) : Answer := .next (s.act (State.engineTakes .snapHead State.snapHead))

/-- SNAP (R39): the joiner takes a SNAP. -/
def execSnap (s : State) : Answer := .next (s.act (State.engineTakes .snap State.snap))

/-- SNAP_END (R40): the joiner takes SNAP-END. -/
def execSnapEnd (s : State) : Answer := .next (s.act State.takeSnapEnd)

/-- SNAP_ABORT (R41): the joiner takes SNAP-ABORT. -/
def execSnapAbort (s : State) : Answer :=
  .next (s.act (State.engineTakes .snapAbort State.snapAbort))

/-- NO_SNAP_HEAD (R41): the head timer of 1 s runs out. -/
def execNoSnapHead (s : State) : Answer := .next (s.act State.noSnapHead)

/-- JOIN_TIMEOUT (R41): the join timer of 30 s runs out. -/
def execJoinTimeout (s : State) : Answer := .next (s.act State.joinTimeout)

/-- LISTENING_TIMEOUT (R34): 4 s pass in LISTENING without a frame followed to its end. -/
def execListeningTimeout (s : State) : Answer := .next (s.act State.listeningTimeout)

/-- JOIN_HOLD_OFF_END (R34): the join hold-off ends. -/
def execJoinHoldOffEnd (s : State) : Answer := .next (s.act State.holdOffEnd)

/-- FOUND (R44): an accepted FOUND is taken. -/
def execFound (s : State) : Answer := .next (s.act (State.engineTakes .found State.takeFound))

/-- SEAL_DUE (R46): the seal delay of 2 s ends. -/
def execSealDue (s : State) : Answer := .next (s.act State.sealDue)

/-- SEAL (R46): an accepted SEAL is taken. -/
def execSealRound (s : State) : Answer :=
  .next (s.act (State.engineTakes .sealRound State.takeSeal))

/-- ROUND_TIMEOUT (R45): the round timer of 5 s runs out. -/
def execRoundTimeout (s : State) : Answer := .next (s.act State.roundTimeout)

end Sys2Proof.Machine
end

