-- ==== Sys2Proof/Machine/LinkRows.lean ====
section
/-! DEFINITION. The commands of the link engine (01): one meaning for each row. -/

namespace Sys2Proof.Machine

/-- FRAME_START (R3, R5, R14): the bus has been recessive for `idle` bit times and the station starts a frame;
`rivals` are the contention bytes of stations that start at the same bit, `early` a frame that starts one bit before. -/
def execFrameStart (idle : Nat) (rivals : List Byte) (early : Bool) (s : State) : Answer :=
  .next (s.act (State.frameStart idle rivals early))

/-- NUMBER_CLASH (R6): the own frame reads back dominant after its contention byte. -/
def execNumberClash (rival : List Bit) (s : State) : Answer :=
  .next (s.act (State.numberClash rival))

/-- FRAME_ABANDONED (R7): a SYNC, LENGTH or header stuffing error. -/
def execFrameAbandoned (rx : List Bit) (s : State) : Answer :=
  .next (s.act (State.frameAbandoned rx))

/-- TRUNCATED (R2, R7): the bus stays recessive inside a frame. -/
def execTruncated (rx : List Bit) (s : State) : Answer := .next (s.act (State.truncatedFrame rx))

/-- REPLICA_WINDOW (R8, R9, R12, R13): the window of a replica frame ends. -/
def execReplicaWindow (rx : List Bit) (slots : Slots) (s : State) : Answer :=
  .next (s.act (State.window .replica rx slots))

/-- FOUNDING_WINDOW (R10, R12, R13): the window of a founding frame ends. -/
def execFoundingWindow (rx : List Bit) (slots : Slots) (s : State) : Answer :=
  .next (s.act (State.window .founding rx slots))

/-- SERVICE_WINDOW (R11, R12, R13): the window of a service frame ends. -/
def execServiceWindow (rx : List Bit) (slots : Slots) (s : State) : Answer :=
  .next (s.act (State.window .service rx slots))

/-- CENSUS_SLOTS_END (R22): slot 31 of an accepted census has gone by. -/
def execCensusSlotsEnd (map : BitVec 32) (s : State) : Answer := .next (s.act (State.slotsEnd map))

/-- UNDELIVERED (R12): the own frame is void for the sixteenth time. -/
def execUndelivered (slots : Slots) (s : State) : Answer := .next (s.act (State.undelivered slots))

/-- RECEIVE_FAILURE (R13): the consecutive-void count reaches 8. -/
def execReceiveFailure (rx : List Bit) (slots : Slots) (s : State) : Answer :=
  .next (s.act (State.receiveFailure rx slots))

/-- CENSUS_TIMER (R23): the census timer runs out. -/
def execCensusTimer (s : State) : Answer := .next (s.act State.censusTimeout)

end Sys2Proof.Machine
end

