-- ==== Sys2Proof/Machine/MeterRows.lean ====
section
/-! DEFINITION. The commands of the meter front end (05). -/

namespace Sys2Proof.Machine

/-- FILTER_LOCKOUT_END (R85): the lockout of an IMMEDIATE cell ends at time `t`. -/
def execFilterLockoutEnd (cell : Cell) (t : Nat) (s : State) : Answer :=
  .next (s.act (State.lockoutEnd cell t))

/-- METER_STEP (R87 to R94): the filtered pattern of the three sensors changes to `levels` at time `t`. -/
def execMeterStep (t held : Nat) (levels : Pattern) (s : State) : Answer :=
  .next (s.act (State.pattern t held levels))

/-- REVERSE_FLOW (R117): a change of the filtered pattern brings the reverse volume above 10 dL. -/
def execReverseFlow (t held : Nat) (levels : Pattern) (s : State) : Answer :=
  .next (s.act (State.reverseFlow t held levels))

/-- METER_FAULT (R117): a change of the filtered pattern brings the phase-error count above 8. -/
def execMeterFault (t held : Nat) (levels : Pattern) (s : State) : Answer :=
  .next (s.act (State.meterFault t held levels))

/-- UNAUTH_FLOW_TIMEOUT (R93): 60 s without a step in an episode. -/
def execUnauthFlowTimeout (s : State) : Answer := .next (s.act State.unauthTimeout)

/-- FLOW_RATE_TIMEOUT (R92): 10 s without a forward boundary. -/
def execFlowRateTimeout (s : State) : Answer := .next (s.act State.flowRateTimeout)

/-- RECENT_FLOW_END (R94): 2 s since the pattern last changed. -/
def execRecentFlowEnd (s : State) : Answer := .next (s.act State.recentFlowEnd)

/-- DUTY_MEASUREMENT (R95 to R97, R145): a rising edge on TMP or GAU at time `t`. -/
def execDutyMeasurement (input : DutyCell) (t : Nat) (s : State) : Answer :=
  .next (s.act (State.dutyMeasurement input t))

/-- DUTY_CYCLE_TIMEOUT (R95, R145): 250 ms without an edge on TMP or GAU. -/
def execDutyCycleTimeout (input : DutyCell) (s : State) : Answer :=
  .next (s.act (State.dutyCycleTimeout input))

/-- DUTY_CYCLE_FALLING_EDGE (R95): a falling edge on TMP or GAU at time `t`. -/
def execDutyCycleFallingEdge (input : DutyCell) (t : Nat) (s : State) : Answer :=
  .next (s.act (State.dutyFall input t))

/-- FILTER_INPUT_CHANGE (R84, R85): a raw input changes after `samples` samples at its level, without passing. -/
def execFilterInputChange (cell : Cell) (samples : Nat) (s : State) : Answer :=
  .next (s.act (State.inputChange cell samples))

/-- DHS_RISE (R82, R133): the filtered DHS output rises. -/
def execDhsRise (held : Nat) (s : State) : Answer := .next (s.act (State.cellPasses .dhs true held))

end Sys2Proof.Machine
end

