-- ==== Sys2Proof/Machine/TagRows.lean ====
section
/-! DEFINITION. The commands of the inlet tag port and of identification (03). -/

namespace Sys2Proof.Machine

/-- TAG_COMMAND_START (R48, R49): the line has been high for the guard and the port sends its command; `line` is the
characters read back as it drives. -/
def execTagCommandStart (line : List TagChar) (s : State) : Answer :=
  .next (s.act (State.startCommand line))

/-- TAG_IDENT (R52, R57, R60): the IDENT transaction ends with the levels sampled. -/
def execTagIdent (line : List TagLevel) (s : State) : Answer := .next (s.act (State.tagIdent line))

/-- TAG_READ (R54, R61, R68): the READ transaction ends with the levels sampled. -/
def execTagRead (line : List TagLevel) (s : State) : Answer := .next (s.act (State.tagRead line))

/-- TAG_STAGE (R55, R68): the STAGE transaction ends with the levels sampled. -/
def execTagStage (line : List TagLevel) (s : State) : Answer := .next (s.act (State.tagStage line))

/-- TAG_COMMIT (R55, R68): the COMMIT transaction ends with the levels sampled. -/
def execTagCommit (line : List TagLevel) (s : State) : Answer :=
  .next (s.act (State.tagCommit line))

/-- TAG_UNLOCK (R53, R61): the guard after UNLOCK passes. -/
def execTagUnlock (startBit : Bool) (s : State) : Answer := .next (s.act (State.tagUnlock startBit))

/-- TAG_RELOCK (R56): the guard after RELOCK passes. -/
def execTagRelock (startBit : Bool) (s : State) : Answer := .next (s.act (State.tagRelock startBit))

/-- NO_REPLY (R50, R55): no start bit within 20 ms, or COMMIT still BUSY after 250 ms. -/
def execNoReply (s : State) : Answer := .next (s.act State.noReply)

/-- SETTLING_END (R50, R51): the line has been high for the guard after an error. -/
def execSettlingEnd (s : State) : Answer := .next (s.act State.settlingEnd)

/-- KEEP_ALIVE (R57): 50 ms have passed since the last character. -/
def execKeepAlive (s : State) : Answer := .next (s.act State.keepAlive)

/-- UNLOCK_LOST (R53): the line has been high for more than 100 ms while UNLOCKED. -/
def execUnlockLost (s : State) : Answer := .next (s.act State.unlockLost)

/-- CPL_RISE (R59): the filtered CPL output rises. -/
def execCplRise (held : Nat) (s : State) : Answer := .next (s.act (State.cellPasses .cpl true held))

/-- CPL_FALL (R65): the filtered CPL output falls. -/
def execCplFall (held : Nat) (s : State) : Answer :=
  .next (s.act (State.cellPasses .cpl false held))

/-- WAKING_END (R59): the line has been high for 10 ms in WAKING. -/
def execWakingEnd (s : State) : Answer := .next (s.act State.wakingEnd)

/-- IDENT_TIMEOUT (R65): the run timer of 5 s runs out. -/
def execIdentTimeout (s : State) : Answer := .next (s.act State.identTimeout)

end Sys2Proof.Machine
end

