-- ==== Sys2Proof/Machine/UnitRows.lean ====
section
/-! DEFINITION. The commands of the gauge unit (07), the service responder (08), the supply unit (09), reset and the local clock. -/

namespace Sys2Proof.Machine

/-- GAUGE_PERIOD (R143): the gauge period timer of 10 min runs out. -/
def execGaugePeriod (s : State) : Answer := .next (s.act State.gaugePeriod)

/-- SERVICE_READ (R152): the service responder takes a READ. -/
def execServiceRead (s : State) : Answer := .next (s.act (State.takeKind .read State.serviceRead))

/-- SUPPLY_DROP (R164): the filtered SVM output rises. -/
def execSupplyDrop (held : Nat) (s : State) : Answer :=
  .next (s.act (State.cellPasses .svm true held))

/-- POWER_ON_RESET (R181): RSTN resets the station, in every supply state; `inputs` are the input levels. -/
def execPowerOnReset (inputs : BitVec 8) (s : State) : Answer := .next (s.resetNow inputs)

/-- CLOCK_TICK (R158): a second passes. -/
def execClockTick (s : State) : Answer := .next (s.act State.tick)

end Sys2Proof.Machine
end

