-- ==== Sys2Proof/Machine/Dispatch.lean ====
section
/-! DEFINITION. The meaning of every command: one arm for each row of spec/opcode_table.json. -/

namespace Sys2Proof.Machine

def exec (i : Instr) (s : State) : Host.Outcome State Fault Refusal :=
  match i with
  | .frameStart idle rivals early => Sys2Proof.Machine.execFrameStart idle rivals early s
  | .numberClash rival => Sys2Proof.Machine.execNumberClash rival s
  | .frameAbandoned rx => Sys2Proof.Machine.execFrameAbandoned rx s
  | .truncated rx => Sys2Proof.Machine.execTruncated rx s
  | .replicaWindow rx slots => Sys2Proof.Machine.execReplicaWindow rx slots s
  | .foundingWindow rx slots => Sys2Proof.Machine.execFoundingWindow rx slots s
  | .serviceWindow rx slots => Sys2Proof.Machine.execServiceWindow rx slots s
  | .censusSlotsEnd map => Sys2Proof.Machine.execCensusSlotsEnd map s
  | .undelivered slots => Sys2Proof.Machine.execUndelivered slots s
  | .receiveFailure rx slots => Sys2Proof.Machine.execReceiveFailure rx slots s
  | .censusTimer => Sys2Proof.Machine.execCensusTimer s
  | .frameDeferred => Sys2Proof.Machine.execFrameDeferred s
  | .frameHeldForCatchUp => Sys2Proof.Machine.execFrameHeldForCatchUp s
  | .retainedWriteComplete => Sys2Proof.Machine.execRetainedWriteComplete s
  | .sequenceLimit => Sys2Proof.Machine.execSequenceLimit s
  | .unknownKind => Sys2Proof.Machine.execUnknownKind s
  | .siteSet => Sys2Proof.Machine.execSiteSet s
  | .censusPresent => Sys2Proof.Machine.execCensusPresent s
  | .join => Sys2Proof.Machine.execJoin s
  | .announce => Sys2Proof.Machine.execAnnounce s
  | .founderAnnounce => Sys2Proof.Machine.execFounderAnnounce s
  | .leave => Sys2Proof.Machine.execLeave s
  | .snapHead => Sys2Proof.Machine.execSnapHead s
  | .snap => Sys2Proof.Machine.execSnap s
  | .snapEnd => Sys2Proof.Machine.execSnapEnd s
  | .snapAbort => Sys2Proof.Machine.execSnapAbort s
  | .noSnapHead => Sys2Proof.Machine.execNoSnapHead s
  | .joinTimeout => Sys2Proof.Machine.execJoinTimeout s
  | .listeningTimeout => Sys2Proof.Machine.execListeningTimeout s
  | .joinHoldOffEnd => Sys2Proof.Machine.execJoinHoldOffEnd s
  | .found => Sys2Proof.Machine.execFound s
  | .sealDue => Sys2Proof.Machine.execSealDue s
  | .sealRound => Sys2Proof.Machine.execSealRound s
  | .roundTimeout => Sys2Proof.Machine.execRoundTimeout s
  | .tagCommandStart line => Sys2Proof.Machine.execTagCommandStart line s
  | .tagIdent line => Sys2Proof.Machine.execTagIdent line s
  | .tagUnlock startBit => Sys2Proof.Machine.execTagUnlock startBit s
  | .tagRead line => Sys2Proof.Machine.execTagRead line s
  | .tagStage line => Sys2Proof.Machine.execTagStage line s
  | .tagCommit line => Sys2Proof.Machine.execTagCommit line s
  | .tagRelock startBit => Sys2Proof.Machine.execTagRelock startBit s
  | .noReply => Sys2Proof.Machine.execNoReply s
  | .settlingEnd => Sys2Proof.Machine.execSettlingEnd s
  | .keepAlive => Sys2Proof.Machine.execKeepAlive s
  | .unlockLost => Sys2Proof.Machine.execUnlockLost s
  | .cplRise held => Sys2Proof.Machine.execCplRise held s
  | .cplFall held => Sys2Proof.Machine.execCplFall held s
  | .wakingEnd => Sys2Proof.Machine.execWakingEnd s
  | .identTimeout => Sys2Proof.Machine.execIdentTimeout s
  | .keyedId body => Sys2Proof.Machine.execKeyedId body s
  | .filterLockoutEnd cell t => Sys2Proof.Machine.execFilterLockoutEnd cell t s
  | .meterStep t held levels => Sys2Proof.Machine.execMeterStep t held levels s
  | .reverseFlow t held levels => Sys2Proof.Machine.execReverseFlow t held levels s
  | .meterFault t held levels => Sys2Proof.Machine.execMeterFault t held levels s
  | .unauthFlowTimeout => Sys2Proof.Machine.execUnauthFlowTimeout s
  | .flowRateTimeout => Sys2Proof.Machine.execFlowRateTimeout s
  | .recentFlowEnd => Sys2Proof.Machine.execRecentFlowEnd s
  | .dutyMeasurement input t => Sys2Proof.Machine.execDutyMeasurement input t s
  | .dutyCycleTimeout input => Sys2Proof.Machine.execDutyCycleTimeout input s
  | .nozRise held => Sys2Proof.Machine.execNozRise held s
  | .nozFall held => Sys2Proof.Machine.execNozFall held s
  | .dhsFall held => Sys2Proof.Machine.execDhsFall held s
  | .estopRise held => Sys2Proof.Machine.execEstopRise held s
  | .estopFall held => Sys2Proof.Machine.execEstopFall held s
  | .noFlowTimeout => Sys2Proof.Machine.execNoFlowTimeout s
  | .fullTimeout => Sys2Proof.Machine.execFullTimeout s
  | .settleTimeout => Sys2Proof.Machine.execSettleTimeout s
  | .stoppingLimit => Sys2Proof.Machine.execStoppingLimit s
  | .openFill => Sys2Proof.Machine.execOpenFill s
  | .progress => Sys2Proof.Machine.execProgress s
  | .closeFill => Sys2Proof.Machine.execCloseFill s
  | .grant => Sys2Proof.Machine.execGrant s
  | .bar => Sys2Proof.Machine.execBar s
  | .unbar => Sys2Proof.Machine.execUnbar s
  | .drop => Sys2Proof.Machine.execDrop s
  | .tankSet => Sys2Proof.Machine.execTankSet s
  | .order => Sys2Proof.Machine.execOrder s
  | .deliveryOpen => Sys2Proof.Machine.execDeliveryOpen s
  | .deliveryClose => Sys2Proof.Machine.execDeliveryClose s
  | .censusFlow => Sys2Proof.Machine.execCensusFlow s
  | .gauge => Sys2Proof.Machine.execGauge s
  | .release => Sys2Proof.Machine.execRelease s
  | .ccClear => Sys2Proof.Machine.execCcClear s
  | .time => Sys2Proof.Machine.execTime s
  | .stop => Sys2Proof.Machine.execStop s
  | .resume => Sys2Proof.Machine.execResume s
  | .adjust => Sys2Proof.Machine.execAdjust s
  | .gaugePeriod => Sys2Proof.Machine.execGaugePeriod s
  | .serviceRead => Sys2Proof.Machine.execServiceRead s
  | .supplyDrop held => Sys2Proof.Machine.execSupplyDrop held s
  | .powerOnReset inputs => Sys2Proof.Machine.execPowerOnReset inputs s
  | .clockTick => Sys2Proof.Machine.execClockTick s
  | .configure body => Sys2Proof.Machine.execConfigure body s
  | .start body => Sys2Proof.Machine.execStart body s
  | .reset body => Sys2Proof.Machine.execReset body s
  | .wipe body => Sys2Proof.Machine.execWipe body s
  | .status body => Sys2Proof.Machine.execStatus body s
  | .notice body => Sys2Proof.Machine.execNotice body s
  | .consoleRead body => Sys2Proof.Machine.execConsoleRead body s
  | .preset body => Sys2Proof.Machine.execPreset body s
  | .cancel body => Sys2Proof.Machine.execCancel body s
  | .estop body => Sys2Proof.Machine.execEstop body s
  | .consoleResume body => Sys2Proof.Machine.execConsoleResume body s
  | .delivery body => Sys2Proof.Machine.execDelivery body s
  | .gaugeNow body => Sys2Proof.Machine.execGaugeNow body s
  | .clearFault body => Sys2Proof.Machine.execClearFault body s
  | .consoleLeave body => Sys2Proof.Machine.execConsoleLeave body s
  | .noRequest clocked => Sys2Proof.Machine.execNoRequest clocked s
  | .selRise clocked partialRequest inputs => Sys2Proof.Machine.execSelRise clocked partialRequest inputs s
  | .attnReleaseEnd => Sys2Proof.Machine.execAttnReleaseEnd s
  | .dhsRise held => Sys2Proof.Machine.execDhsRise held s
  | .filterInputChange cell samples => Sys2Proof.Machine.execFilterInputChange cell samples s
  | .dutyCycleFallingEdge input t => Sys2Proof.Machine.execDutyCycleFallingEdge input t s
  | .unknownRequestCode code body => Sys2Proof.Machine.execUnknownRequestCode code body s

end Sys2Proof.Machine
end

