-- ==== Sys2Proof/Safety.lean ====
section
/-! DEFINITION. What counts as a safe state, in the terms that the statements use: the shape of the tables that every
replica frame keeps, the bounds of the queues, and the valves that follow the activity. -/

namespace Sys2Proof.Machine

/-! ## Between two commands -/

/-- No step is under way and the supply is up (R164, log entry 6). -/
abbrev State.Live (s : State) : Prop := s.supply.state = .normal ∧ s.console.raised = []

/-- The console port waits for a request: SEL starts a new transaction and no reply is left (R175, R176). -/
abbrev State.PortFree (s : State) : Prop :=
  s.Live ∧ s.console.request = [] ∧ s.console.replies = []

/-- The state with one notice entered in the queue, as a step that raises it alone leaves it (R185). -/
def State.noticed (b : NoticeBody) (s : State) : State :=
  { s with console := s.console.enter { seq := s.replica.site.seq, body := b } }

/-- The state after a request was answered (R175, R176); the reply to a NOTICE is told apart (R186). -/
def State.answered (code : Byte) (body reply : List Byte) (toNotice : Bool) (s : State) : State :=
  { s with console := { s.console with
      request := code :: leBytes 2 body.length ++ body, selected := true,
      replies := s.console.replies ++ [{ bytes := reply, toNotice }] } }

/-! ## Kinds of commands -/

/-- The code and body of a console request (11.8); a code of none of the 16 requests has a row of its own. -/
def requestOf : Instr → Option (Byte × List Byte)
  | .configure body => some (0x01, body)
  | .start body => some (0x02, body)
  | .reset body => some (0x03, body)
  | .wipe body => some (0x04, body)
  | .status body => some (0x05, body)
  | .notice body => some (0x06, body)
  | .consoleRead body => some (0x07, body)
  | .preset body => some (0x08, body)
  | .keyedId body => some (0x09, body)
  | .cancel body => some (0x0A, body)
  | .estop body => some (0x0B, body)
  | .consoleResume body => some (0x0C, body)
  | .delivery body => some (0x0D, body)
  | .gaugeNow body => some (0x0E, body)
  | .clearFault body => some (0x0F, body)
  | .consoleLeave body => some (0x10, body)
  | .unknownRequestCode code body => if 0x10 < code.toNat then some (code, body) else none
  | _ => none

/-- A command that is an event at a block, and no matter of the console port's own or of RSTN. -/
def isBlockEvent : Instr → Bool
  | .unknownRequestCode _ _ => false
  | .noRequest _ => false
  | .selRise _ _ _ => false
  | .powerOnReset _ => false
  | i => (requestOf i).isNone

/-- The commands that apply a frame whose effect is on the tables alone, each with the frames it takes. -/
def tableRows : List (Instr × (Payload → Bool)) :=
  [(.siteSet, isKind .siteSet), (.censusPresent, isPresentCensus), (.join, isKind .join),
   (.announce, isJoinerAnnounce), (.founderAnnounce, isFounderAnnounce), (.leave, isKind .leave),
   (.openFill, isKind .openFill), (.progress, isKind .progress), (.closeFill, isKind .close),
   (.grant, isKind .grant), (.bar, isKind .bar), (.unbar, isKind .unbar), (.drop, isKind .drop),
   (.tankSet, isKind .tankSet), (.order, isKind .order), (.deliveryOpen, isKind .deliveryOpen),
   (.deliveryClose, isKind .deliveryClose), (.censusFlow, isFlowCensus), (.gauge, isKind .gauge),
   (.release, isKind .release), (.ccClear, isKind .ccClear), (.adjust, isKind .adjust)]

/-! ## What a command can change at all -/

/-- The commands that can change the tables: the end of a retained write, the stream that a joiner takes over, WIPE,
and the events that cut a retained write short. -/
def writesTables : Instr → Bool
  | .retainedWriteComplete | .sequenceLimit | .snapEnd | .wipe _ | .supplyDrop _ | .powerOnReset _
  | .selRise _ _ _ => true
  | _ => false

/-- The commands that can change the local clock; SNAP-END applies the frames that waited. -/
def setsClock : Instr → Bool
  | .time | .clockTick | .snapEnd | .powerOnReset _ | .selRise _ _ _ => true
  | _ => false

/-- The commands that can change the configuration record. -/
def setsConfig : Instr → Bool
  | .configure _ | .powerOnReset _ | .selRise _ _ _ => true
  | _ => false

/-- The commands that can change the supply state. -/
def movesSupply : Instr → Bool
  | .supplyDrop _ | .powerOnReset _ | .selRise _ _ _ => true
  | _ => false

/-- The commands that can change the counts of the meter: steps, a sensor cell's lockout that ends, the
zeroing at a grant, and reset. -/
def countsVolume : Instr → Bool
  | .meterStep _ _ _ | .reverseFlow _ _ _ | .meterFault _ _ _ | .filterLockoutEnd _ _
  | .retainedWriteComplete | .sequenceLimit | .powerOnReset _ | .selRise _ _ _ => true
  | _ => false

/-- The commands that can count a receive error. -/
def countsErrors : Instr → Bool
  | .numberClash _ | .frameAbandoned _ | .truncated _ | .replicaWindow _ _ | .foundingWindow _ _
  | .serviceWindow _ _ | .undelivered _ | .receiveFailure _ _ | .powerOnReset _ | .selRise _ _ _ => true
  | _ => false

/-! ## Applying a frame (R25, R27) -/

/-- The replica once one more frame is counted. -/
def Replica.counted (r : Replica) : Replica := { r with site := { r.site with seq := r.site.seq + 1 } }

/-- The engine may apply the frame `f`, below the sequence limit. -/
abbrev State.AppliesNext (s : State) (f : Frame) : Prop :=
  s.Live ∧ s.toApply = some f ∧ s.replica.site.seq < maxSeq

/-- The state in which the retained write of `f` with the given tables and result has begun. -/
def State.writes (f : Frame) (x : Replica × ApplyResult) (s : State) : State :=
  let w : Writing :=
    { replica := x.1, frame := f, result := x.2,
      limit := s.limitReached || decide (maxSeq ≤ s.replica.site.seq + 1) }
  { s.popNext with engine := { s.popNext.engine with writing := some w } }

/-! ## Out of service (R17, R18, R20, R21, R28, R41, R154) -/

/-- Nothing of what the station took part in is left: the link state and its reason, empty queues, no timer of
service, joining or founding, the listening period started in LISTENING alone. That the frames which a block keeps
behind a refused offer go with the queue is log entry 18. -/
abbrev State.OutWith (st : LinkState) (r : Reason) (t : State) : Prop :=
  (t.link.state = st ∧ t.link.reason = r ∧ t.link.tx = [] ∧ t.link.kept = [] ∧ t.link.inbound = []
      ∧ t.link.wire = none ∧ t.link.voidRun = 0 ∧ t.link.censusTimer = none)
    ∧ (t.engine.admitted = false ∧ t.engine.freeze = false ∧ t.engine.catchUp = []
      ∧ t.engine.deferred = [] ∧ t.engine.join = none ∧ t.engine.round = none
      ∧ t.engine.stream = none ∧ t.engine.headTimer = none ∧ t.engine.joinTimer = none
      ∧ t.engine.roundTimer = none
      ∧ t.engine.listenTimer = (if st = .listening then some 4000000 else none))
    ∧ t.responder = { context := none, waitingBusy := none }

/-- What leaving IN_SERVICE does to an activity that is metered and to the gauge unit (R143, R165). -/
abbrev State.CutOff (s t : State) : Prop :=
  ((s.activity.state = .flowing ∨ s.activity.state = .slowing) →
      t.activity.state = .stopping ∧ t.activity.endReason = some .linkLost
        ∧ t.activity.linkLost = true ∧ t.outputs = { pump := false, vmain := false, vtrim := false })
    ∧ t.gauge.state = .idle ∧ t.gauge.periodTimer = none

/-- What the activity controller loses with the queues when the station leaves IN_SERVICE: its opening frame, queued or
accepted and not yet applied, gives REFUSED(LINK) (R28, R109, R136); of its closing frame the record is left HELD, no
write-back follows, and a fault pending is taken (R165, R166). A STOP of the own stop path that goes with the queue is no
longer wanted (R171). -/
abbrev State.LosesFrames (s t : State) : Prop :=
  let waits (k : Kind) : Prop :=
    (∃ e ∈ s.link.tx, e.origin = .activity ∧ e.payload.kind? = some k)
      ∨ ∃ f ∈ s.link.inbound ++ s.engine.catchUp ++ s.engine.deferred,
        f.sender = s.me ∧ f.payload.kind? = some k
  (s.activity.state = .opening → waits .openFill ∨ waits .deliveryOpen →
      t.activity.state = .refused .link ∧ t.activity.preset = none)
    ∧ (s.activity.state = .closing → waits .close ∨ waits .deliveryClose →
      t.supply.record = s.supply.record ∧ t.supply.phase = .held
        ∧ t.activity.state = (if s.activity.faultPending = true then .faulted
          else if s.role ≠ some .receipt ∧ s.meter.cells.noz.output = true then .writeback else .idle))
    ∧ ((∃ e ∈ s.link.tx, e.origin = .stopPath ∧ ∃ r, e.payload = .stop r) →
      t.stop = { wanted := false, byConsole := false })

/-- The activity has opened with a grant of `volume` (R109, R111, R114, R136): the counts at 0, the compare points, the
retained record. A pending end reason, or a stop point at 0 or below, leads to STOPPING with no output; a slow-down
point at 0 or below opens at trim rate. -/
abbrev State.Opens (s : State) (c : Settings) (r : IdResult) (openSeq volume : Nat) (t : State) : Prop :=
  let receipt : Bool := c.role == .receipt
  let x : ComparePoints :=
    { slowDown := (volume : Int) - c.slowDown, stop := (volume : Int) - c.anticipation,
      progress := if receipt then 10000 else c.progressStep, overrun := (volume : Int) + c.overrun }
  let ended : Option Reason :=
    match s.activity.pendingEnd with
    | some y => some y
    | none => if x.stop ≤ 0 then some (if receipt then .limit else .preset) else none
  t.activity.state = (if ended.isSome then .stopping else if x.slowDown ≤ 0 then .slowing else .flowing)
    ∧ t.outputs = { pump := ended.isNone, vmain := ended.isNone && decide (0 < x.slowDown),
                    vtrim := ended.isNone }
    ∧ t.activity.openSeq = some openSeq ∧ t.activity.granted = some volume ∧ t.activity.preset = none
    ∧ t.activity.points = some x
    ∧ t.activity.noFlow = (if ended.isNone then some 20000000 else none)
    ∧ t.activity.lastTank = (if receipt then s.activity.namedTank else s.activity.lastTank)
    ∧ (∀ y, ended = some y → t.activity.endReason = some y ∧ t.activity.stopVolume = some 0
      ∧ t.activity.settle = some 2000000 ∧ t.activity.limit = some 10000000)
    ∧ t.meter.acc = 0 ∧ t.meter.rev = 0 ∧ t.meter.phaseErrors = 0 ∧ t.meter.comp = 0
    ∧ t.meter.uncompensated = false ∧ t.meter.activityOpen = true
    ∧ t.supply.phase = .running
    ∧ t.supply.record = some
      { kind := if receipt then .delivery else .fill, openSeq, party := r.number,
        tank := if receipt then s.activity.namedTank.getD 0 else c.hose.getD 0, volume, gross := 0,
        comp := some 0, progress := 0, endReason := ended, mode := r.mode }

/-- The metered activity is stopping for a reason: the outputs are off, the settle timer and the stopping limit run, and
the retained record holds the end reason (R117, R118, R137, R163). -/
abbrev State.StopsFor (r : Reason) (s t : State) : Prop :=
  t.activity.state = .stopping ∧ t.activity.endReason = some r
    ∧ t.outputs = { pump := false, vmain := false, vtrim := false }
    ∧ t.activity.stopVolume = some t.meter.gross ∧ t.activity.noFlow = none ∧ t.activity.full = none
    ∧ t.activity.settle = some 2000000 ∧ t.activity.limit = some 10000000
    ∧ t.supply.record.bind ActRecord.endReason = s.supply.record.map fun _ => r

/-- An event that ends an activity was met in OPENING, the link being `l` after it: an earlier pending end reason stands;
else the event sets its own and asks for the opening frame back, and a withdrawn frame leads to IDLE or REFUSED (R110,
R136). -/
abbrev State.PendsFor (l : Link) (r : Reason) (s t : State) : Prop :=
  let stays (x : Reason) : Prop :=
    t.activity.state = .opening ∧ t.activity.pendingEnd = some x ∧ t.activity.preset = s.activity.preset
      ∧ t.link = l
  (∀ x, s.activity.pendingEnd = some x → stays x)
    ∧ (s.activity.pendingEnd = none → s.link.withdrawable .activity s.openKind = false → stays r)
    ∧ (s.activity.pendingEnd = none → s.link.withdrawable .activity s.openKind = true →
      t.link = l.remove .activity ∧ t.activity.preset = none
        ∧ t.activity.state =
          (if r = .hung ∨ r = .hoseReleased then .idle
           else .refused (if r = .siteStop then .siteStopped else r)))

/-- An entry that a block has just offered (R14). -/
def State.newEntry (o : Origin) (p : Payload) (s : State) : TxEntry :=
  { origin := o, dest := 0, payload := p, voids := 0, entered := s.link.entered }

/-- The link engine with one more frame in the transmit queue (R14). -/
def State.withOffer (o : Origin) (p : Payload) (s : State) : Link :=
  { s.link with tx := s.link.tx ++ [s.newEntry o p], entered := s.link.entered + 1 }

/-- The SNAP-ABORT that a donor has just offered to the joiner `j` (R38). -/
def State.abortEntry (j : Nat) (s : State) : TxEntry :=
  { origin := .donation, dest := j, payload := .snapAbort, voids := 0, entered := s.link.entered }

/-- The link engine once the queued frame of block `o` is replaced by a newer one (R15): it keeps the entry time, its void
count is 0, and what the block kept behind it is dropped (R115). -/
def State.withReplacement (o : Origin) (p : Payload) (s : State) : Link :=
  { s.link with
    tx := s.link.tx.map fun e => if e.origin = o then { e with dest := 0, payload := p, voids := 0 } else e
    kept := s.link.kept.filter fun k => decide (k.origin ≠ o) }

/-- The link engine once the offer of block `o` is refused: the block keeps the newest frame alone (R14, R115). -/
def State.withKept (o : Origin) (p : Payload) (s : State) : Link :=
  { s.link with kept :=
      (s.link.kept.filter fun k => decide (k.origin ≠ o)) ++ [{ origin := o, dest := 0, payload := p }] }

/-- The link engine once the frame of block `o` that is on the wire has left: the frame that the block keeps, if any, is
offered in its place (R14). -/
def Link.afterLeaving (l : Link) (o : Origin) : Link :=
  let tx := l.tx.filter fun e => decide (e.origin ≠ o)
  match l.kept.find? fun k => k.origin == o with
  | none => { l with tx := tx, wire := none }
  | some k =>
    { l with
      tx := tx ++ [{ origin := o, dest := k.dest, payload := k.payload, voids := 0, entered := l.entered }]
      kept := l.kept.filter fun y => decide (y.origin ≠ o)
      wire := none, entered := l.entered + 1 }

/-- The activity controller has offered a frame (R14, R15, R115, R120, R138): it enters the queue where the controller
has no frame there; a PROGRESS replaces a queued PROGRESS that is not on the wire, a closing frame that of its own
activity; behind any other frame, and behind one on the wire, it is refused and kept. -/
abbrev State.ActivityOffers (s : State) (p : Payload) (t : State) : Prop :=
  (s.link.queued .activity = none → t.link = s.withOffer .activity p)
    ∧ ∀ e, s.link.queued .activity = some e →
      let gives : Prop :=
        s.link.onWire .activity = false ∧ e.payload.kind? = some .progress ∧ p.activitySeq.isSome = true
          ∧ (p.kind? = some .progress ∨ p.activitySeq = e.payload.activitySeq)
      (gives → t.link = s.withReplacement .activity p) ∧ (¬gives → t.link = s.withKept .activity p)

/-- The fill controller has taken the result `r` and asked for the fill: the requested volume computed, OPEN offered,
OPENING (R102, R103, R105). -/
abbrev State.AsksForFill (s : State) (r : IdResult) (t : State) : Prop :=
  let start := match r.level with
    | none => r.capacity
    | some l => min r.capacity (r.capacity * (100 - l) / 100 + r.capacity * 5 / 100)
  let v := min 99999 (max s.replica.site.minFill
    (match s.activity.preset with | some p => min p start | none => start))
  let o : OpenRequest :=
    { machine := r.number, tank := s.hose.getD 0, requested := v, mode := some r.mode, hours := r.hours,
      openTime := s.clock }
  t.activity.state = .opening ∧ t.activity.result = some r ∧ t.activity.requested = some v
    ∧ s.ActivityOffers (.openFill o) t

/-- The stop has become wanted (R171): the mark is set, the first setter giving the reason; at a station IN_SERVICE STOP
is offered where the path has no frame queued, or a RESUME that is not on the wire and is withdrawn; behind any other
frame it waits. That a RESUME which the path keeps is dropped with it, and that the first setter's reason stands, is log
entry 18. -/
abbrev State.WantsStop (s : State) (byConsole : Bool) (t : State) : Prop :=
  let p : StopPath := { wanted := true, byConsole := if s.stop.wanted then s.stop.byConsole else byConsole }
  let stop : Payload := .stop (Reason.code (if p.byConsole then .estopConsole else .estopInput))
  let free : Prop :=
    s.link.queued .stopPath = none ∨ s.link.withdrawable .stopPath .resume = true
  t.stop = p
    ∧ (free → t.link.queued .stopPath =
      if s.link.state = .inService then some (s.newEntry .stopPath stop) else none)
    ∧ (¬free → t.link.queued .stopPath = s.link.queued .stopPath)
    ∧ ∀ k ∈ t.link.kept, k.origin ≠ .stopPath

/-- The bus is followed as a receiver: no own frame on the wire, no census slots under way. -/
abbrev State.Receives (s : State) : Prop :=
  s.Live ∧ s.link.state ≠ .offline ∧ s.link.wire = none ∧ s.link.slots = none

/-- The outcome of a replica frame's window is "accepted" (R9). -/
abbrev Accepting (x : Slots) : Prop := x.void = false ∧ (x.step = false ∨ x.accept = true)

/-- The link engine of a station that has followed a frame to its window: the error of one that was not good is counted,
and the station has its place (R3, R7). -/
def State.followedLink (r : RxFrame) (s : State) : Link :=
  { s.link with
    errors := match r.error with | some e => s.link.errors.add e | none => s.link.errors
    lostPlace := false }

/-- The slots that follow an accepted frame at a station that is out of service as the window ends: those of a CENSUS,
read and not held (R21, R22). -/
def readSlots (f : Frame) : Option SlotWait :=
  if f.payload.kind? = some .census then some { frame := f, answered := false, queue := false } else none

/-- An own frame is on the wire. -/
abbrev State.Sends (s : State) (w : OnWire) (e : TxEntry) : Prop :=
  s.Live ∧ s.link.wire = some w ∧ s.link.queued w.origin = some e

/-- The replica after frames that wait at a joiner are applied in their order, each below the sequence limit; absent where
one does not follow on (R27, R40). -/
def followsOn (r : Replica) : List Frame → Option Replica
  | [] => some r
  | f :: fs =>
    if f.payload.kind? = some .join ∨ f.seq16 = BitVec.ofNat 16 (r.site.seq + 1) then
      followsOn (applyEffect r.counted f).1 fs
    else none

/-- The next DATA of the service context `c` is built and queued: two entries at most, in the order of the keys, and with
the last one the end flag (R153). -/
abbrev State.BuildsData (s : State) (c : ServiceContext) (t : State) : Prop :=
  (∀ k, ofCode tableCodes (BitVec.ofNat 8 c.table) = some k →
    let found := s.replica.entriesFrom k c.position
    let es := found.take (min 2 c.remaining)
    let last : Bool := decide (c.remaining ≤ es.length) || (found.drop es.length).isEmpty
    let c' : ServiceContext :=
      { c with
        remaining := c.remaining - es.length, lastBuilt := last
        position := match es.getLast? with | some x => x.key + 1 | none => c.position }
    t.responder = { context := some c', waitingBusy := none }
      ∧ ∃ e, t.link.queued .responder = some e ∧ e.dest = c.requester
        ∧ e.payload = .data c.table s.replica.site.seq es last)
    ∧ (ofCode tableCodes (BitVec.ofNat 8 c.table) = none →
      ∃ e, t.link.queued .responder = some e ∧ e.dest = c.requester
        ∧ e.payload = .data c.table s.replica.site.seq [] true)

/-! ## The tag port (R48 to R51) -/

/-- The port awaits the reply to a command, or takes a character of it. -/
abbrev State.Awaits (s : State) (j : TagJob) : Prop :=
  s.Live ∧ (s.port.state = .awaitingReply ∨ s.port.state = .receiving) ∧ s.port.job = some j

/-- With the levels now sampled, what was heard of the reply is the characters `reply`, whole. -/
abbrev State.Hears (s : State) (line : List TagLevel) (reply : List TagChar) : Prop :=
  s.port.heard ++ line = lineOf reply

/-- A command made due at an idle port, its attempts counted afresh (R49, R51). -/
def Port.withDue (p : Port) (c : TagCommand) (u : TagPurpose) : Port :=
  { p with state := .idle, heard := [], job := some { command := c, purpose := u, attempts := 0 } }

/-- The error signature of a transaction that ended (R51). -/
def Port.signed (p : Port) (j : TagJob) (e : Reason) : Port :=
  { p with signature := { command := some j.command, attempts := j.attempts, error := e } }

/-- The port after a transaction without error; `late` says that more came after the reply (R50, R51). -/
def Port.ended (p : Port) (j : TagJob) (late : Bool) : Port :=
  { p.signed j .noReason with heard := [], late }

/-- The port after an attempt that failed (R50, R51). -/
def Port.failed (p : Port) (j : TagJob) (e : Reason) : Port :=
  { p.signed j e with state := .settling, heard := [], late := false }

/-- The port with its command dropped and the guard settings back at 8 and 3 (R49, R65). -/
def Port.released (p : Port) : Port :=
  { p with job := none, heard := [], late := false,
           sent := if p.state = .idle ∨ p.state = .settling then p.sent else [],
           state := if p.state = .settling then .settling else .idle, guardTime := 8, gap := 3 }

/-! ## The meter (R82 to R88) -/

/-- A cell has passed a change of its input. -/
def State.passed (n : Cell) (level : Bool) (s : State) : State :=
  { s with meter := { s.meter with
      cells := s.meter.cells.set n ((s.meter.cells.get n).pass n level) } }

/-- The discriminator runs with settings `c` at position `q`, and the filtered pattern, as the sensor mode sees it,
changes to `p`. -/
abbrev State.Turns (s : State) (held : Nat) (levels : Pattern) (c : Settings) (q p : Pattern) : Prop :=
  s.Live ∧ s.meter.running = true ∧ s.settings = some c ∧ s.meter.position = some q ∧ p ≠ q
    ∧ ∃ cells ∈ s.meter.cells.passPattern levels held,
      seenPattern c.sensors cells.pattern = p

/-- The last step lies 20 µs or more before a time (R88). -/
abbrev Meter.SpacedAt (m : Meter) (time : Nat) : Prop := ∀ l ∈ m.lastStep, l + 20 ≤ time

/-- A forward step, in time (R87, R88). -/
abbrev State.StepsForward (s : State) (time held : Nat) (levels : Pattern) (c : Settings) (q p : Pattern) :
    Prop :=
  s.Turns held levels c q p ∧ s.meter.SpacedAt time ∧ forwardOf c.sensors q = some p

/-- A reverse step, in time (R87, R88). -/
abbrev State.StepsBack (s : State) (time held : Nat) (levels : Pattern) (c : Settings) (q p : Pattern) :
    Prop :=
  s.Turns held levels c q p ∧ s.meter.SpacedAt time ∧ forwardOf c.sensors q ≠ some p
    ∧ forwardOf c.sensors p = some q

/-- A phase error: no neighbour, or a neighbour too soon (R88). -/
abbrev State.StepsWrong (s : State) (time held : Nat) (levels : Pattern) (c : Settings) (q p : Pattern) :
    Prop :=
  s.Turns held levels c q p
    ∧ (forwardOf c.sensors q ≠ some p ∧ forwardOf c.sensors p ≠ some q
      ∨ (forwardOf c.sensors q = some p ∨ forwardOf c.sensors p = some q)
        ∧ ∃ l ∈ s.meter.lastStep, time < l + 20)

/-- An accumulator stays within 47 bits and a sign (R89). -/
def clamp47 (v : Int) : Int := max (-(2 ^ 47 - 1)) (min (2 ^ 47 - 1) v)

/-- The weight of a boundary, in 1/10 000 dL: the factor at the temperature read, or 1 (R98, R99). -/
def boundaryWeight (c : Settings) (m : Meter) : Int :=
  match m.tmp.reading with
  | some temp => compFactor c.factors temp
  | none => 10000

/-- What a boundary event leaves, the gross volume being `gross` after it: the compensation accumulator and its mark
(R99), the flow rate (R92), and the volumes of a running record (R163). -/
abbrev State.BoundaryTaken (s : State) (c : Settings) (time : Nat) (forward : Bool) (gross : Int) (t : State) :
    Prop :=
  let comp := if forward then s.meter.comp + boundaryWeight c s.meter else s.meter.comp - boundaryWeight c s.meter
  let mark := s.meter.uncompensated || s.meter.tmp.reading.isNone
  t.meter.comp = comp ∧ t.meter.uncompensated = mark
    ∧ t.meter.flowRate = (if forward then s.meter.lastBoundary.map fun b => 60000000 / (time - b) else some 0)
    ∧ t.meter.lastBoundary = (if forward then some time else none)
    ∧ t.meter.flowTimer = (if forward then some 10000000 else none)
    ∧ ((s.activity.state = .stopping → forward = true → ∀ x ∈ s.activity.points, gross ≤ x.overrun) →
      ∀ r, s.supply.phase = .running → s.supply.record = some r →
        ∃ r', t.supply.record = some r' ∧ r'.gross = gross
          ∧ r'.comp = if mark then none else some ((comp + 5000) / 10000))

/-- A step that makes no boundary leaves compensation, flow rate and the record's volumes as they are (R89). -/
abbrev State.NoBoundary (s t : State) : Prop :=
  t.meter.comp = s.meter.comp ∧ t.meter.uncompensated = s.meter.uncompensated
    ∧ t.meter.flowRate = s.meter.flowRate ∧ t.meter.lastBoundary = s.meter.lastBoundary
    ∧ t.meter.flowTimer = s.meter.flowTimer
    ∧ t.supply.record.map ActRecord.gross = s.supply.record.map ActRecord.gross
    ∧ t.supply.record.map ActRecord.comp = s.supply.record.map ActRecord.comp

/-- What a step does to the unauthorised flow (R93): nothing while an activity is open; else a forward one adds its
pulse to the episode, told once above 500 000 µL, and a reverse one keeps an episode going. -/
abbrev State.UnauthStep (s : State) (c : Settings) (forward : Bool) (t : State) : Prop :=
  let v := s.meter.unauthVolume + c.pulse
  (s.meter.activityOpen = true → s.meter.episode = false →
      t.meter.unauthVolume = s.meter.unauthVolume ∧ t.meter.episode = false
        ∧ t.meter.episodeNoticed = s.meter.episodeNoticed ∧ t.meter.episodeTimer = s.meter.episodeTimer)
    ∧ (s.meter.activityOpen = false → forward = true →
      t.meter.unauthVolume = v ∧ t.meter.episode = true ∧ t.meter.episodeTimer = some 60000000
        ∧ t.meter.episodeNoticed = (s.meter.episodeNoticed || decide (500000 < v))
        ∧ (s.meter.episodeNoticed = false → 500000 < v → s.console.notices.length < 8 →
          ∃ n ∈ t.console.notices, n.body = .flowUnauth (v / 100000)))
    ∧ (s.meter.activityOpen = false → forward = false →
      t.meter.unauthVolume = s.meter.unauthVolume ∧ t.meter.episode = s.meter.episode
        ∧ t.meter.episodeTimer = if s.meter.episode then some 60000000 else s.meter.episodeTimer)

/-- What a step does to the timers of the activity, the gross and the reverse volume being `gross` and `rev` after it. In
FLOWING and SLOWING a forward step stops the no-flow timer, and it and every later step start the full timer anew, which a
fill alone has (R116, R136); a step that passes a limit leads to STOPPING, with the timers of that state (R114, R117,
R118). In STOPPING every step starts the settle timer anew and touches nothing else, but for an overrun (R118, R119). In
any other state it touches nothing. -/
abbrev State.StepTimers (s : State) (c : Settings) (forward : Bool) (gross rev : Int) (t : State) : Prop :=
  let crossed : Prop := forward = true ∧ gross ≠ s.meter.acc / 100000
  let stops : Prop :=
    crossed ∧ (∃ x ∈ s.activity.points, x.stop ≤ gross) ∨ 10 < rev ∨ 8 < s.meter.phaseErrors
  (s.activity.state.flows = true → ¬stops →
      t.activity.state.flows = true ∧ t.activity.settle = s.activity.settle
        ∧ t.activity.limit = s.activity.limit
        ∧ (forward = true ∨ s.activity.noFlow = none →
          t.activity.noFlow = none
            ∧ t.activity.full = if c.role = .receipt then none else some 5000000)
        ∧ (forward = false → s.activity.noFlow.isSome = true →
          t.activity.noFlow = s.activity.noFlow ∧ t.activity.full = s.activity.full))
    ∧ (s.activity.state.flows = true → stops →
      t.activity.state = .stopping ∧ t.activity.noFlow = none ∧ t.activity.full = none
        ∧ t.activity.settle = some 2000000 ∧ t.activity.limit = some 10000000)
    ∧ (s.activity.state = .stopping → (crossed → ∀ x ∈ s.activity.points, gross ≤ x.overrun) →
      t.activity = { s.activity with settle := some 2000000 })
    ∧ (s.activity.state.flows = false → s.activity.state ≠ .stopping → t.activity = s.activity)

/-- The first reason that holds, in the order of a table of refusals. -/
def firstReason (l : List (Reason × Bool)) : Option Reason := (l.find? Prod.snd).map Prod.fst

/-- Whether some entry was found and it has a property. -/
def foundAnd {α : Type} (p : α → Bool) : Option α → Bool
  | some x => p x
  | none => false

/-- The log and the numbering have no place for one more open activity (R106 order 10, R150). -/
def logFullTest (r : Replica) : Bool :=
  decide (512 ≤ r.log.length + r.openCount) || decide (2 ^ 32 - 1 < r.site.nextRecord + (r.openCount + 1))

/-- The table of R106. -/
def openTable (r : Replica) (sender : Nat) (o : OpenRequest) : List (Reason × Bool) :=
  [(.siteStopped, r.site.stop.isSome),
   (.notInService, !foundAnd (fun e => e.membership == .inService && e.role == some .dispense
      && e.hose == some o.tank) (r.station? sender)),
   (.stationBusy, foundAnd (fun e => e.activity.isSome) (r.station? sender)),
   (.unknownMachine, (r.machine? o.machine).isNone),
   (.barred, foundAnd MachineEntry.barred (r.machine? o.machine)),
   (.heldElsewhere, foundAnd (fun m => m.hold.isSome) (r.machine? o.machine)),
   (.misgrade, (r.tank? o.tank).map TankEntry.grade != (r.machine? o.machine).map MachineEntry.grade),
   (.keyedNotPermitted, o.mode == some .keyed && !r.site.keyed),
   (.tankSuspect, foundAnd TankEntry.suspect (r.tank? o.tank)),
   (.logFull, logFullTest r)]

/-- The table of R135. -/
def deliveryTable (r : Replica) (sender : Nat) (d : DeliveryRequest) : List (Reason × Bool) :=
  [(.siteStopped, r.site.stop.isSome),
   (.notInService, !foundAnd (fun e => e.membership == .inService && e.role == some .receipt)
      (r.station? sender)),
   (.stationBusy, foundAnd (fun e => e.activity.isSome) (r.station? sender)),
   (.notServed, !foundAnd (fun e => tankInSet (e.served.getD 0) d.tank) (r.station? sender)),
   (.tankBusy, foundAnd (fun t => t.restock == .delivery) (r.tank? d.tank)),
   (.misgrade, (r.tank? d.tank).map TankEntry.grade != some d.grade),
   (.logFull, logFullTest r),
   (.noUllage, foundAnd (fun t => decide (deliveryLimit d t < 1000)) (r.tank? d.tank))]

/-! ## The tables (R26, R69, R72, R79, R126, R127, R148, R150, R155) -/

/-- The open activity of a station entry that is a fill. -/
def StationEntry.fill? (e : StationEntry) : Option OpenActivity :=
  match e.activity with
  | some a => if a.kind = .fill then some a else none
  | none => none

/-- The volume that an entry's open fill reserves in a tank (R127). -/
def StationEntry.reserves (e : StationEntry) (tank : Nat) : Nat :=
  match e.fill? with
  | some a => if a.tank = tank then a.volume else 0
  | none => 0

/-- Every entry stands at its place: 31 stations, 64 cost centres, machines and tanks in increasing
number within their limits (R26, R69, R126, R155). -/
abbrev Replica.InOrder (r : Replica) : Prop :=
  r.stations.map StationEntry.number = List.range' 1 31
    ∧ r.costCentres.map CostCentre.number = List.range 64
    ∧ (r.machines.map MachineEntry.number).Pairwise (· < ·) ∧ r.machines.length ≤ 256
    ∧ (∀ m ∈ r.machines, 1 ≤ m.number ∧ m.number ≤ 65534)
    ∧ (r.tanks.map TankEntry.number).Pairwise (· < ·)
    ∧ (∀ t ∈ r.tanks, 1 ≤ t.number ∧ t.number ≤ 8)

/-- R72: a machine's hold names a station exactly when that station has an open fill for the machine, with
that fill's open sequence. -/
abbrev Replica.HoldsMatch (r : Replica) : Prop :=
  (∀ e ∈ r.stations, ∀ a ∈ e.fill?,
    ∃ m ∈ r.machines, m.number = a.party ∧ m.hold = some { station := e.number, openSeq := a.openSeq })
    ∧ ∀ m ∈ r.machines, ∀ h ∈ m.hold,
      ∃ e ∈ r.stations, e.number = h.station ∧
        ∃ a ∈ e.fill?, a.party = m.number ∧ a.openSeq = h.openSeq

/-- R127: a tank's reserved volume is the sum of the granted volumes of the open fills drawing from it, and
the tank of every open activity is present (R129, tanks are not removed). -/
abbrev Replica.ReservationsMatch (r : Replica) : Prop :=
  (∀ t ∈ r.tanks, t.reserved = (r.stations.map fun e => e.reserves t.number).sum)
    ∧ ∀ e ∈ r.stations, ∀ a ∈ e.activity, ∃ t ∈ r.tanks, t.number = a.tank

/-- R148, R150: records and open activities together number 512 at most, records stand in increasing
number below the next record number, and every open activity has a number in hand. -/
abbrev Replica.LogKept (r : Replica) : Prop :=
  r.log.length + r.openCount ≤ 512
    ∧ (r.log.map Record.number).Pairwise (· < ·) ∧ (∀ x ∈ r.log, x.number < r.site.nextRecord)
    ∧ 1 ≤ r.site.nextRecord ∧ r.site.nextRecord + r.openCount ≤ 2 ^ 32 - 1

/-- R80: a drop-pending entry always has a hold. -/
abbrev Replica.DropsHeld (r : Replica) : Prop :=
  ∀ m ∈ r.machines, m.dropPending = true → m.hold.isSome = true

/-- R71, R127: allowances and books stay within ±1 000 000 000 dL. -/
abbrev Replica.VolumesBounded (r : Replica) : Prop :=
  (∀ m ∈ r.machines, inVolumeRange m.allowance = true) ∧ ∀ t ∈ r.tanks, inVolumeRange t.book = true

/-- A replica that the rules can have made. -/
abbrev Replica.Legal (r : Replica) : Prop :=
  r.InOrder ∧ r.HoldsMatch ∧ r.ReservationsMatch ∧ r.LogKept ∧ r.DropsHeld ∧ r.VolumesBounded

/-- The tables of the station and those of a retained write in progress are legal. -/
abbrev State.TablesLegal (s : State) : Prop :=
  s.replica.Legal ∧ ∀ w ∈ s.engine.writing, w.replica.Legal

/-! ## Orphaning (R160 to R162) -/

/-- The record that orphaning the activity `a` of station `n` appends (R161, R162). -/
def orphanRecord (r : Replica) (n : Nat) (a : OpenActivity) (time : Option Nat) : Record :=
  { number := r.site.nextRecord, madeBy := r.site.seq
    kind := match a.kind with | .fill => .orphan | .delivery => .receipt
    station := n, openSeq := a.openSeq, party := a.party, tank := a.tank, gross := a.progress, comp := none
    costCentre := match a.kind with
      | .fill => some (match r.machine? a.party with | some m => m.costCentre | none => 0)
      | .delivery => none
    endReason := some .orphaned
    mode := match a.kind with | .fill => a.mode | .delivery => .tag
    hours := none, openTime := a.openTime, endTime := time }

/-- The tables, but for the stations, after the activity `a` of station `n` was orphaned (R80, R161, R162). -/
abbrev Replica.OrphanedAs (r : Replica) (n : Nat) (a : OpenActivity) (time : Option Nat) (r' : Replica) :
    Prop :=
  r'.log = r.log ++ [orphanRecord r n a time]
    ∧ r'.site = { r.site with nextRecord := r.site.nextRecord + 1 }
    ∧ r'.machines = (match a.kind with
        | .fill =>
          if foundAnd MachineEntry.dropPending (r.machine? a.party) then
            r.machines.filter fun x => x.number ≠ a.party
          else r.machines.map fun x =>
            if x.number = a.party then
              { x with allowance := max (-1000000000) (min 1000000000 (x.allowance - a.progress)), hold := none }
            else x
        | .delivery => r.machines)
    ∧ r'.tanks = (r.tanks.map fun t =>
        if t.number = a.tank then
          match a.kind with
          | .fill => TankEntry.evaluate
            { t with book := max (-1000000000) (min 1000000000 (t.book - a.progress)),
                     reserved := t.reserved - a.volume, quietSince := none }
          | .delivery => TankEntry.evaluate
            { t with book := max (-1000000000) (min 1000000000 (t.book + a.progress)), quietSince := none,
                     restock := .normal, deliveryStation := none }
        else t)
    ∧ r'.costCentres = (match a.kind with
        | .fill => r.costCentres.map fun x =>
          if x.number = (match r.machine? a.party with | some m => m.costCentre | none => 0) then
            x.charge a.progress a.progress 1
          else x
        | .delivery => r.costCentres)

/-- An entry made ABSENT, its open activity, if it had one, orphaned (R32, R47). -/
def StationEntry.gone (e : StationEntry) : StationEntry :=
  { number := e.number, membership := .absent, role := none, hose := none, served := none, misses := 0,
    donor := none, donatingTo := none, activity := none,
    last := match e.activity with
      | some a => some { openSeq := a.openSeq, kind := .orphaned, billed := a.progress }
      | none => e.last }

/-! ## Queues (R14, R18, R36, R39, R185) -/

/-- The queues keep within their bounds: one transmit frame for each block, 8 inbound frames, 64 frames of
catch-up and of deferral, 16 notices; no notice waits to be entered. -/
abbrev State.QueuesBounded (s : State) : Prop :=
  (s.link.tx.map TxEntry.origin).Nodup ∧ s.link.inbound.length ≤ 8 ∧ s.engine.catchUp.length ≤ 64
    ∧ s.engine.deferred.length ≤ 64 ∧ s.console.notices.length ≤ 16 ∧ s.console.raised = []

/-! ## Valves (R113) -/

/-- R113: VMAIN is requested only in FLOWING, PUMP and VTRIM only in FLOWING and SLOWING. -/
abbrev State.ValvesFollow (s : State) : Prop :=
  (s.outputs.vmain = true → s.activity.state = .flowing)
    ∧ (s.outputs.pump = true → s.activity.state.flows = true)
    ∧ (s.outputs.vtrim = true → s.activity.state.flows = true)

/-! ## Write-back (R67, R123) -/

/-- A write-back that runs, or waits for a keep-alive, is that of an activity in WRITEBACK which has not heard its end;
none waits while one runs (R67, R123). -/
abbrev State.WritesInWriteback (s : State) : Prop :=
  ((s.ident.writing.isSome = true ∨ s.ident.waiting.isSome = true) →
    s.activity.state = .writeback ∧ s.activity.writeBackDone = false)
  ∧ (s.ident.writing = none ∨ s.ident.waiting = none)

/-- A write-back request `q` is taken (R67): by the context it leads to WRITING with STAGE due, or is answered
TAG_NOT_WRITTEN, which the panel is told with the record number and which ends the wait of WRITEBACK for it (R123). -/
abbrev State.TakesWriteBack (s : State) (q : WriteBackRequest) (t : State) : Prop :=
  let refused (r : Reason) : Prop :=
    (s.console.notices.length < 8 → ∃ n ∈ t.console.notices, n.body = .tagNotWritten r q.area.record)
      ∧ t.activity.state = (if s.activity.faultPending = true then .faulted
        else if s.meter.cells.noz.output = true then .writeback else .idle)
      ∧ (t.activity.state = .writeback → t.activity.writeBackDone = true)
  (q.couplerLost = true → refused .couplerLost ∧ t.ident = s.ident)
    ∧ (q.couplerLost = false → s.ident.state = .idle → refused .couplerLost ∧ t.ident = s.ident)
    ∧ ∀ c, q.couplerLost = false → s.ident.state = .identified → s.ident.context = some c →
      (c.mode = .tag → c.unlock = .unlocked →
        t.ident = { s.ident with state := .writing, writing := some { area := q.area, pass := 1 } }
          ∧ t.port.job = some { command := .stage, purpose := .writeBack, attempts := 0 }
          ∧ t.activity.state = .writeback ∧ t.activity.writeBackDone = false)
      ∧ (c.mode = .tag → c.unlock ≠ .unlocked → refused .locked ∧ t.ident = Ident.reset)
      ∧ (c.mode = .keyed → refused .keyed ∧ t.ident = Ident.reset)

/-! ## The supply (R82, R164) -/

/-- While the supply is NORMAL the monitor's filtered output is deasserted, and no lockout runs there: what asserts it
is the supply drop (R82, R164). -/
abbrev State.SupplySteady (s : State) : Prop :=
  s.supply.state = .normal → s.meter.cells.svm.output = false ∧ s.meter.cells.svm.lockout = none

/-! ## Recovery of the retained activity record (R167 to R169) -/

/-- No stream of the responder waits for the end of a thaw (R154). -/
abbrev State.StreamsGoOn (s : State) : Prop := ∀ c ∈ s.responder.context, c.paused = false

/-- The frame that recovery offers for a held record, by the station's own entry; none where it clears the record
(R167 to R169). -/
def recoveryOf (r : ActRecord) (e : StationEntry) (clock : Option Nat) : Option Payload :=
  let c : Closing :=
    { openSeq := r.openSeq, gross := max 0 r.gross, comp := r.comp.map Int.toNat,
      endReason := r.endReason.getD .powerLoss, overrun := 0, hours := none, endTime := none }
  if e.activity.map OpenActivity.openSeq = some r.openSeq then
    some (match r.kind with | .fill => .close c | .delivery => .deliveryClose c)
  else
    match e.last with
    | some l =>
      if l.openSeq = r.openSeq ∧ l.kind ≠ .closed ∧ l.billed ≠ r.gross then
        some (.adjust
          { openSeq := r.openSeq, kind := r.kind, party := r.party, tank := r.tank, mode := r.mode,
            billedBefore := l.billed, delta := r.gross - l.billed, time := clock })
      else none
    | none => none

/-- Recovery of the record `r` by the own entry `e` has run: its frame is offered, or the record is cleared, with
RECORD_UNMATCHED where last ended is of another activity (R167), which the panel is told where the notice queue has room
for all that the step raises: fewer than `room` notices wait. -/
abbrev State.Recovers (s : State) (r : ActRecord) (e : StationEntry) (t : State) (room : Nat := 15) : Prop :=
  match recoveryOf r e s.clock with
  | some p =>
    t.supply.record = some r ∧ t.supply.phase = .recovering ∧ s.ActivityOffers p t
  | none =>
    t.supply.record = none ∧ t.link = s.link
      ∧ (e.last.map LastEnded.openSeq ≠ some r.openSeq → s.console.notices.length < room →
        ∃ n ∈ t.console.notices, n.body = .recordUnmatched r.openSeq r.kind r.gross)

/-! ## Frames that a wire can carry (11.1, 11.4, 11.5) -/

/-- A value fits a field of `n` bytes. -/
def fitsNat (n v : Nat) : Bool := decide (v < 2 ^ (8 * n))

/-- A value fits a signed field of `n` bytes. -/
def fitsInt (n : Nat) (v : Int) : Bool :=
  decide (-(2 ^ (8 * n - 1) : Nat) ≤ v) && decide (v < (2 ^ (8 * n - 1) : Nat))

/-- An optional value fits its field. -/
def fitsOpt {α : Type} (f : α → Bool) : Option α → Bool
  | none => true
  | some v => f v

/-- A closing frame fits its fields. -/
def Closing.fits (c : Closing) : Bool :=
  fitsNat 6 c.openSeq && fitsInt 4 c.gross && fitsOpt (fitsNat 4) c.comp && fitsInt 4 c.overrun
    && fitsOpt (fitsNat 4) c.hours && fitsOpt (fitsNat 4) c.endTime

/-- An open activity fits its fields. -/
def OpenActivity.fits (a : OpenActivity) : Bool :=
  fitsNat 6 a.openSeq && fitsNat 2 a.party && fitsNat 1 a.tank && fitsNat 4 a.volume
    && fitsNat 4 a.progress && fitsOpt (fitsNat 4) a.openTime

/-- A set of tanks that holds at least one (R188). -/
def someTank (set : BitVec 8) : Bool := set != 0

/-- A table entry fits the fields of its table (11.5). -/
def Entry.fits : Entry → Bool
  | .site r =>
    fitsNat 6 r.seq && fitsNat 4 r.nextRecord && fitsNat 2 r.minFill && fitsNat 2 r.tolerance
      && fitsOpt (fun (x : StopInfo) => fitsNat 1 x.origin && fitsNat 6 x.seq) r.stop
  | .station e =>
    fitsNat 1 e.number && fitsNat 1 e.misses && fitsOpt (fitsNat 1) e.hose
      && fitsOpt someTank e.served && fitsOpt (fitsNat 1) e.donor && fitsOpt (fitsNat 1) e.donatingTo
      && fitsOpt OpenActivity.fits e.activity
      && fitsOpt (fun (x : LastEnded) => fitsNat 6 x.openSeq && fitsInt 4 x.billed) e.last
  | .tank e =>
    fitsNat 1 e.number && fitsNat 1 e.grade && fitsNat 4 e.capacity && fitsInt 4 e.book
      && fitsNat 4 e.reserved && fitsNat 4 e.reorder && fitsOpt (fitsNat 1) e.deliveryStation
      && fitsOpt (fitsNat 6) e.quietSince
      && fitsOpt (fun (g : LastGauge) => fitsInt 4 g.volume && fitsNat 2 g.level
        && fitsNat 1 g.station && fitsNat 6 g.seq && fitsOpt (fitsInt 2) g.temperature
        && fitsOpt (fitsInt 4) g.variance) e.lastGauge
  | .costCentre e =>
    fitsNat 1 e.number && fitsNat 4 e.gross && fitsNat 4 e.comp && fitsNat 4 e.fills
  | .machine e =>
    fitsNat 2 e.number && fitsNat 1 e.grade && fitsNat 4 e.capacity && fitsInt 4 e.allowance
      && fitsNat 1 e.costCentre
      && fitsOpt (fun (h : Hold) => fitsNat 1 h.station && fitsNat 6 h.openSeq) e.hold
      && fitsOpt (fun (l : LastFill) => fitsNat 4 l.record && fitsInt 4 l.gross) e.lastFill
  | .record r =>
    fitsNat 4 r.number && fitsNat 6 r.madeBy && fitsNat 1 r.station && fitsNat 6 r.openSeq
      && fitsNat 2 r.party && fitsNat 1 r.tank && fitsInt 4 r.gross && fitsOpt (fitsNat 4) r.comp
      && fitsOpt (fitsNat 1) r.costCentre && fitsOpt (fitsNat 4) r.hours
      && fitsOpt (fitsNat 4) r.openTime && fitsOpt (fitsNat 4) r.endTime

/-- The entries of a DATA frame are of its table; one of an unknown table carries none (R152, R153). -/
def dataFits (table : Nat) (es : List Entry) : Bool :=
  fitsNat 1 table &&
    match ofCode tableCodes (BitVec.ofNat 8 table) with
    | some t => es.all fun e => e.table == t && e.fits
    | none => es.isEmpty

/-- A payload that its layout can carry (11.4); malformed and unknown ones carry their bytes. -/
def Payload.fits : Payload → Bool
  | .stop _ => true
  | .resume => true
  | .close c => c.fits
  | .deliveryClose c => c.fits
  | .adjust a =>
    fitsNat 6 a.openSeq && fitsNat 2 a.party && fitsNat 1 a.tank && fitsInt 4 a.billedBefore
      && fitsInt 4 a.delta && fitsOpt (fitsNat 4) a.time
  | .openFill o =>
    fitsNat 2 o.machine && fitsNat 1 o.tank && fitsNat 4 o.requested && fitsOpt (fitsNat 4) o.hours
      && fitsOpt (fitsNat 4) o.openTime
  | .deliveryOpen d =>
    fitsNat 1 d.tank && fitsNat 2 d.tanker && fitsNat 1 d.grade && fitsNat 4 d.declared
      && fitsOpt (fitsNat 4) d.hours && fitsOpt (fitsNat 4) d.openTime
  | .progress n v => fitsNat 6 n && fitsNat 4 v
  | .gauge g =>
    fitsNat 1 g.tank && fitsNat 2 g.level && fitsInt 4 g.volume && fitsOpt (fitsInt 2) g.temperature
      && fitsNat 6 g.census
  | .census _ argument clock => fitsNat 1 argument && fitsOpt (fitsNat 4) clock
  | .grant g =>
    fitsNat 2 g.machine && fitsInt 4 g.value && fitsNat 1 g.grade && fitsNat 4 g.capacity
      && fitsNat 1 g.costCentre
  | .bar m => fitsNat 2 m
  | .unbar m => fitsNat 2 m
  | .drop m => fitsNat 2 m
  | .release n => fitsNat 4 n
  | .tankSet t =>
    fitsNat 1 t.tank && fitsNat 1 t.grade && fitsNat 4 t.capacity && fitsNat 4 t.reorder
      && fitsOpt (fitsInt 4) t.book
  | .order t => fitsNat 1 t
  | .ccClear n => fitsNat 1 n
  | .siteSet minFill tolerance _ => fitsOpt (fitsNat 2) minFill && fitsOpt (fitsNat 2) tolerance
  | .time n => fitsNat 4 n
  | .join j =>
    fitsNat 1 j.station && fitsOpt (fitsNat 1) j.hose && fitsOpt someTank j.served
      && fitsNat 6 j.retained
  | .announce a => fitsOpt (fitsNat 1) a.hose && fitsOpt someTank a.served
  | .leave => true
  | .found retained _ => fitsNat 6 retained
  | .sealRound x => fitsNat 1 x.winner && fitsNat 6 x.retained && fitsNat 1 x.candidates
  | .read table start count => fitsNat 1 table && fitsNat 4 start && fitsNat 1 count
  | .data table seq es _ => fitsNat 6 seq && fitsNat 1 es.length && dataFits table es
  | .busy => true
  | .snapHead joinSeq _ c =>
    fitsNat 6 joinSeq && fitsNat 1 c.site && fitsNat 1 c.stations && fitsNat 1 c.tanks
      && fitsNat 1 c.costCentres && fitsNat 2 c.machines && fitsNat 2 c.log
  | .snap es => fitsNat 1 es.length && es.all Entry.fits
  | .snapEnd => true
  | .snapAbort => true
  | .malformed _ _ => false
  | .unknown cls kind _ => decide (cls < 8) && (kindOf cls kind).isNone

/-- A frame that a station can send (R4, 11.1): a sender of 1 to 31, the destination that its class takes, a
payload of at most 112 bytes, and seq16 0 where the frame carries none. -/
def Frame.fits (f : Frame) : Bool :=
  decide (1 ≤ f.sender) && decide (f.sender ≤ 31) && destFits f.payload.cls f.dest && f.payload.fits
    && decide ((encodePayload f.payload).length ≤ 112)
    && (f.payload.isReplica || f.seq16 == 0) && f.map.isNone

end Sys2Proof.Machine
end

