-- ==== Sys2Proof/Certificates/Slice0/Obligations.lean ====
section
/-! DEFINITION. The statements for the provers. Each is about the machine of Sys2Proof/Machine; the helper names are those of
Sys2Proof/Safety.lean. -/

open Sys2Proof Sys2Proof.Machine

/-! ## The machine as a whole -/

/-- One step takes the command at the front of the queue and runs it on the state with the queue's rest. On an
empty queue the block idles: that clause is the model's choice (log entry 2). -/
def Obligations.StepRunsFrontCommand : Prop :=
  (∀ (c : Instr) (rest : List Instr) (s : State), s.pending = c :: rest →
    step s = exec c { s with pending := rest })
    ∧ ∀ s : State, s.pending = [] → step s = .next s

/-- In POWER_DOWN no block takes any event: no command but a console request, SEL and RSTN has an effect; of the
requests only STATUS and RESET are not answered WRONG_STATE (R164, R176). STATUS is answered with the station as it
stands, which it leaves so (R86); that CLOCK_TICK, too, has no effect is log entry 21, what a STATUS body is made of
log entry 15. -/
def Obligations.PowerDownTakesNoEvent : Prop :=
  (∀ (c : Instr) (s : State), isBlockEvent c = true → s.supply.state = .powerDown → exec c s = .next s)
    ∧ (∀ (c : Instr) (code : Byte) (body : List Byte) (s : State), requestOf c = some (code, body) →
      code ≠ 0x03 → code ≠ 0x05 → s.supply.state = .powerDown → s.console.raised = [] →
      s.console.request = [] → s.console.replies = [] →
      exec c s = .next (s.answered code body wrongStateReply false))
    ∧ ∀ s : State, s.supply.state = .powerDown → s.console.raised = [] →
      s.console.request = [] → s.console.replies = [] →
      exec (.status []) s = .next (s.answered 0x05 [] (doneReply s.statusBody) false)
      ∧ exec (.reset []) s = .next (State.answered 0x03 [] [0x80, 0x00, 0x00] false
        { s with console := { s.console with resetPending := true } })
      ∧ ∀ body, body ≠ [] →
        exec (.status body) s = .next (s.answered 0x05 body [0x82, 0x00, 0x00] false)
        ∧ exec (.reset body) s = .next (s.answered 0x03 body [0x82, 0x00, 0x00] false)

/-- The state after reset: every value that the spec gives for reset (R3, R8, R13, R14, R18 to R20, R23, R27, R33, R34,
R39, R46, R48, R58, R82, R85, R87 to R93, R95, R99, R100, R132, R143, R152, R158, R163, R164, R171, R181, R185); the
filter cells at their default settings on inputs of any levels (R82, R85). The inputs of State.reset itself are low
(log entry 8), and that the sequence limit has not been reached is log entry 27. -/
def Obligations.ResetValues : Prop :=
  (State.reset.link.state = .offline ∧ State.reset.link.acceptedSeq = 0 ∧ State.reset.link.tx = []
      ∧ State.reset.link.inbound = [] ∧ State.reset.link.voidRun = 0
      ∧ State.reset.link.errors =
        { sync := 0, stuff := 0, check := 0, length := 0, truncated := 0, clash := 0 }
      ∧ State.reset.link.censusTimer = none ∧ State.reset.link.wire = none)
    ∧ (State.reset.engine.freeze = false ∧ State.reset.engine.catchUp = []
      ∧ State.reset.engine.deferred = [] ∧ State.reset.engine.admitted = false
      ∧ State.reset.engine.listenTimer = none ∧ State.reset.engine.joinTimer = none
      ∧ State.reset.engine.roundTimer = none ∧ State.reset.engine.holdOff = none
      ∧ State.reset.engine.headTimer = none ∧ State.reset.engine.sealTimer = none
      ∧ State.reset.engine.writing = none ∧ State.reset.engine.join = none
      ∧ State.reset.engine.round = none ∧ State.reset.engine.stream = none
      ∧ State.reset.limitReached = false)
    ∧ (State.reset.port.state = .idle ∧ State.reset.port.guardTime = 8 ∧ State.reset.port.gap = 3
      ∧ State.reset.port.signature.error = .noReason ∧ State.reset.ident.state = .idle
      ∧ State.reset.ident.context = none ∧ State.reset.ident.runTimer = none
      ∧ State.reset.port.job = none ∧ State.reset.port.signature.command = none)
    ∧ (State.reset.meter.running = false ∧ State.reset.meter.position = none
      ∧ State.reset.meter.phaseErrors = 0 ∧ State.reset.meter.acc = 0 ∧ State.reset.meter.rev = 0
      ∧ State.reset.meter.comp = 0 ∧ State.reset.meter.uncompensated = false
      ∧ State.reset.meter.flowRate = none ∧ State.reset.meter.episode = false
      ∧ State.reset.meter.unauthVolume = 0 ∧ State.reset.meter.recentTimer = none
      ∧ State.reset.meter.flowTimer = none ∧ State.reset.meter.episodeTimer = none
      ∧ State.reset.meter.lastStep = none ∧ State.reset.meter.activityOpen = false
      ∧ State.reset.meter.tmp.reading = none ∧ State.reset.meter.gau.reading = none)
    ∧ (State.reset.activity.state = .idle ∧ State.reset.activity.preset = none
      ∧ State.reset.activity.linkLost = false ∧ State.reset.activity.lastTank = none
      ∧ State.reset.activity.result = none ∧ State.reset.activity.requested = none
      ∧ State.reset.activity.openSeq = none ∧ State.reset.activity.granted = none
      ∧ State.reset.activity.points = none ∧ State.reset.activity.stopVolume = none
      ∧ State.reset.activity.endReason = none ∧ State.reset.activity.pendingEnd = none
      ∧ State.reset.activity.faultPending = false ∧ State.reset.activity.couplerLost = false
      ∧ State.reset.activity.namedTank = none ∧ State.reset.activity.declared = none
      ∧ State.reset.activity.noFlow = none ∧ State.reset.activity.full = none
      ∧ State.reset.activity.settle = none ∧ State.reset.activity.limit = none
      ∧ State.reset.outputs = { pump := false, vmain := false, vtrim := false }
      ∧ State.reset.gauge.state = .idle ∧ State.reset.gauge.periodTimer = none
      ∧ State.reset.gauge.censusSeq = none ∧ State.reset.gauge.readings = []
      ∧ State.reset.gauge.sent = none)
    ∧ (State.reset.responder = { context := none, waitingBusy := none }
      ∧ State.reset.supply.state = .normal ∧ State.reset.stop.wanted = false
      ∧ State.reset.clock = none ∧ State.reset.console.config = none
      ∧ State.reset.console.started = false ∧ State.reset.console.request = []
      ∧ State.reset.console.replies = [] ∧ State.reset.console.notices = []
      ∧ State.reset.console.lost = false ∧ State.reset.attn = false)
    ∧ ∀ (inputs : BitVec 8) (replica : Replica) (wiped reached : Bool) (record : Option ActRecord)
      (free : Nat) (pending : List Instr) (x : Cell × Nat × FilterMode × Nat),
      x ∈ [(Cell.a, 0, FilterMode.delayed, 2), (.b, 1, .delayed, 2), (.c, 2, .delayed, 2),
        (.noz, 3, .immediate, 200), (.cpl, 4, .delayed, 200), (.estop, 5, .immediate, 50),
        (.svm, 6, .delayed, 50), (.dhs, 7, .immediate, 200)] →
      (State.resetWith inputs replica wiped reached record free pending).meter.cells.get x.1 =
        { mode := x.2.2.1, threshold := x.2.2.2, input := inputs.getLsbD x.2.1,
          output := inputs.getLsbD x.2.1, count := 0, lockout := none, glitch := false, glitches := 0,
          idle := false }

/-- The invariants below hold at reset. What the tables of a part that has never been wiped hold is log entry 7, and that
the inputs, SVM among them, are low at State.reset is log entry 8. -/
def Obligations.InvariantsHoldAtReset : Prop :=
  State.reset.TablesLegal ∧ State.reset.QueuesBounded ∧ State.reset.ValvesFollow
    ∧ State.reset.SupplySteady ∧ State.reset.WritesInWriteback

/-- Every step keeps the tables legal: a machine's hold names the station with its open fill and no other (R72), a
tank's reservation is the sum of the grants that draw from it (R127), records and open activities number 512 at
most (R148), and what else `Replica.Legal` says. The premise on the join area says that the tables which a donor
streams are legal; the 620 takes them over as they come (R40). -/
def Obligations.StepKeepsTablesLegal : Prop :=
  ∀ s t : State, s.TablesLegal →
    (∀ a ∈ s.engine.join, ∀ r ∈ a.replica?, r.Legal) →
    step s = .next t → t.TablesLegal

/-- Every step keeps the queues within their bounds, with at most one frame of each block in the transmit queue
(R14, R18, R36, R39, R185). -/
def Obligations.StepKeepsQueuesBounded : Prop :=
  ∀ s t : State, s.QueuesBounded → step s = .next t → t.QueuesBounded

/-- Every step keeps the valve requests to the activity: VMAIN is requested in FLOWING alone, PUMP and VTRIM in
FLOWING and SLOWING alone (R113). Every step keeps a write-back, one that waits for a keep-alive too, to an activity
in WRITEBACK that has not heard its end (R67, R123). Every step keeps the supply NORMAL only with the filtered SVM
output deasserted and no lockout running there (R82, R164). -/
def Obligations.StepKeepsValvesFollowing : Prop :=
  (∀ s t : State, s.ValvesFollow → step s = .next t → t.ValvesFollow)
    ∧ (∀ s t : State, s.SupplySteady → step s = .next t → t.SupplySteady)
    ∧ ∀ s t : State, s.WritesInWriteback → step s = .next t → t.WritesInWriteback

/-- R113 at the outputs: VMAIN is on only in FLOWING, PUMP and VTRIM only in FLOWING or SLOWING, and each only at an
IN_SERVICE station with ESTOP deasserted, no valve fault, the site running, no accepted STOP waiting, and the
supply up. -/
def Obligations.OutputsAreGuarded : Prop :=
  ∀ s : State, s.ValvesFollow → (s.pump = true ∨ s.vmain = true ∨ s.vtrim = true) →
    (s.activity.state = .flowing ∨ s.activity.state = .slowing)
      ∧ (s.vmain = true → s.activity.state = .flowing)
      ∧ s.link.state = .inService ∧ s.meter.cells.estop.output = false
      ∧ s.activity.faultPending = false ∧ s.replica.site.stop = none
      ∧ (∀ f ∈ s.link.inbound, f.payload.kind? ≠ some .stop)
      ∧ (∀ f ∈ s.engine.deferred, f.payload.kind? ≠ some .stop)
      ∧ s.supply.state = .normal

/-- The frame of every command: none touches the queue of commands, and what the commands that are not named in
`Safety.lean` for it leave unchanged: the tables and the mark of their sequence limit, the WIPE mark, the clock, the
configuration record, the supply state, the counts of the meter, the receive error counts. No output is requested anew
but at the end of a retained write, which is where a grant opens the valves (R113). The premise is an invariant of
every step (StepKeepsValvesFollowing). -/
def Obligations.CommandsKeepOtherState : Prop :=
  ∀ (c : Instr) (s t : State), s.SupplySteady → exec c s = .next t →
    t.pending = s.pending
      ∧ (writesTables c = false → t.replica = s.replica ∧ t.limitReached = s.limitReached)
      ∧ ((∀ body, c ≠ .wipe body) → t.wiped = s.wiped)
      ∧ (setsClock c = false → t.clock = s.clock)
      ∧ (setsConfig c = false → t.console.config = s.console.config)
      ∧ (movesSupply c = false → t.supply.state = s.supply.state)
      ∧ (countsVolume c = false → t.meter.acc = s.meter.acc ∧ t.meter.rev = s.meter.rev
        ∧ t.meter.comp = s.meter.comp ∧ t.meter.uncompensated = s.meter.uncompensated
        ∧ t.meter.phaseErrors = s.meter.phaseErrors)
      ∧ (countsErrors c = false → t.link.errors = s.link.errors)
      ∧ (c ≠ .retainedWriteComplete → c ≠ .sequenceLimit → (t.outputs.pump = true → s.outputs.pump = true)
        ∧ (t.outputs.vmain = true → s.outputs.vmain = true)
        ∧ (t.outputs.vtrim = true → s.outputs.vtrim = true))

/-! ## Formats -/

/-- Encoding and decoding a payload agree: every value of every field that a layout can carry comes back (11.4,
11.5, R188). -/
def Obligations.PayloadRoundTrip : Prop :=
  ∀ p : Payload, p.fits = true → decodePayload p.cls p.kindByte (encodePayload p) = p

/-- A frame put on the wire by one station is read by another as the same frame, without an error: stuffing and its
removal, bit order, header, length and check agree (R1, R2, R4, R7, R187, R189). -/
def Obligations.FrameRoundTrip : Prop :=
  ∀ f : Frame, f.fits = true → receive (wireBits f) = .window { frame := f, error := none }

/-! ## What a replica frame does to the tables -/

/-- A frame of unknown kind changes no table, nor does one of an office kind whose sender is no in-service office
(R29). -/
def Obligations.OfficeKindsNeedTheOffice : Prop :=
  (∀ (r : Replica) (f : Frame), f.payload.kind? = none → applyEffect r f = (r, .noChange))
    ∧ ∀ (r : Replica) (f : Frame) (k : Kind), f.payload.kind? = some k →
      k ∈ [Kind.grant, .bar, .unbar, .drop, .release, .tankSet, .order, .ccClear, .siteSet, .time] →
      (∀ e ∈ r.station? f.sender, e.membership ≠ .inService ∨ e.role ≠ some .office) →
      applyEffect r f = (r, .noChange)

/-- GRANT, BAR, UNBAR and DROP of an in-service office on the machine table (R75 to R79). -/
def Obligations.OfficeFramesOnMachines : Prop :=
  (∀ (r : Replica) (f : Frame) (g : Granting), r.isOffice f.sender = true → f.payload = .grant g →
    applyEffect r f =
      if g.machine = 0 ∨ 65534 < g.machine ∨ g.grade < 1 ∨ 7 < g.grade ∨ g.capacity = 0
          ∨ 99999 < g.capacity ∨ 63 < g.costCentre ∨ g.value < -1000000000 ∨ 1000000000 < g.value then
        (r, .noChange)
      else
        match r.machine? g.machine with
        | some m =>
          let v := match g.mode with | .set => g.value | .add => m.allowance + g.value
          if v < -1000000000 ∨ 1000000000 < v then (r, .noChange)
          else (r.modMachine g.machine fun x =>
            { x with grade := g.grade, capacity := g.capacity, costCentre := g.costCentre,
                     allowance := v, dropPending := false }, .applied)
        | none =>
          if 256 ≤ r.machines.length then (r, .noChange)
          else
            let m : MachineEntry :=
              { number := g.machine, grade := g.grade, capacity := g.capacity, allowance := g.value,
                costCentre := g.costCentre, barred := false, dropPending := false, hold := none,
                lastFill := none }
            ({ r with machines := insertMachine m r.machines }, .applied))
    ∧ (∀ (r : Replica) (f : Frame) (n : Nat) (v : Bool), r.isOffice f.sender = true →
      f.payload = (if v then .bar n else .unbar n) →
      applyEffect r f =
        if n = 0 ∨ 65534 < n then (r, .noChange)
        else
          match r.machine? n with
          | none => (r, .noChange)
          | some m =>
            if m.barred = v then (r, .noChange)
            else (r.modMachine n fun x => { x with barred := v }, .applied))
    ∧ ∀ (r : Replica) (f : Frame) (n : Nat), r.isOffice f.sender = true → f.payload = .drop n →
      applyEffect r f =
        if n = 0 ∨ 65534 < n then (r, .noChange)
        else
          match r.machine? n with
          | none => (r, .noChange)
          | some m =>
            if m.hold = none then
              ({ r with machines := r.machines.filter fun e => e.number ≠ n }, .applied)
            else if m.dropPending then (r, .noChange)
            else (r.modMachine n fun x => { x with dropPending := true }, .applied)

/-- TANK-SET and ORDER of an in-service office on the tank table (R126, R129, R131), and the restock evaluation, row
by row, which changes the restock state alone (R130). -/
def Obligations.OfficeFramesOnTanks : Prop :=
  (∀ (r : Replica) (f : Frame) (x : TankSetting), r.isOffice f.sender = true →
    f.payload = .tankSet x →
    applyEffect r f =
      if x.tank < 1 ∨ 8 < x.tank ∨ x.grade < 1 ∨ 7 < x.grade ∨ x.capacity < 1000
          ∨ 10000000 < x.capacity ∨ x.capacity < x.reorder
          ∨ (∃ b ∈ x.book, b < -1000000000 ∨ 1000000000 < b) then (r, .noChange)
      else
        match r.tank? x.tank with
        | none =>
          let t : TankEntry :=
            { number := x.tank, grade := x.grade, capacity := x.capacity, book := x.book.getD 0,
              reserved := 0, reorder := x.reorder, restock := .normal, deliveryStation := none,
              quietSince := none, lastGauge := none, suspect := false }
          ({ r with tanks := insertTank t.evaluate r.tanks }, .applied)
        | some t =>
          if t.grade ≠ x.grade ∧ ∃ e ∈ r.stations, ∃ a ∈ e.activity, a.tank = x.tank then (r, .noChange)
          else
            (r.modTank x.tank fun e => TankEntry.evaluate
              { e with grade := x.grade, capacity := x.capacity, reorder := x.reorder,
                       book := x.book.getD e.book,
                       quietSince := if x.book.isSome then none else e.quietSince,
                       suspect := false }, .applied))
    ∧ (∀ (r : Replica) (f : Frame) (n : Nat), r.isOffice f.sender = true → f.payload = .order n →
      applyEffect r f =
        if (r.tank? n).map TankEntry.restock = some .low then
          (r.modTank n fun e => { e with restock := .ordered }, .applied)
        else (r, .noChange))
    ∧ ∀ t : TankEntry, t.evaluate = { t with restock :=
        match t.restock with
        | .normal => if t.book - (t.reserved : Int) < t.reorder then .low else .normal
        | .low => if t.book - (t.reserved : Int) < t.reorder then .low else .normal
        | .ordered => if t.book - (t.reserved : Int) < t.reorder then .ordered else .normal
        | .delivery => .delivery }

/-- R30: SITE-SET of an in-service office. -/
def Obligations.SiteSetChangesParameters : Prop :=
  ∀ (r : Replica) (f : Frame) (minFill tolerance : Option Nat) (keyed : Option Bool),
    r.isOffice f.sender = true → f.payload = .siteSet minFill tolerance keyed →
    applyEffect r f =
      if (minFill = none ∧ tolerance = none ∧ keyed = none)
          ∨ (∃ v ∈ minFill, v < 10 ∨ 5000 < v) ∨ (∃ v ∈ tolerance, v < 10 ∨ 50000 < v) then
        (r, .noChange)
      else
        ({ r with site := { r.site with
            minFill := minFill.getD r.site.minFill
            tolerance := tolerance.getD r.site.tolerance
            keyed := keyed.getD r.site.keyed } }, .applied)

/-- R157: CC-CLEAR. From any other sender than an in-service office it changes nothing (R29); no other table than
the cost-centre table is touched. -/
def Obligations.CcClearResetsOneCentre : Prop :=
  ∀ (r : Replica) (f : Frame) (n : Nat), f.payload = .ccClear n →
    applyEffect r f =
      if r.isOffice f.sender = true ∧ n ≤ 63 then
        ({ r with costCentres := r.costCentres.map fun e =>
            if e.number = n then
              { number := n, gross := 0, comp := 0, fills := 0, saturated := false }
            else e }, .applied)
      else (r, .noChange)

/-- RELEASE of an in-service office takes the records at or below its number out of the log, and changes nothing
else (R151); PROGRESS sets the progress volume of the activity it names (R115). -/
def Obligations.ReleaseAndProgress : Prop :=
  (∀ (r : Replica) (f : Frame) (n : Nat), (r.log.map Record.number).Pairwise (· < ·) →
    r.isOffice f.sender = true → f.payload = .release n →
    applyEffect r f = ({ r with log := r.log.filter fun x => n < x.number }, .applied))
    ∧ ∀ (r : Replica) (f : Frame) (openSeq volume : Nat), f.payload = .progress openSeq volume →
      applyEffect r f =
        match (r.station? f.sender).bind StationEntry.activity with
        | some a =>
          if a.openSeq = openSeq then
            (r.modStation f.sender fun e => { e with activity := some { a with progress := volume } },
              .applied)
          else (r, .noChange)
        | none => (r, .noChange)

/-- OPEN: the test of form, the reasons of R106 in their order, the judgement of volume of R107 and the changes of
R108. -/
def Obligations.OpenIsDecidedInOrder : Prop :=
  ∀ (r : Replica) (f : Frame) (o : OpenRequest), f.payload = .openFill o →
    applyEffect r f =
      if o.machine = 0 ∨ 65534 < o.machine ∨ o.requested = 0 ∨ 99999 < o.requested ∨ o.mode = none
          ∨ o.tank < 1 ∨ 8 < o.tank then (r, .refused .malformed)
      else
        match firstReason (openTable r f.sender o), r.machine? o.machine, r.tank? o.tank with
        | some x, _, _ => (r, .refused x)
        | none, some m, some t =>
          let v : Int := min (o.requested : Int) (min m.allowance (t.book - (t.reserved : Int)))
          if v < r.site.minFill then
            (r, .refused (if m.allowance ≤ o.requested ∧ m.allowance ≤ t.book - (t.reserved : Int)
              then .noAllowance else .noStock))
          else
            let a : OpenActivity :=
              { kind := .fill, openSeq := r.site.seq, party := o.machine, tank := o.tank,
                volume := v.toNat, progress := 0, mode := o.mode.getD .tag, openTime := o.openTime }
            (((r.modStation f.sender fun e => { e with activity := some a }).modMachine o.machine
                fun m => { m with hold := some { station := f.sender, openSeq := r.site.seq } }).modTank
                o.tank fun t => TankEntry.evaluate
                  { t with reserved := t.reserved + v.toNat, quietSince := none },
              .granted r.site.seq v.toNat)
        | none, _, _ => (r, .noChange)

/-- DELIVERY-OPEN: the test of form, the reasons in their order, the limit and the changes (R135). That of the second
term of the limit the 2 % alone are rounded down is log entry 53. -/
def Obligations.DeliveryOpenIsDecidedInOrder : Prop :=
  ∀ (r : Replica) (f : Frame) (d : DeliveryRequest), f.payload = .deliveryOpen d →
    applyEffect r f =
      if d.tank < 1 ∨ 8 < d.tank ∨ d.tanker = 0 ∨ 65534 < d.tanker ∨ d.grade < 1 ∨ 7 < d.grade
          ∨ d.declared < 1000 ∨ 999999 < d.declared then (r, .refused .malformed)
      else
        match firstReason (deliveryTable r f.sender d), r.tank? d.tank with
        | some x, _ => (r, .refused x)
        | none, some t =>
          let v : Nat := (min ((d.declared + d.declared * 2 / 100 : Nat) : Int)
            ((t.capacity : Int) - t.book - ((t.capacity * 2 / 100 : Nat) : Int))).toNat
          let a : OpenActivity :=
            { kind := .delivery, openSeq := r.site.seq, party := d.tanker, tank := d.tank, volume := v,
              progress := 0, mode := d.mode, openTime := d.openTime }
          ((r.modStation f.sender fun e => { e with activity := some a }).modTank d.tank fun t =>
              { t with restock := .delivery, deliveryStation := some f.sender, quietSince := none },
            .granted r.site.seq v)
        | none, none => (r, .noChange)

/-- CLOSE and DELIVERY-CLOSE that find their activity, table by table (R122, R139, R80); one that finds none, or is
malformed, changes nothing (R121, R139). What a charge does to the fields of a cost centre, for these and for
orphaning and ADJUST (R155, R156). That the RECEIPT record of a DELIVERY-CLOSE has the mode TAG (R149) where its
DELIVERY-OPEN carried KEYED too is log entry 46. -/
def Obligations.ClosingFramesBill : Prop :=
  (∀ (x : CostCentre) (gross comp fills : Int),
    let passes (v : Nat) (d : Int) : Bool := decide ((v : Int) + d < 0) || decide (2 ^ 32 - 1 < (v : Int) + d)
    let bounded (v : Nat) (d : Int) : Nat := (max 0 (min (2 ^ 32 - 1) ((v : Int) + d))).toNat
    x.charge gross comp fills =
      { number := x.number, gross := bounded x.gross gross, comp := bounded x.comp comp,
        fills := bounded x.fills fills,
        saturated := x.saturated || passes x.gross gross || passes x.comp comp || passes x.fills fills })
    ∧ (∀ (r : Replica) (f : Frame) (c : Closing) (e : StationEntry) (a : OpenActivity) (m : MachineEntry),
    f.payload = .close c → r.station? f.sender = some e → e.activity = some a → a.kind = .fill →
    a.openSeq = c.openSeq → r.machine? a.party = some m → 0 ≤ c.gross → 0 ≤ c.overrun →
    c.endReason ∈ fillEndReasons →
    ∃ r', applyEffect r f = (r', .closed r.site.nextRecord)
      ∧ r'.log = r.log ++
        [{ number := r.site.nextRecord, madeBy := r.site.seq, kind := .fill, station := f.sender,
           openSeq := a.openSeq, party := a.party, tank := a.tank, gross := c.gross, comp := c.comp,
           costCentre := some m.costCentre, endReason := some c.endReason, mode := a.mode,
           hours := c.hours, openTime := a.openTime, endTime := c.endTime }]
      ∧ r'.site = { r.site with nextRecord := r.site.nextRecord + 1 }
      ∧ r'.machines = (if m.dropPending then r.machines.filter fun x => x.number ≠ a.party
          else r.machines.map fun x =>
            if x.number = a.party then
              { x with allowance := max (-1000000000) (min 1000000000 (x.allowance - c.gross)),
                       hold := none,
                       lastFill := some { record := r.site.nextRecord, gross := c.gross } }
            else x)
      ∧ r'.tanks = (r.tanks.map fun t =>
          if t.number = a.tank then TankEntry.evaluate
            { t with book := max (-1000000000) (min 1000000000 (t.book - c.gross)),
                     reserved := t.reserved - a.volume, quietSince := none }
          else t)
      ∧ r'.costCentres = (r.costCentres.map fun x =>
          if x.number = m.costCentre then
            x.charge c.gross (match c.comp with | some v => (v : Int) | none => c.gross) 1
          else x)
      ∧ r'.stations = r.stations.map fun x =>
          if x.number = f.sender then
            { x with activity := none,
                     last := some { openSeq := a.openSeq, kind := .closed, billed := c.gross } }
          else x)
    ∧ (∀ (r : Replica) (f : Frame) (c : Closing) (e : StationEntry) (a : OpenActivity),
      f.payload = .deliveryClose c → r.station? f.sender = some e → e.activity = some a →
      a.kind = .delivery → a.openSeq = c.openSeq → 0 ≤ c.gross → 0 ≤ c.overrun →
      c.endReason ∈ deliveryEndReasons →
      ∃ r', applyEffect r f = (r', .closed r.site.nextRecord)
        ∧ r'.log = r.log ++
          [{ number := r.site.nextRecord, madeBy := r.site.seq, kind := .receipt, station := f.sender,
             openSeq := a.openSeq, party := a.party, tank := a.tank, gross := c.gross, comp := c.comp,
             costCentre := none, endReason := some c.endReason, mode := .tag, hours := c.hours,
             openTime := a.openTime, endTime := c.endTime }]
        ∧ r'.site = { r.site with nextRecord := r.site.nextRecord + 1 }
        ∧ r'.machines = r.machines ∧ r'.costCentres = r.costCentres
        ∧ r'.tanks = (r.tanks.map fun t =>
            if t.number = a.tank then TankEntry.evaluate
              { t with book := max (-1000000000) (min 1000000000 (t.book + c.gross)),
                       quietSince := none, restock := .normal, deliveryStation := none }
            else t)
        ∧ r'.stations = r.stations.map fun x =>
            if x.number = f.sender then
              { x with activity := none,
                       last := some { openSeq := a.openSeq, kind := .closed, billed := c.gross } }
            else x)
    ∧ ∀ (r : Replica) (f : Frame) (c : Closing) (k : ActivityKind) (reasons : List Reason),
      (f.payload = .close c ∧ k = .fill ∧ reasons = fillEndReasons
        ∨ f.payload = .deliveryClose c ∧ k = .delivery ∧ reasons = deliveryEndReasons) →
      (c.gross < 0 ∨ c.overrun < 0 ∨ c.endReason ∉ reasons
        ∨ ∀ a ∈ (r.station? f.sender).bind StationEntry.activity,
          a.kind ≠ k ∨ a.openSeq ≠ c.openSeq) →
      applyEffect r f = (r, .noChange)

/-- R142: CENSUS(FLOW). No table in order holds a tank of a number outside 1 to 8 (R126). -/
def Obligations.FlowCensusSetsQuietSince : Prop :=
  ∀ (r : Replica) (f : Frame) (n : Nat) (time : Option Nat) (map : BitVec 32),
    f.payload = .census .flow n time → f.map = some map →
    (r.InOrder → n < 1 ∨ 8 < n → applyEffect r f = (r, .noChange))
    ∧ applyEffect r f =
      (match r.tank? n with
      | none => (r, .noChange)
      | some t =>
        if map = 0 ∧ t.reserved = 0 ∧ t.restock ≠ .delivery then
          (r.modTank n fun e => { e with quietSince := some r.site.seq }, .census true r.site.seq)
        else (r.modTank n fun e => { e with quietSince := none }, .census false r.site.seq))

/-- GAUGE on the tank table: refused in its fields or its sender, reconciled, or unreconciled (R147). -/
def Obligations.GaugeIsJudged : Prop :=
  ∀ (r : Replica) (f : Frame) (g : Gauging), f.payload = .gauge g →
    applyEffect r f =
      match r.tank? g.tank with
      | none => (r, .noChange)
      | some t =>
        if 20000 < g.level ∨ g.volume < 0 ∨ 10000000 < g.volume
            ∨ (r.station? f.sender).map StationEntry.membership ≠ some .inService then (r, .noChange)
        else if t.quietSince = some g.census then
          let v := g.volume - t.book
          let x : LastGauge :=
            { volume := g.volume, level := g.level, station := f.sender, seq := r.site.seq,
              reconciled := true, temperature := g.temperature, variance := some v }
          let suspect := t.suspect || decide (r.site.tolerance < v.natAbs)
          (r.modTank g.tank fun e => { e with lastGauge := some x, suspect },
            .gauge true true (some v) suspect)
        else
          let x : LastGauge :=
            { volume := g.volume, level := g.level, station := f.sender, seq := r.site.seq,
              reconciled := false, temperature := g.temperature, variance := none }
          (r.modTank g.tank fun e => { e with lastGauge := some x, suspect := t.suspect },
            .gauge true false none t.suspect)

/-- CENSUS(PRESENT): the misses of every entry (R31), and the removal of an entry whose misses reach 3 (R32). Where
one entry alone is removed, the tables after it: its donation ended, its open activity orphaned with the time that the
census carries (R161, R162). -/
def Obligations.PresentCensusCountsMisses : Prop :=
  (∀ (r : Replica) (f : Frame) (n : Nat) (time : Option Nat) (map : BitVec 32),
    f.payload = .census .present n time → f.map = some map →
    let g (e : StationEntry) : Nat :=
      match e.membership, e.donor with
      | .absent, _ => e.misses
      | .joining, none => e.misses + 1
      | _, _ => if map.getLsbD e.number = true then 0 else e.misses + 1
    (∀ e ∈ r.stations, g e < 3) →
    applyEffect r f =
      ({ r with stations := r.stations.map fun e => { e with misses := g e } }, .applied))
    ∧ (∀ (r : Replica) (f : Frame) (n : Nat) (time : Option Nat) (map : BitVec 32) (e : StationEntry),
      r.InOrder → f.payload = .census .present n time → f.map = some map → e ∈ r.stations →
      e.membership = .inService → e.misses = 2 → map.getLsbD e.number = false →
      ∃ x, (applyEffect r f).1.station? e.number = some x ∧ x.membership = .absent ∧ x.misses = 0
        ∧ x.role = none ∧ x.hose = none ∧ x.served = none ∧ x.activity = none
        ∧ (e.activity = none → x.last = e.last)
        ∧ ∀ a, e.activity = some a →
          x.last = some { openSeq := a.openSeq, kind := .orphaned, billed := a.progress })
    ∧ ∀ (r : Replica) (f : Frame) (n : Nat) (time : Option Nat) (map : BitVec 32) (e : StationEntry),
      r.InOrder → r.HoldsMatch → f.payload = .census .present n time → f.map = some map →
      e ∈ r.stations → e.membership ≠ .absent →
      let g (x : StationEntry) : Nat :=
        match x.membership, x.donor with
        | .absent, _ => x.misses
        | .joining, none => x.misses + 1
        | _, _ => if map.getLsbD x.number = true then 0 else x.misses + 1
      3 ≤ g e → (∀ x ∈ r.stations, x.number ≠ e.number → g x < 3) →
      ∃ r', applyEffect r f = (r', .applied)
        ∧ r'.stations = (r.stations.map fun x =>
            if x.number = e.number then x.gone
            else if e.membership = .joining ∧ e.donor = some x.number then
              { x with misses := g x, donatingTo := none }
            else if e.membership = .inService ∧ e.donatingTo = some x.number then
              { x with misses := g x, donor := none }
            else { x with misses := g x })
        ∧ (e.activity = none → r'.log = r.log ∧ r'.site = r.site ∧ r'.machines = r.machines
          ∧ r'.tanks = r.tanks ∧ r'.costCentres = r.costCentres)
        ∧ ∀ a, e.activity = some a → r.OrphanedAs e.number a time r'

/-- JOIN and ANNOUNCE on the station table (R35, R42): a JOIN of an entry that is JOINING with a donor ends that donation
first, and its donor is then as free as any other (R35). The founding sweep where no other entry has an open activity, or
one has, which is orphaned without a time (R47, R161, R162). That the ANNOUNCE of an entry which lost its donor (R31) is
applied as no change is log entry 39. -/
def Obligations.MembershipFrames : Prop :=
  (∀ (r : Replica) (f : Frame) (j : Joining) (e d : StationEntry), f.payload = .join j →
    j.station = f.sender → r.station? f.sender = some e → e.membership ≠ .inService → e.donor = none →
    (∃ before after, r.stations = before ++ d :: after ∧ ∀ x ∈ before,
      x.membership ≠ .inService ∨ (x.role ≠ some .dispense ∧ x.role ≠ some .receipt)
        ∨ x.donatingTo ≠ none) →
    d.membership = .inService → (d.role = some .dispense ∨ d.role = some .receipt) →
    d.donatingTo = none →
    applyEffect r f =
      ((r.modStation f.sender fun x =>
          { x with membership := .joining, role := some j.role, hose := j.hose, served := j.served,
                   misses := 0, donor := some d.number }).modStation d.number fun x =>
          { x with donatingTo := some f.sender }, .applied))
    ∧ (∀ (r : Replica) (f : Frame) (j : Joining) (e d : StationEntry) (n : Nat), f.payload = .join j →
      j.station = f.sender → r.station? f.sender = some e → e.membership = .joining → e.donor = some n →
      let ended : Replica :=
        (r.modStation n fun x => { x with donatingTo := none }).modStation f.sender fun x =>
          { x with donor := none }
      (∃ before after, ended.stations = before ++ d :: after ∧ ∀ x ∈ before,
        x.membership ≠ .inService ∨ (x.role ≠ some .dispense ∧ x.role ≠ some .receipt)
          ∨ x.donatingTo ≠ none) →
      d.membership = .inService → (d.role = some .dispense ∨ d.role = some .receipt) →
      d.donatingTo = none →
      applyEffect r f =
        ((ended.modStation f.sender fun x =>
            { x with membership := .joining, role := some j.role, hose := j.hose, served := j.served,
                     misses := 0, donor := some d.number }).modStation d.number fun x =>
            { x with donatingTo := some f.sender }, .applied))
    ∧ (∀ (r : Replica) (f : Frame) (j : Joining), f.payload = .join j →
      (j.station ≠ f.sender ∨ (r.station? f.sender).map StationEntry.membership = some .inService
        ∨ ((r.station? f.sender).bind StationEntry.donor = none ∧ ∀ x ∈ r.stations,
          x.membership ≠ .inService ∨ (x.role ≠ some .dispense ∧ x.role ≠ some .receipt)
            ∨ x.donatingTo ≠ none)) →
      applyEffect r f = (r, .noChange))
    ∧ (∀ (r : Replica) (f : Frame) (a : Announcing) (e : StationEntry) (d : Nat),
      f.payload = .announce a → a.founder = false → r.station? f.sender = some e →
      e.membership = .joining → e.donor = some d →
      applyEffect r f =
        ((r.modStation d fun x => { x with donatingTo := none }).modStation f.sender fun x =>
          if a.keyCheck = r.site.keyCheck then
            { x with membership := .inService, role := some a.role, hose := a.hose,
                     served := a.served, misses := 0, donor := none }
          else { x with donor := none }, .applied))
    ∧ (∀ (r : Replica) (f : Frame) (a : Announcing), f.payload = .announce a → a.founder = false →
      ((r.station? f.sender).map StationEntry.membership ≠ some .joining
        ∨ (r.station? f.sender).bind StationEntry.donor = none) →
      applyEffect r f = (r, .noChange))
    ∧ (∀ (r : Replica) (f : Frame) (a : Announcing), r.InOrder → f.payload = .announce a →
      a.founder = true → (∀ e ∈ r.stations, e.number ≠ f.sender → e.activity = none) →
      applyEffect r f =
        ({ r with
            site := { r.site with keyCheck := a.keyCheck }
            stations := r.stations.map fun e =>
              if e.number = f.sender then
                { e with membership := .inService, role := some a.role, hose := a.hose,
                         served := a.served, misses := 0, donor := none, donatingTo := none }
              else
                { number := e.number, membership := .absent, role := none, hose := none,
                  served := none, misses := 0, donor := none, donatingTo := none, activity := none,
                  last := e.last } }, .applied))
    ∧ ∀ (r : Replica) (f : Frame) (a : Announcing) (x : StationEntry) (o : OpenActivity), r.InOrder →
      r.HoldsMatch → f.payload = .announce a → a.founder = true → x ∈ r.stations → x.number ≠ f.sender →
      x.activity = some o →
      (∀ e ∈ r.stations, e.number ≠ f.sender → e.number ≠ x.number → e.activity = none) →
      let keyed : Replica := { r with site := { r.site with keyCheck := a.keyCheck } }
      ∃ r', applyEffect r f = (r', .applied) ∧ keyed.OrphanedAs x.number o none r'
        ∧ r'.stations = r.stations.map fun e =>
            if e.number = f.sender then
              { e with membership := .inService, role := some a.role, hose := a.hose,
                       served := a.served, misses := 0, donor := none, donatingTo := none }
            else e.gone

/-- LEAVE, of an entry without activity and donation (R43); of one with a donation, which ends at its partner (R32,
R43); of one with an open fill, or an open delivery, which is orphaned table by table (R161, R162; the fields of a charged
cost centre are those of ClosingFramesBill); of one with both. -/
def Obligations.LeaveOrphansTheFill : Prop :=
  (∀ (r : Replica) (f : Frame) (e : StationEntry), f.payload = .leave →
    r.station? f.sender = some e → e.activity = none → e.donor = none → e.donatingTo = none →
    applyEffect r f =
      (r.modStation f.sender fun x =>
        { number := x.number, membership := .absent, role := none, hose := none, served := none,
          misses := 0, donor := none, donatingTo := none, activity := none, last := x.last },
        .applied))
    ∧ (∀ (r : Replica) (f : Frame) (e : StationEntry) (n : Nat), f.payload = .leave →
      r.station? f.sender = some e → e.activity = none →
      let gone (x : StationEntry) : StationEntry :=
        { number := x.number, membership := .absent, role := none, hose := none, served := none,
          misses := 0, donor := none, donatingTo := none, activity := none, last := x.last }
      (e.membership = .inService → e.donatingTo = some n →
        applyEffect r f = ((r.modStation n fun x => { x with donor := none }).modStation f.sender gone,
          .applied))
      ∧ (e.membership = .joining → e.donor = some n →
        applyEffect r f =
          ((r.modStation n fun x => { x with donatingTo := none }).modStation f.sender gone, .applied)))
    ∧ (∀ (r : Replica) (f : Frame) (e : StationEntry) (a : OpenActivity),
      r.InOrder → r.HoldsMatch → f.payload = .leave → r.station? f.sender = some e →
      e.activity = some a → (e.donor.isSome = true ∨ e.donatingTo.isSome = true) →
      ∃ r', applyEffect r f = (r', .applied) ∧ r.OrphanedAs f.sender a none r'
        ∧ r'.stations = r.stations.map fun x =>
            if x.number = f.sender then x.gone
            else if e.membership = .joining ∧ e.donor = some x.number then
              { x with donatingTo := none }
            else if e.membership = .inService ∧ e.donatingTo = some x.number then
              { x with donor := none }
            else x)
    ∧ (∀ (r : Replica) (f : Frame) (e : StationEntry) (a : OpenActivity),
      r.InOrder → f.payload = .leave → r.station? f.sender = some e → e.activity = some a →
      a.kind = .delivery → e.donor = none → e.donatingTo = none →
      ∃ r', applyEffect r f = (r', .applied)
        ∧ r'.log = r.log ++
          [{ number := r.site.nextRecord, madeBy := r.site.seq, kind := .receipt, station := f.sender,
             openSeq := a.openSeq, party := a.party, tank := a.tank, gross := a.progress, comp := none,
             costCentre := none, endReason := some .orphaned, mode := .tag, hours := none,
             openTime := a.openTime, endTime := none }]
        ∧ r'.site = { r.site with nextRecord := r.site.nextRecord + 1 }
        ∧ r'.machines = r.machines ∧ r'.costCentres = r.costCentres
        ∧ r'.tanks = (r.tanks.map fun t =>
            if t.number = a.tank then TankEntry.evaluate
              { t with book := max (-1000000000) (min 1000000000 (t.book + a.progress)),
                       quietSince := none, restock := .normal, deliveryStation := none }
            else t)
        ∧ r'.stations = r.stations.map fun x =>
            if x.number = f.sender then
              { number := x.number, membership := .absent, role := none, hose := none,
                served := none, misses := 0, donor := none, donatingTo := none, activity := none,
                last := some { openSeq := a.openSeq, kind := .orphaned, billed := a.progress } }
            else x)
    ∧ ∀ (r : Replica) (f : Frame) (e : StationEntry) (a : OpenActivity) (m : MachineEntry),
      r.InOrder → f.payload = .leave → r.station? f.sender = some e → e.activity = some a →
      a.kind = .fill → e.donor = none → e.donatingTo = none → r.machine? a.party = some m →
      ∃ r', applyEffect r f = (r', .applied)
        ∧ r'.log = r.log ++
          [{ number := r.site.nextRecord, madeBy := r.site.seq, kind := .orphan, station := f.sender,
             openSeq := a.openSeq, party := a.party, tank := a.tank, gross := a.progress, comp := none,
             costCentre := some m.costCentre, endReason := some .orphaned, mode := a.mode,
             hours := none, openTime := a.openTime, endTime := none }]
        ∧ r'.site = { r.site with nextRecord := r.site.nextRecord + 1 }
        ∧ r'.machines = (if m.dropPending then r.machines.filter fun x => x.number ≠ a.party
            else r.machines.map fun x =>
              if x.number = a.party then
                { x with allowance := max (-1000000000) (min 1000000000 (x.allowance - a.progress)),
                         hold := none }
              else x)
        ∧ r'.tanks = (r.tanks.map fun t =>
            if t.number = a.tank then TankEntry.evaluate
              { t with book := max (-1000000000) (min 1000000000 (t.book - a.progress)),
                       reserved := t.reserved - a.volume, quietSince := none }
            else t)
        ∧ r'.costCentres = (r.costCentres.map fun x =>
            if x.number = m.costCentre then x.charge a.progress a.progress 1 else x)
        ∧ r'.stations = r.stations.map fun x =>
            if x.number = f.sender then
              { number := x.number, membership := .absent, role := none, hose := none,
                served := none, misses := 0, donor := none, donatingTo := none, activity := none,
                last := some { openSeq := a.openSeq, kind := .orphaned, billed := a.progress } }
            else x

/-- ADJUST: NO_MATCH, NO_ROOM, or its changes table by table (R169, R150, R81; the fields of a charged cost centre are
those of ClosingFramesBill). That a fill's allowance falls by the delta, as R169 has it, is log entry 48. -/
def Obligations.AdjustIsGuarded : Prop :=
  (∀ (r : Replica) (f : Frame) (a : Adjusting), f.payload = .adjust a →
    (a.delta = 0 ∨ ∀ l ∈ (r.station? f.sender).bind StationEntry.last,
      l.openSeq ≠ a.openSeq ∨ l.kind = .closed ∨ l.billed ≠ a.billedBefore) →
    applyEffect r f = (r, .noMatch))
    ∧ ∀ (r : Replica) (f : Frame) (a : Adjusting) (l : LastEnded), f.payload = .adjust a →
      a.delta ≠ 0 → (r.station? f.sender).bind StationEntry.last = some l → l.openSeq = a.openSeq →
      l.kind ≠ .closed → l.billed = a.billedBefore →
      (512 ≤ r.log.length + r.openCount ∨ 2 ^ 32 - 1 ≤ r.site.nextRecord + r.openCount →
        applyEffect r f = (r, .noRoom))
      ∧ (r.log.length + r.openCount < 512 → r.site.nextRecord + r.openCount < 2 ^ 32 - 1 →
        ∃ r', applyEffect r f = (r', .applied)
          ∧ r'.log = r.log ++
            [{ number := r.site.nextRecord, madeBy := r.site.seq, kind := .adjust,
               station := f.sender, openSeq := a.openSeq, party := a.party, tank := a.tank,
               gross := a.delta, comp := none,
               costCentre := (match a.kind with
                 | .fill => some (match r.machine? a.party with | some m => m.costCentre | none => 0)
                 | .delivery => none),
               endReason := none, mode := a.mode, hours := none, openTime := none,
               endTime := a.time }]
          ∧ r'.site = { r.site with nextRecord := r.site.nextRecord + 1 }
          ∧ r'.machines = (match a.kind with
              | .fill => r.machines.map fun x =>
                if x.number = a.party then
                  { x with allowance := max (-1000000000) (min 1000000000 (x.allowance - a.delta)) }
                else x
              | .delivery => r.machines)
          ∧ r'.tanks = (r.tanks.map fun t =>
              if t.number = a.tank then TankEntry.evaluate
                { t with book := max (-1000000000) (min 1000000000
                           (match a.kind with | .fill => t.book - a.delta | .delivery => t.book + a.delta)),
                         quietSince := none }
              else t)
          ∧ r'.costCentres = (match a.kind with
              | .fill => r.costCentres.map fun x =>
                if x.number = (match r.machine? a.party with | some m => m.costCentre | none => 0) then
                  x.charge a.delta a.delta 0
                else x
              | .delivery => r.costCentres)
          ∧ r'.stations = r.stations.map fun x =>
              let last : LastEnded :=
                { openSeq := a.openSeq, kind := .adjusted, billed := a.billedBefore + a.delta }
              if x.number = f.sender then { x with last := some last } else x)

/-! ## Applying a frame -/

/-- Applying a frame whose effect is on the tables alone, for each of the 22 kinds: the retained write of its effect
begins, the station's own tables stand as they are until it completes, and nothing else changes (R25, R27). At a
station whose sequence has reached 2^48 − 1 already the sequence taken is open (log entry 5). That a frame is applied
at its kind's row, its write complete at another, is log entry 11; which row answers for a malformed one, log entry
12. -/
def Obligations.AppliedFrameBeginsItsWrite : Prop :=
  (∀ row ∈ tableRows, ∀ (s : State) (f : Frame), s.AppliesNext f → row.2 f.payload = true →
    exec row.1 s = .next (s.writes f (applyEffect s.replica.counted f)))
    ∧ ∀ row ∈ tableRows, ∀ (s : State) (f : Frame), s.Live → s.toApply = some f →
      row.2 f.payload = true → maxSeq ≤ s.replica.site.seq →
      ∃ t w, exec row.1 s = .next t ∧ t.replica = s.replica ∧ t.engine.writing = some w ∧ w.frame = f
        ∧ w.limit = true

/-- The frames that the station itself heeds as it applies them: one of unknown kind is told to the panel (R29), STOP
sets the stop fields (R172), RESUME of the stop's origin or an office clears them (R173), TIME of an office sets the
local clock (R158). With ESTOP asserted an applied RESUME makes the stop wanted again, and STOP is offered (R171; that
a RESUME which the path keeps is dropped is log entry 18). That the notices, the clock and the stop wanted come at the
kind's row and not at the end of its write is log entry 11. -/
def Obligations.HeededFramesAreApplied : Prop :=
  (∀ (s : State) (f : Frame) (cls : Nat) (kind : Byte) (bytes : List Byte), s.AppliesNext f →
    f.payload = .unknown cls kind bytes →
    exec .unknownKind s = .next ((s.writes f (s.replica.counted, .noChange)).noticed
      (.unknownKind f.sender cls kind f.seq16 bytes.length)))
    ∧ (∀ (s : State) (f : Frame) (reason : Byte), s.AppliesNext f → f.payload = .stop reason →
      let x : StopInfo := { origin := f.sender, reason, seq := s.replica.site.seq + 1 }
      exec .stop s = .next ((s.writes f
        ({ s.replica.counted with site := { s.replica.counted.site with stop := some x } },
          .applied)).noticed (.siteStop f.sender reason)))
    ∧ (∀ (s : State) (f : Frame) (n : Nat), s.AppliesNext f → f.payload = .time n →
      exec .time s = .next
        (if s.replica.isOffice f.sender then
          { s.writes f (s.replica.counted, .applied) with clock := some n }
        else s.writes f (s.replica.counted, .noChange)))
    ∧ (∀ (s : State) (f : Frame) (x : StopInfo), s.AppliesNext f → f.payload = .resume →
      s.replica.site.stop = some x → (x.origin = f.sender ∨ s.replica.isOffice f.sender = true) →
      let r : Replica :=
        { s.replica.counted with site := { s.replica.counted.site with stop := none } }
      (s.meter.cells.estop.output = false →
        exec .resume s = .next ((s.writes f (r, .applied)).noticed .siteResume))
      ∧ (s.meter.cells.estop.output = true →
        ∃ t, exec .resume s = .next t ∧ t.stop.wanted = true ∧ s.WantsStop false t
          ∧ t.engine = (s.writes f (r, .applied)).engine
          ∧ t.console = ((s.writes f (r, .applied)).noticed .siteResume).console))
    ∧ ∀ (s : State) (f : Frame), s.AppliesNext f → f.payload = .resume →
      (∀ x ∈ s.replica.site.stop, x.origin ≠ f.sender ∧ s.replica.isOffice f.sender = false) →
      exec .resume s = .next (s.writes f (s.replica.counted, .noChange))

/-! ## The yard link -/

/-- Starting a frame: the frame with which the station contends (R14), the start gap (R3), the numbering (R4), and
contention (R5). It carries the payload that was offered, but for a SEAL, whose winner is chosen anew from the candidates
of the round as it starts: the highest retained sequence, among equals the lowest station (R46). That a FOUND which waits
in the inbound queue is no candidate yet is log entry 37. -/
def Obligations.FrameStartContends : Prop :=
  (∀ (l : Link) (e : TxEntry), l.nextToSend = some e →
    e ∈ l.tx ∧ l.maySend e.payload = true ∧ ∀ x ∈ l.tx, l.maySend x.payload = true →
      e.payload.cls < x.payload.cls ∨ (e.payload.cls = x.payload.cls ∧ e.entered ≤ x.entered))
    ∧ ∀ (idle : Nat) (rivals : List Byte) (early : Bool) (s : State) (e : TxEntry), s.Live →
      s.link.nextToSend = some e → s.link.wire = none → s.link.slots = none →
      let gap := if s.link.lostPlace then 48 else if s.link.voidHold then 24 else 12
      let f := s.wireFrame e
      let own := (contentionByte f.payload.cls f.sender).toNat
      (idle < gap → exec (.frameStart idle rivals early) s = .next s)
      ∧ (gap ≤ idle → early = false → (∀ r ∈ rivals, own ≤ r.toNat) →
        exec (.frameStart idle rivals early) s = .next { s with link := { s.link with
          wire := some { origin := e.origin, frame := f }, voidHold := false, lostPlace := false } })
      ∧ (gap ≤ idle → (early = true ∨ ∃ r ∈ rivals, r.toNat < own) →
        exec (.frameStart idle rivals early) s =
          .next { s with link := { s.link with voidHold := false } })
      ∧ f.sender = s.me ∧ f.dest = e.dest
      ∧ f.seq16 = (if f.payload.isReplica = true ∧ f.payload.kind? ≠ some .join then
          BitVec.ofNat 16 (s.link.acceptedSeq + 1) else 0)
      ∧ (e.payload.kind? ≠ some .sealRound → f.payload = e.payload)
      ∧ ∀ (x : Sealing) (r : Round), e.payload = .sealRound x → s.engine.round = some r →
        r.candidates ≠ [] →
        ∃ w ∈ r.candidates,
          (∀ y ∈ r.candidates, y.retained < w.retained ∨ y.retained = w.retained ∧ w.station ≤ y.station)
          ∧ f.payload = .sealRound
            { winner := w.station, retained := w.retained, keyCheck := w.keyCheck,
              candidates := r.candidates.length }

/-- What faults the station, with the link state's reason: another sender of its number (R6), its own PRESENT slot
read back recessive (R22), and the sequence limit reached by a retained write (R25). A frame that is abandoned or
truncated is counted, and the station owes the gap of 48 bit times (R2, R3, R7, R19). That SEQUENCE_LIMIT and
RETAINED_WRITE_COMPLETE act alike is log entry 10, that a write completes out of service as well log entry 26; that
the fault comes last where the frame also takes the station out of service is log entry 36, and that kept frames go
with the queue log entry 18. -/
def Obligations.LinkFaultsAndErrors : Prop :=
  ((∀ (s : State) (w : OnWire) (rival : List Bit), s.Live → s.link.wire = some w →
     readsDominant ((wireBits w.frame).drop (contentionEnd w.frame)) rival = true →
     ∃ t, exec (.numberClash rival) s = .next t ∧ t.OutWith .faulted .numberClash
       ∧ t.link.errors = (s.link.countError .clash).errors ∧ t.replica = s.replica)
     ∧ (∀ (s : State) (w : SlotWait) (map : BitVec 32) (n : Nat) (time : Option Nat), s.Live →
       s.link.slots = some w → w.answered = true → w.frame.payload = .census .present n time →
       map.getLsbD s.me = false →
       ∃ t, exec (.censusSlotsEnd map) s = .next t ∧ t.OutWith .faulted .ownSlotSilent
         ∧ t.link.slots = none ∧ t.replica = s.replica)
     ∧ ∀ c ∈ [Instr.retainedWriteComplete, .sequenceLimit], ∀ (s : State) (w : Writing), s.Live →
       s.engine.writing = some w → w.limit = true →
       ∃ t, exec c s = .next t ∧ t.OutWith .faulted .sequenceLimit ∧ t.engine.writing = none
         ∧ t.replica = w.replica ∧ t.limitReached = true)
    ∧ ((∀ (s : State) (rx : List Bit) (e : RxError), s.Receives → receive rx = .abandoned e →
       exec (.frameAbandoned rx) s =
         .next { s with link := { s.link with errors := s.link.errors.add e, lostPlace := true } })
       ∧ ∀ (s : State) (rx : List Bit) (e : RxError), s.Receives → receive rx = .truncated e →
         exec (.truncated rx) s =
           .next { s with link := { s.link with errors := s.link.errors.add e, lostPlace := true } })

/-- The window of a replica frame at an IN_SERVICE station that follows it: one good and next in sequence is
accepted unless the VOID slot is dominant, numbered and placed in the inbound queue, or its slots are awaited; a good
JOIN is accepted whatever its sequence; one that is not good, or finds the queue full, is voided (R8, R9, R13, R18,
R22, R23). An accepted STOP ends an activity that awaits an identification, opens or is metered, and touches no other
(R110, R117, R134, R136, R137, R172). That the accepted sequence counts on beyond 2^48 − 1 is log entry 5. -/
def Obligations.ReplicaWindowIsDecided : Prop :=
  (∀ (s : State) (rx : List Bit) (x : Slots) (f : Frame), s.Receives → s.link.state = .inService →
    receive rx = .window { frame := f, error := none } → f.payload.category = .replica →
    s.link.inbound.length < 8 → f.payload.kind? ≠ some .join →
    f.seq16 = BitVec.ofNat 16 (s.link.acceptedSeq + 1) →
    (x.void = true → exec (.replicaWindow rx x) s =
      .next { s.restartListening with link := { s.link with voidRun := 0, lostPlace := false } })
    ∧ (x.void = false → f.payload.kind? ≠ some .census →
      (f.payload.kind? = some .stop →
        s.activity.state ∉ [ActState.awaitingId, .opening, .flowing, .slowing]) →
      exec (.replicaWindow rx x) s = .next { s.restartListening with link := { s.link with
        acceptedSeq := s.link.acceptedSeq + 1, inbound := s.link.inbound ++ [f], voidRun := 0,
        lostPlace := false } })
    ∧ (x.void = false → f.payload.kind? = some .stop →
      (s.activity.state = .flowing ∨ s.activity.state = .slowing) →
      ∃ t, exec (.replicaWindow rx x) s = .next t ∧ s.StopsFor .siteStop t
        ∧ t.link.inbound = s.link.inbound ++ [f] ∧ t.pump = false ∧ t.vmain = false ∧ t.vtrim = false)
    ∧ (x.void = false → f.payload.kind? = some .stop →
      let l : Link := { s.link with
        acceptedSeq := s.link.acceptedSeq + 1, inbound := s.link.inbound ++ [f], voidRun := 0,
        lostPlace := false }
      (s.activity.state = .awaitingId →
        ∃ t, exec (.replicaWindow rx x) s = .next t ∧ t.activity.state = .refused .siteStopped ∧ t.link = l)
      ∧ (s.activity.state = .opening →
        ∃ t, exec (.replicaWindow rx x) s = .next t ∧ s.PendsFor l .siteStop t))
    ∧ (∀ n time, x.void = false → f.payload = .census .flow n time →
      let w : SlotWait := { frame := f, answered := s.answersFlow n, queue := true }
      exec (.replicaWindow rx x) s = .next { s.restartListening with link := { s.link with
        acceptedSeq := s.link.acceptedSeq + 1, slots := some w, voidRun := 0, lostPlace := false } })
    ∧ ∀ n time, x.void = false → f.payload = .census .present n time →
      (∀ e ∈ s.link.tx, e.origin = .census → e.payload.kind? = some .census) →
      let w : SlotWait := { frame := f, answered := true, queue := true }
      exec (.replicaWindow rx x) s = .next { s.restartListening with link := { s.link with
        acceptedSeq := s.link.acceptedSeq + 1, slots := some w, voidRun := 0, lostPlace := false,
        censusTimer := some (2000000 + 20000 * s.me),
        tx := s.link.tx.filter fun e => decide (e.origin ≠ .census) } })
    ∧ (∀ (s : State) (rx : List Bit) (x : Slots) (f : Frame), s.Receives → s.link.state = .inService →
      receive rx = .window { frame := f, error := none } → f.payload.kind? = some .join →
      s.link.inbound.length < 8 →
      exec (.replicaWindow rx x) s = .next { s.restartListening with link :=
        if x.void then { s.link with voidRun := 0, lostPlace := false }
        else { s.link with acceptedSeq := s.link.acceptedSeq + 1, inbound := s.link.inbound ++ [f],
                           voidRun := 0, lostPlace := false } })
    ∧ ∀ (s : State) (rx : List Bit) (x : Slots) (r : RxFrame), s.Receives → s.link.state = .inService →
      receive rx = .window r → r.frame.payload.category = .replica →
      (r.error.isSome = true ∨ 8 ≤ s.link.inbound.length) → s.link.voidRun < 7 →
      exec (.replicaWindow rx x) s = .next { s.restartListening with link := { s.link with
        errors := (match r.error with | some e => s.link.errors.add e | none => s.link.errors),
        voidRun := s.link.voidRun + 1, lostPlace := false } }

/-- The window of an own replica frame, accepted: of an activity (R9, R14, R17), of a CENSUS, its slots read and
answered (R22, R23, R31, R141), of a GAUGE, an ANNOUNCE, a LEAVE, a RESUME, and of a STOP, which ends the own activity
as that of another station does and clears the stop wanted (R110, R117, R134, R136, R137, R171 to R173); of a founding
frame, taken unless it is voided (R10, R44); and of a service frame, taken by its addressee alone (R11, R18, R152).
With the own frame gone from the queue, its block offers in its place the frame that it keeps, if any (R14, R115).
The own JOIN accepted leads to JOINING with the head timer of 1 s and the join timer of 30 s (R39). An accepted
replica frame at a station out of service: a LISTENING station offers JOIN, or notes the frame in the hold-off (R34);
a FOUNDING one abandons its round and offers JOIN (R45); a JOINING one places it, or abandons the join where 8 frames
wait (R9, R18, R41); the slots of a CENSUS are read, and answered in JOINING (R22, R31, R141). That the accepted
sequence counts on beyond 2^48 − 1 is log entry 5; that a frame which was not good is heard in LISTENING and is not
placed in JOINING, and goes as a CENSUS by the kind and argument read, is log entry 30; that kept frames go with the
queue, log entry 18. -/
def Obligations.OtherWindowsAreDecided : Prop :=
  (∀ (s : State) (rx : List Bit) (x : Slots) (w : OnWire) (e : TxEntry), s.Sends w e →
    s.link.state = .inService → w.frame.payload.category = .replica → w.origin = .activity →
    w.frame.payload.kind? ≠ some .census → w.frame.payload.kind? ≠ some .stop →
    s.link.inbound.length < 8 → Accepting x →
    exec (.replicaWindow rx x) s = .next { s with link := { s.link.afterLeaving .activity with
      acceptedSeq := s.link.acceptedSeq + 1, inbound := s.link.inbound ++ [w.frame] } })
    ∧ (∀ (s : State) (rx : List Bit) (x : Slots) (w : OnWire) (e : TxEntry), s.Sends w e →
      s.link.state = .inService → w.frame.payload = e.payload → Accepting x →
      let l : Link := { s.link.afterLeaving w.origin with acceptedSeq := s.link.acceptedSeq + 1 }
      let lq : Link := { l with inbound := s.link.inbound ++ [w.frame] }
      let called (answered : Bool) : Link :=
        { l with slots := some { frame := w.frame, answered, queue := true } }
      let heeded : StopPath := { wanted := false, byConsole := false }
      (∀ n time, w.origin = .census → e.payload = .census .present n time →
        exec (.replicaWindow rx x) s = .next { s with link := { called true with
          censusTimer := some (2000000 + 20000 * s.me) } })
      ∧ (∀ n time, w.origin = .gauge → e.payload = .census .flow n time →
        exec (.replicaWindow rx x) s = .next { s with link := called (s.answersFlow n) })
      ∧ (s.link.inbound.length < 8 →
        (w.origin = .gauge ∧ e.payload.kind? = some .gauge
          ∨ w.origin = .membership
            ∧ (e.payload.kind? = some .announce ∨ e.payload.kind? = some .leave)
          ∨ w.origin = .stopPath ∧ e.payload.kind? = some .resume ∧ s.stop.wanted = false) →
        exec (.replicaWindow rx x) s = .next { s with link := lq })
      ∧ ∀ o, s.link.inbound.length < 8 → w.origin = .stopPath → e.payload = .stop o →
        (s.activity.state ∉ [ActState.awaitingId, .opening, .flowing, .slowing] →
          exec (.replicaWindow rx x) s = .next { s with link := lq, stop := heeded })
        ∧ (s.activity.state = .flowing ∨ s.activity.state = .slowing →
          ∃ t, exec (.replicaWindow rx x) s = .next t ∧ s.StopsFor .siteStop t ∧ t.link = lq
            ∧ t.stop = heeded)
        ∧ (s.activity.state = .awaitingId → ∃ t, exec (.replicaWindow rx x) s = .next t
          ∧ t.activity.state = .refused .siteStopped ∧ t.link = lq ∧ t.stop = heeded)
        ∧ (s.activity.state = .opening → ∃ t, exec (.replicaWindow rx x) s = .next t
          ∧ s.PendsFor lq .siteStop t ∧ t.stop = heeded))
    ∧ (∀ (s : State) (rx : List Bit) (x : Slots) (f : Frame), s.Receives →
      (s.link.state = .listening ∨ s.link.state = .founding) →
      receive rx = .window { frame := f, error := none } → f.payload.category = .founding →
      s.link.inbound.length < 8 →
      exec (.foundingWindow rx x) s = .next { s.restartListening with link := { s.link with
        inbound := (if x.void then s.link.inbound else s.link.inbound ++ [f]), lostPlace := false } })
    ∧ (∀ (s : State) (rx : List Bit) (x : Slots) (w : OnWire) (e : TxEntry) (q : Nat) (k : Check),
      s.Sends w e → (s.link.state = .listening ∨ s.link.state = .founding) →
      w.origin = .membership → w.frame.payload.category = .founding → e.payload = .found q k →
      s.link.inbound.length < 8 → x.void = false →
      exec (.foundingWindow rx x) s = .next { s with
        link := { s.link.afterLeaving .membership with inbound := s.link.inbound ++ [w.frame] }
        engine := { s.engine with foundSent := true } })
    ∧ (∀ (s : State) (rx : List Bit) (x : Slots) (f : Frame), s.Receives → s.link.state = .inService →
      receive rx = .window { frame := f, error := none } → f.payload.kind? = some .read →
      s.link.inbound.length < 8 →
      exec (.serviceWindow rx x) s = .next { s.restartListening with link :=
        if f.dest = s.me then
          { s.link with inbound := s.link.inbound ++ [f], voidRun := 0, lostPlace := false }
        else { s.link with lostPlace := false } })
    ∧ (∀ (s : State) (rx : List Bit) (x : Slots) (w : OnWire) (e : TxEntry), s.Sends w e →
      w.frame.payload.category = .service → w.origin = .responder → e.payload = .busy →
      s.responder = { context := none, waitingBusy := none } → x.void = false →
      exec (.serviceWindow rx x) s = .next { s with link := s.link.afterLeaving .responder })
    ∧ (∀ (s : State) (rx : List Bit) (x : Slots) (w : OnWire) (e : TxEntry) (j : Joining), s.Sends w e →
      s.link.state = .listening → w.frame.payload.category = .replica → w.origin = .membership →
      e.payload = .join j → Accepting x →
      ∃ t, exec (.replicaWindow rx x) s = .next t
        ∧ t.engine.headTimer = some 1000000 ∧ t.engine.joinTimer = some 30000000
        ∧ t.engine.listenTimer = none ∧ t.engine.join = none ∧ t.engine.catchUp = []
        ∧ t.link = { s.link.afterLeaving .membership with
            state := .joining, reason := .noReason, voidRun := 0 })
    ∧ (∀ (s : State) (rx : List Bit) (x : Slots) (r : RxFrame), s.Receives →
      receive rx = .window r → r.frame.payload.category = .replica →
      s.link.state ∈ [LinkState.listening, .founding, .joining] →
      (¬Accepting x ∨ s.link.state = .listening ∧ r.frame.payload.kind? = some .join ∧ x.accept = false
        ∨ s.link.state = .founding ∧ r.frame.payload.kind? = some .join) →
      exec (.replicaWindow rx x) s = .next { s.restartListening with link := s.followedLink r })
    ∧ (∀ (s : State) (rx : List Bit) (x : Slots) (r : RxFrame), s.Receives →
      s.link.state = .listening → receive rx = .window r → r.frame.payload.category = .replica →
      Accepting x → (r.frame.payload.kind? = some .join → x.accept = true) →
      let l : Link := { s.followedLink r with slots := readSlots r.frame }
      let j : Joining :=
        { station := s.me, role := s.role.getD .dispense, hose := s.hose, served := s.served,
          keyCheck := s.keyCheck, retained := s.replica.site.seq }
      let offered (tx : List TxEntry) : Link :=
        { l with tx := tx ++ [s.newEntry .membership (.join j)], entered := s.link.entered + 1 }
      (s.engine.holdOff.isSome = true → exec (.replicaWindow rx x) s = .next { s with
        link := l, engine := { s.restartListening.engine with heardNoted := true } })
      ∧ (s.engine.holdOff = none → s.link.queued .membership = none →
        exec (.replicaWindow rx x) s = .next { s with
          link := offered s.link.tx, engine := { s.engine with listenTimer := none } })
      ∧ ∀ e, s.engine.holdOff = none → s.link.queued .membership = some e →
        exec (.replicaWindow rx x) s = .next { s with
          link := if e.payload.kind? = some .found then
              offered (s.link.tx.filter fun y => decide (y.origin ≠ .membership)) else l
          engine := { s.engine with listenTimer := none } })
    ∧ (∀ (s : State) (rx : List Bit) (x : Slots) (r : RxFrame), s.Receives →
      s.link.state = .founding → receive rx = .window r → r.frame.payload.category = .replica →
      Accepting x → r.frame.payload.kind? ≠ some .join →
      (∀ e ∈ s.link.queued .membership,
        e.payload.kind? = some .found ∨ e.payload.kind? = some .sealRound) →
      ∃ t, exec (.replicaWindow rx x) s = .next t ∧ t.link.state = .listening
        ∧ t.engine.round = none ∧ t.engine.roundTimer = none ∧ t.engine.sealTimer = none
        ∧ t.link.slots = readSlots r.frame ∧ t.link.inbound = s.link.inbound ∧ t.replica = s.replica
        ∧ (s.engine.holdOff = none → t.engine.listenTimer = none
          ∧ (t.link.queued .membership).map TxEntry.payload = some (.join
            { station := s.me, role := s.role.getD .dispense, hose := s.hose, served := s.served,
              keyCheck := s.keyCheck, retained := s.replica.site.seq }))
        ∧ (s.engine.holdOff.isSome = true → t.engine.listenTimer = some 4000000
          ∧ t.engine.heardNoted = true ∧ t.link.queued .membership = none))
    ∧ ∀ (s : State) (rx : List Bit) (x : Slots) (r : RxFrame), s.Receives →
      s.link.state = .joining → receive rx = .window r → r.frame.payload.category = .replica →
      Accepting x →
      let answers : Bool :=
        match r.frame.payload with
        | .census .present _ _ => true
        | .census .flow n _ => s.answersFlow n
        | _ => false
      let w : SlotWait := { frame := r.frame, answered := answers, queue := r.error.isNone }
      (8 ≤ s.link.inbound.length →
        ∃ t, exec (.replicaWindow rx x) s = .next t ∧ t.OutWith .listening .catchUpOverflow
          ∧ t.engine.holdOff = some (1000000 + 50000 * s.me) ∧ t.replica = s.replica
          ∧ t.link.slots = readSlots r.frame)
      ∧ (s.link.inbound.length < 8 → exec (.replicaWindow rx x) s = .next { s.restartListening with
        link :=
          if r.frame.payload.kind? = some .census then { s.followedLink r with slots := some w }
          else if r.error.isSome = true then s.followedLink r
          else { s.followedLink r with inbound := s.link.inbound ++ [r.frame] } })

/-- Leaving service: on the eighth void in a row (R13), on a good frame out of sequence that the others accept (R8,
R9), and on the own frame voided by STEP (R9). The queues are emptied, a metered activity stops with LINK_LOST, the
gauge unit and the responder fall idle (R21, R143, R154, R165); an opening frame that goes with the queues gives
REFUSED(LINK), a closing frame leaves the record HELD (R109, R136, R166), and a STOP of the stop path is no longer
wanted (R171); the slots of a CENSUS that the station is out of step with are read and not answered (R22). That
RECEIVE_FAILURE and REPLICA_WINDOW act alike is log entry 10, that kept frames go with the queue log entry 18. -/
def Obligations.LeavingService : Prop :=
  (∀ (s : State) (rx : List Bit) (x : Slots) (r : RxFrame), s.Receives → s.link.state = .inService →
    s.link.voidRun = 7 → receive rx = .window r → r.frame.payload.category = .replica →
    (r.error.isSome = true ∨ 8 ≤ s.link.inbound.length) →
    ∀ c ∈ [Instr.receiveFailure rx x, .replicaWindow rx x],
      ∃ t, exec c s = .next t ∧ t.OutWith .listening .receiveFailure ∧ s.CutOff t
        ∧ s.LosesFrames t ∧ t.replica = s.replica)
    ∧ (∀ (s : State) (rx : List Bit) (x : Slots) (f : Frame), s.Receives → s.link.state = .inService →
      receive rx = .window { frame := f, error := none } → f.payload.category = .replica →
      s.link.inbound.length < 8 → f.payload.kind? ≠ some .join →
      f.seq16 ≠ BitVec.ofNat 16 (s.link.acceptedSeq + 1) → x.void = false → x.accept = true →
      ∃ t, exec (.replicaWindow rx x) s = .next t ∧ t.OutWith .listening .outOfStep ∧ s.CutOff t
        ∧ s.LosesFrames t ∧ t.replica = s.replica ∧ t.link.slots = readSlots f)
    ∧ ∀ (s : State) (rx : List Bit) (x : Slots) (w : OnWire) (e : TxEntry), s.Sends w e →
      s.link.state = .inService → w.frame.payload.category = .replica → x.void = false →
      x.step = true → x.accept = false →
      ∃ t, exec (.replicaWindow rx x) s = .next t ∧ t.OutWith .listening .outOfStep ∧ s.CutOff t
        ∧ s.LosesFrames t ∧ t.replica = s.replica

/-- An own frame that is void, of whatever category, goes on, up to the sixteenth time (R12); then it leaves UNDELIVERED,
and its block offers the frame it keeps, if any (R14): a census is dropped, and a PROGRESS (R115), a JOIN starts the
listening period again, an ADJUST leaves its record HELD until a PRESENT census, a CLOSE or DELIVERY-CLOSE takes the
station out of service, an OPEN or DELIVERY-OPEN gives REFUSED(LINK) (R12, R17, R34, R109, R136, R166, R170); a STOP is
offered again, and a RESUME too, or the STOP that is wanted by then in its place (R171, R173). That kept frames go with
the queue where the station leaves service is log entry 18. -/
def Obligations.VoidedFramesAreRepeated : Prop :=
  (∀ (s : State) (rx : List Bit) (x : Slots) (w : OnWire) (e : TxEntry), s.Sends w e →
    x.void = true → e.voids < 15 →
    ∀ c, (c = Instr.replicaWindow rx x ∧ w.frame.payload.category = .replica
        ∨ c = .foundingWindow rx x ∧ w.frame.payload.category = .founding
        ∨ c = .serviceWindow rx x ∧ w.frame.payload.category = .service) →
      exec c s = .next { s with link := { s.link with
        wire := none, voidHold := true,
        tx := s.link.tx.map fun y => if y.origin = w.origin then { y with voids := e.voids + 1 } else y } })
    ∧ (∀ (s : State) (x : Slots) (w : OnWire) (e : TxEntry), s.Sends w e → x.void = true →
      e.voids = 15 →
      (w.origin = .census ∨ w.origin = .activity ∧ e.payload.kind? = some .progress) →
      exec (.undelivered x) s =
        .next { s with link := { s.link.afterLeaving w.origin with voidHold := true } })
    ∧ (∀ (s : State) (x : Slots) (w : OnWire) (e : TxEntry) (j : Joining), s.Sends w e →
      x.void = true → e.voids = 15 → w.origin = .membership → e.payload = .join j →
      s.link.state = .listening →
      exec (.undelivered x) s = .next { s with
        engine := { s.engine with listenTimer := some 4000000, heardNoted := false, foundSent := false },
        link := { s.link.afterLeaving .membership with voidHold := true } })
    ∧ (∀ (s : State) (x : Slots) (w : OnWire) (e : TxEntry) (a : Adjusting), s.Sends w e →
      x.void = true → e.voids = 15 → w.origin = .activity → e.payload = .adjust a →
      exec (.undelivered x) s = .next { s with
        supply := { s.supply with phase := .held, waitCensus := true },
        link := { s.link.afterLeaving .activity with voidHold := true } })
    ∧ (∀ (s : State) (x : Slots) (w : OnWire) (e : TxEntry) (c : Closing), s.Sends w e →
      x.void = true → e.voids = 15 → w.origin = .activity →
      (e.payload = .close c ∨ e.payload = .deliveryClose c) → s.link.state = .inService →
      s.activity.state ≠ .flowing → s.activity.state ≠ .slowing →
      ∃ t, exec (.undelivered x) s = .next t ∧ t.OutWith .listening .closeUndelivered
        ∧ t.replica = s.replica ∧ t.supply.record = s.supply.record ∧ t.supply.phase = .held
        ∧ (s.activity.state = .closing →
          t.activity.state = (if s.activity.faultPending = true then .faulted
            else if s.role ≠ some .receipt ∧ s.meter.cells.noz.output = true then .writeback else .idle)))
    ∧ (∀ (s : State) (x : Slots) (w : OnWire) (e : TxEntry), s.Sends w e → x.void = true →
      e.voids = 15 → w.origin = .activity →
      (e.payload.kind? = some .openFill ∨ e.payload.kind? = some .deliveryOpen) →
      s.activity.state = .opening →
      ∃ t, exec (.undelivered x) s = .next t ∧ t.activity.state = .refused .link
        ∧ t.activity.preset = none ∧ t.outputs = s.outputs ∧ t.replica = s.replica
        ∧ t.supply = s.supply ∧ t.meter = s.meter
        ∧ t.link = { s.link.afterLeaving .activity with voidHold := true })
    ∧ ∀ (s : State) (x : Slots) (w : OnWire) (e : TxEntry), s.Sends w e → x.void = true →
      e.voids = 15 → w.origin = .stopPath → s.link.state = .inService →
      let again (p : Payload) : Host.Outcome State Fault Refusal := .next { s with link := { s.link with
        wire := none, voidHold := true, entered := s.link.entered + 1,
        tx := (s.link.tx.filter fun y => decide (y.origin ≠ .stopPath)) ++ [s.newEntry .stopPath p] } }
      ((e.payload = .resume ∨ ∃ r, e.payload = .stop r) → s.stop.wanted = true →
        exec (.undelivered x) s =
          again (.stop (Reason.code (if s.stop.byConsole then .estopConsole else .estopInput))))
      ∧ (e.payload = .resume → s.stop.wanted = false → exec (.undelivered x) s = again .resume)

/-- The end of slot 31 places a census with its map in the inbound queue (R22); the census timer offers a PRESENT
census, unless one is queued, and starts again (R23). -/
def Obligations.CensusRunsItsCourse : Prop :=
  (∀ (s : State) (w : SlotWait) (map : BitVec 32), s.Live → s.link.slots = some w →
    s.link.inbound.length < 8 →
    (w.answered = true → map.getLsbD s.me = true ∨ ∃ n time, w.frame.payload = .census .flow n time) →
    exec (.censusSlotsEnd map) s = .next { s with link := { s.link with
      slots := none,
      inbound := s.link.inbound ++ (if w.queue then [{ w.frame with map := some map }] else []) } })
    ∧ (∀ s : State, s.Live → s.link.censusTimer.isSome = true → s.link.queued .census = none →
      let l := s.withOffer .census (.census .present 0 s.clock)
      exec .censusTimer s =
        .next { s with link := { l with censusTimer := some (2000000 + 20000 * s.me) } })
    ∧ ∀ (s : State) (e : TxEntry), s.Live → s.link.censusTimer.isSome = true →
      s.link.queued .census = some e →
      exec .censusTimer s = .next { s with link := { s.link with
        censusTimer := some (2000000 + 20000 * s.me) } }

/-! ## Retained writes, joining and founding -/

/-- The end of a retained write: the written tables are the station's (R28), and a stream of the responder that a
freeze cut goes on when it ends the thaw (R38, R154). At a station whose own entry is no longer IN_SERVICE, or whose
own ANNOUNCE did not make it so, service ends with NOT_ADMITTED; the own ANNOUNCE that did admits the station (R33,
R143), recovers the record held, or the activity that the own entry still shows (R167 to R169), and makes the stop
wanted where ESTOP is asserted and the site is RUNNING (R171); the own LEAVE takes it OFFLINE (R43, R58). Each RELEASE
that is applied, as no change too, and a PRESENT census recovers the record that waits for it (R151, R170). That a write
in progress completes at a station out of service is log entry 26; that admission ends the wait of a record for a PRESENT
census, log entry 25, and leaves the last reason of the link state, log entry 54; that kept frames go with the queue, log
entry 18. -/
def Obligations.RetainedWriteIsTaken : Prop :=
  (∀ (s : State) (w : Writing), s.Live → s.engine.writing = some w → w.limit = false →
    w.frame.sender ≠ s.me → (∀ j, w.frame.payload ≠ .join j) →
    w.frame.payload.kind? ≠ some .release → (∀ n time, w.frame.payload ≠ .census .present n time) →
    (w.replica.inService s.me = true ∨ s.replica.inService s.me = false ∨ s.link.state ≠ .inService) →
    ((∀ c ∈ s.responder.context, c.paused = true → s.engine.freeze = true ∨ s.engine.deferred ≠ []) →
      exec .retainedWriteComplete s =
        .next { s with replica := w.replica, engine := { s.engine with writing := none } })
    ∧ ∀ c k, s.responder.context = some c → c.paused = true → c.lastBuilt = false →
      s.engine.freeze = false → s.engine.deferred = [] → s.link.queued .responder = none →
      s.responder.waitingBusy = none → ofCode tableCodes (BitVec.ofNat 8 c.table) = some k →
      ∃ t e, exec .retainedWriteComplete s = .next t ∧ t.replica = w.replica
        ∧ t.link.queued .responder = some e ∧ e.dest = c.requester
        ∧ let found := w.replica.entriesFrom k c.position
          let es := found.take (min 2 c.remaining)
          e.payload = .data c.table w.replica.site.seq es
            (decide (c.remaining ≤ es.length) || (found.drop es.length).isEmpty))
    ∧ (∀ (s : State) (w : Writing), s.Live → s.engine.writing = some w → w.limit = false →
      s.link.state = .inService → w.replica.inService s.me = false →
      (w.frame.sender ≠ s.me ∧ s.replica.inService s.me = true
        ∨ w.frame.sender = s.me ∧ ∃ a, w.frame.payload = .announce a) →
      ∃ t, exec .retainedWriteComplete s = .next t ∧ t.OutWith .listening .notAdmitted ∧ s.CutOff t
        ∧ t.replica = w.replica ∧ t.engine.writing = none)
    ∧ (∀ (s : State) (w : Writing) (a : Announcing), s.Live → s.engine.writing = some w →
      w.limit = false → s.link.state = .inService → w.frame.sender = s.me →
      w.frame.payload = .announce a → w.replica.inService s.me = true →
      ∃ t, exec .retainedWriteComplete s = .next t ∧ t.engine.admitted = true
        ∧ t.link.state = .inService ∧ t.replica = w.replica ∧ t.engine.writing = none
        ∧ t.gauge.periodTimer = (if s.gaugeTank.isSome then some 600000000 else s.gauge.periodTimer)
        ∧ (s.meter.cells.estop.output = true → w.replica.site.stop = none → s.WantsStop false t)
        ∧ ((s.meter.cells.estop.output = false ∨ w.replica.site.stop.isSome = true) →
          t.stop = s.stop ∧ t.link.queued .stopPath = s.link.queued .stopPath))
    ∧ (∀ (s : State) (w : Writing) (a : Announcing) (e : StationEntry), s.Live →
      s.engine.writing = some w → w.limit = false → s.link.state = .inService →
      w.frame.sender = s.me → w.frame.payload = .announce a → w.replica.inService s.me = true →
      w.replica.station? s.me = some e → s.engine.freeze = false →
      s.meter.cells.estop.output = false → s.StreamsGoOn →
      (∀ r, s.supply.record = some r → s.supply.phase = .held →
        ∃ t, exec .retainedWriteComplete s = .next t ∧ s.Recovers r e t)
      ∧ (∀ x, s.supply.record = none → e.activity = some x →
        let r : ActRecord :=
          { kind := x.kind, openSeq := x.openSeq, party := x.party, tank := x.tank, volume := x.volume,
            gross := x.progress, comp := none, progress := x.progress, endReason := some .powerLoss,
            mode := x.mode }
        ∃ t, exec .retainedWriteComplete s = .next t ∧ s.Recovers r e t)
      ∧ (s.supply.record = none → e.activity = none →
        ∃ t, exec .retainedWriteComplete s = .next t ∧ t.supply.record = none ∧ t.link = s.link))
    ∧ (∀ (s : State) (w : Writing) (r : ActRecord) (e : StationEntry), s.Live →
      s.engine.writing = some w → w.limit = false → s.link.state = .inService →
      w.replica.inService s.me = true → w.replica.station? s.me = some e → s.engine.admitted = true →
      s.engine.freeze = false → s.StreamsGoOn → s.supply.record = some r →
      (w.frame.payload.kind? = some .release ∧ s.supply.phase = .waitingRoom
          ∧ s.supply.waitCensus = false
        ∨ (∃ n time, w.frame.payload = .census .present n time) ∧ s.supply.phase = .held
          ∧ s.supply.waitCensus = true) →
      ∃ t, exec .retainedWriteComplete s = .next t ∧ s.Recovers r e t)
    ∧ ∀ (s : State) (w : Writing), s.Live → s.engine.writing = some w → w.limit = false →
      s.link.state = .inService → w.frame.sender = s.me → w.frame.payload = .leave →
      ∃ t, exec .retainedWriteComplete s = .next t ∧ t.OutWith .offline .left
        ∧ t.replica = w.replica ∧ t.ident.state = .idle ∧ t.ident.context = none

/-- The results of the own OPEN and CLOSE reach the fill controller as the write ends: a grant opens the valves with
the counts at 0 and a new retained record, at trim rate where the slow-down point is crossed at the opening, and leads
to STOPPING without an output where an end reason is pending or the stop point is crossed (R91, R109, R111, R113,
R114, R163), a refusal is shown as REFUSED (R109), and an applied CLOSE clears the record; one applied as no change
asks for no write-back and hands the record to recovery (R123, R138, R166, R167). Those of DELIVERY-OPEN and
DELIVERY-CLOSE reach the delivery controller so (R136, R138), which discards the inlet context on entry to REFUSED and
on its return to IDLE (R134). With the own CLOSE applied write-back of the last fill is asked for: the request waits
for the end of a keep-alive that runs, and is taken at once otherwise, to WRITING or with its TAG_NOT_WRITTEN (R67,
R123). The results of a recovery frame clear the record, leave it to wait for room, or recover it again (R168, R170).
The premise that no write-back runs outside WRITEBACK is an invariant of every step (StepKeepsValvesFollowing). -/
def Obligations.ResultsReachTheFill : Prop :=
  (∀ (s : State) (w : Writing) (o : OpenRequest) (openSeq volume : Nat) (c : Settings) (r : IdResult),
    s.Live → s.engine.writing = some w → w.limit = false → w.frame.sender = s.me →
    w.frame.payload = .openFill o → w.result = .granted openSeq volume →
    s.link.state = .inService → w.replica.inService s.me = true → s.settings = some c →
    c.role = .dispense → s.activity.state = .opening → s.activity.result = some r →
    ∃ t, exec .retainedWriteComplete s = .next t ∧ t.replica = w.replica ∧ s.Opens c r openSeq volume t)
    ∧ (∀ (s : State) (w : Writing) (o : OpenRequest) (x : Reason), s.Live →
      s.engine.writing = some w → w.limit = false → w.frame.sender = s.me →
      w.frame.payload = .openFill o → w.result = .refused x → s.link.state = .inService →
      w.replica.inService s.me = true → s.activity.state = .opening →
      ∃ t, exec .retainedWriteComplete s = .next t ∧ t.replica = w.replica
        ∧ t.activity.state = .refused x ∧ t.activity.preset = none ∧ t.outputs = s.outputs)
    ∧ (∀ (s : State) (w : Writing) (x : Closing) (n : Nat), s.Live →
      s.engine.writing = some w → w.limit = false → w.frame.sender = s.me →
      w.frame.payload = .close x → w.result = .closed n → s.link.state = .inService →
      w.replica.inService s.me = true → s.role = some .dispense → s.activity.state = .closing →
      ∃ t, exec .retainedWriteComplete s = .next t ∧ t.replica = w.replica
        ∧ t.supply.record = none ∧ t.outputs = s.outputs
        ∧ (t.activity.state = .writeback ∨ t.activity.state = .idle ∨ t.activity.state = .faulted)
        ∧ let q : WriteBackRequest :=
            { area := { record := n, gross := x.gross, station := s.me, endTime := x.endTime,
                        keyCheck := s.keyCheck }
              couplerLost := s.activity.couplerLost }
          let keptAlive : Prop := s.port.job.map TagJob.purpose = some .keepAlive
          (keptAlive → t.ident = { s.ident with waiting := some q } ∧ t.port = s.port
            ∧ t.activity.state = .writeback ∧ t.activity.writeBackDone = false)
          ∧ (¬keptAlive → s.TakesWriteBack q t))
    ∧ (∀ (s : State) (w : Writing) (d : DeliveryRequest) (c : Settings) (r : IdResult),
      s.Live → s.engine.writing = some w → w.limit = false → w.frame.sender = s.me →
      w.frame.payload = .deliveryOpen d → s.link.state = .inService → w.replica.inService s.me = true →
      s.settings = some c → c.role = .receipt → s.activity.state = .opening →
      s.activity.result = some r →
      (∀ openSeq volume, w.result = .granted openSeq volume →
        ∃ t, exec .retainedWriteComplete s = .next t ∧ t.replica = w.replica
          ∧ s.Opens c r openSeq volume t)
      ∧ ∀ x, w.result = .refused x →
        ∃ t, exec .retainedWriteComplete s = .next t ∧ t.replica = w.replica
          ∧ t.activity.state = .refused x ∧ t.outputs = s.outputs ∧ t.ident.context = none)
    ∧ (∀ (s : State) (w : Writing) (x : Closing) (n : Nat), s.Live →
      s.engine.writing = some w → w.limit = false → w.frame.sender = s.me →
      w.frame.payload = .deliveryClose x → w.result = .closed n → s.link.state = .inService →
      w.replica.inService s.me = true → s.role = some .receipt → s.activity.state = .closing →
      ∃ t, exec .retainedWriteComplete s = .next t ∧ t.replica = w.replica
        ∧ t.supply.record = none ∧ t.outputs = s.outputs
        ∧ (s.activity.faultPending = false → t.activity.state = .idle ∧ t.ident.context = none
          ∧ t.activity.lastTank = s.activity.lastTank)
        ∧ (s.activity.faultPending = true → t.activity.state = .faulted))
    ∧ (∀ (s : State) (w : Writing) (x : Closing) (r : ActRecord) (e : StationEntry), s.Live →
      s.engine.writing = some w → w.limit = false → w.frame.sender = s.me →
      (w.frame.payload = .close x ∨ w.frame.payload = .deliveryClose x) → w.result = .noChange →
      s.link.state = .inService → w.replica.inService s.me = true → s.activity.state = .closing →
      s.supply.record = some r → w.replica.station? s.me = some e → s.engine.freeze = false →
      s.StreamsGoOn → s.WritesInWriteback →
      ∃ t, exec .retainedWriteComplete s = .next t ∧ t.replica = w.replica ∧ t.outputs = s.outputs
        ∧ t.ident.writing = none
        ∧ t.activity.state = (if s.activity.faultPending = true then .faulted
          else if s.role ≠ some .receipt ∧ s.meter.cells.noz.output = true then .writeback else .idle)
        ∧ (s.engine.admitted = false →
          t.supply.record = some r ∧ t.supply.phase = .held ∧ t.link = s.link)
        ∧ (s.engine.admitted = true → s.supply.waitCensus = false →
          match recoveryOf r e s.clock with
          | some p =>
            t.supply.record = some r ∧ t.supply.phase = .recovering ∧ s.ActivityOffers p t
          | none => t.supply.record = none ∧ t.link = s.link))
    ∧ ∀ (s : State) (w : Writing), s.Live → s.engine.writing = some w → w.limit = false →
      w.frame.sender = s.me → s.link.state = .inService → w.replica.inService s.me = true →
      s.activity.state ≠ .closing →
      let closes := (∃ x, w.frame.payload = .close x) ∨ ∃ x, w.frame.payload = .deliveryClose x
      let adjusts := ∃ x, w.frame.payload = .adjust x
      (((closes ∧ ∃ n, w.result = .closed n) ∨ (adjusts ∧ w.result = .applied)) →
        ∃ t, exec .retainedWriteComplete s = .next t ∧ t.replica = w.replica ∧ t.supply.record = none)
      ∧ (adjusts → w.result = .noRoom →
        ∃ t, exec .retainedWriteComplete s = .next t ∧ t.replica = w.replica
          ∧ t.supply.record = s.supply.record ∧ t.supply.phase = .waitingRoom)
      ∧ ∀ r e, ((closes ∧ w.result = .noChange) ∨ (adjusts ∧ w.result = .noMatch)) →
        s.supply.record = some r → w.replica.station? s.me = some e → s.engine.admitted = true →
        s.engine.freeze = false → s.supply.waitCensus = false →
        s.StreamsGoOn → ∃ t, exec .retainedWriteComplete s = .next t ∧ s.Recovers r e t

/-- A frozen donor defers the frames of its inbound queue, a joiner holds them for its catch-up, 64 at most; the
65th ends the donation, or the join (R36, R38, R39, R41). With the donation ended so, a stream frame that waits is
withdrawn and SNAP-ABORT offered; one on the wire runs to its window, and SNAP-ABORT is offered when it has left (R38).
The donor's side: a JOIN that names the station as donor
freezes it and begins its stream with SNAP-HEAD; each frame that is Taken brings the next, two entries at a time in
the fixed order, and SNAP-END the thaw; one that is not brings SNAP-ABORT and the thaw; the deferred frames are
applied before those of the inbound queue (R36 to R38). That kept frames go with the queue is log entry 18. -/
def Obligations.FramesWaitForTheSnapshot : Prop :=
  (∀ (s : State) (f : Frame) (rest : List Frame), s.Live → s.engine.writing = none →
    s.link.inbound = f :: rest → f.payload.isReplica = true → s.link.state = .inService →
    s.engine.freeze = true →
    (s.engine.deferred.length < 64 → exec .frameDeferred s = .next { s with
      link := { s.link with inbound := rest },
      engine := { s.engine with deferred := s.engine.deferred ++ [f] } })
    ∧ (64 ≤ s.engine.deferred.length → ∃ t, exec .frameDeferred s = .next t
      ∧ t.engine.freeze = false ∧ t.engine.stream = none ∧ t.link.inbound = s.link.inbound
      ∧ t.engine.deferred = s.engine.deferred ∧ t.replica = s.replica ∧ t.link.wire = s.link.wire
      ∧ ∀ d, s.engine.stream = some d → s.engine.abortTo = none →
        (s.link.queued .donation = none
            ∨ (∃ k ∈ [Kind.snapHead, .snap, .snapEnd], s.link.withdrawable .donation k = true) →
          t.link.queued .donation = some (s.abortEntry d.joiner) ∧ t.engine.abortTo = none)
        ∧ ∀ e, s.link.queued .donation = some e →
          (s.link.onWire .donation = true ∨ e.payload = .snapAbort) →
          t.link.queued .donation = some e ∧ t.engine.abortTo = some d.joiner))
    ∧ (∀ (s : State) (rx : List Bit) (x : Slots) (w : OnWire) (e : TxEntry) (j : Nat), s.Sends w e →
      w.origin = .donation → w.frame.payload.category = .service → s.engine.abortTo = some j →
      (∀ d ∈ s.engine.stream, d.offered = false) →
      let left (hold : Bool) : State :=
        { s with
          engine := { s.engine with abortTo := none }
          link := { s.link with
            wire := none, voidHold := hold, entered := s.link.entered + 1,
            tx := (s.link.tx.filter fun y => decide (y.origin ≠ .donation)) ++ [s.abortEntry j] } }
      (x.void = false → exec (.serviceWindow rx x) s = .next (left s.link.voidHold))
      ∧ (x.void = true → e.voids = 15 → exec (.undelivered x) s = .next (left true)))
    ∧ (∀ (s : State) (f : Frame) (rest : List Frame), s.Live → s.engine.writing = none →
      s.link.inbound = f :: rest → f.payload.isReplica = true → s.link.state = .joining →
      (s.engine.catchUp.length < 64 → exec .frameHeldForCatchUp s = .next { s with
        link := { s.link with inbound := rest },
        engine := { s.engine with catchUp := s.engine.catchUp ++ [f] } })
      ∧ (64 ≤ s.engine.catchUp.length → ∃ t, exec .frameHeldForCatchUp s = .next t
        ∧ t.OutWith .listening .catchUpOverflow ∧ t.engine.holdOff = some (1000000 + 50000 * s.me)
        ∧ t.replica = s.replica))
    ∧ (∀ (s : State) (w : Writing) (j : Joining) (e : StationEntry), s.Live →
      s.engine.writing = some w → w.limit = false → s.link.state = .inService →
      w.frame.payload = .join j → w.result = .applied → w.frame.sender ≠ s.me →
      w.replica.station? w.frame.sender = some e → e.donor = some s.me →
      w.replica.inService s.me = true → s.link.queued .donation = none → s.engine.abortTo = none →
      let r := w.replica
      let d : Stream :=
        { joiner := w.frame.sender, keyOk := decide (j.keyCheck = r.site.keyCheck), next := .head,
          offered := true }
      ∃ t x, exec .retainedWriteComplete s = .next t ∧ t.replica = r ∧ t.engine.freeze = true
        ∧ t.engine.stream = some d ∧ t.link.queued .donation = some x ∧ x.dest = w.frame.sender
        ∧ x.payload = .snapHead r.site.seq r.site.keyCheck
          { site := 1, stations := r.stations.length, tanks := r.tanks.length,
            costCentres := r.costCentres.length, machines := r.machines.length, log := r.log.length })
    ∧ (∀ (s : State) (rx : List Bit) (x : Slots) (w : OnWire) (e : TxEntry) (d : Stream), s.Sends w e →
      w.origin = .donation → w.frame.payload.category = .service → e.payload ≠ .snapAbort →
      s.engine.stream = some d → d.offered = true → s.engine.abortTo = none →
      let entries := Entry.site s.replica.site :: s.replica.stations.map Entry.station
        ++ s.replica.tanks.map Entry.tank ++ s.replica.costCentres.map Entry.costCentre
        ++ s.replica.machines.map Entry.machine ++ s.replica.log.map Entry.record
      let goesOn (n : StreamNext) (p : Payload) (t : State) : Prop :=
        let d' : Stream := { d with next := n }
        t.engine = { s.engine with stream := some d' } ∧ t.replica = s.replica
          ∧ ∃ y, t.link.queued .donation = some y ∧ y.dest = d.joiner ∧ y.payload = p
      let thaws (t : State) : Prop :=
        t.engine = { s.engine with freeze := false, stream := none } ∧ t.replica = s.replica
      (x.void = false → x.accept = true →
        ∃ t, exec (.serviceWindow rx x) s = .next t
          ∧ (d.next = .head → d.keyOk = true → goesOn (.body 0) (.snap (entries.take 2)) t)
          ∧ (d.next = .head → d.keyOk = false → thaws t)
          ∧ (∀ n, d.next = .body n → n + 2 < entries.length →
            goesOn (.body (n + 2)) (.snap ((entries.drop (n + 2)).take 2)) t)
          ∧ (∀ n, d.next = .body n → entries.length ≤ n + 2 → goesOn .finish .snapEnd t)
          ∧ (d.next = .finish → thaws t))
      ∧ ∀ c, (c = Instr.serviceWindow rx x ∧ x.void = false ∧ x.accept = false
          ∨ c = .undelivered x ∧ x.void = true ∧ e.voids = 15) →
        ∃ t y, exec c s = .next t ∧ thaws t ∧ t.link.queued .donation = some y ∧ y.dest = d.joiner
          ∧ y.payload = .snapAbort)
    ∧ ∀ (s : State) (f : Frame) (rest : List Frame), s.link.state = .inService →
      s.engine.freeze = false → s.engine.writing = none → s.engine.deferred = f :: rest →
      f.payload.isReplica = true →
      s.toApply = some f ∧ s.popNext = { s with engine := { s.engine with deferred := rest } }

/-- The snapshot stream at a joiner: SNAP-HEAD opens the join area, a key of another site faults the station; SNAP
adds entries in their order, and SNAP-END takes the station into service with the streamed tables and the frames that
waited applied to them, each of which follows on; tables that were ahead of the stream are told as SUPERSEDED_HISTORY
(R39, R40). A
stream that is not whole, or a wait-list that does not follow on, ends the join with the tables as they were (R41; the
cause of a list that does not follow on is log entry 19). What makes a stream whole, and that SNAP-END waits while
census slots are collected, is log entry 23; that kept frames go with the queue, log entry 18. -/
def Obligations.JoinerTakesTheStream : Prop :=
  (∀ (s : State) (f : Frame) (rest : List Frame) (q : Nat) (k : Check) (c : Counts), s.Live →
    s.link.state = .joining → s.engine.writing = none → s.engine.join = none →
    s.link.inbound = f :: rest → f.payload = .snapHead q k c →
    (k = s.keyCheck →
      let a : JoinArea := { donor := f.sender, joinSeq := q, counts := c, entries := [] }
      exec .snapHead s = .next { s with
        link := { s.link with inbound := rest },
        engine := { s.engine with headTimer := none, join := some a } })
    ∧ (k ≠ s.keyCheck → ∃ t, exec .snapHead s = .next t ∧ t.OutWith .faulted .keyMismatch
        ∧ t.replica = s.replica))
    ∧ (∀ (s : State) (f : Frame) (rest : List Frame) (es : List Entry) (a : JoinArea), s.Live →
      s.link.state = .joining → s.engine.writing = none → s.engine.join = some a →
      s.link.inbound = f :: rest → f.payload = .snap es → f.sender = a.donor →
      (∀ l, addEntries a.entries es = some l →
        let b : JoinArea := { a with entries := l }
        exec .snap s = .next { s with
          link := { s.link with inbound := rest }, engine := { s.engine with join := some b } })
      ∧ (addEntries a.entries es = none → ∃ t, exec .snap s = .next t
        ∧ t.OutWith .listening .snapFault ∧ t.engine.holdOff = some (1000000 + 50000 * s.me)
        ∧ t.replica = s.replica))
    ∧ ∀ (s : State) (f : Frame) (rest : List Frame) (a : JoinArea), s.Live →
      s.link.state = .joining → s.engine.writing = none → s.engine.join = some a →
      s.link.slots = none → s.link.inbound = f :: rest → f.payload = .snapEnd → f.sender = a.donor →
      (∀ r, a.replica? = some r → s.engine.catchUp = [] → (∀ x ∈ rest, x.payload.isReplica = false) →
        s.link.queued .membership = none →
        ∃ t e, exec .snapEnd s = .next t ∧ t.link.state = .inService ∧ t.replica = r
          ∧ t.link.acceptedSeq = r.site.seq ∧ t.link.inbound = [] ∧ t.engine.join = none
          ∧ t.link.censusTimer = some (2000000 + 20000 * s.me)
          ∧ t.link.queued .membership = some e
          ∧ e.payload = .announce { founder := false, role := s.role.getD .dispense, hose := s.hose,
                                    served := s.served, keyCheck := s.keyCheck })
      ∧ (a.replica? = none → ∃ t, exec .snapEnd s = .next t ∧ t.OutWith .listening .snapFault
        ∧ t.engine.holdOff = some (1000000 + 50000 * s.me) ∧ t.replica = s.replica)
      ∧ (∀ r g more, a.replica? = some r → s.engine.catchUp = g :: more →
        g.payload.kind? ≠ some .join → g.seq16 ≠ BitVec.ofNat 16 (r.site.seq + 1) →
        ∃ t, exec .snapEnd s = .next t ∧ t.OutWith .listening .catchUpGap
          ∧ t.engine.holdOff = some (1000000 + 50000 * s.me) ∧ t.replica = s.replica)
      ∧ ∀ r, a.replica? = some r → s.link.queued .membership = none → s.limitReached = false →
        let fs := s.engine.catchUp ++ rest.filter fun x => x.payload.isReplica
        r.site.seq + fs.length < maxSeq →
        (∀ r', followsOn r fs = some r' →
          ∃ t e, exec .snapEnd s = .next t ∧ t.link.state = .inService ∧ t.replica = r'
            ∧ t.link.acceptedSeq = r.site.seq + fs.length ∧ t.link.inbound = []
            ∧ t.engine.catchUp = [] ∧ t.engine.join = none ∧ t.engine.joinTimer = none
            ∧ t.link.censusTimer = some (2000000 + 20000 * s.me)
            ∧ t.link.queued .membership = some e
            ∧ e.payload = .announce { founder := false, role := s.role.getD .dispense, hose := s.hose,
                                      served := s.served, keyCheck := s.keyCheck }
            ∧ (r.site.seq < s.replica.site.seq → s.console.notices.length + fs.length < 8 →
              ∃ n ∈ t.console.notices, n.body = .supersededHistory s.replica.site.seq r.site.seq))
        ∧ (followsOn r fs = none →
          ∃ t, exec .snapEnd s = .next t ∧ t.OutWith .listening .catchUpGap
            ∧ t.engine.holdOff = some (1000000 + 50000 * s.me) ∧ t.replica = s.replica)

/-- SNAP-ABORT and the two timers end a join with their cause: LISTENING, its period started anew, and the hold-off
of 1 s + 50 ms × station number (R34, R41). In LISTENING 4 s of silence bring FOUND, and the end of the hold-off
brings JOIN where a frame was heard in it (R34). That kept frames go with the queue is log entry 18; that what was heard
is dropped where the hold-off ends outside LISTENING, log entry 52. -/
def Obligations.JoinAndListenTimers : Prop :=
  (∀ (s : State) (f : Frame) (rest : List Frame) (a : JoinArea), s.Live → s.link.state = .joining →
    s.engine.writing = none → s.engine.join = some a → s.link.inbound = f :: rest →
    f.payload = .snapAbort → f.sender = a.donor →
    ∃ t, exec .snapAbort s = .next t ∧ t.OutWith .listening .snapAborted
      ∧ t.engine.holdOff = some (1000000 + 50000 * s.me) ∧ t.replica = s.replica)
    ∧ (∀ s : State, s.Live → s.link.state = .joining → s.engine.headTimer.isSome = true →
      ∃ t, exec .noSnapHead s = .next t ∧ t.OutWith .listening .noSnapHead
        ∧ t.engine.holdOff = some (1000000 + 50000 * s.me) ∧ t.replica = s.replica)
    ∧ (∀ s : State, s.Live → s.link.state = .joining → s.engine.joinTimer.isSome = true →
      ∃ t, exec .joinTimeout s = .next t ∧ t.OutWith .listening .joinTimeout
        ∧ t.engine.holdOff = some (1000000 + 50000 * s.me) ∧ t.replica = s.replica)
    ∧ (∀ s : State, s.Live → s.link.state = .listening → s.engine.listenTimer.isSome = true →
      s.link.queued .membership = none →
      exec .listeningTimeout s = .next { s with
        link := s.withOffer .membership (.found s.replica.site.seq s.keyCheck),
        engine := { s.engine with listenTimer := none } })
      ∧ (∀ s : State, s.Live → s.engine.holdOff.isSome = true →
        (s.engine.heardNoted = false ∨ s.link.state ≠ .listening) →
        exec .joinHoldOffEnd s =
          .next { s with engine := { s.engine with holdOff := none, heardNoted := false } })
      ∧ ∀ s : State, s.Live → s.engine.holdOff.isSome = true → s.engine.heardNoted = true →
        s.link.state = .listening → s.link.queued .membership = none →
        let j : Joining :=
          { station := s.me, role := s.role.getD .dispense, hose := s.hose, served := s.served,
            keyCheck := s.keyCheck, retained := s.replica.site.seq }
        exec .joinHoldOffEnd s = .next { s with
          link := s.withOffer .membership (.join j),
          engine := { s.engine with holdOff := none, heardNoted := false, listenTimer := none } }

/-- The founding round: FOUND opens it and adds candidates, the seal delay brings the SEAL of the best candidate,
SEAL makes the winner the founder and sends the others listening, or faults one of another key; the round timer
ends it where no accepted SEAL waits to be taken (R44 to R46). That kept frames go with the queue is log entry 18; that
a FOUND or SEAL accepted in FOUNDING is judged by the link state in which it is taken, log entry 51. -/
def Obligations.FoundingRoundRuns : Prop :=
  (∀ (s : State) (f : Frame) (rest : List Frame) (q : Nat) (k : Check), s.Live →
    s.link.state = .listening → s.engine.writing = none → s.link.inbound = f :: rest →
    f.payload = .found q k → s.link.queued .membership = none →
    (f.sender ≠ s.me → s.engine.foundSent = false →
      ∃ t, exec .found s = .next t ∧ t.link.state = .founding ∧ t.link.inbound = rest
        ∧ t.engine.round = some
          { sealer := f.sender, candidates := [{ station := f.sender, retained := q, keyCheck := k }] }
        ∧ t.engine.roundTimer = some 5000000 ∧ t.engine.sealTimer = none
        ∧ t.engine.listenTimer = none
        ∧ t.link.tx = s.link.tx ++ [s.newEntry .membership (.found s.replica.site.seq s.keyCheck)])
    ∧ (f.sender = s.me →
      ∃ t, exec .found s = .next t ∧ t.link.state = .founding ∧ t.link.inbound = rest
        ∧ t.engine.round = some
          { sealer := s.me, candidates := [{ station := s.me, retained := q, keyCheck := k }] }
        ∧ t.engine.roundTimer = some 5000000 ∧ t.engine.sealTimer = some 2000000
        ∧ t.link.tx = s.link.tx))
    ∧ (∀ (s : State) (f : Frame) (rest : List Frame) (q : Nat) (k : Check) (r : Round), s.Live →
      s.link.state = .founding → s.engine.writing = none → s.engine.round = some r →
      s.link.inbound = f :: rest → f.payload = .found q k → f.sender ≠ s.me →
      let c : Candidate := { station := f.sender, retained := q, keyCheck := k }
      let r' : Round :=
        if (∃ x ∈ r.candidates, x.station = f.sender) ∨ 31 ≤ r.candidates.length then r
        else { r with candidates := r.candidates ++ [c] }
      exec .found s = .next { s with
        link := { s.link with inbound := rest }, engine := { s.engine with round := some r' } })
    ∧ (∀ (s : State) (r : Round), s.Live → s.link.state = .founding → s.engine.sealTimer.isSome = true →
      s.engine.round = some r → r.candidates ≠ [] → s.link.queued .membership = none →
      ∃ w ∈ r.candidates,
        (∀ x ∈ r.candidates, x.retained < w.retained ∨ x.retained = w.retained ∧ w.station ≤ x.station)
        ∧ let x : Sealing :=
            { winner := w.station, retained := w.retained, keyCheck := w.keyCheck,
              candidates := r.candidates.length }
          exec .sealDue s = .next { s with
            link := s.withOffer .membership (.sealRound x),
            engine := { s.engine with sealTimer := none } })
    ∧ (∀ (s : State) (f : Frame) (rest : List Frame) (x : Sealing), s.Live →
      s.link.state = .founding → s.engine.writing = none → s.link.inbound = f :: rest →
      f.payload = .sealRound x →
      (x.winner = s.me → s.link.queued .membership = none →
        ∃ t e, exec .sealRound s = .next t ∧ t.link.state = .inService ∧ t.link.inbound = rest
          ∧ t.link.acceptedSeq = s.replica.site.seq ∧ t.replica = s.replica ∧ t.engine.round = none
          ∧ t.engine.roundTimer = none ∧ t.engine.sealTimer = none
          ∧ t.link.censusTimer = some (2000000 + 20000 * s.me)
          ∧ t.link.queued .membership = some e
          ∧ e.payload = .announce { founder := true, role := s.role.getD .dispense, hose := s.hose,
                                    served := s.served, keyCheck := s.keyCheck })
      ∧ (x.winner ≠ s.me → x.keyCheck = s.keyCheck → ∃ t, exec .sealRound s = .next t
        ∧ t.link.state = .listening ∧ t.link.inbound = rest ∧ t.engine.round = none
        ∧ t.engine.roundTimer = none ∧ t.engine.sealTimer = none
        ∧ t.engine.listenTimer = some 4000000 ∧ t.replica = s.replica)
      ∧ (x.winner ≠ s.me → x.keyCheck ≠ s.keyCheck → ∃ t, exec .sealRound s = .next t
        ∧ t.OutWith .faulted .keyMismatch ∧ t.replica = s.replica))
    ∧ ∀ s : State, s.Live → s.link.state = .founding → s.engine.roundTimer.isSome = true →
      ((∀ f ∈ s.link.inbound, f.payload.kind? ≠ some .sealRound) →
        ∃ t, exec .roundTimeout s = .next t ∧ t.link.state = .listening ∧ t.engine.round = none
          ∧ t.engine.roundTimer = none ∧ t.engine.sealTimer = none
          ∧ t.engine.listenTimer = some 4000000 ∧ t.link.inbound = s.link.inbound
          ∧ t.replica = s.replica)
      ∧ ∀ f ∈ s.link.inbound, ∀ x, f.payload = .sealRound x →
        exec .roundTimeout s = .next { s with engine := { s.engine with roundTimer := none } }

/-! ## The inlet tag and identification -/

/-- A run at the tag: WAKING ends with IDENT due; the port sends the characters of a command, reading the line back:
SENDING, AWAITING_REPLY with the last one, or CONTENTION where a bit it releases high reads low (R48 to R50); a
well-formed identity block sets guard and gap and makes UNLOCK due; the silent guard after UNLOCK makes READ of the
machine record due (R52, R53, R59 to R61). That a character which came late after the last reply ends the attempt
with CHECK is log entry 45; an attempt at RELOCK that ends so makes the unlock state LOCKED too (R56). That
TAG_COMMAND_START goes on with the driving, and that the RELOCK of a release is sent in OFFLINE, is log entry 17. -/
def Obligations.TagRunAdvances : Prop :=
  (∀ s : State, s.Live → s.ident.state = .waking → s.port.state = .idle →
    exec .wakingEnd s = .next { s with
      port := s.port.withDue .ident .run, ident := { s.ident with state := .readingIdent } })
    ∧ (∀ (s : State) (j : TagJob), s.Live → s.port.state = .idle → s.port.job = some j →
      (s.link.state ≠ .offline ∨ j.purpose = .release) →
      let j' : TagJob := { j with attempts := j.attempts + 1 }
      let chars := ([0xA6, j.command.code] ++ s.operands j.command).map charOf
      (s.port.late = false →
        (∀ n, exec (.tagCommandStart (chars.take n)) s = .next { s with
          port := { s.port with
            state := if n < chars.length then .sending else .awaitingReply
            job := some j', sent := chars.take n, heard := [] },
          ident := { s.ident with context :=
            if j.command = .relock then s.ident.context.map fun c => { c with unlock := .locked }
            else s.ident.context } })
        ∧ ∀ n c r more, chars[n]? = some c → contends c r = true → j.command ≠ .relock →
          exec (.tagCommandStart (chars.take n ++ r :: more)) s = .next { s with port :=
            { s.port.failed j' .contention with job := some j', sent := chars.take (n + 1) } })
      ∧ ∀ line, s.port.late = true →
        exec (.tagCommandStart line) s = .next { s with
          port := { s.port.failed j' .check with job := if j.command = .relock then none else some j' },
          ident := { s.ident with context :=
            if j.command = .relock then s.ident.context.map fun c => { c with unlock := .locked }
            else s.ident.context } })
    ∧ (∀ (s : State) (j : TagJob) (n m : Nat), s.Live → s.port.state = .sending → s.port.job = some j →
      (s.link.state ≠ .offline ∨ j.purpose = .release) →
      let chars := ([0xA6, j.command.code] ++ s.operands j.command).map charOf
      s.port.sent = chars.take n → n < chars.length →
      exec (.tagCommandStart ((chars.drop n).take m)) s = .next { s with port := { s.port with
        state := if n + m < chars.length then .sending else .awaitingReply
        sent := chars.take (n + m) } })
    ∧ (∀ (b : Byte), (charOf b).getLsbD 0 = false ∧ (charOf b).extractLsb' 1 8 = b
      ∧ charError (charOf b) = none)
    ∧ (∀ (s : State) (c : Settings) (w : WriteBack) (a n : Nat), s.settings = some c →
      s.ident.writing = some w →
      s.operands .ident = [] ∧ s.operands .unlock = leBytes 8 c.key.toNat
        ∧ s.operands (.read a n) = [BitVec.ofNat 8 a, BitVec.ofNat 8 n]
        ∧ s.operands .stage = [0, 16] ++ w.area.bytes ∧ s.operands .commit = []
        ∧ s.operands .relock = [])
    ∧ (∀ (s : State) (j : TagJob) (line : List TagLevel) (reply : List TagChar) (bs : List Byte),
      s.Awaits j → s.Hears line reply → j.command = .ident → j.purpose = .run →
      dataReply 16 reply = .data bs →
      let b := parseBlock bs
      let wf := (b.format = 1 ∨ b.format = 2) ∧ 1 ≤ b.number.toNat ∧ b.number.toNat ≤ 65534
        ∧ (b.fleetClass = 1 ∨ b.fleetClass = 2) ∧ 2 ≤ b.guardTime.toNat ∧ b.guardTime.toNat ≤ 32
        ∧ b.gap.toNat ≤ 3
      (wf → exec (.tagIdent line) s = .next { s with
        port := { (s.port.ended j (decide (17 < reply.length))).withDue .unlock .run with
          guardTime := b.guardTime.toNat, gap := b.gap.toNat },
        ident := { s.ident with
          state := .unlocking, context := s.ident.context.map fun c => { c with block := some b } } })
      ∧ (¬wf → ∃ t, exec (.tagIdent line) s = .next t ∧ t.ident.state = .failed .tagFormat
        ∧ t.ident.runTimer = none))
    ∧ ∀ (s : State) (j : TagJob), s.Awaits j → j.command = .unlock →
      exec (.tagUnlock false) s = .next { s with
        port := (s.port.ended j false).withDue (.read 16 16) .run,
        ident := { s.ident with state := .readingRecord } }

/-- The READ of the machine record: the checks of a DISPENSE station in their order, FAILED with the first that
fails and RELOCK due, else IDENTIFIED with its result (R54, R56, R62, R64; that a format 1 tag gives no level is log
entry 17); a RECEIPT station checks the grade of a tank that is named, leaves the grade open where none is, and relocks
(R63). A fill or delivery that awaits the result takes it: OPEN is offered with the computed volume, or DELIVERY-OPEN,
or the state is REFUSED and the result released (R102, R103, R105, R134; that NOT_IN_SERVICE comes before
RECOVERY_PENDING is log entry 43). In FAULTED(VALVE) the result is released (R119), and in every other state it stays
held. A REFUSED READ is repeated behind another UNLOCK, twice at most (R61). -/
def Obligations.TagReadIsChecked : Prop :=
  (∀ (s : State) (j : TagJob) (a n : Nat) (line : List TagLevel) (reply : List TagChar)
    (bs : List Byte) (c : Inlet) (b : IdentBlock), s.Awaits j → s.Hears line reply →
    j.command = .read a n → j.purpose = .run →
    readReply n reply = .data bs → s.ident.context = some c → c.block = some b →
    let r := parseTagRecord bs
    let level := if b.format = 1 ∨ r.level = 255 then none else some r.level.toNat
    let malformed : Bool := decide (r.grade.toNat < 1) || decide (7 < r.grade.toNat) || r.capacity == 0
      || foundAnd (fun l => decide (100 < l)) level
    let res : IdResult :=
      { mode := .tag, number := b.number.toNat, grade := r.grade.toNat, capacity := r.capacity.toNat,
        hours := some r.hours.toNat, level }
    let relocks (t : State) : Prop := t.ident.runTimer = none
      ∧ t.port.job = some { command := .relock, purpose := .release, attempts := 0 }
    let fails (x : Reason) : Prop := ∃ t, exec (.tagRead line) s = .next t ∧ t.ident.state = .failed x
      ∧ relocks t ∧ t.activity = s.activity ∧ t.link = s.link
    let holds (pending : Bool) (t : State) : Prop := t.ident.state = .identified ∧ t.ident.runTimer = none
      ∧ t.ident.context = some
        { c with record := some r, unlock := .unlocked, gradePending := pending, result := some res }
    let released (t : State) : Prop := relocks t ∧ t.ident.state = .idle ∧ t.ident.context = none
    let refused (x : Reason) (t : State) : Prop :=
      released t ∧ t.activity.state = .refused x ∧ t.link = s.link
    let same (t : State) : Prop := t.activity = s.activity ∧ t.link = s.link
    (s.role = some .dispense →
      let m := s.replica.machine? b.number.toNat
      let found := firstReason
        [(.tagFormat, malformed), (.wrongClass, b.fleetClass != 1),
         (.misgrade, (s.hose.bind s.replica.tank?).map TankEntry.grade != some r.grade.toNat),
         (.unknownMachine, m.isNone), (.barred, foundAnd MachineEntry.barred m),
         (.heldElsewhere, foundAnd (fun x => x.hold.isSome) m)]
      (∀ x, found = some x → fails x)
      ∧ (found = none → ∃ t, exec (.tagRead line) s = .next t
        ∧ (s.activity.state ∉ [ActState.awaitingId, .faulted] →
          holds false t ∧ t.port.job = none ∧ same t)
        ∧ (s.activity.state = .faulted → released t ∧ same t)
        ∧ (s.activity.state = .awaitingId → s.engine.admitted = false → refused .notInService t)
        ∧ (s.activity.state = .awaitingId → s.engine.admitted = true → s.supply.record.isSome = true →
          refused .recoveryPending t)
        ∧ (s.activity.state = .awaitingId → s.engine.admitted = true → s.supply.record = none →
          s.AsksForFill res t ∧ holds false t ∧ t.port.job = none)))
    ∧ (s.role = some .receipt →
      let found := firstReason
        [(.tagFormat, malformed), (.wrongClass, b.fleetClass != 2),
         (.misgrade, c.namedTank.isSome
           && (c.namedTank.bind s.replica.tank?).map TankEntry.grade != some r.grade.toNat)]
      let d : DeliveryRequest :=
        { tank := s.activity.namedTank.getD 0, tanker := res.number, grade := res.grade,
          declared := s.activity.declared.getD 0, mode := .tag, hours := res.hours, openTime := s.clock }
      (∀ x, found = some x → fails x)
      ∧ (found = none → ∃ t, exec (.tagRead line) s = .next t ∧ relocks t
        ∧ (s.activity.state = .faulted → released t ∧ same t)
        ∧ (s.activity.state ≠ .faulted → c.namedTank = none → holds true t ∧ same t)
        ∧ ∀ k, c.namedTank = some k →
          (s.activity.state ∉ [ActState.awaitingId, .faulted] → holds false t ∧ same t)
          ∧ (s.activity.state = .awaitingId → s.engine.admitted = false → refused .notInService t)
          ∧ (s.activity.state = .awaitingId → s.engine.admitted = true →
            s.supply.record.isSome = true → refused .recoveryPending t)
          ∧ (s.activity.state = .awaitingId → s.engine.admitted = true → s.supply.record = none →
            t.activity.state = .opening ∧ t.activity.result = some res ∧ holds false t
              ∧ s.ActivityOffers (.deliveryOpen d) t))))
    ∧ ∀ (s : State) (j : TagJob) (a n : Nat) (line : List TagLevel) (reply : List TagChar) (c : Inlet),
      s.Awaits j → s.Hears line reply → j.command = .read a n → j.purpose = .run →
      readReply n reply = .error .refused → s.ident.context = some c →
      (c.pairs < 2 → ∃ t, exec (.tagRead line) s = .next t ∧ t.ident.state = .unlocking
        ∧ t.ident.context = some { c with pairs := c.pairs + 1 }
        ∧ t.port.job = some { command := .unlock, purpose := .run, attempts := 0 })
      ∧ (2 ≤ c.pairs → ∃ t, exec (.tagRead line) s = .next t
        ∧ t.ident.state = .failed .keyRejected ∧ t.ident.runTimer = none)

/-- Write-back: STAGE acknowledged makes COMMIT due, COMMIT acknowledged the verify READ; a FAIL, or a verify READ that
disagrees, starts the next pass, three in all; the verify READ that agrees, or the third failure, ends write-back with
RELOCK due and the context gone, told as TAG_WRITTEN, or TAG_NOT_WRITTEN with WRITE_FAILED or VERIFY_FAILED (R55, R67,
R68, R123). It ends so with LOCKED where the verify READ is REFUSED, with TAG_LINK where a command is exhausted, and with
COUPLER_LOST (R65, R68). A request that waited for a keep-alive is taken as that ends, by the unlock state that it leaves
(R57, R67). -/
def Obligations.WriteBackPasses : Prop :=
  (∀ (s : State) (j : TagJob) (line : List TagLevel) (reply : List TagChar), s.Awaits j →
    s.Hears line reply → j.command = .stage → charReply [0x5A] reply = .code 0x5A →
    exec (.tagStage line) s =
      .next { s with port := (s.port.ended j (decide (1 < reply.length))).withDue .commit .writeBack })
    ∧ (∀ (s : State) (j : TagJob) (line : List TagLevel) (reply : List TagChar), s.Awaits j →
      s.Hears line reply → j.command = .commit → commitReply reply = .code 0x5A →
      let p := s.port.ended j (decide (busyCount reply + 1 < reply.length))
      exec (.tagCommit line) s = .next { s with port := p.withDue (.read 32 16) .writeBack })
    ∧ (∀ (s : State) (j : TagJob) (line : List TagLevel) (reply : List TagChar) (w : WriteBack),
      s.Awaits j → s.Hears line reply → j.command = .commit → commitReply reply = .code 0xE1 →
      s.ident.writing = some w → w.pass < 3 →
      let w' : WriteBack := { w with pass := w.pass + 1 }
      exec (.tagCommit line) s = .next { s with
        port := (s.port.ended j (decide (busyCount reply + 1 < reply.length))).withDue .stage .writeBack,
        ident := { s.ident with writing := some w' } })
    ∧ (∀ (s : State) (j : TagJob) (line : List TagLevel) (reply : List TagChar) (w : WriteBack)
      (bs : List Byte), s.Awaits j → s.Hears line reply → j.command = .read 32 16 →
      j.purpose = .writeBack → readReply 16 reply = .data bs → s.ident.writing = some w →
      bs ≠ w.area.bytes → w.pass < 3 →
      let w' : WriteBack := { w with pass := w.pass + 1 }
      exec (.tagRead line) s = .next { s with
        port := (s.port.ended j (decide (17 < reply.length))).withDue .stage .writeBack,
        ident := { s.ident with writing := some w' } })
    ∧ (∀ (s : State) (j : TagJob) (line : List TagLevel) (reply : List TagChar) (w : WriteBack)
      (c : Inlet) (i : Instr) (n : NoticeBody), s.Awaits j → s.Hears line reply →
      s.ident.writing = some w → s.ident.context = some c → c.unlock = .unlocked →
      s.role = some .dispense → s.activity.state = .writeback → s.activity.faultPending = false →
      (i = .tagCommit line ∧ j.command = .commit ∧ commitReply reply = .code 0xE1 ∧ 3 ≤ w.pass
          ∧ n = .tagNotWritten .writeFailed w.area.record
        ∨ i = .tagRead line ∧ j.command = .read 32 16 ∧ j.purpose = .writeBack
          ∧ readReply 16 reply = .data w.area.bytes ∧ n = .tagWritten w.area.record
        ∨ i = .tagRead line ∧ j.command = .read 32 16 ∧ j.purpose = .writeBack
          ∧ (∃ bs, readReply 16 reply = .data bs ∧ bs ≠ w.area.bytes) ∧ 3 ≤ w.pass
          ∧ n = .tagNotWritten .verifyFailed w.area.record) →
      ∃ t, exec i s = .next t ∧ t.ident.state = .idle ∧ t.ident.context = none
        ∧ t.ident.writing = none
        ∧ t.port.job = some { command := .relock, purpose := .release, attempts := 0 }
        ∧ (s.console.notices.length < 8 → ∃ x ∈ t.console.notices, x.body = n)
        ∧ (s.meter.cells.noz.output = true →
          t.activity.state = .writeback ∧ t.activity.writeBackDone = true)
        ∧ (s.meter.cells.noz.output = false → t.activity.state = .idle))
    ∧ (∀ (s : State) (w : WriteBack) (c : Inlet) (i : Instr) (r : Reason), s.Live →
      s.ident.writing = some w → s.ident.context = some c → c.mode = .tag → c.unlock = .unlocked →
      s.ident.state = .writing → s.role = some .dispense → s.activity.state = .writeback →
      ((∃ j line reply, i = .tagRead line ∧ s.Awaits j ∧ s.Hears line reply ∧ j.command = .read 32 16
          ∧ j.purpose = .writeBack ∧ readReply 16 reply = .error .refused ∧ r = .locked)
        ∨ (∃ j, i = .settlingEnd ∧ s.port.state = .settling ∧ s.port.job = some j ∧ 3 ≤ j.attempts
          ∧ j.purpose = .writeBack ∧ r = .tagLink)
        ∨ ∃ held, i = .cplFall held ∧ s.meter.cells.cpl.passes .cpl false held = true
          ∧ r = .couplerLost) →
      ∃ t, exec i s = .next t ∧ t.ident = Ident.reset
        ∧ t.port.job = (if r = .tagLink then
            some { command := .relock, purpose := .release, attempts := 0 } else none)
        ∧ (s.console.notices.length < 8 →
          ∃ x ∈ t.console.notices, x.body = .tagNotWritten r w.area.record)
        ∧ t.activity.state = (if s.activity.faultPending = true then .faulted
          else if s.meter.cells.noz.output = true then .writeback else .idle))
    ∧ ∀ (s : State) (j : TagJob) (i : Instr) (c : Inlet) (q : WriteBackRequest) (kept : Bool), s.Live →
      s.port.job = some j → j.command = .ident → j.purpose = .keepAlive → s.ident.state = .identified →
      s.ident.context = some c → c.mode = .tag → s.ident.waiting = some q → s.role = some .dispense →
      s.activity.state = .writeback → s.activity.writeBackDone = false →
      ((∃ line reply bs, i = .tagIdent line ∧ s.Awaits j ∧ s.Hears line reply
          ∧ dataReply 16 reply = .data bs ∧ kept = decide (c.block = some (parseBlock bs)))
        ∨ i = .settlingEnd ∧ s.port.state = .settling ∧ 3 ≤ j.attempts ∧ kept = false) →
      let c' : Inlet := if kept then c else { c with unlock := .lost }
      ∃ t, exec i s = .next t
        ∧ State.TakesWriteBack
          { s with ident := { s.ident with context := some c', waiting := none } } q t

/-- What goes wrong at the tag: a reply that is not complete is heard on, the port RECEIVING while a character is
under way and AWAITING_REPLY between characters (R48), where silence is NO_REPLY, or CHECK behind a READ reply that is
whole but too short (R50, R54, log entry 17); a character behind a complete reply is kept for the next attempt (R50,
log entry 45), behind one of a transaction that was not abandoned (log entry 20); an attempt that fails leaves its
signature and the port SETTLING; the settled port repeats the command, or after the third attempt gives it up, a run
with TAG_LINK, a keep-alive with the unlock state LOST; RELOCK is never repeated (R50, R51, R56, R57, R60). -/
def Obligations.TagErrorsAreSettled : Prop :=
  (∀ (s : State) (j : TagJob) (c : Instr) (e : Reason), s.Awaits j →
    ((∃ line reply, s.Hears line reply ∧ c = .tagIdent line ∧ j.command = .ident
        ∧ dataReply 16 reply = .error e)
      ∨ (∃ line reply a n, s.Hears line reply ∧ c = .tagRead line ∧ j.command = .read a n
        ∧ readReply n reply = .error e ∧ e ≠ .refused)
      ∨ (∃ line reply, s.Hears line reply ∧ c = .tagStage line ∧ j.command = .stage
        ∧ charReply [0x5A] reply = .error e)
      ∨ (∃ line reply, s.Hears line reply ∧ c = .tagCommit line ∧ j.command = .commit
        ∧ commitReply reply = .error e)
      ∨ (∃ line, s.port.heard ++ line = [true] ∧ e = .start
        ∧ ((∃ a n, c = .tagRead line ∧ j.command = .read a n) ∨ c = .tagIdent line ∧ j.command = .ident
          ∨ c = .tagStage line ∧ j.command = .stage ∨ c = .tagCommit line ∧ j.command = .commit))
      ∨ c = .tagUnlock true ∧ j.command = .unlock ∧ e = .check
      ∨ c = .noReply ∧ s.port.state = .awaitingReply ∧ j.command ≠ .unlock ∧ j.command ≠ .relock
        ∧ e = .noReply ∧ (∀ a n, j.command = .read a n →
          s.port.heard = [] ∨ sumsToZero ((wholeChars s.port.heard).map charByte) = false)
      ∨ c = .noReply ∧ s.port.state = .awaitingReply ∧ e = .check ∧ s.port.heard ≠ []
        ∧ (∃ a n, j.command = .read a n) ∧ sumsToZero ((wholeChars s.port.heard).map charByte) = true) →
    exec c s = .next { s with port := s.port.failed j e })
    ∧ (∀ (s : State) (j : TagJob) (line : List TagLevel), s.Awaits j →
      (s.port.heard ++ line).head? = some false → (s.port.heard ++ line).length < 10 →
      ∀ c, (c = .tagIdent line ∧ j.command = .ident ∨ c = .tagStage line ∧ j.command = .stage
          ∨ c = .tagCommit line ∧ j.command = .commit
          ∨ c = .tagRead line ∧ ∃ a n, j.command = .read a n) →
        exec c s = .next { s with port := { s.port with
          heard := s.port.heard ++ line, state := .receiving } })
    ∧ (∀ (s : State) (j : TagJob) (line : List TagLevel) (reply : List TagChar), s.Awaits j →
      s.Hears line reply →
      ∀ c, (c = .tagIdent line ∧ j.command = .ident ∧ dataReply 16 reply = .incomplete
          ∨ c = .tagCommit line ∧ j.command = .commit ∧ commitReply reply = .incomplete
          ∨ c = .tagRead line ∧ reply.map charByte ≠ [0xC3]
            ∧ ∃ a n, j.command = .read a n ∧ dataReply n reply = .incomplete) →
        exec c s = .next { s with port := { s.port with heard := lineOf reply, state := .awaitingReply } })
    ∧ (∀ (s : State) (k : TagCommand) (line : List TagLevel), s.Live → s.port.state = .idle →
      s.port.sent ≠ [] → s.port.signature.error = .noReason → s.port.signature.command = some k →
      s.ident.state ≠ .waking → s.ident.state ≠ .readingIdent → line ≠ [] →
      ∀ c, (c = .tagIdent line ∧ k = .ident ∨ c = .tagStage line ∧ k = .stage
          ∨ c = .tagCommit line ∧ k = .commit ∨ c = .tagRead line ∧ ∃ a n, k = .read a n) →
        exec c s = .next { s with port := { s.port with late := true } })
    ∧ (∀ (s : State) (j : TagJob), s.Awaits j → j.command = .relock →
      let ident := { s.ident with
        context := s.ident.context.map fun (c : Inlet) => { c with unlock := .locked } }
      exec (.tagRelock false) s = .next { s with
        port := { s.port.ended j false with state := .idle, job := none }, ident }
      ∧ exec (.tagRelock true) s = .next { s with
        port := { s.port.failed j .check with job := none }, ident })
    ∧ (∀ s : State, s.Live → s.port.state = .settling →
      (∀ j ∈ s.port.job, j.attempts < 3) →
      exec .settlingEnd s = .next { s with port := { s.port with state := .idle } })
    ∧ (∀ (s : State) (j : TagJob), s.Live → s.port.state = .settling → s.port.job = some j →
      3 ≤ j.attempts → j.purpose = .run →
      ∃ t, exec .settlingEnd s = .next t ∧ t.ident.state = .failed .tagLink
        ∧ t.ident.runTimer = none ∧ t.port.state = .idle)
    ∧ ∀ (s : State) (j : TagJob) (c : Inlet), s.Live → s.port.state = .settling →
      s.port.job = some j → 3 ≤ j.attempts → j.purpose = .keepAlive → s.ident.context = some c →
      s.ident.waiting = none →
      ∃ t, exec .settlingEnd s = .next t ∧ t.ident.context = some { c with unlock := .lost }
        ∧ t.ident.state = s.ident.state ∧ t.port.state = .idle ∧ t.port.job = none

/-- The coupler and the timers of identification: CPL rising starts a run (R59), CPL falling discards the context and
ends a run with DISCARDED, a metered activity with COUPLER_LOST, has one that opens ask for its opening frame back,
and in STOPPING and CLOSING is noted alone (R65, R67, R110, R118, R120, R136); the keep-alive (R57), the loss of the
unlock (R53) and the run timer (R65). That the mark of a late character is cleared as a run starts and as the coupler
is lost is log entry 45; that a line which is settling goes on settling, log entry 20. -/
def Obligations.CouplerAndIdentTimers : Prop :=
  (∀ (s : State) (held : Nat), s.Live → s.meter.cells.cpl.passes .cpl true held = true →
    s.link.state ≠ .offline → s.ident.state = .idle →
    let c : Inlet :=
      { mode := .tag, coupler := true, block := none, record := none, unlock := .locked, pairs := 0,
        namedTank := if s.activity.state = .awaitingId then s.activity.namedTank else none,
        result := none, gradePending := false }
    exec (.cplRise held) s = .next { s.passed .cpl true with
      port := s.port.released,
      ident := { state := .waking, context := some c, runTimer := some 5000000, waiting := none,
                 writing := none } })
    ∧ (∀ (s : State) (held : Nat), s.Live → s.meter.cells.cpl.passes .cpl false held = true →
      (s.ident.context = none ∧ s.port.job = none ∨ ∃ c ∈ s.ident.context, c.mode = .keyed) →
      exec (.cplFall held) s = .next (s.passed .cpl false))
    ∧ (∀ (s : State) (held : Nat) (c : Inlet), s.Live →
      s.meter.cells.cpl.passes .cpl false held = true → s.ident.context = some c → c.mode = .tag →
      s.ident.state ∈ [IdState.waking, .readingIdent, .unlocking, .readingRecord, .checking] →
      let x : IdentNotice :=
        { event := .discarded, result := none, mode := .tag, block := c.block,
          fleetData := c.record.map TagRecord.fleetData, signature := none }
      exec (.cplFall held) s = .next
        (State.noticed (.ident x)
          { s.passed .cpl false with ident := Ident.reset, port := s.port.released }))
    ∧ (∀ (s : State) (held : Nat) (c : Inlet) (r : IdResult), s.Live →
      s.meter.cells.cpl.passes .cpl false held = true → s.ident.context = some c → c.mode = .tag →
      s.ident.state = .identified → s.ident.waiting = none → s.activity.result = some r →
      r.mode = .tag → (s.activity.state = .flowing ∨ s.activity.state = .slowing) →
      ∃ t, exec (.cplFall held) s = .next t ∧ s.StopsFor .couplerLost t
        ∧ t.activity.couplerLost = true ∧ t.ident.state = .idle ∧ t.ident.context = none)
    ∧ (∀ (s : State) (held : Nat) (c : Inlet) (r : IdResult), s.Live →
      s.meter.cells.cpl.passes .cpl false held = true → s.ident.context = some c → c.mode = .tag →
      s.ident.state = .identified → s.ident.waiting = none → s.activity.result = some r →
      r.mode = .tag → s.activity.state = .opening →
      ∃ t, exec (.cplFall held) s = .next t ∧ s.PendsFor s.link .couplerLost t
        ∧ t.activity.couplerLost = true ∧ t.ident.state = .idle ∧ t.ident.context = none)
    ∧ (∀ (s : State) (held : Nat) (c : Inlet) (r : IdResult), s.Live →
      s.meter.cells.cpl.passes .cpl false held = true → s.ident.context = some c → c.mode = .tag →
      s.ident.state = .identified → s.ident.waiting = none → s.activity.result = some r →
      r.mode = .tag → (s.activity.state = .stopping ∨ s.activity.state = .closing) →
      exec (.cplFall held) s = .next { s.passed .cpl false with
        ident := Ident.reset, port := s.port.released,
        activity := { s.activity with couplerLost := true } })
    ∧ (∀ (s : State) (c : Inlet), s.Live → s.role = some .dispense → s.ident.state = .identified →
      s.ident.context = some c → c.mode = .tag → c.unlock = .unlocked → s.port.job = none →
      s.port.state = .idle →
      exec .keepAlive s = .next { s with port := s.port.withDue .ident .keepAlive })
    ∧ (∀ (s : State) (c : Inlet), s.Live → s.ident.context = some c → c.unlock = .unlocked →
      s.port.job = none →
      let c' : Inlet := { c with unlock := .lost }
      exec .unlockLost s = .next { s with ident := { s.ident with context := some c' } })
    ∧ ∀ s : State, s.Live → s.ident.runTimer.isSome = true →
      ∃ t, exec .identTimeout s = .next t ∧ t.ident.state = .failed .identTimeout
        ∧ t.ident.runTimer = none ∧ t.ident.context = s.ident.context ∧ t.port.job = none

/-! ## Inputs and meter -/

/-- The filter cells: an input that changes without passing keeps a DELAYED cell counting, or makes a glitch where it
returns inside the threshold; inside the lockout of an IMMEDIATE cell a change is a glitch; the lockout's end, and
what passes at the DHS and ESTOP switches (R82 to R85, R113); what a cell takes at START (R82, R83). What the operands
count samples from is log entry 34; that a command which finds its condition not met leaves the state as it is, log
entry 1; that a cell which takes BYPASS loses its glitch record, log entry 49. -/
def Obligations.FilterCellsFollow : Prop :=
  (∀ (s : State) (n : Cell) (samples : Nat), s.Live →
    let x := s.meter.cells.get n
    let glitched (y : FilterCell) : Host.Outcome State Fault Refusal :=
      if x.glitch then
        let z : FilterCell := { y with glitches := min 255 (x.glitches + 1) }
        .next (s.setCell n z)
      else
        let z : FilterCell := { y with glitch := true, glitches := 1 }
        .next ((s.setCell n z).noticed (.glitch n))
    x.idle = false → x.threshold ≠ 0 → x.glitches ≤ 255 →
    (x.mode = .delayed → x.input = x.output →
      let y : FilterCell := { x with input := !x.input, count := x.count - samples }
      exec (.filterInputChange n samples) s = .next (s.setCell n y))
    ∧ (x.mode = .delayed → x.input ≠ x.output → 0 < x.count + samples →
      x.count + samples < x.threshold * cellUnit n →
      exec (.filterInputChange n samples) s =
        glitched { x with input := x.output, count := x.count + samples })
    ∧ (x.mode = .immediate → x.lockout.isSome = true →
      exec (.filterInputChange n samples) s = glitched { x with input := !x.input })
    ∧ (x.mode = .immediate → x.lockout = none → exec (.filterInputChange n samples) s = .next s))
    ∧ (∀ (s : State) (n : Cell) (time : Nat), s.Live →
      let x := s.meter.cells.get n
      x.lockout.isSome = true → x.input = x.output →
      let y : FilterCell := { x with lockout := none }
      exec (.filterLockoutEnd n time) s = .next (s.setCell n y))
    ∧ (∀ (s : State) (time : Nat), s.Live → s.meter.cells.estop.lockout.isSome = true →
      s.meter.cells.estop.input = false → s.meter.cells.estop.output = true →
      exec (.filterLockoutEnd .estop time) s = .next (s.passed .estop false))
    ∧ (∀ (s : State) (held : Nat), s.Live → s.meter.cells.dhs.passes .dhs true held = true →
      exec (.dhsRise held) s = .next (s.passed .dhs true))
    ∧ (∀ (s : State) (held : Nat), s.Live → s.meter.cells.estop.passes .estop false held = true →
      exec (.estopFall held) s = .next (s.passed .estop false))
    ∧ (∀ (x : FilterCell) (n : Cell) (level : Bool) (held : Nat), x.idle = false → x.output ≠ level →
      (x.passes n level held = true ↔
        x.threshold = 0 ∨ x.mode = .bypass ∨ (x.mode = .immediate ∧ x.lockout = none)
          ∨ (x.mode = .delayed ∧
            x.threshold * cellUnit n ≤ held + (if x.input = level then x.count else 0))))
    ∧ ∀ (x : FilterCell) (f : FilterSetting),
      let y : FilterCell :=
        { x with mode := f.mode, threshold := f.threshold, count := 0, lockout := none, idle := false }
      (f.mode ≠ .bypass → f.threshold ≠ 0 → x.configure f false = y)
        ∧ ((f.mode = .bypass ∨ f.threshold = 0) →
          x.configure f false = { y with glitch := false, glitches := 0 })
        ∧ x.configure f true =
          { y with idle := true, input := false, output := false, glitch := false, glitches := 0 }

/-- A change of the sensor pattern is a forward step, a reverse step or a phase error: what each does to the counts,
the position and the time of the last step, and the recent flow it gives (R88 to R90, R94); what a boundary does to
compensation, flow rate and the retained record (R92, R98, R99, R163), and a step to the unauthorised flow (R93) and to
the timers of the activity: no-flow, full and settle (R116, R118, R136); a phase error is no step and starts none. A
pattern equal to the position changes nothing (R88); while the position is unset the first legal pattern becomes it
(R87). The factor of a temperature is that of the table's points, to the nearest between two of them (R98). That the
flow rate is absent at a forward boundary behind none, after a reverse one too, is log entry 32; what it is where the
time of a boundary is no later than that of the one before, log entry 3; that an illegal pattern while the position is
unset is no phase error, log entry 42. -/
def Obligations.MeterStepsCount : Prop :=
  (∀ (factors : List Nat) (temp : Int),
    let x := compFactor factors temp
    (temp ≤ -200 → x = factors.getD 0 10000) ∧ (600 ≤ temp → x = factors.getD 8 10000)
      ∧ ∀ i : Nat, i < 8 → -200 + 100 * (i : Int) ≤ temp → temp < -100 + 100 * (i : Int) →
        let lo : Int := factors.getD i 10000
        let hi : Int := factors.getD (i + 1) 10000
        let line : Int := 100 * lo + (hi - lo) * (temp + 200 - 100 * i)
        100 * x - line ≤ 50 ∧ line - 100 * x < 50)
  ∧ ∀ (s : State) (time held : Nat) (levels : Pattern) (c : Settings) (q p : Pattern),
    (s.StepsForward time held levels c q p →
      ∃ t, exec (.meterStep time held levels) s = .next t
        ∧ t.meter.acc = clamp47 (s.meter.acc + c.pulse)
        ∧ t.meter.rev = s.meter.rev ∧ t.meter.phaseErrors = s.meter.phaseErrors
        ∧ t.meter.position = some p ∧ t.meter.lastStep = some time
        ∧ t.meter.recentTimer = some 2000000 ∧ s.UnauthStep c true t
        ∧ let gross : Int := clamp47 (s.meter.acc + c.pulse) / 100000
          s.StepTimers c true gross (s.meter.rev / 100000) t
          ∧ (gross ≠ s.meter.acc / 100000 → s.BoundaryTaken c time true gross t)
          ∧ (gross = s.meter.acc / 100000 → s.NoBoundary t))
    ∧ (s.StepsBack time held levels c q p →
      ∃ t, exec (.meterStep time held levels) s = .next t
        ∧ t.meter.acc = clamp47 (s.meter.acc - c.pulse) ∧ t.meter.rev = clamp47 (s.meter.rev + c.pulse)
        ∧ t.meter.phaseErrors = s.meter.phaseErrors ∧ t.meter.position = some p
        ∧ t.meter.lastStep = some time ∧ t.meter.recentTimer = some 2000000 ∧ s.UnauthStep c false t
        ∧ let gross : Int := clamp47 (s.meter.acc - c.pulse) / 100000
          s.StepTimers c false gross (clamp47 (s.meter.rev + c.pulse) / 100000) t
          ∧ (gross ≠ s.meter.acc / 100000 → s.BoundaryTaken c time false gross t)
          ∧ (gross = s.meter.acc / 100000 → s.NoBoundary t))
    ∧ (s.StepsWrong time held levels c q p →
      ∃ t, exec (.meterStep time held levels) s = .next t ∧ t.meter.acc = s.meter.acc
        ∧ t.meter.rev = s.meter.rev ∧ t.meter.lastStep = s.meter.lastStep
        ∧ t.meter.phaseErrors =
          (if s.meter.phaseErrors < 65535 then s.meter.phaseErrors + 1 else s.meter.phaseErrors)
        ∧ t.meter.position = some
          (if forwardOf c.sensors q = some p ∨ forwardOf c.sensors p = some q
              ∨ legal c.sensors p = true then p else q)
        ∧ t.meter.recentTimer = some 2000000 ∧ s.NoBoundary t
        ∧ ((s.activity.state.flows = true → s.meter.rev / 100000 ≤ 10 ∧ s.meter.phaseErrors < 8) →
          t.activity = s.activity))
    ∧ ∀ cells, s.Live → s.meter.running = true → s.settings = some c →
      s.meter.cells.passPattern levels held = some cells → seenPattern c.sensors cells.pattern = p →
      (s.meter.position = some p → exec (.meterStep time held levels) s = .next { s with
        meter := { s.meter with cells := cells, recentTimer := some 2000000 } })
      ∧ (s.meter.position = none → exec (.meterStep time held levels) s = .next { s with
        meter := { s.meter with
          cells := cells, recentTimer := some 2000000,
          position := if c.sensors = .three ∧ p.a = p.b ∧ p.b = p.c then none else some p } })

/-- Volumes that pass a limit end a metered activity: the stop point with PRESET, at a delivery with LIMIT (R114, R137),
reverse flow above 10 dL, a ninth phase error (R117); the slow-down point closes VMAIN (R113, R114), and a progress
point, also where the stop point is crossed with it, offers PROGRESS and moves on by its step (R114, R115, R132). In
STOPPING a boundary above the overrun limit ends it with OVERRUN and the fault-pending mark, and the closing frame is
offered (R119, R138). A frame offered while a PROGRESS of the activity waits replaces it, and behind one on the wire it
is refused and kept (R14, R15, R115). At a station out of service, or one that has lost the link since, the record is
HELD and the state FAULTED(VALVE), and where it is admitted again recovery runs at once (R165, R167). That REVERSE_FLOW
and METER_FAULT act alike with METER_STEP is log entry 10. -/
def Obligations.MeterLimitsStopTheFill : Prop :=
  (∀ (s : State) (time held : Nat) (levels : Pattern) (c : Settings) (q p : Pattern) (x : ComparePoints),
    s.StepsForward time held levels c q p → c.role ≠ .office →
    (s.activity.state = .flowing ∨ s.activity.state = .slowing) → s.activity.points = some x →
    let gross := clamp47 (s.meter.acc + c.pulse) / 100000
    gross ≠ s.meter.acc / 100000 →
    (x.stop ≤ gross →
      ∃ t, exec (.meterStep time held levels) s = .next t
        ∧ s.StopsFor (if c.role = .receipt then .limit else .preset) t)
    ∧ (x.progress ≤ gross →
      let step : Nat := if c.role = .receipt then 10000 else c.progressStep
      let x' : ComparePoints := { x with progress := x.progress + step }
      ∃ t, exec (.meterStep time held levels) s = .next t ∧ t.activity.points = some x'
        ∧ s.ActivityOffers (.progress (s.activity.openSeq.getD 0) gross.toNat) t)
    ∧ (s.activity.state = .flowing → x.slowDown ≤ gross → gross < x.stop →
      s.meter.rev / 100000 ≤ 10 → s.meter.phaseErrors ≤ 8 →
      ∃ t, exec (.meterStep time held levels) s = .next t ∧ t.activity.state = .slowing
        ∧ t.outputs = { s.outputs with vmain := false }))
    ∧ (∀ (s : State) (time held : Nat) (levels : Pattern) (c : Settings) (q p : Pattern) (x : ComparePoints),
      s.StepsForward time held levels c q p → s.activity.state = .stopping → s.activity.points = some x →
      let gross := clamp47 (s.meter.acc + c.pulse) / 100000
      let comp : Option Int := if s.meter.uncompensated || s.meter.tmp.reading.isNone then none
        else some ((s.meter.comp + boundaryWeight c s.meter + 5000) / 10000)
      gross ≠ s.meter.acc / 100000 → x.overrun < gross →
      let k : Closing :=
        { openSeq := s.activity.openSeq.getD 0
          gross := max 0 gross
          comp := comp.map Int.toNat
          endReason := .overrun
          overrun := max 0 (gross - s.activity.stopVolume.getD 0)
          hours := s.activity.result.bind IdResult.hours
          endTime := s.clock }
      ∃ t, exec (.meterStep time held levels) s = .next t ∧ t.activity.endReason = some .overrun
        ∧ t.meter.activityOpen = false ∧ t.activity.settle = none ∧ t.activity.limit = none
        ∧ (s.console.notices.length < 8 → ∃ n ∈ t.console.notices, n.body = .fault .valve)
        ∧ (s.activity.linkLost = false → s.engine.admitted = true →
          t.activity.state = .closing ∧ t.activity.faultPending = true ∧ t.supply.phase = .ending
            ∧ s.ActivityOffers (if c.role = .receipt then .deliveryClose k else .close k) t
            ∧ t.supply.record.bind ActRecord.endReason = s.supply.record.map fun _ => .overrun)
        ∧ (s.activity.linkLost = true ∨ s.engine.admitted = false →
          t.activity.state = .faulted ∧ t.activity.linkLost = false
          ∧ (s.engine.admitted = false ∨ s.engine.freeze = true ∨ s.supply.waitCensus = true →
            t.link = s.link ∧ t.supply.phase = .held
              ∧ t.supply.record.bind ActRecord.endReason = s.supply.record.map fun _ => .overrun)
          ∧ ∀ r e, s.engine.admitted = true → s.engine.freeze = false → s.supply.waitCensus = false →
            s.supply.record = some r → s.supply.phase = .running →
            s.replica.station? s.me = some e →
            s.Recovers { r with gross, comp, endReason := some .overrun } e t (room := 6)))
    ∧ (∀ (s : State) (time held : Nat) (levels : Pattern) (c : Settings) (q p : Pattern),
      s.StepsBack time held levels c q p →
      (s.activity.state = .flowing ∨ s.activity.state = .slowing) →
      s.meter.rev / 100000 ≤ 10 → 10 < clamp47 (s.meter.rev + c.pulse) / 100000 →
      ∀ i ∈ [Instr.reverseFlow time held levels, .meterStep time held levels],
        ∃ t, exec i s = .next t ∧ s.StopsFor .reverseFlow t)
    ∧ ∀ (s : State) (time held : Nat) (levels : Pattern) (c : Settings) (q p : Pattern),
      s.StepsWrong time held levels c q p →
      (s.activity.state = .flowing ∨ s.activity.state = .slowing) →
      s.meter.rev / 100000 ≤ 10 → s.meter.phaseErrors = 8 →
      ∀ i ∈ [Instr.meterFault time held levels, .meterStep time held levels],
        ∃ t, exec i s = .next t ∧ s.StopsFor .meterFault t

/-- The duty-cycle inputs: the edges and the reading that a whole period gives, the temperature at TMP (R96) and the
level at GAU (R97); 250 ms without an edge make it absent (R95); in SAMPLING a GAU reading is added to those of the
gauge unit, the sixteenth brings GAUGE, or ends the run where they spread by more than 10 mm, as an absent one does
(R145). Timers and the clock: the end of an episode of unauthorised flow
(R93), of a flow rate (R92), of recent flow (R94) and of the ATTN release (R186); the local clock advances by one each
second once set, from 2^32 − 1 to 0 (R158). What a reading is where the times of its edges do not rise is log entry 3. -/
def Obligations.DutyInputsAndTimers : Prop :=
  ((∀ (s : State) (time rise fall : Nat), s.Live → s.meter.tmp.running = true →
     s.meter.tmp.lastRise = some rise → s.meter.tmp.lastFall = some fall →
     let duty := (fall - rise) * 10000 / (time - rise)
     let d : DutyState :=
       { s.meter.tmp with
         lastRise := some time, lastFall := none, waitTimer := some 250000,
         reading := if 1000 ≤ duty ∧ duty ≤ 9000 then
             some ((((duty - 1000) * 5 / 32 : Nat) : Int) - 400) else none }
     exec (.dutyMeasurement .tmp time) s = .next { s with meter := { s.meter with tmp := d } })
     ∧ (∀ (s : State) (time rise fall : Nat) (c : Settings), s.Live → s.meter.gau.running = true →
       s.meter.gau.lastRise = some rise → s.meter.gau.lastFall = some fall → s.settings = some c →
       let level := (fall - rise) * c.gaugeFactor.getD 0 / 1000
       let d : DutyState :=
         { s.meter.gau with
           lastRise := some time, lastFall := none, waitTimer := some 250000,
           reading := if level ≤ 20000 then some (level : Int) else none }
       (s.gauge.state ≠ .sampling → exec (.dutyMeasurement .gau time) s =
         .next { s with meter := { s.meter with gau := d } })
       ∧ (s.gauge.state = .sampling → level ≤ 20000 → s.gauge.readings.length < 15 →
         exec (.dutyMeasurement .gau time) s = .next { s with
           meter := { s.meter with gau := d },
           gauge := { s.gauge with readings := s.gauge.readings ++ [level] } })
       ∧ (s.gauge.state = .sampling → 20000 < level →
         exec (.dutyMeasurement .gau time) s = .next (State.noticed (.gaugeUnstable .noReading)
           { s with meter := { s.meter with gau := d },
                    gauge := { GaugeUnit.reset with periodTimer := s.gauge.periodTimer } }))
       ∧ (s.gauge.state = .sampling → level ≤ 20000 → s.gauge.readings.length = 15 →
         let all := s.gauge.readings ++ [level]
         ((∃ a ∈ all, ∃ b ∈ all, b + 10 < a) →
           exec (.dutyMeasurement .gau time) s = .next (State.noticed (.gaugeUnstable .spread)
             { s with meter := { s.meter with gau := d },
                      gauge := { GaugeUnit.reset with periodTimer := s.gauge.periodTimer } }))
         ∧ ((∀ a ∈ all, ∀ b ∈ all, a ≤ b + 10) → s.link.queued .gauge = none →
           let g : Gauging :=
             { tank := s.gaugeTank.getD 0, level := all.sum / 16,
               volume := strapVolume (c.strapping.getD []) (all.sum / 16),
               temperature := s.meter.tmp.reading, census := s.gauge.censusSeq.getD 0 }
           exec (.dutyMeasurement .gau time) s = .next { s with
             meter := { s.meter with gau := d },
             gauge := { s.gauge with state := .sending, readings := all, sent := some g },
             link := s.withOffer .gauge (.gauge g) })))
     ∧ (∀ (s : State) (n : DutyCell) (time : Nat), s.Live → (s.meter.duty n).running = true →
       let d := s.meter.duty n
       (d.lastRise = none ∨ d.lastFall = none →
         exec (.dutyMeasurement n time) s = .next (s.setDuty n
           { d with lastRise := some time, lastFall := none, waitTimer := some 250000 }))
       ∧ exec (.dutyCycleFallingEdge n time) s = .next (s.setDuty n
           { d with lastFall := if d.lastRise.isSome then some time else none, waitTimer := some 250000 }))
     ∧ ∀ (s : State) (n : DutyCell), s.Live → (s.meter.duty n).waitTimer.isSome = true →
       (n = .tmp ∨ s.gauge.state ≠ .sampling →
         exec (.dutyCycleTimeout n) s = .next (s.setDuty n { s.meter.duty n with
           lastRise := none, lastFall := none, reading := none, waitTimer := none }))
       ∧ (n = .gau → s.gauge.state = .sampling →
         ∃ t, exec (.dutyCycleTimeout n) s = .next t ∧ t.gauge.state = .idle
           ∧ t.meter.gau.reading = none))
    ∧ ((∀ s : State, s.Live → s.meter.episodeTimer.isSome = true →
       exec .unauthFlowTimeout s = .next { s with meter := { s.meter with
         unauthVolume := 0, episode := false, episodeNoticed := false, episodeTimer := none } })
       ∧ (∀ s : State, s.Live → s.meter.flowTimer.isSome = true →
         exec .flowRateTimeout s = .next { s with meter := { s.meter with
           flowRate := some 0, lastBoundary := none, flowTimer := none } })
       ∧ (∀ s : State, s.Live →
         exec .recentFlowEnd s = .next { s with meter := { s.meter with recentTimer := none } })
       ∧ (∀ s : State, s.Live →
         exec .attnReleaseEnd s = .next { s with console := { s.console with releasing := false } })
       ∧ (∀ (s : State) (n : Nat), s.Live → s.clock = some n →
         (n + 1 < 2 ^ 32 → exec .clockTick s = .next { s with clock := some (n + 1) })
         ∧ (n + 1 = 2 ^ 32 → exec .clockTick s = .next { s with clock := some 0 }))
       ∧ ∀ s : State, s.Live → s.clock = none → exec .clockTick s = .next s)

/-! ## The activity -/

/-- Lifting the nozzle: AWAITING_ID without a result; with one REFUSED at a station not admitted or with a record to
recover, else OPENING with an OPEN of the requested volume (R102, R103, R105; that NOT_IN_SERVICE comes before
RECOVERY_PENDING is log entry 43). Hanging it in AWAITING_ID leads back to IDLE, the preset kept (R104); in OPENING it
asks for the OPEN back (R110); it ends REFUSED (R112), and WRITEBACK where the write-back has ended (R123). Lifting it
in any state but IDLE, and hanging it in IDLE, STOPPING, CLOSING and FAULTED(VALVE), is noted by the NOZ level alone
(R102, R118 to R120). -/
def Obligations.NozzleBeginsTheFill : Prop :=
  (∀ (s : State) (held : Nat), s.Live → s.meter.cells.noz.passes .noz true held = true →
    s.role = some .dispense → s.activity.state = .idle →
    ((∀ c ∈ s.ident.context, s.ident.state = .identified →
        c.gradePending = true ∨ c.result = none) →
      ∃ t, exec (.nozRise held) s = .next t ∧ t.activity = { s.activity with state := .awaitingId }
        ∧ t.link = s.link ∧ t.ident = s.ident)
    ∧ ∀ (c : Inlet) (r : IdResult), s.ident.state = .identified → s.ident.context = some c →
      c.gradePending = false → c.result = some r →
      (s.engine.admitted = false →
        ∃ t, exec (.nozRise held) s = .next t ∧ t.activity.state = .refused .notInService
          ∧ t.ident.state = .idle ∧ t.link = s.link)
      ∧ (s.engine.admitted = true → s.supply.record.isSome = true →
        ∃ t, exec (.nozRise held) s = .next t ∧ t.activity.state = .refused .recoveryPending
          ∧ t.ident.state = .idle ∧ t.link = s.link)
      ∧ (s.engine.admitted = true → s.supply.record = none →
        ∃ t, exec (.nozRise held) s = .next t ∧ s.AsksForFill r t ∧ t.ident = s.ident))
    ∧ (∀ (s : State) (held : Nat), s.Live → s.meter.cells.noz.passes .noz true held = true →
      s.role = some .dispense → s.activity.state ≠ .idle →
      exec (.nozRise held) s = .next (s.passed .noz true))
    ∧ ∀ (s : State) (held : Nat), s.Live → s.meter.cells.noz.passes .noz false held = true →
      s.role = some .dispense →
      (s.activity.state ∈ [ActState.idle, .stopping, .closing, .faulted] →
        exec (.nozFall held) s = .next (s.passed .noz false))
      ∧ (s.activity.state = .awaitingId →
        ∃ t, exec (.nozFall held) s = .next t ∧ t.activity.state = .idle
          ∧ t.activity.preset = s.activity.preset ∧ t.activity.result = none ∧ t.ident = s.ident)
      ∧ (s.activity.state = .opening →
        ∃ t, exec (.nozFall held) s = .next t ∧ s.PendsFor s.link .hung t ∧ t.ident = s.ident)
      ∧ (∀ x, s.activity.state = .refused x →
        ∃ t, exec (.nozFall held) s = .next t ∧ t.activity.state = .idle ∧ t.activity.preset = none
          ∧ t.activity.result = none ∧ t.link = s.link ∧ t.ident = s.ident)
      ∧ (s.activity.state = .writeback → s.activity.writeBackDone = false →
        exec (.nozFall held) s = .next (s.passed .noz false))
      ∧ (s.activity.state = .writeback → s.activity.writeBackDone = true →
        ∃ t, exec (.nozFall held) s = .next t ∧ t.link = s.link ∧ t.activity.faultPending = false
          ∧ t.activity.state = if s.activity.faultPending then .faulted else .idle)

/-- What ends a metered activity: the nozzle hung (R117), the delivery hose released (R137), 20 s without flow and, at
a fill, 5 s of stillness after flow (R116). The end of STOPPING, by the settle timer or the stopping limit: CLOSE or
DELIVERY-CLOSE with the volumes as they stand, the record ENDING, the state CLOSING (R118, R120, R138); a PROGRESS that
waits gives its place to the closing frame, which is kept behind one on the wire (R14, R15, R115). At a station that has
lost the link there is no frame and the record is HELD (R165); one that is admitted again by then recovers it at once
(R167). The delivery hose released in OPENING asks for the DELIVERY-OPEN back; it ends AWAITING_ID and REFUSED, the
inlet context discarded (R134, R136); in IDLE, STOPPING, CLOSING and FAULTED(VALVE) it changes the DHS level alone
(R118, R138). -/
def Obligations.FlowEndsInClosing : Prop :=
  (∀ (s : State), s.Live → (s.activity.state = .flowing ∨ s.activity.state = .slowing) →
     (∀ held, s.role = some .dispense → s.meter.cells.noz.passes .noz false held = true →
       ∃ t, exec (.nozFall held) s = .next t ∧ s.StopsFor .hung t)
     ∧ (∀ held, s.role = some .receipt → s.meter.cells.dhs.passes .dhs false held = true →
       ∃ t, exec (.dhsFall held) s = .next t ∧ s.StopsFor .hoseReleased t)
     ∧ (s.activity.noFlow.isSome = true →
       ∃ t, exec .noFlowTimeout s = .next t ∧ s.StopsFor .noFlow t)
     ∧ (s.activity.full.isSome = true →
       ∃ t, exec .fullTimeout s = .next t ∧ s.StopsFor .full t))
    ∧ (∀ (s : State) (held : Nat), s.Live → s.role = some .receipt →
       s.meter.cells.dhs.passes .dhs false held = true →
       (s.activity.state ∈ [ActState.idle, .stopping, .closing, .faulted] →
         exec (.dhsFall held) s = .next (s.passed .dhs false))
       ∧ (s.activity.state = .opening →
         ∃ t, exec (.dhsFall held) s = .next t ∧ s.PendsFor s.link .hoseReleased t
           ∧ (t.activity.state = .idle → t.ident.context = none))
       ∧ ∀ x, (s.activity.state = .awaitingId ∨ s.activity.state = .refused x) →
         ∃ t, exec (.dhsFall held) s = .next t ∧ t.activity.state = .idle ∧ t.activity.namedTank = none
           ∧ t.activity.lastTank = s.activity.lastTank ∧ t.ident.context = none ∧ t.link = s.link)
    ∧ (∀ (s : State) (i : Instr), s.Live → s.activity.state = .stopping →
       (s.role = some .dispense ∨ s.role = some .receipt) →
       (i = .settleTimeout ∧ s.activity.settle.isSome = true
         ∨ i = .stoppingLimit ∧ s.activity.limit.isSome = true) →
       let gross := s.meter.acc / 100000
       let c : Closing :=
         { openSeq := s.activity.openSeq.getD 0
           gross := max 0 gross
           comp := if s.meter.uncompensated then none else some ((s.meter.comp + 5000) / 10000).toNat
           endReason := s.activity.endReason.getD .noReason
           overrun := max 0 (gross - s.activity.stopVolume.getD 0)
           hours := s.activity.result.bind IdResult.hours
           endTime := s.clock }
       (s.activity.linkLost = false → s.engine.admitted = true →
         ∃ t, exec i s = .next t ∧ t.activity.state = .closing
           ∧ s.ActivityOffers (if s.role = some .receipt then .deliveryClose c else .close c) t
           ∧ t.supply.phase = .ending
           ∧ t.supply.record = s.supply.record ∧ t.meter.activityOpen = false
           ∧ t.activity.settle = none ∧ t.activity.limit = none)
       ∧ (s.activity.linkLost = true ∨ s.engine.admitted = false →
         ∃ t, exec i s = .next t ∧ t.meter.activityOpen = false ∧ t.activity.linkLost = false
           ∧ t.activity.state = (if s.activity.faultPending = true then .faulted
             else if s.role = some .dispense ∧ s.meter.cells.noz.output = true then .writeback else .idle)
           ∧ (s.engine.admitted = false ∨ s.engine.freeze = true ∨ s.supply.waitCensus = true →
             t.link = s.link ∧ t.supply.phase = .held ∧ t.supply.record = s.supply.record)
           ∧ ∀ r e, s.engine.admitted = true → s.engine.freeze = false → s.supply.waitCensus = false →
             s.supply.record = some r → s.replica.station? s.me = some e →
             s.Recovers r e t (room := 8)))

/-- The stop path: the ESTOP input and the console's ESTOP make the stop wanted and offer STOP with its reason, the
outputs off by the input at once (R113, R171), in whatever link state the input rises; a RESUME that is queued and not
on the wire is withdrawn for it, and behind one on the wire the STOP waits (R171). The console's RESUME is answered in
the order of R173. That a RESUME which the path keeps is dropped, and that the first setter's reason stands, is log
entry 18. -/
def Obligations.StopPathOffersStop : Prop :=
  (∀ (s : State) (held : Nat), s.Live → s.meter.cells.estop.passes .estop true held = true →
    s.link.state = .inService → s.link.queued .stopPath = none → s.stop.wanted = false →
    ∃ t, exec (.estopRise held) s = .next t ∧ t.stop = { wanted := true, byConsole := false }
      ∧ t.link.tx = s.link.tx ++ [s.newEntry .stopPath (.stop (Reason.code .estopInput))]
      ∧ t.pump = false ∧ t.vmain = false ∧ t.vtrim = false ∧ t.replica = s.replica)
    ∧ (∀ (s : State) (held : Nat), s.Live → s.meter.cells.estop.passes .estop true held = true →
      ∃ t, exec (.estopRise held) s = .next t ∧ s.WantsStop false t ∧ t.replica = s.replica
        ∧ t.activity = s.activity ∧ t.pump = false ∧ t.vmain = false ∧ t.vtrim = false
        ∧ (t.link.tx.filter fun y => decide (y.origin ≠ .stopPath))
          = s.link.tx.filter fun y => decide (y.origin ≠ .stopPath))
    ∧ (∀ s : State, s.PortFree → s.link.state = .inService →
      ∃ t, exec (.estop []) s = .next t ∧ s.WantsStop true t ∧ t.replica = s.replica
        ∧ t.activity = s.activity
        ∧ (t.link.tx.filter fun y => decide (y.origin ≠ .stopPath))
          = (s.link.tx.filter fun y => decide (y.origin ≠ .stopPath))
        ∧ t.console.replies = [{ bytes := [0x80, 0x00, 0x00], toNotice := false }])
    ∧ (∀ s : State, s.PortFree → s.link.state = .inService → s.link.queued .stopPath = none →
      s.stop.wanted = false →
      ∃ t, exec (.estop []) s = .next t ∧ t.stop = { wanted := true, byConsole := true }
        ∧ t.link.tx = s.link.tx ++ [s.newEntry .stopPath (.stop (Reason.code .estopConsole))]
        ∧ t.replica = s.replica
        ∧ t.console.replies = [{ bytes := [0x80, 0x00, 0x00], toNotice := false }])
    ∧ (∀ s : State, s.PortFree → s.link.state ≠ .inService →
      exec (.estop []) s = .next (s.answered 0x0B [] (refusedReply .notInService) false))
    ∧ ∀ s : State, s.PortFree → s.link.queued .stopPath = none →
      let answer (t : State) (bytes : List Byte) := t.answered 0x0C [] bytes false
      exec (.consoleResume []) s = .next
        (if s.link.state ≠ .inService then answer s (refusedReply .notInService)
        else if s.meter.cells.estop.output = true then answer s (refusedReply .estopAsserted)
        else
          match s.replica.site.stop with
          | none => answer s [0x83, 0x00, 0x00]
          | some x =>
            if x.origin = s.me then
              answer { s with link := s.withOffer .stopPath .resume } [0x80, 0x00, 0x00]
            else answer s (refusedReply .notOrigin))

/-! ## Gauge unit, service responder, supply and reset -/

/-- A gauge run begins with a FLOW census, on the period timer or on GAUGE-NOW, where a level is read and the tank is
known; what refuses GAUGE-NOW (R143). The result of the own census leads to SAMPLING, or ends the run with FLOW (R144),
that of the own GAUGE ends it with GAUGE_RESULT (R146), a frame of the unit that leaves UNDELIVERED with LINK (R144,
R146); the volume of a level is that of the strapping table, between two points in proportion (R145). The service
responder: a READ is answered with the first DATA of its table, in the order of the keys, two entries at a time; of an
unknown table, or a count outside 1 to 64, with an empty one; while another stream runs or the station is frozen, with
BUSY, which waits, or is dropped, where a frame of the responder is queued (R152, R153). A DATA that was TAKEN brings
the next, the last one, or one NOT_TAKEN or UNDELIVERED, ends the stream; a waiting BUSY goes before the next DATA
(R152, R154). With a frame gone from the queue, the frame that its block keeps is offered (R14). That SAMPLING is entered whatever the GAU reading is log entry 44; that a READ taken while a BUSY is
queued waits for it with its first DATA, log entry 38. -/
def Obligations.GaugeRunsAndServiceReads : Prop :=
  ((∀ (s : State) (n : Nat), s.Live → s.gauge.periodTimer.isSome = true → s.gaugeTank = some n →
     let g : GaugeUnit := { s.gauge with periodTimer := some 600000000 }
     let g0 : GaugeUnit := { GaugeUnit.reset with periodTimer := some 600000000 }
     (s.gauge.state ≠ .idle → exec .gaugePeriod s = .next { s with gauge := g })
     ∧ (s.gauge.state = .idle → s.meter.gau.reading = none →
       exec .gaugePeriod s = .next ({ s with gauge := g0 }.noticed (.gaugeUnstable .noReading)))
     ∧ (s.gauge.state = .idle → s.meter.gau.reading.isSome = true → s.replica.tank? n = none →
       exec .gaugePeriod s = .next ({ s with gauge := g0 }.noticed (.gaugeUnstable .noTank)))
     ∧ (s.gauge.state = .idle → s.meter.gau.reading.isSome = true →
       (s.replica.tank? n).isSome = true → s.link.queued .gauge = none →
       exec .gaugePeriod s = .next { s with
         gauge := { g with state := .calling },
         link := s.withOffer .gauge (.census .flow n s.clock) }))
     ∧ ∀ s : State, s.PortFree →
       let answer (t : State) (bytes : List Byte) := t.answered 0x0E [] bytes false
       (s.gaugeTank = none → exec (.gaugeNow []) s = .next (answer s (refusedReply .noGauge)))
       ∧ ∀ n, s.gaugeTank = some n →
         (s.engine.admitted = false →
           exec (.gaugeNow []) s = .next (answer s (refusedReply .notInService)))
         ∧ (s.engine.admitted = true → s.gauge.state ≠ .idle →
           exec (.gaugeNow []) s = .next (answer s (refusedReply .busy)))
         ∧ (s.engine.admitted = true → s.gauge.state = .idle → s.meter.gau.reading.isSome = true →
           (s.replica.tank? n).isSome = true → s.link.queued .gauge = none →
           let t : State := { s with
             gauge := { s.gauge with state := .calling }, link := s.withOffer .gauge (.census .flow n s.clock) }
           exec (.gaugeNow []) s = .next (answer t [0x80, 0x00, 0x00]))
         ∧ (s.engine.admitted = true → s.gauge.state = .idle →
           (s.meter.gau.reading = none ∨ s.replica.tank? n = none) →
           let cause : Reason := if s.meter.gau.reading = none then .noReading else .noTank
           let t : State := State.noticed (.gaugeUnstable cause)
             { s with gauge := { GaugeUnit.reset with periodTimer := s.gauge.periodTimer } }
           exec (.gaugeNow []) s = .next (answer t [0x80, 0x00, 0x00])))
    ∧ ((∀ (s : State) (w : Writing), s.Live → s.engine.writing = some w → w.limit = false →
       w.frame.sender = s.me → s.link.state = .inService → w.replica.inService s.me = true →
       let idle : GaugeUnit := { GaugeUnit.reset with periodTimer := s.gauge.periodTimer }
       let tells (t : State) (b : NoticeBody) : Prop :=
         s.console.notices.length < 8 → ∃ n ∈ t.console.notices, n.body = b
       (∀ n time quiet seq, w.frame.payload = .census .flow n time → w.result = .census quiet seq →
         s.gauge.state = .calling →
         ∃ t, exec .retainedWriteComplete s = .next t ∧ t.replica = w.replica
           ∧ (quiet = true → t.gauge =
             { s.gauge with state := .sampling, censusSeq := some seq, readings := [] })
           ∧ (quiet = false → t.gauge = idle ∧ tells t (.gaugeUnstable .flow)))
       ∧ ∀ g, w.frame.payload = .gauge g → s.gauge.state = .sending →
         ∃ t, exec .retainedWriteComplete s = .next t ∧ t.replica = w.replica ∧ t.gauge = idle
           ∧ (∀ recorded reconciled variance suspect,
             w.result = .gauge recorded reconciled variance suspect →
             tells t (.gaugeResult g recorded reconciled variance suspect))
           ∧ (w.result = .noChange →
             tells t (.gaugeResult g false false none (foundAnd TankEntry.suspect (w.replica.tank? g.tank)))))
       ∧ (∀ (s : State) (x : Slots) (w : OnWire) (e : TxEntry), s.Sends w e → w.origin = .gauge →
         x.void = true → e.voids = 15 → (s.gauge.state = .calling ∨ s.gauge.state = .sending) →
         ∃ t, exec (.undelivered x) s = .next t ∧ t.replica = s.replica
           ∧ t.link = { s.link.afterLeaving .gauge with voidHold := true }
           ∧ t.gauge = { GaugeUnit.reset with periodTimer := s.gauge.periodTimer }
           ∧ (s.console.notices.length < 8 → ∃ n ∈ t.console.notices, n.body = .gaugeUnstable .link))
       ∧ ∀ (before after : List (Nat × Nat)) (l0 v0 l1 v1 level : Nat),
         ((before ++ (l0, v0) :: (l1, v1) :: after).map Prod.fst).Pairwise (· < ·) →
         let points := before ++ (l0, v0) :: (l1, v1) :: after
         (l0 ≤ level → level < l1 →
           strapVolume points level = v0 + (v1 - v0) * (level - l0) / (l1 - l0))
         ∧ (before = [] → level ≤ l0 → strapVolume points level = v0)
         ∧ (after = [] → l1 ≤ level → strapVolume points level = v1))
    ∧ (∀ (s : State) (f : Frame) (rest : List Frame) (table start count : Nat), s.Live →
       s.link.state = .inService → s.link.inbound = f :: rest → f.payload = .read table start count →
       s.link.queued .responder = none →
       (s.engine.freeze = false → s.responder = { context := none, waitingBusy := none } →
         ∃ t e, exec .serviceRead s = .next t ∧ t.link.inbound = rest ∧ t.replica = s.replica
           ∧ t.link.queued .responder = some e ∧ e.dest = f.sender
           ∧ (∀ k, ofCode tableCodes (BitVec.ofNat 8 table) = some k → table < 256 → 1 ≤ count →
             count ≤ 64 →
             let es := (s.replica.entriesFrom k start).take (min 2 count)
             e.payload = .data table s.replica.site.seq es
               (decide (count ≤ es.length) || ((s.replica.entriesFrom k start).drop es.length).isEmpty))
           ∧ ((ofCode tableCodes (BitVec.ofNat 8 table) = none ∨ count = 0 ∨ 64 < count) →
             e.payload = .data table s.replica.site.seq [] true))
       ∧ ((s.engine.freeze = true ∨ s.responder.context.isSome = true) →
         ∃ t e, exec .serviceRead s = .next t ∧ t.link.inbound = rest ∧ t.replica = s.replica
           ∧ t.responder = s.responder ∧ t.link.queued .responder = some e ∧ e.dest = f.sender
           ∧ e.payload = .busy))
    ∧ (∀ (s : State) (f : Frame) (rest : List Frame) (table start count : Nat) (e : TxEntry), s.Live →
       s.link.state = .inService → s.link.inbound = f :: rest → f.payload = .read table start count →
       s.link.queued .responder = some e →
       let l : Link := { s.link with inbound := rest }
       let known : Prop := (ofCode tableCodes (BitVec.ofNat 8 table)).isSome = true ∧ table < 256
       let c : ServiceContext :=
         { requester := f.sender, table, position := start,
           remaining := if known ∧ 1 ≤ count ∧ count ≤ 64 then count else 0,
           lastBuilt := false, paused := false }
       ((s.engine.freeze = true ∨ s.responder.context.isSome = true) →
         exec .serviceRead s = .next { s with link := l, responder :=
           if s.responder.waitingBusy = none then
             { s.responder with waitingBusy := some f.sender }
           else s.responder })
       ∧ (s.engine.freeze = false → s.responder.context = none →
         exec .serviceRead s = .next { s with link := l, responder :=
           { s.responder with context := some c } }))
    ∧ (∀ (s : State) (rx : List Bit) (x : Slots) (w : OnWire) (e : TxEntry), s.Sends w e →
       w.frame.payload.category = .service → w.origin = .responder → x.void = false →
       let goesOn : Bool :=
         match e.payload with
         | .data _ _ _ endFlag => x.accept && !endFlag
         | _ => true
       let ctx : Option ServiceContext := if goesOn then s.responder.context else none
       (∀ n, s.responder.waitingBusy = some n →
         let b : TxEntry :=
           { origin := .responder, dest := n, payload := .busy, voids := 0, entered := s.link.entered }
         exec (.serviceWindow rx x) s = .next { s with
           link := { s.link with
             wire := none, entered := s.link.entered + 1,
             tx := (s.link.tx.filter fun y => decide (y.origin ≠ .responder)) ++ [b] },
           responder := { context := ctx, waitingBusy := none } })
       ∧ (s.responder.waitingBusy = none →
         (∀ c, ctx = some c → c.lastBuilt = true ∨ s.engine.freeze = true ∨ c.paused = true) →
         exec (.serviceWindow rx x) s = .next { s with
           link := s.link.afterLeaving .responder, responder := { context := ctx, waitingBusy := none } })
       ∧ ∀ c, s.responder.waitingBusy = none → ctx = some c → c.lastBuilt = false →
         s.engine.freeze = false → c.paused = false →
         ∃ t, exec (.serviceWindow rx x) s = .next t ∧ t.replica = s.replica ∧ s.BuildsData c t)
    ∧ ∀ (s : State) (x : Slots) (w : OnWire) (e : TxEntry) (table seq : Nat) (es : List Entry)
       (endFlag : Bool), s.Sends w e → w.origin = .responder →
       e.payload = .data table seq es endFlag → x.void = true → e.voids = 15 →
       s.responder.waitingBusy = none →
       exec (.undelivered x) s = .next { s with
         link := { s.link.afterLeaving .responder with voidHold := true },
         responder := { context := none, waitingBusy := none } }

/-- The supply drop: POWER_DOWN, the outputs off, the running record with its final values, a retained write in
progress completed or not (R164; which of the two is open, log entry 4). RSTN, and a RESET at the rise of SEL, put
every block at its reset value and keep the tables and the record (R181). That a supply which is down at the first
sample after a reset is a supply drop is log entry 29; that the mark of the sequence limit and the counter of free
values are kept over a reset, log entry 27. -/
def Obligations.SupplyDropAndReset : Prop :=
  (∀ (s : State) (held : Nat), s.Live → s.meter.cells.svm.passes .svm true held = true →
    ∃ t, exec (.supplyDrop held) s = .next t ∧ t.supply.state = .powerDown
      ∧ t.pump = false ∧ t.vmain = false ∧ t.vtrim = false ∧ t.engine.writing = none
      ∧ (s.engine.writing = none → t.replica = s.replica)
      ∧ (∀ w, s.engine.writing = some w → t.replica = w.replica ∨ t.replica = s.replica)
      ∧ t.supply.record =
        if s.supply.phase = .running then s.supply.record.map fun r =>
          { r with
            gross := s.meter.acc / 100000
            comp := if s.meter.uncompensated then none else some ((s.meter.comp + 5000) / 10000)
            endReason := some (r.endReason.getD .powerLoss) }
        else s.supply.record)
    ∧ (∀ (s : State) (inputs : BitVec 8), inputs.getLsbD 6 = false →
      ∃ replica reached free, exec (.powerOnReset inputs) s = .next
        (State.resetWith inputs replica s.wiped reached s.supply.record free s.pending)
        ∧ (s.engine.writing = none → replica = s.replica ∧ reached = s.limitReached)
        ∧ ∀ w, s.engine.writing = some w → replica = w.replica ∨ replica = s.replica)
    ∧ (∀ (s : State) (inputs : BitVec 8), inputs.getLsbD 6 = true →
      ∃ t, exec (.powerOnReset inputs) s = .next t ∧ t.supply.state = .powerDown
        ∧ t.supply.record = s.supply.record)
    ∧ (∀ s : State, s.console.raised = [] → s.console.request = [] → s.console.replies = [] →
      exec (.reset []) s = .next (State.answered 0x03 [] [0x80, 0x00, 0x00] false
        { s with console := { s.console with resetPending := true } }))
    ∧ ∀ (s : State) (clocked : Nat) (inputs : BitVec 8), s.console.raised = [] →
      s.console.resetPending = true → s.engine.writing = none → inputs.getLsbD 6 = false →
      exec (.selRise clocked [] inputs) s = .next
        (State.resetWith inputs s.replica s.wiped s.limitReached s.supply.record s.free s.pending)

/-! ## The console port -/

/-- What every request meets: behind an unfinished reply it is answered WRONG_STATE (R176), an unknown code
BAD_REQUEST (R175). Reply bytes are clocked out in their order; SEL rising ends the transaction, answers a request
cut short BAD_REQUEST, and starts the ATTN release where a reply to NOTICE was clocked out whole (R176, R186). That
the WRONG_STATE to a NOTICE behind a reply, and the BAD_REQUEST to a NOTICE cut short, are no replies to NOTICE in
that sense is log entry 16. -/
def Obligations.ConsoleTransactions : Prop :=
  (∀ (c : Instr) (code : Byte) (body : List Byte) (s : State), requestOf c = some (code, body) →
    s.Live → s.console.request = [] → s.console.replies ≠ [] →
    exec c s = .next (s.answered code body [0x83, 0x00, 0x00] false))
    ∧ (∀ (code : Byte) (body : List Byte) (s : State), s.PortFree → 0x10 < code.toNat →
      exec (.unknownRequestCode code body) s =
        .next (s.answered code body [0x82, 0x00, 0x00] false))
    ∧ (∀ (s : State) (r : Reply) (clocked : Nat), s.Live → s.console.request = [] →
      s.console.replies = [r] →
      exec (.noRequest clocked) s = .next { s with console :=
        if clocked < r.bytes.length then
          { s.console with request := [0x00], selected := true,
                           replies := [{ r with bytes := r.bytes.drop clocked }] }
        else
          { s.console with request := [0x00], selected := true, replies := [],
                           noticeClocked := s.console.noticeClocked || r.toNotice } })
    ∧ (∀ (s : State) (r : Reply) (clocked : Nat) (inputs : BitVec 8), s.Live →
      s.console.resetPending = false → s.console.replies = [r] → r.bytes.length ≤ clocked →
      exec (.selRise clocked [] inputs) s = .next { s with console := { s.console with
        request := [], selected := false, replies := [], noticeClocked := false,
        releasing := s.console.releasing || s.console.noticeClocked || r.toNotice } })
    ∧ ∀ (s : State) (b : Byte) (bs : List Byte) (inputs : BitVec 8), s.PortFree →
      s.console.resetPending = false → s.console.noticeClocked = false → b ≠ 0 →
      exec (.selRise 0 (b :: bs) inputs) s = .next { s with console := { s.console with
        selected := false, replies := [{ bytes := [0x82, 0x00, 0x00], toNotice := false }] } }

/-- CONFIGURE, START and WIPE in OFFLINE: the record that passes its checks is kept, the first field that fails is
named (R178, R179); START takes the settings and begins to listen, at a part that is configured and wiped (R179): each
filter cell takes its setting, the discriminator the pattern as its position where it is legal, and the duty-cycle cells
that are wired run (R82, R83, R87, R95; that a second START keeps the position is log entry 33);
WIPE puts the tables at their wiped contents with the new key's check and clears the record (R180). In the other
link states they are answered WRONG_STATE. Which fields of CONFIGURE are answered BAD_REQUEST and which BAD_CONFIG,
and that a body of the wrong layout is answered before WRONG_STATE, is log entry 14. -/
def Obligations.SetUpRequests : Prop :=
  (∀ (s : State) (body : List Byte) (c : RawConfig), s.PortFree → parseAll parseConfig body = some c →
    let answer (t : State) (bytes : List Byte) := t.answered 0x01 body bytes false
    exec (.configure body) s = .next
      (if s.link.state ≠ .offline ∨ s.console.started = true then answer s [0x83, 0x00, 0x00]
      else
        match c.firstFault with
        | some n => answer s [0x81, 0x02, 0x00, Reason.code .badConfig, BitVec.ofNat 8 n]
        | none => answer { s with console := { s.console with config := some c.settings } }
            [0x80, 0x00, 0x00]))
    ∧ (∀ (s : State) (body : List Byte), s.PortFree → parseAll parseConfig body = none →
      exec (.configure body) s = .next (s.answered 0x01 body [0x82, 0x00, 0x00] false))
    ∧ (∀ s : State, s.PortFree →
      (s.link.state ≠ .offline → exec (.start []) s =
        .next (s.answered 0x02 [] [0x83, 0x00, 0x00] false))
      ∧ (s.link.state = .offline → s.console.config = none → exec (.start []) s =
        .next (s.answered 0x02 [] (refusedReply .noConfig) false))
      ∧ ∀ c, s.link.state = .offline → s.console.config = some c →
        (s.wiped = false → exec (.start []) s =
          .next (s.answered 0x02 [] (refusedReply .notWiped) false))
        ∧ (s.wiped = true → ∃ t, exec (.start []) s = .next t ∧ t.link.state = .listening
          ∧ t.engine.listenTimer = some 4000000 ∧ t.link.lostPlace = true
          ∧ t.settings = some c ∧ t.meter = s.meter.configure c ∧ t.meter.running = true
          ∧ t.meter.tmp = { s.meter.tmp with running := c.tmp }
          ∧ t.meter.gau = { s.meter.gau with running := c.gaugeTank.isSome }
          ∧ t.meter.cells =
            { a := s.meter.cells.a.configure (c.filter 0) false
              b := s.meter.cells.b.configure (c.filter 1) false
              c := s.meter.cells.c.configure (c.filter 2) (decide (c.sensors = .two))
              noz := s.meter.cells.noz.configure (c.filter 3) (decide (c.role ≠ .dispense))
              cpl := s.meter.cells.cpl.configure (c.filter 4) false
              estop := s.meter.cells.estop.configure (c.filter 5) false
              svm := s.meter.cells.svm.configure (c.filter 6) false
              dhs := s.meter.cells.dhs.configure (c.filter 7) (decide (c.role ≠ .receipt)) }
          ∧ (s.meter.running = true → t.meter.position = s.meter.position)
          ∧ (s.meter.running = false → t.meter.position =
            let p := seenPattern c.sensors s.meter.cells.pattern
            if c.sensors = .three ∧ p.a = p.b ∧ p.b = p.c then none else some p)
          ∧ t.replica = s.replica
          ∧ t.console.replies = [{ bytes := [0x80, 0x00, 0x00], toNotice := false }]))
    ∧ ∀ (s : State) (body : List Byte), s.PortFree → body.length = 8 →
      (s.link.state ≠ .offline → exec (.wipe body) s =
        .next (s.answered 0x04 body [0x83, 0x00, 0x00] false))
      ∧ (s.link.state = .offline → exec (.wipe body) s =
        .next (State.answered 0x04 body (doneReply (wipeBody s.supply.record)) false
          { s with
            replica := Replica.wiped (crc body)
            wiped := true
            limitReached := false
            supply := { s.supply with record := none, phase := .held, waitCensus := false } }))

/-- STATUS, NOTICE and READ: STATUS reports and clears the glitch records (R85, R182); NOTICE takes the front of the
queue and reports and clears the lost flag (R185); READ reports an entry and the next key, of the site record itself
whatever the key (R153, R183). What the bodies of STATUS and of the notices are made of, and the free values that the
timers of STATUS take, is log entry 15; the statement says that the body is the model's and not what is in it. -/
def Obligations.ReportRequests : Prop :=
  (∀ s : State, s.PortFree →
    exec (.status []) s = .next (State.answered 0x05 [] (doneReply s.statusBody) false
      { s with meter := { s.meter with cells := s.meter.cells.clearGlitches }, free := s.free + 4 }))
    ∧ (∀ (s : State) (n : Notice) (rest : List Notice), s.PortFree → s.console.notices = n :: rest →
      exec (.notice []) s = .next (State.answered 0x06 []
        (doneReply (noticeReplyBody (some n) s.console.lost)) true
        { s with console := { s.console with notices := rest, lost := false } }))
    ∧ (∀ s : State, s.PortFree → s.console.notices = [] →
      exec (.notice []) s = .next (State.answered 0x06 []
        (doneReply [0x00, flagByte s.console.lost]) true
        { s with console := { s.console with lost := false } }))
    ∧ ∀ (s : State) (table : Byte) (key : Nat), s.PortFree → key < 2 ^ 32 →
      let body := table :: leBytes 4 key
      (ofCode tableCodes table = none → exec (.consoleRead body) s =
        .next (s.answered 0x07 body [0x82, 0x00, 0x00] false))
      ∧ (ofCode tableCodes table = some .site → exec (.consoleRead body) s =
        .next (s.answered 0x07 body (doneReply ([presence [true, false]]
          ++ leBytes 6 s.replica.site.seq ++ encodeEntry (.site s.replica.site))) false))
      ∧ ∀ k, ofCode tableCodes table = some k → k ≠ .site →
        let entry := (s.replica.entriesOf k).find? fun e => e.key == key
        let next := (s.replica.entriesOf k).find? fun e => decide (key < e.key)
        exec (.consoleRead body) s = .next (s.answered 0x07 body
          (doneReply ([presence [entry.isSome, next.isSome]] ++ leBytes 6 s.replica.site.seq
            ++ optBytes encodeEntry entry
            ++ optBytes (fun (e : Entry) => leBytes 4 e.key) next)) false)

/-- The attendant's requests, each answered in the order of its rule: PRESET (R104), KEYED-ID (R66), CANCEL (R124,
R140), DELIVERY (R133). In OFFLINE they are answered WRONG_STATE (R177; that it is so after a LEAVE too is log entry
28), and everywhere BAD_REQUEST where the body is not of their layout (R175; that this comes first is log entry 14). A
keyed identification that succeeds is looked at as any result is, in AWAITING_ID (R102) and in FAULTED(VALVE) (R119);
DELIVERY settles the grade that a run left open (R63) and looks at the result held (R134); that NOT_IN_SERVICE comes
before RECOVERY_PENDING there is log entry 43. CANCEL in OPENING asks for the OPEN or DELIVERY-OPEN back (R110, R136).
-/
def Obligations.AttendantRequests : Prop :=
  (∀ (x : (List Byte → Instr) × Byte × Nat) (body : List Byte) (s : State),
    x ∈ [(Instr.preset, (0x08 : Byte), 4), (.keyedId, 0x09, 2), (.cancel, 0x0A, 0), (.delivery, 0x0D, 5)] →
    s.PortFree →
    (body.length ≠ x.2.2 → exec (x.1 body) s = .next (s.answered x.2.1 body [0x82, 0x00, 0x00] false))
    ∧ (body.length = x.2.2 → s.link.state = .offline →
      exec (x.1 body) s = .next (s.answered x.2.1 body [0x83, 0x00, 0x00] false)))
    ∧ (∀ (s : State) (v : Nat), s.PortFree → s.link.state ≠ .offline → v < 2 ^ 32 →
      let answer (t : State) (bytes : List Byte) := t.answered 0x08 (leBytes 4 v) bytes false
      let store (p : Option Nat) : State := { s with activity := { s.activity with preset := p } }
      exec (.preset (leBytes 4 v)) s = .next
        (if 99999 < v then answer s [0x82, 0x00, 0x00]
        else if s.role ≠ some .dispense then answer s (refusedReply .wrongRole)
        else if s.activity.state ≠ .idle ∧ s.activity.state ≠ .awaitingId then
          answer s [0x83, 0x00, 0x00]
        else if v = 0 then answer (store none) [0x80, 0x00, 0x00]
        else if v < s.replica.site.minFill then answer s (refusedReply .belowMinimum)
        else answer (store (some v)) [0x80, 0x00, 0x00]))
    ∧ (∀ (s : State) (n : Nat), s.PortFree → s.link.state ≠ .offline → n < 2 ^ 16 →
      let answer (bytes : List Byte) := s.answered 0x09 (leBytes 2 n) bytes false
      let order := [(badRequestReply, decide (n = 0) || decide (n = 65535)),
        (refusedReply .wrongRole, s.role != some .dispense),
        (wrongStateReply, s.meter.cells.cpl.output || !s.ident.state.takesKeyed),
        (refusedReply .keyedNotPermitted, !s.replica.site.keyed)]
      (∀ x, order.find? Prod.snd = some x → exec (.keyedId (leBytes 2 n)) s = .next (answer x.1))
      ∧ (order.find? Prod.snd = none →
        let m := s.replica.machine? n
        let found := firstReason
          [(.unknownMachine, m.isNone),
           (.misgrade, (s.hose.bind s.replica.tank?).map TankEntry.grade != m.map MachineEntry.grade),
           (.barred, foundAnd MachineEntry.barred m), (.heldElsewhere, foundAnd (fun x => x.hold.isSome) m)]
        ∃ t, exec (.keyedId (leBytes 2 n)) s = .next t
          ∧ t.console.replies = [{ bytes := [0x80, 0x00, 0x00], toNotice := false }]
          ∧ (∀ x, found = some x → t.ident.state = .failed x ∧ t.activity = s.activity)
          ∧ (found = none → ∀ e, m = some e →
            let r : IdResult :=
              { mode := .keyed, number := n, grade := e.grade, capacity := e.capacity, hours := none,
                level := none }
            (s.activity.state ≠ .awaitingId → s.activity.state ≠ .faulted →
              t.ident.state = .identified ∧ t.ident.context.bind Inlet.result = some r
                ∧ t.activity = s.activity)
            ∧ (s.activity.state = .faulted →
              t.ident.state = .idle ∧ t.ident.context = none ∧ t.activity = s.activity)
            ∧ (s.activity.state = .awaitingId → s.engine.admitted = false →
              t.activity.state = .refused .notInService ∧ t.ident.state = .idle)
            ∧ (s.activity.state = .awaitingId → s.engine.admitted = true →
              s.supply.record.isSome = true →
              t.activity.state = .refused .recoveryPending ∧ t.ident.state = .idle)
            ∧ (s.activity.state = .awaitingId → s.engine.admitted = true → s.supply.record = none →
              s.AsksForFill r t))))
    ∧ (∀ s : State, s.PortFree → s.link.state ≠ .offline →
      (s.role = some .office →
        exec (.cancel []) s = .next (s.answered 0x0A [] (refusedReply .wrongRole) false))
      ∧ (s.role ≠ some .office →
        s.activity.state ∉ [ActState.awaitingId, .opening, .flowing, .slowing] →
        exec (.cancel []) s = .next (s.answered 0x0A [] [0x83, 0x00, 0x00] false))
      ∧ (s.role ≠ some .office → s.activity.state = .awaitingId →
        ∃ t, exec (.cancel []) s = .next t ∧ t.activity.state = .refused .cancelled
          ∧ t.console.replies = [{ bytes := [0x80, 0x00, 0x00], toNotice := false }])
      ∧ (s.role ≠ some .office → s.activity.state = .opening →
        (∀ r, s.activity.pendingEnd = some r →
          exec (.cancel []) s = .next (s.answered 0x0A [] [0x80, 0x00, 0x00] false))
        ∧ (s.activity.pendingEnd = none →
          let a : Activity := { s.activity with pendingEnd := some .cancelled }
          (s.link.withdrawable .activity s.openKind = false → exec (.cancel []) s =
            .next (State.answered 0x0A [] [0x80, 0x00, 0x00] false { s with activity := a }))
          ∧ (s.link.withdrawable .activity s.openKind = true →
            ∃ t, exec (.cancel []) s = .next t ∧ t.activity.state = .refused .cancelled
              ∧ t.activity.preset = none ∧ t.link = s.link.remove .activity
              ∧ t.console.replies = [{ bytes := [0x80, 0x00, 0x00], toNotice := false }])))
      ∧ (s.role ≠ some .office → (s.activity.state = .flowing ∨ s.activity.state = .slowing) →
        ∃ t, exec (.cancel []) s = .next t ∧ s.StopsFor .cancelled t
          ∧ t.console.replies = [{ bytes := [0x80, 0x00, 0x00], toNotice := false }]))
    ∧ ∀ (s : State) (n v : Nat), s.PortFree → s.link.state ≠ .offline → n < 2 ^ 8 → v < 2 ^ 32 →
      let body := leBytes 1 n ++ leBytes 4 v
      let order := [(badRequestReply, !within 1 8 n || !within 1000 999999 v),
        (refusedReply .wrongRole, s.role != some .receipt),
        (refusedReply .notServed, !tankInSet (s.served.getD 0) n),
        (wrongStateReply, s.activity.state != .idle || !s.meter.cells.dhs.output)]
      let grade := (s.replica.tank? n).map TankEntry.grade
      (∀ x, order.find? Prod.snd = some x →
        exec (.delivery body) s = .next (s.answered 0x0D body x.1 false))
      ∧ (order.find? Prod.snd = none →
        ∃ t, exec (.delivery body) s = .next t
          ∧ t.console.replies = [{ bytes := [0x80, 0x00, 0x00], toNotice := false }]
          ∧ ((∀ c ∈ s.ident.context, s.ident.state = .identified →
              c.gradePending = false ∧ c.result = none) →
            t.activity = { s.activity with state := .awaitingId, namedTank := some n, declared := some v }
              ∧ t.ident.state = s.ident.state
              ∧ t.ident.context = s.ident.context.map fun (c : Inlet) => { c with namedTank := some n })
          ∧ ∀ c, s.ident.state = .identified → s.ident.context = some c →
            (c.gradePending = true → (c.result = none ∨ grade ≠ c.result.map IdResult.grade) →
              t.activity.state = .awaitingId ∧ t.ident.state = .failed .misgrade)
            ∧ ∀ r, c.result = some r → (c.gradePending = true → grade = some r.grade) →
              (s.engine.admitted = false →
                t.activity.state = .refused .notInService ∧ t.ident.context = none)
              ∧ (s.engine.admitted = true → s.supply.record.isSome = true →
                t.activity.state = .refused .recoveryPending ∧ t.ident.context = none)
              ∧ (s.engine.admitted = true → s.supply.record = none →
                let d : DeliveryRequest :=
                  { tank := n, tanker := r.number, grade := r.grade, declared := v, mode := .tag,
                    hours := r.hours, openTime := s.clock }
                t.activity.state = .opening ∧ t.activity.namedTank = some n
                  ∧ t.activity.declared = some v ∧ t.activity.result = some r
                  ∧ s.ActivityOffers (.deliveryOpen d) t))

/-- CLEAR-FAULT leads a FAULTED station back to LISTENING and the controller out of FAULTED(VALVE), the latter only
without unauthorised flow, each on its own condition where both faults are held (R174); that a valve fault is cleared
in OFFLINE too is log entry 28. LEAVE offers the frame, at an admitted station that is IDLE with nothing to
recover (R184). -/
def Obligations.ClearFaultAndLeave : Prop :=
  (∀ s : State, s.PortFree →
    (s.link.state = .faulted → s.activity.state ≠ .faulted →
      ∃ t, exec (.clearFault []) s = .next t ∧ t.link.state = .listening
        ∧ t.engine.listenTimer = some 4000000 ∧ t.replica = s.replica
        ∧ t.console.replies = [{ bytes := [0x80, 0x00, 0x00], toNotice := false }])
    ∧ (s.link.state ≠ .faulted → s.activity.state ≠ .faulted →
      exec (.clearFault []) s = .next (s.answered 0x0F [] [0x83, 0x00, 0x00] false))
    ∧ (s.link.state ≠ .faulted → s.activity.state = .faulted → s.meter.episode = true →
      exec (.clearFault []) s = .next (s.answered 0x0F [] (refusedReply .flowPresent) false))
    ∧ (s.link.state ≠ .faulted → s.activity.state = .faulted → s.meter.episode = false →
      ∃ t, exec (.clearFault []) s = .next t ∧ t.activity.state = .idle ∧ t.link = s.link
        ∧ t.console.replies = [{ bytes := [0x80, 0x00, 0x00], toNotice := false }])
    ∧ (s.link.state = .faulted → s.activity.state = .faulted →
      ∃ t, exec (.clearFault []) s = .next t ∧ t.link.state = .listening ∧ t.replica = s.replica
        ∧ (s.meter.episode = true → t.activity.state = .faulted
          ∧ t.console.replies = [{ bytes := refusedReply .flowPresent, toNotice := false }])
        ∧ (s.meter.episode = false → t.activity.state = .idle
          ∧ t.console.replies = [{ bytes := [0x80, 0x00, 0x00], toNotice := false }])))
    ∧ ∀ s : State, s.PortFree →
      let order := [(refusedReply .notInService, s.link.state != .inService || !s.engine.admitted),
        (wrongStateReply, s.engine.leavePending), (wrongStateReply, s.activity.state != .idle),
        (refusedReply .recoveryPending, s.supply.record.isSome)]
      (∀ x, order.find? Prod.snd = some x →
        exec (.consoleLeave []) s = .next (s.answered 0x10 [] x.1 false))
      ∧ (order.find? Prod.snd = none → s.link.queued .membership = none →
        exec (.consoleLeave []) s = .next (State.answered 0x10 [] [0x80, 0x00, 0x00] false
          { s with
            link := s.withOffer .membership .leave
            engine := { s.engine with leavePending := true } }))
end

