-- ==== Sys2Proof/Laws/Activity.lean ====
section
/-! SUPPORT. What the shared operations of the activity controller do: entering a state, entering STOPPING (R101, R117,
R118), and the limits of the meter (R117, R137). -/

namespace Sys2Proof.Machine

/-- The notice of the controller's state changes the console port alone. -/
theorem State.raiseActivity_eq (s : State) :
    s.raiseActivity = { s with console := s.raiseActivity.console } := by
  unfold State.raiseActivity
  split <;> rfl

/-- Entering a state changes that state, and raises its notice. -/
theorem State.enterAct_eq (st : ActState) (s : State) :
    s.enterAct st =
      { s with activity := { s.activity with state := st }, console := (s.enterAct st).console } := by
  unfold State.enterAct
  exact State.raiseActivity_eq _

@[simp] theorem State.enterAct_activity (st : ActState) (s : State) :
    (s.enterAct st).activity = { s.activity with state := st } := by
  rw [State.enterAct_eq]
@[simp] theorem State.enterAct_meter (st : ActState) (s : State) : (s.enterAct st).meter = s.meter := by
  rw [State.enterAct_eq]
@[simp] theorem State.enterAct_ident (st : ActState) (s : State) : (s.enterAct st).ident = s.ident := by
  rw [State.enterAct_eq]
@[simp] theorem State.enterAct_port (st : ActState) (s : State) : (s.enterAct st).port = s.port := by
  rw [State.enterAct_eq]
@[simp] theorem State.enterAct_link (st : ActState) (s : State) : (s.enterAct st).link = s.link := by
  rw [State.enterAct_eq]
@[simp] theorem State.enterAct_outputs (st : ActState) (s : State) : (s.enterAct st).outputs = s.outputs := by
  rw [State.enterAct_eq]
@[simp] theorem State.enterAct_supply (st : ActState) (s : State) : (s.enterAct st).supply = s.supply := by
  rw [State.enterAct_eq]

/-- STOPPING: the volume and the reason it begins with, and its two timers in place of those of the flow. -/
@[simp] theorem State.stopWith_activity (r : Reason) (s : State) :
    (s.stopWith r).activity = { s.activity with
      state := .stopping, stopVolume := some s.meter.gross, endReason := some r, pendingEnd := none,
      noFlow := none, full := none, settle := some 2000000, limit := some 10000000 } := by
  simp [State.stopWith, State.outputsOff, State.modRecord]
@[simp] theorem State.stopWith_meter (r : Reason) (s : State) : (s.stopWith r).meter = s.meter := by
  simp [State.stopWith, State.outputsOff, State.modRecord]
@[simp] theorem State.stopWith_outputs (r : Reason) (s : State) :
    (s.stopWith r).outputs = { pump := false, vmain := false, vtrim := false } := by
  simp [State.stopWith, State.outputsOff, State.modRecord]

/-- The limits of the meter do nothing in a state that does not flow, nor within them. -/
theorem State.meterLimits_of_within {s : State}
    (h : s.activity.state.flows = false ∨ s.meter.reverse ≤ 10 ∧ s.meter.phaseErrors ≤ 8) :
    s.meterLimits = s := by
  unfold State.meterLimits State.endFlow
  rcases h with h | ⟨hr, hp⟩
  · simp [h]
  · rw [if_neg (by omega), if_neg (by omega)]

/-- Beyond a limit of the meter an activity that flows is stopped. -/
theorem State.meterLimits_of_beyond {s : State} (hf : s.activity.state.flows = true)
    (h : 10 < s.meter.reverse ∨ 8 < s.meter.phaseErrors) : ∃ r, s.meterLimits = s.stopWith r := by
  unfold State.meterLimits State.endFlow
  simp only [hf, if_true]
  by_cases hr : 10 < s.meter.reverse
  · exact ⟨.reverseFlow, if_pos hr⟩
  · rw [if_neg hr, if_pos (h.resolve_left hr)]
    exact ⟨.meterFault, rfl⟩

end Sys2Proof.Machine
end

