-- ==== Sys2Proof/Laws/State.lean ====
section
/-! SUPPORT. What each named update of the state leaves unchanged, one lemma for each field, so that no proof unfolds
a record update. -/

namespace Sys2Proof.Machine

/-! ## Raising a notice -/

@[simp] theorem State.raise_link (b : NoticeBody) (s : State) : (s.raise b).link = s.link := rfl
@[simp] theorem State.raise_engine (b : NoticeBody) (s : State) : (s.raise b).engine = s.engine := rfl
@[simp] theorem State.raise_replica (b : NoticeBody) (s : State) : (s.raise b).replica = s.replica := rfl
@[simp] theorem State.raise_wiped (b : NoticeBody) (s : State) : (s.raise b).wiped = s.wiped := rfl
@[simp] theorem State.raise_limitReached (b : NoticeBody) (s : State) : (s.raise b).limitReached = s.limitReached := rfl
@[simp] theorem State.raise_responder (b : NoticeBody) (s : State) : (s.raise b).responder = s.responder := rfl
@[simp] theorem State.raise_port (b : NoticeBody) (s : State) : (s.raise b).port = s.port := rfl
@[simp] theorem State.raise_ident (b : NoticeBody) (s : State) : (s.raise b).ident = s.ident := rfl
@[simp] theorem State.raise_meter (b : NoticeBody) (s : State) : (s.raise b).meter = s.meter := rfl
@[simp] theorem State.raise_activity (b : NoticeBody) (s : State) : (s.raise b).activity = s.activity := rfl
@[simp] theorem State.raise_outputs (b : NoticeBody) (s : State) : (s.raise b).outputs = s.outputs := rfl
@[simp] theorem State.raise_gauge (b : NoticeBody) (s : State) : (s.raise b).gauge = s.gauge := rfl
@[simp] theorem State.raise_supply (b : NoticeBody) (s : State) : (s.raise b).supply = s.supply := rfl
@[simp] theorem State.raise_stop (b : NoticeBody) (s : State) : (s.raise b).stop = s.stop := rfl
@[simp] theorem State.raise_clock (b : NoticeBody) (s : State) : (s.raise b).clock = s.clock := rfl
@[simp] theorem State.raise_free (b : NoticeBody) (s : State) : (s.raise b).free = s.free := rfl
@[simp] theorem State.raise_pending (b : NoticeBody) (s : State) : (s.raise b).pending = s.pending := rfl

/-! ## Entering the notices -/

@[simp] theorem State.commitNotices_link (s : State) : (s.commitNotices).link = s.link := rfl
@[simp] theorem State.commitNotices_engine (s : State) : (s.commitNotices).engine = s.engine := rfl
@[simp] theorem State.commitNotices_replica (s : State) : (s.commitNotices).replica = s.replica := rfl
@[simp] theorem State.commitNotices_wiped (s : State) : (s.commitNotices).wiped = s.wiped := rfl
@[simp] theorem State.commitNotices_limitReached (s : State) : (s.commitNotices).limitReached = s.limitReached := rfl
@[simp] theorem State.commitNotices_responder (s : State) : (s.commitNotices).responder = s.responder := rfl
@[simp] theorem State.commitNotices_port (s : State) : (s.commitNotices).port = s.port := rfl
@[simp] theorem State.commitNotices_ident (s : State) : (s.commitNotices).ident = s.ident := rfl
@[simp] theorem State.commitNotices_meter (s : State) : (s.commitNotices).meter = s.meter := rfl
@[simp] theorem State.commitNotices_activity (s : State) : (s.commitNotices).activity = s.activity := rfl
@[simp] theorem State.commitNotices_outputs (s : State) : (s.commitNotices).outputs = s.outputs := rfl
@[simp] theorem State.commitNotices_gauge (s : State) : (s.commitNotices).gauge = s.gauge := rfl
@[simp] theorem State.commitNotices_supply (s : State) : (s.commitNotices).supply = s.supply := rfl
@[simp] theorem State.commitNotices_stop (s : State) : (s.commitNotices).stop = s.stop := rfl
@[simp] theorem State.commitNotices_clock (s : State) : (s.commitNotices).clock = s.clock := rfl
@[simp] theorem State.commitNotices_pending (s : State) : (s.commitNotices).pending = s.pending := rfl

/-! ## Offering a frame -/

@[simp] theorem State.offer_engine (o : Origin) (p : Payload) (s : State) : (s.offer o p).engine = s.engine := rfl
@[simp] theorem State.offer_replica (o : Origin) (p : Payload) (s : State) : (s.offer o p).replica = s.replica := rfl
@[simp] theorem State.offer_wiped (o : Origin) (p : Payload) (s : State) : (s.offer o p).wiped = s.wiped := rfl
@[simp] theorem State.offer_limitReached (o : Origin) (p : Payload) (s : State) : (s.offer o p).limitReached = s.limitReached := rfl
@[simp] theorem State.offer_responder (o : Origin) (p : Payload) (s : State) : (s.offer o p).responder = s.responder := rfl
@[simp] theorem State.offer_port (o : Origin) (p : Payload) (s : State) : (s.offer o p).port = s.port := rfl
@[simp] theorem State.offer_ident (o : Origin) (p : Payload) (s : State) : (s.offer o p).ident = s.ident := rfl
@[simp] theorem State.offer_meter (o : Origin) (p : Payload) (s : State) : (s.offer o p).meter = s.meter := rfl
@[simp] theorem State.offer_activity (o : Origin) (p : Payload) (s : State) : (s.offer o p).activity = s.activity := rfl
@[simp] theorem State.offer_outputs (o : Origin) (p : Payload) (s : State) : (s.offer o p).outputs = s.outputs := rfl
@[simp] theorem State.offer_gauge (o : Origin) (p : Payload) (s : State) : (s.offer o p).gauge = s.gauge := rfl
@[simp] theorem State.offer_supply (o : Origin) (p : Payload) (s : State) : (s.offer o p).supply = s.supply := rfl
@[simp] theorem State.offer_stop (o : Origin) (p : Payload) (s : State) : (s.offer o p).stop = s.stop := rfl
@[simp] theorem State.offer_console (o : Origin) (p : Payload) (s : State) : (s.offer o p).console = s.console := rfl
@[simp] theorem State.offer_clock (o : Origin) (p : Payload) (s : State) : (s.offer o p).clock = s.clock := rfl
@[simp] theorem State.offer_free (o : Origin) (p : Payload) (s : State) : (s.offer o p).free = s.free := rfl
@[simp] theorem State.offer_pending (o : Origin) (p : Payload) (s : State) : (s.offer o p).pending = s.pending := rfl

/-! ## Offering a service frame -/

@[simp] theorem State.offerTo_engine (o : Origin) (d : Nat) (p : Payload) (s : State) : (s.offerTo o d p).engine = s.engine := rfl
@[simp] theorem State.offerTo_replica (o : Origin) (d : Nat) (p : Payload) (s : State) : (s.offerTo o d p).replica = s.replica := rfl
@[simp] theorem State.offerTo_wiped (o : Origin) (d : Nat) (p : Payload) (s : State) : (s.offerTo o d p).wiped = s.wiped := rfl
@[simp] theorem State.offerTo_limitReached (o : Origin) (d : Nat) (p : Payload) (s : State) : (s.offerTo o d p).limitReached = s.limitReached := rfl
@[simp] theorem State.offerTo_responder (o : Origin) (d : Nat) (p : Payload) (s : State) : (s.offerTo o d p).responder = s.responder := rfl
@[simp] theorem State.offerTo_port (o : Origin) (d : Nat) (p : Payload) (s : State) : (s.offerTo o d p).port = s.port := rfl
@[simp] theorem State.offerTo_ident (o : Origin) (d : Nat) (p : Payload) (s : State) : (s.offerTo o d p).ident = s.ident := rfl
@[simp] theorem State.offerTo_meter (o : Origin) (d : Nat) (p : Payload) (s : State) : (s.offerTo o d p).meter = s.meter := rfl
@[simp] theorem State.offerTo_activity (o : Origin) (d : Nat) (p : Payload) (s : State) : (s.offerTo o d p).activity = s.activity := rfl
@[simp] theorem State.offerTo_outputs (o : Origin) (d : Nat) (p : Payload) (s : State) : (s.offerTo o d p).outputs = s.outputs := rfl
@[simp] theorem State.offerTo_gauge (o : Origin) (d : Nat) (p : Payload) (s : State) : (s.offerTo o d p).gauge = s.gauge := rfl
@[simp] theorem State.offerTo_supply (o : Origin) (d : Nat) (p : Payload) (s : State) : (s.offerTo o d p).supply = s.supply := rfl
@[simp] theorem State.offerTo_stop (o : Origin) (d : Nat) (p : Payload) (s : State) : (s.offerTo o d p).stop = s.stop := rfl
@[simp] theorem State.offerTo_console (o : Origin) (d : Nat) (p : Payload) (s : State) : (s.offerTo o d p).console = s.console := rfl
@[simp] theorem State.offerTo_clock (o : Origin) (d : Nat) (p : Payload) (s : State) : (s.offerTo o d p).clock = s.clock := rfl
@[simp] theorem State.offerTo_free (o : Origin) (d : Nat) (p : Payload) (s : State) : (s.offerTo o d p).free = s.free := rfl
@[simp] theorem State.offerTo_pending (o : Origin) (d : Nat) (p : Payload) (s : State) : (s.offerTo o d p).pending = s.pending := rfl

/-! ## Withdrawing a frame -/

@[simp] theorem State.withdraw_engine (o : Origin) (k : Kind) (s : State) : (s.withdraw o k).engine = s.engine := by
  unfold State.withdraw; split <;> rfl
@[simp] theorem State.withdraw_replica (o : Origin) (k : Kind) (s : State) : (s.withdraw o k).replica = s.replica := by
  unfold State.withdraw; split <;> rfl
@[simp] theorem State.withdraw_wiped (o : Origin) (k : Kind) (s : State) : (s.withdraw o k).wiped = s.wiped := by
  unfold State.withdraw; split <;> rfl
@[simp] theorem State.withdraw_limitReached (o : Origin) (k : Kind) (s : State) : (s.withdraw o k).limitReached = s.limitReached := by
  unfold State.withdraw; split <;> rfl
@[simp] theorem State.withdraw_responder (o : Origin) (k : Kind) (s : State) : (s.withdraw o k).responder = s.responder := by
  unfold State.withdraw; split <;> rfl
@[simp] theorem State.withdraw_port (o : Origin) (k : Kind) (s : State) : (s.withdraw o k).port = s.port := by
  unfold State.withdraw; split <;> rfl
@[simp] theorem State.withdraw_ident (o : Origin) (k : Kind) (s : State) : (s.withdraw o k).ident = s.ident := by
  unfold State.withdraw; split <;> rfl
@[simp] theorem State.withdraw_meter (o : Origin) (k : Kind) (s : State) : (s.withdraw o k).meter = s.meter := by
  unfold State.withdraw; split <;> rfl
@[simp] theorem State.withdraw_activity (o : Origin) (k : Kind) (s : State) : (s.withdraw o k).activity = s.activity := by
  unfold State.withdraw; split <;> rfl
@[simp] theorem State.withdraw_outputs (o : Origin) (k : Kind) (s : State) : (s.withdraw o k).outputs = s.outputs := by
  unfold State.withdraw; split <;> rfl
@[simp] theorem State.withdraw_gauge (o : Origin) (k : Kind) (s : State) : (s.withdraw o k).gauge = s.gauge := by
  unfold State.withdraw; split <;> rfl
@[simp] theorem State.withdraw_supply (o : Origin) (k : Kind) (s : State) : (s.withdraw o k).supply = s.supply := by
  unfold State.withdraw; split <;> rfl
@[simp] theorem State.withdraw_stop (o : Origin) (k : Kind) (s : State) : (s.withdraw o k).stop = s.stop := by
  unfold State.withdraw; split <;> rfl
@[simp] theorem State.withdraw_console (o : Origin) (k : Kind) (s : State) : (s.withdraw o k).console = s.console := by
  unfold State.withdraw; split <;> rfl
@[simp] theorem State.withdraw_clock (o : Origin) (k : Kind) (s : State) : (s.withdraw o k).clock = s.clock := by
  unfold State.withdraw; split <;> rfl
@[simp] theorem State.withdraw_free (o : Origin) (k : Kind) (s : State) : (s.withdraw o k).free = s.free := by
  unfold State.withdraw; split <;> rfl
@[simp] theorem State.withdraw_pending (o : Origin) (k : Kind) (s : State) : (s.withdraw o k).pending = s.pending := by
  unfold State.withdraw; split <;> rfl

/-! ## Taking a frame from the inbound queue -/

@[simp] theorem State.popInbound_engine (s : State) : (s.popInbound).engine = s.engine := rfl
@[simp] theorem State.popInbound_replica (s : State) : (s.popInbound).replica = s.replica := rfl
@[simp] theorem State.popInbound_wiped (s : State) : (s.popInbound).wiped = s.wiped := rfl
@[simp] theorem State.popInbound_limitReached (s : State) : (s.popInbound).limitReached = s.limitReached := rfl
@[simp] theorem State.popInbound_responder (s : State) : (s.popInbound).responder = s.responder := rfl
@[simp] theorem State.popInbound_port (s : State) : (s.popInbound).port = s.port := rfl
@[simp] theorem State.popInbound_ident (s : State) : (s.popInbound).ident = s.ident := rfl
@[simp] theorem State.popInbound_meter (s : State) : (s.popInbound).meter = s.meter := rfl
@[simp] theorem State.popInbound_activity (s : State) : (s.popInbound).activity = s.activity := rfl
@[simp] theorem State.popInbound_outputs (s : State) : (s.popInbound).outputs = s.outputs := rfl
@[simp] theorem State.popInbound_gauge (s : State) : (s.popInbound).gauge = s.gauge := rfl
@[simp] theorem State.popInbound_supply (s : State) : (s.popInbound).supply = s.supply := rfl
@[simp] theorem State.popInbound_stop (s : State) : (s.popInbound).stop = s.stop := rfl
@[simp] theorem State.popInbound_console (s : State) : (s.popInbound).console = s.console := rfl
@[simp] theorem State.popInbound_clock (s : State) : (s.popInbound).clock = s.clock := rfl
@[simp] theorem State.popInbound_free (s : State) : (s.popInbound).free = s.free := rfl
@[simp] theorem State.popInbound_pending (s : State) : (s.popInbound).pending = s.pending := rfl

/-! ## Clearing the retained record -/

@[simp] theorem State.clearRecord_link (s : State) : (s.clearRecord).link = s.link := rfl
@[simp] theorem State.clearRecord_engine (s : State) : (s.clearRecord).engine = s.engine := rfl
@[simp] theorem State.clearRecord_replica (s : State) : (s.clearRecord).replica = s.replica := rfl
@[simp] theorem State.clearRecord_wiped (s : State) : (s.clearRecord).wiped = s.wiped := rfl
@[simp] theorem State.clearRecord_limitReached (s : State) : (s.clearRecord).limitReached = s.limitReached := rfl
@[simp] theorem State.clearRecord_responder (s : State) : (s.clearRecord).responder = s.responder := rfl
@[simp] theorem State.clearRecord_port (s : State) : (s.clearRecord).port = s.port := rfl
@[simp] theorem State.clearRecord_ident (s : State) : (s.clearRecord).ident = s.ident := rfl
@[simp] theorem State.clearRecord_meter (s : State) : (s.clearRecord).meter = s.meter := rfl
@[simp] theorem State.clearRecord_activity (s : State) : (s.clearRecord).activity = s.activity := rfl
@[simp] theorem State.clearRecord_outputs (s : State) : (s.clearRecord).outputs = s.outputs := rfl
@[simp] theorem State.clearRecord_gauge (s : State) : (s.clearRecord).gauge = s.gauge := rfl
@[simp] theorem State.clearRecord_stop (s : State) : (s.clearRecord).stop = s.stop := rfl
@[simp] theorem State.clearRecord_console (s : State) : (s.clearRecord).console = s.console := rfl
@[simp] theorem State.clearRecord_clock (s : State) : (s.clearRecord).clock = s.clock := rfl
@[simp] theorem State.clearRecord_free (s : State) : (s.clearRecord).free = s.free := rfl
@[simp] theorem State.clearRecord_pending (s : State) : (s.clearRecord).pending = s.pending := rfl

/-! ## Changing the retained record -/

@[simp] theorem State.modRecord_link (f : ActRecord → ActRecord) (s : State) : (s.modRecord f).link = s.link := rfl
@[simp] theorem State.modRecord_engine (f : ActRecord → ActRecord) (s : State) : (s.modRecord f).engine = s.engine := rfl
@[simp] theorem State.modRecord_replica (f : ActRecord → ActRecord) (s : State) : (s.modRecord f).replica = s.replica := rfl
@[simp] theorem State.modRecord_wiped (f : ActRecord → ActRecord) (s : State) : (s.modRecord f).wiped = s.wiped := rfl
@[simp] theorem State.modRecord_limitReached (f : ActRecord → ActRecord) (s : State) : (s.modRecord f).limitReached = s.limitReached := rfl
@[simp] theorem State.modRecord_responder (f : ActRecord → ActRecord) (s : State) : (s.modRecord f).responder = s.responder := rfl
@[simp] theorem State.modRecord_port (f : ActRecord → ActRecord) (s : State) : (s.modRecord f).port = s.port := rfl
@[simp] theorem State.modRecord_ident (f : ActRecord → ActRecord) (s : State) : (s.modRecord f).ident = s.ident := rfl
@[simp] theorem State.modRecord_meter (f : ActRecord → ActRecord) (s : State) : (s.modRecord f).meter = s.meter := rfl
@[simp] theorem State.modRecord_activity (f : ActRecord → ActRecord) (s : State) : (s.modRecord f).activity = s.activity := rfl
@[simp] theorem State.modRecord_outputs (f : ActRecord → ActRecord) (s : State) : (s.modRecord f).outputs = s.outputs := rfl
@[simp] theorem State.modRecord_gauge (f : ActRecord → ActRecord) (s : State) : (s.modRecord f).gauge = s.gauge := rfl
@[simp] theorem State.modRecord_stop (f : ActRecord → ActRecord) (s : State) : (s.modRecord f).stop = s.stop := rfl
@[simp] theorem State.modRecord_console (f : ActRecord → ActRecord) (s : State) : (s.modRecord f).console = s.console := rfl
@[simp] theorem State.modRecord_clock (f : ActRecord → ActRecord) (s : State) : (s.modRecord f).clock = s.clock := rfl
@[simp] theorem State.modRecord_free (f : ActRecord → ActRecord) (s : State) : (s.modRecord f).free = s.free := rfl
@[simp] theorem State.modRecord_pending (f : ActRecord → ActRecord) (s : State) : (s.modRecord f).pending = s.pending := rfl

/-! ## Changing the phase of the record -/

@[simp] theorem State.setPhase_link (p : RecordPhase) (s : State) : (s.setPhase p).link = s.link := rfl
@[simp] theorem State.setPhase_engine (p : RecordPhase) (s : State) : (s.setPhase p).engine = s.engine := rfl
@[simp] theorem State.setPhase_replica (p : RecordPhase) (s : State) : (s.setPhase p).replica = s.replica := rfl
@[simp] theorem State.setPhase_wiped (p : RecordPhase) (s : State) : (s.setPhase p).wiped = s.wiped := rfl
@[simp] theorem State.setPhase_limitReached (p : RecordPhase) (s : State) : (s.setPhase p).limitReached = s.limitReached := rfl
@[simp] theorem State.setPhase_responder (p : RecordPhase) (s : State) : (s.setPhase p).responder = s.responder := rfl
@[simp] theorem State.setPhase_port (p : RecordPhase) (s : State) : (s.setPhase p).port = s.port := rfl
@[simp] theorem State.setPhase_ident (p : RecordPhase) (s : State) : (s.setPhase p).ident = s.ident := rfl
@[simp] theorem State.setPhase_meter (p : RecordPhase) (s : State) : (s.setPhase p).meter = s.meter := rfl
@[simp] theorem State.setPhase_activity (p : RecordPhase) (s : State) : (s.setPhase p).activity = s.activity := rfl
@[simp] theorem State.setPhase_outputs (p : RecordPhase) (s : State) : (s.setPhase p).outputs = s.outputs := rfl
@[simp] theorem State.setPhase_gauge (p : RecordPhase) (s : State) : (s.setPhase p).gauge = s.gauge := rfl
@[simp] theorem State.setPhase_stop (p : RecordPhase) (s : State) : (s.setPhase p).stop = s.stop := rfl
@[simp] theorem State.setPhase_console (p : RecordPhase) (s : State) : (s.setPhase p).console = s.console := rfl
@[simp] theorem State.setPhase_clock (p : RecordPhase) (s : State) : (s.setPhase p).clock = s.clock := rfl
@[simp] theorem State.setPhase_free (p : RecordPhase) (s : State) : (s.setPhase p).free = s.free := rfl
@[simp] theorem State.setPhase_pending (p : RecordPhase) (s : State) : (s.setPhase p).pending = s.pending := rfl

/-! ## Changing the link state -/

@[simp] theorem State.setLink_replica (st : LinkState) (r : Reason) (s : State) : (s.setLink st r).replica = s.replica := rfl
@[simp] theorem State.setLink_wiped (st : LinkState) (r : Reason) (s : State) : (s.setLink st r).wiped = s.wiped := rfl
@[simp] theorem State.setLink_limitReached (st : LinkState) (r : Reason) (s : State) : (s.setLink st r).limitReached = s.limitReached := rfl
@[simp] theorem State.setLink_responder (st : LinkState) (r : Reason) (s : State) : (s.setLink st r).responder = s.responder := rfl
@[simp] theorem State.setLink_port (st : LinkState) (r : Reason) (s : State) : (s.setLink st r).port = s.port := rfl
@[simp] theorem State.setLink_ident (st : LinkState) (r : Reason) (s : State) : (s.setLink st r).ident = s.ident := rfl
@[simp] theorem State.setLink_meter (st : LinkState) (r : Reason) (s : State) : (s.setLink st r).meter = s.meter := rfl
@[simp] theorem State.setLink_activity (st : LinkState) (r : Reason) (s : State) : (s.setLink st r).activity = s.activity := rfl
@[simp] theorem State.setLink_outputs (st : LinkState) (r : Reason) (s : State) : (s.setLink st r).outputs = s.outputs := rfl
@[simp] theorem State.setLink_gauge (st : LinkState) (r : Reason) (s : State) : (s.setLink st r).gauge = s.gauge := rfl
@[simp] theorem State.setLink_supply (st : LinkState) (r : Reason) (s : State) : (s.setLink st r).supply = s.supply := rfl
@[simp] theorem State.setLink_stop (st : LinkState) (r : Reason) (s : State) : (s.setLink st r).stop = s.stop := rfl
@[simp] theorem State.setLink_clock (st : LinkState) (r : Reason) (s : State) : (s.setLink st r).clock = s.clock := rfl
@[simp] theorem State.setLink_free (st : LinkState) (r : Reason) (s : State) : (s.setLink st r).free = s.free := rfl
@[simp] theorem State.setLink_pending (st : LinkState) (r : Reason) (s : State) : (s.setLink st r).pending = s.pending := rfl

/-! ## Dropping the queues -/

@[simp] theorem State.dropQueues_replica (s : State) : (s.dropQueues).replica = s.replica := rfl
@[simp] theorem State.dropQueues_wiped (s : State) : (s.dropQueues).wiped = s.wiped := rfl
@[simp] theorem State.dropQueues_limitReached (s : State) : (s.dropQueues).limitReached = s.limitReached := rfl
@[simp] theorem State.dropQueues_responder (s : State) : (s.dropQueues).responder = s.responder := rfl
@[simp] theorem State.dropQueues_port (s : State) : (s.dropQueues).port = s.port := rfl
@[simp] theorem State.dropQueues_ident (s : State) : (s.dropQueues).ident = s.ident := rfl
@[simp] theorem State.dropQueues_meter (s : State) : (s.dropQueues).meter = s.meter := rfl
@[simp] theorem State.dropQueues_activity (s : State) : (s.dropQueues).activity = s.activity := rfl
@[simp] theorem State.dropQueues_outputs (s : State) : (s.dropQueues).outputs = s.outputs := rfl
@[simp] theorem State.dropQueues_gauge (s : State) : (s.dropQueues).gauge = s.gauge := rfl
@[simp] theorem State.dropQueues_supply (s : State) : (s.dropQueues).supply = s.supply := rfl
@[simp] theorem State.dropQueues_stop (s : State) : (s.dropQueues).stop = s.stop := rfl
@[simp] theorem State.dropQueues_console (s : State) : (s.dropQueues).console = s.console := rfl
@[simp] theorem State.dropQueues_clock (s : State) : (s.dropQueues).clock = s.clock := rfl
@[simp] theorem State.dropQueues_free (s : State) : (s.dropQueues).free = s.free := rfl
@[simp] theorem State.dropQueues_pending (s : State) : (s.dropQueues).pending = s.pending := rfl

/-! ## Changing a filter cell -/

@[simp] theorem State.setCell_link (n : Cell) (x : FilterCell) (s : State) : (s.setCell n x).link = s.link := rfl
@[simp] theorem State.setCell_engine (n : Cell) (x : FilterCell) (s : State) : (s.setCell n x).engine = s.engine := rfl
@[simp] theorem State.setCell_replica (n : Cell) (x : FilterCell) (s : State) : (s.setCell n x).replica = s.replica := rfl
@[simp] theorem State.setCell_wiped (n : Cell) (x : FilterCell) (s : State) : (s.setCell n x).wiped = s.wiped := rfl
@[simp] theorem State.setCell_limitReached (n : Cell) (x : FilterCell) (s : State) : (s.setCell n x).limitReached = s.limitReached := rfl
@[simp] theorem State.setCell_responder (n : Cell) (x : FilterCell) (s : State) : (s.setCell n x).responder = s.responder := rfl
@[simp] theorem State.setCell_port (n : Cell) (x : FilterCell) (s : State) : (s.setCell n x).port = s.port := rfl
@[simp] theorem State.setCell_ident (n : Cell) (x : FilterCell) (s : State) : (s.setCell n x).ident = s.ident := rfl
@[simp] theorem State.setCell_activity (n : Cell) (x : FilterCell) (s : State) : (s.setCell n x).activity = s.activity := rfl
@[simp] theorem State.setCell_outputs (n : Cell) (x : FilterCell) (s : State) : (s.setCell n x).outputs = s.outputs := rfl
@[simp] theorem State.setCell_gauge (n : Cell) (x : FilterCell) (s : State) : (s.setCell n x).gauge = s.gauge := rfl
@[simp] theorem State.setCell_supply (n : Cell) (x : FilterCell) (s : State) : (s.setCell n x).supply = s.supply := rfl
@[simp] theorem State.setCell_stop (n : Cell) (x : FilterCell) (s : State) : (s.setCell n x).stop = s.stop := rfl
@[simp] theorem State.setCell_console (n : Cell) (x : FilterCell) (s : State) : (s.setCell n x).console = s.console := rfl
@[simp] theorem State.setCell_clock (n : Cell) (x : FilterCell) (s : State) : (s.setCell n x).clock = s.clock := rfl
@[simp] theorem State.setCell_free (n : Cell) (x : FilterCell) (s : State) : (s.setCell n x).free = s.free := rfl
@[simp] theorem State.setCell_pending (n : Cell) (x : FilterCell) (s : State) : (s.setCell n x).pending = s.pending := rfl

/-! ## Changing a duty-cycle cell -/

@[simp] theorem State.setDuty_link (n : DutyCell) (d : DutyState) (s : State) : (s.setDuty n d).link = s.link := by
  cases n <;> rfl
@[simp] theorem State.setDuty_engine (n : DutyCell) (d : DutyState) (s : State) : (s.setDuty n d).engine = s.engine := by
  cases n <;> rfl
@[simp] theorem State.setDuty_replica (n : DutyCell) (d : DutyState) (s : State) : (s.setDuty n d).replica = s.replica := by
  cases n <;> rfl
@[simp] theorem State.setDuty_wiped (n : DutyCell) (d : DutyState) (s : State) : (s.setDuty n d).wiped = s.wiped := by
  cases n <;> rfl
@[simp] theorem State.setDuty_limitReached (n : DutyCell) (d : DutyState) (s : State) : (s.setDuty n d).limitReached = s.limitReached := by
  cases n <;> rfl
@[simp] theorem State.setDuty_responder (n : DutyCell) (d : DutyState) (s : State) : (s.setDuty n d).responder = s.responder := by
  cases n <;> rfl
@[simp] theorem State.setDuty_port (n : DutyCell) (d : DutyState) (s : State) : (s.setDuty n d).port = s.port := by
  cases n <;> rfl
@[simp] theorem State.setDuty_ident (n : DutyCell) (d : DutyState) (s : State) : (s.setDuty n d).ident = s.ident := by
  cases n <;> rfl
@[simp] theorem State.setDuty_activity (n : DutyCell) (d : DutyState) (s : State) : (s.setDuty n d).activity = s.activity := by
  cases n <;> rfl
@[simp] theorem State.setDuty_outputs (n : DutyCell) (d : DutyState) (s : State) : (s.setDuty n d).outputs = s.outputs := by
  cases n <;> rfl
@[simp] theorem State.setDuty_gauge (n : DutyCell) (d : DutyState) (s : State) : (s.setDuty n d).gauge = s.gauge := by
  cases n <;> rfl
@[simp] theorem State.setDuty_supply (n : DutyCell) (d : DutyState) (s : State) : (s.setDuty n d).supply = s.supply := by
  cases n <;> rfl
@[simp] theorem State.setDuty_stop (n : DutyCell) (d : DutyState) (s : State) : (s.setDuty n d).stop = s.stop := by
  cases n <;> rfl
@[simp] theorem State.setDuty_console (n : DutyCell) (d : DutyState) (s : State) : (s.setDuty n d).console = s.console := by
  cases n <;> rfl
@[simp] theorem State.setDuty_clock (n : DutyCell) (d : DutyState) (s : State) : (s.setDuty n d).clock = s.clock := by
  cases n <;> rfl
@[simp] theorem State.setDuty_free (n : DutyCell) (d : DutyState) (s : State) : (s.setDuty n d).free = s.free := by
  cases n <;> rfl
@[simp] theorem State.setDuty_pending (n : DutyCell) (d : DutyState) (s : State) : (s.setDuty n d).pending = s.pending := by
  cases n <;> rfl

/-! ## Changing the inlet context -/

@[simp] theorem State.modContext_link (f : Inlet → Inlet) (s : State) : (s.modContext f).link = s.link := rfl
@[simp] theorem State.modContext_engine (f : Inlet → Inlet) (s : State) : (s.modContext f).engine = s.engine := rfl
@[simp] theorem State.modContext_replica (f : Inlet → Inlet) (s : State) : (s.modContext f).replica = s.replica := rfl
@[simp] theorem State.modContext_wiped (f : Inlet → Inlet) (s : State) : (s.modContext f).wiped = s.wiped := rfl
@[simp] theorem State.modContext_limitReached (f : Inlet → Inlet) (s : State) : (s.modContext f).limitReached = s.limitReached := rfl
@[simp] theorem State.modContext_responder (f : Inlet → Inlet) (s : State) : (s.modContext f).responder = s.responder := rfl
@[simp] theorem State.modContext_port (f : Inlet → Inlet) (s : State) : (s.modContext f).port = s.port := rfl
@[simp] theorem State.modContext_meter (f : Inlet → Inlet) (s : State) : (s.modContext f).meter = s.meter := rfl
@[simp] theorem State.modContext_activity (f : Inlet → Inlet) (s : State) : (s.modContext f).activity = s.activity := rfl
@[simp] theorem State.modContext_outputs (f : Inlet → Inlet) (s : State) : (s.modContext f).outputs = s.outputs := rfl
@[simp] theorem State.modContext_gauge (f : Inlet → Inlet) (s : State) : (s.modContext f).gauge = s.gauge := rfl
@[simp] theorem State.modContext_supply (f : Inlet → Inlet) (s : State) : (s.modContext f).supply = s.supply := rfl
@[simp] theorem State.modContext_stop (f : Inlet → Inlet) (s : State) : (s.modContext f).stop = s.stop := rfl
@[simp] theorem State.modContext_console (f : Inlet → Inlet) (s : State) : (s.modContext f).console = s.console := rfl
@[simp] theorem State.modContext_clock (f : Inlet → Inlet) (s : State) : (s.modContext f).clock = s.clock := rfl
@[simp] theorem State.modContext_free (f : Inlet → Inlet) (s : State) : (s.modContext f).free = s.free := rfl
@[simp] theorem State.modContext_pending (f : Inlet → Inlet) (s : State) : (s.modContext f).pending = s.pending := rfl

/-! ## Making a tag command due -/

@[simp] theorem State.sendTag_link (c : TagCommand) (u : TagPurpose) (s : State) : (s.sendTag c u).link = s.link := rfl
@[simp] theorem State.sendTag_engine (c : TagCommand) (u : TagPurpose) (s : State) : (s.sendTag c u).engine = s.engine := rfl
@[simp] theorem State.sendTag_replica (c : TagCommand) (u : TagPurpose) (s : State) : (s.sendTag c u).replica = s.replica := rfl
@[simp] theorem State.sendTag_wiped (c : TagCommand) (u : TagPurpose) (s : State) : (s.sendTag c u).wiped = s.wiped := rfl
@[simp] theorem State.sendTag_limitReached (c : TagCommand) (u : TagPurpose) (s : State) : (s.sendTag c u).limitReached = s.limitReached := rfl
@[simp] theorem State.sendTag_responder (c : TagCommand) (u : TagPurpose) (s : State) : (s.sendTag c u).responder = s.responder := rfl
@[simp] theorem State.sendTag_ident (c : TagCommand) (u : TagPurpose) (s : State) : (s.sendTag c u).ident = s.ident := rfl
@[simp] theorem State.sendTag_meter (c : TagCommand) (u : TagPurpose) (s : State) : (s.sendTag c u).meter = s.meter := rfl
@[simp] theorem State.sendTag_activity (c : TagCommand) (u : TagPurpose) (s : State) : (s.sendTag c u).activity = s.activity := rfl
@[simp] theorem State.sendTag_outputs (c : TagCommand) (u : TagPurpose) (s : State) : (s.sendTag c u).outputs = s.outputs := rfl
@[simp] theorem State.sendTag_gauge (c : TagCommand) (u : TagPurpose) (s : State) : (s.sendTag c u).gauge = s.gauge := rfl
@[simp] theorem State.sendTag_supply (c : TagCommand) (u : TagPurpose) (s : State) : (s.sendTag c u).supply = s.supply := rfl
@[simp] theorem State.sendTag_stop (c : TagCommand) (u : TagPurpose) (s : State) : (s.sendTag c u).stop = s.stop := rfl
@[simp] theorem State.sendTag_console (c : TagCommand) (u : TagPurpose) (s : State) : (s.sendTag c u).console = s.console := rfl
@[simp] theorem State.sendTag_clock (c : TagCommand) (u : TagPurpose) (s : State) : (s.sendTag c u).clock = s.clock := rfl
@[simp] theorem State.sendTag_free (c : TagCommand) (u : TagPurpose) (s : State) : (s.sendTag c u).free = s.free := rfl
@[simp] theorem State.sendTag_pending (c : TagCommand) (u : TagPurpose) (s : State) : (s.sendTag c u).pending = s.pending := rfl

/-! ## Discarding the inlet context -/

@[simp] theorem State.discardContext_link (s : State) : (s.discardContext).link = s.link := rfl
@[simp] theorem State.discardContext_engine (s : State) : (s.discardContext).engine = s.engine := rfl
@[simp] theorem State.discardContext_replica (s : State) : (s.discardContext).replica = s.replica := rfl
@[simp] theorem State.discardContext_wiped (s : State) : (s.discardContext).wiped = s.wiped := rfl
@[simp] theorem State.discardContext_limitReached (s : State) : (s.discardContext).limitReached = s.limitReached := rfl
@[simp] theorem State.discardContext_responder (s : State) : (s.discardContext).responder = s.responder := rfl
@[simp] theorem State.discardContext_meter (s : State) : (s.discardContext).meter = s.meter := rfl
@[simp] theorem State.discardContext_activity (s : State) : (s.discardContext).activity = s.activity := rfl
@[simp] theorem State.discardContext_outputs (s : State) : (s.discardContext).outputs = s.outputs := rfl
@[simp] theorem State.discardContext_gauge (s : State) : (s.discardContext).gauge = s.gauge := rfl
@[simp] theorem State.discardContext_supply (s : State) : (s.discardContext).supply = s.supply := rfl
@[simp] theorem State.discardContext_stop (s : State) : (s.discardContext).stop = s.stop := rfl
@[simp] theorem State.discardContext_console (s : State) : (s.discardContext).console = s.console := rfl
@[simp] theorem State.discardContext_clock (s : State) : (s.discardContext).clock = s.clock := rfl
@[simp] theorem State.discardContext_free (s : State) : (s.discardContext).free = s.free := rfl
@[simp] theorem State.discardContext_pending (s : State) : (s.discardContext).pending = s.pending := rfl

/-! ## Withdrawing the output requests -/

@[simp] theorem State.outputsOff_link (s : State) : (s.outputsOff).link = s.link := rfl
@[simp] theorem State.outputsOff_engine (s : State) : (s.outputsOff).engine = s.engine := rfl
@[simp] theorem State.outputsOff_replica (s : State) : (s.outputsOff).replica = s.replica := rfl
@[simp] theorem State.outputsOff_wiped (s : State) : (s.outputsOff).wiped = s.wiped := rfl
@[simp] theorem State.outputsOff_limitReached (s : State) : (s.outputsOff).limitReached = s.limitReached := rfl
@[simp] theorem State.outputsOff_responder (s : State) : (s.outputsOff).responder = s.responder := rfl
@[simp] theorem State.outputsOff_port (s : State) : (s.outputsOff).port = s.port := rfl
@[simp] theorem State.outputsOff_ident (s : State) : (s.outputsOff).ident = s.ident := rfl
@[simp] theorem State.outputsOff_meter (s : State) : (s.outputsOff).meter = s.meter := rfl
@[simp] theorem State.outputsOff_activity (s : State) : (s.outputsOff).activity = s.activity := rfl
@[simp] theorem State.outputsOff_gauge (s : State) : (s.outputsOff).gauge = s.gauge := rfl
@[simp] theorem State.outputsOff_supply (s : State) : (s.outputsOff).supply = s.supply := rfl
@[simp] theorem State.outputsOff_stop (s : State) : (s.outputsOff).stop = s.stop := rfl
@[simp] theorem State.outputsOff_console (s : State) : (s.outputsOff).console = s.console := rfl
@[simp] theorem State.outputsOff_clock (s : State) : (s.outputsOff).clock = s.clock := rfl
@[simp] theorem State.outputsOff_free (s : State) : (s.outputsOff).free = s.free := rfl
@[simp] theorem State.outputsOff_pending (s : State) : (s.outputsOff).pending = s.pending := rfl

/-! ## Emptying the activity context -/

@[simp] theorem State.clearActivity_link (p : Option Nat) (s : State) : (s.clearActivity p).link = s.link := rfl
@[simp] theorem State.clearActivity_engine (p : Option Nat) (s : State) : (s.clearActivity p).engine = s.engine := rfl
@[simp] theorem State.clearActivity_replica (p : Option Nat) (s : State) : (s.clearActivity p).replica = s.replica := rfl
@[simp] theorem State.clearActivity_wiped (p : Option Nat) (s : State) : (s.clearActivity p).wiped = s.wiped := rfl
@[simp] theorem State.clearActivity_limitReached (p : Option Nat) (s : State) : (s.clearActivity p).limitReached = s.limitReached := rfl
@[simp] theorem State.clearActivity_responder (p : Option Nat) (s : State) : (s.clearActivity p).responder = s.responder := rfl
@[simp] theorem State.clearActivity_port (p : Option Nat) (s : State) : (s.clearActivity p).port = s.port := rfl
@[simp] theorem State.clearActivity_ident (p : Option Nat) (s : State) : (s.clearActivity p).ident = s.ident := rfl
@[simp] theorem State.clearActivity_meter (p : Option Nat) (s : State) : (s.clearActivity p).meter = s.meter := rfl
@[simp] theorem State.clearActivity_outputs (p : Option Nat) (s : State) : (s.clearActivity p).outputs = s.outputs := rfl
@[simp] theorem State.clearActivity_gauge (p : Option Nat) (s : State) : (s.clearActivity p).gauge = s.gauge := rfl
@[simp] theorem State.clearActivity_supply (p : Option Nat) (s : State) : (s.clearActivity p).supply = s.supply := rfl
@[simp] theorem State.clearActivity_stop (p : Option Nat) (s : State) : (s.clearActivity p).stop = s.stop := rfl
@[simp] theorem State.clearActivity_console (p : Option Nat) (s : State) : (s.clearActivity p).console = s.console := rfl
@[simp] theorem State.clearActivity_clock (p : Option Nat) (s : State) : (s.clearActivity p).clock = s.clock := rfl
@[simp] theorem State.clearActivity_free (p : Option Nat) (s : State) : (s.clearActivity p).free = s.free := rfl
@[simp] theorem State.clearActivity_pending (p : Option Nat) (s : State) : (s.clearActivity p).pending = s.pending := rfl

/-! ## Putting a reply in the buffer -/

@[simp] theorem State.reply_link (bs : List Byte) (n : Bool) (s : State) : (s.reply bs n).link = s.link := rfl
@[simp] theorem State.reply_engine (bs : List Byte) (n : Bool) (s : State) : (s.reply bs n).engine = s.engine := rfl
@[simp] theorem State.reply_replica (bs : List Byte) (n : Bool) (s : State) : (s.reply bs n).replica = s.replica := rfl
@[simp] theorem State.reply_wiped (bs : List Byte) (n : Bool) (s : State) : (s.reply bs n).wiped = s.wiped := rfl
@[simp] theorem State.reply_limitReached (bs : List Byte) (n : Bool) (s : State) : (s.reply bs n).limitReached = s.limitReached := rfl
@[simp] theorem State.reply_responder (bs : List Byte) (n : Bool) (s : State) : (s.reply bs n).responder = s.responder := rfl
@[simp] theorem State.reply_port (bs : List Byte) (n : Bool) (s : State) : (s.reply bs n).port = s.port := rfl
@[simp] theorem State.reply_ident (bs : List Byte) (n : Bool) (s : State) : (s.reply bs n).ident = s.ident := rfl
@[simp] theorem State.reply_meter (bs : List Byte) (n : Bool) (s : State) : (s.reply bs n).meter = s.meter := rfl
@[simp] theorem State.reply_activity (bs : List Byte) (n : Bool) (s : State) : (s.reply bs n).activity = s.activity := rfl
@[simp] theorem State.reply_outputs (bs : List Byte) (n : Bool) (s : State) : (s.reply bs n).outputs = s.outputs := rfl
@[simp] theorem State.reply_gauge (bs : List Byte) (n : Bool) (s : State) : (s.reply bs n).gauge = s.gauge := rfl
@[simp] theorem State.reply_supply (bs : List Byte) (n : Bool) (s : State) : (s.reply bs n).supply = s.supply := rfl
@[simp] theorem State.reply_stop (bs : List Byte) (n : Bool) (s : State) : (s.reply bs n).stop = s.stop := rfl
@[simp] theorem State.reply_clock (bs : List Byte) (n : Bool) (s : State) : (s.reply bs n).clock = s.clock := rfl
@[simp] theorem State.reply_free (bs : List Byte) (n : Bool) (s : State) : (s.reply bs n).free = s.free := rfl
@[simp] theorem State.reply_pending (bs : List Byte) (n : Bool) (s : State) : (s.reply bs n).pending = s.pending := rfl

/-! ## The fields that the updates change -/

@[simp] theorem State.raise_notices (b : NoticeBody) (s : State) :
    (s.raise b).console.notices = s.console.notices := rfl
@[simp] theorem State.raise_raised (b : NoticeBody) (s : State) :
    (s.raise b).console.raised = s.console.raised ++ [{ seq := s.replica.site.seq, body := b }] := rfl
@[simp] theorem State.commitNotices_raised (s : State) : s.commitNotices.console.raised = [] := rfl
@[simp] theorem State.offer_link (o : Origin) (p : Payload) (s : State) :
    (s.offer o p).link = s.link.offer o 0 p := rfl
@[simp] theorem State.popInbound_inbound (s : State) :
    s.popInbound.link.inbound = s.link.inbound.drop 1 := rfl
@[simp] theorem State.setLink_state (st : LinkState) (r : Reason) (s : State) :
    (s.setLink st r).link.state = st := rfl
@[simp] theorem State.setLink_reason (st : LinkState) (r : Reason) (s : State) :
    (s.setLink st r).link.reason = r := rfl
@[simp] theorem State.setPhase_phase (p : RecordPhase) (s : State) :
    (s.setPhase p).supply.phase = p := rfl
@[simp] theorem State.setPhase_record (p : RecordPhase) (s : State) :
    (s.setPhase p).supply.record = s.supply.record := rfl
@[simp] theorem State.modRecord_record (f : ActRecord → ActRecord) (s : State) :
    (s.modRecord f).supply.record = s.supply.record.map f := rfl
@[simp] theorem State.clearRecord_record (s : State) : s.clearRecord.supply.record = none := rfl
@[simp] theorem State.modContext_context (f : Inlet → Inlet) (s : State) :
    (s.modContext f).ident.context = s.ident.context.map f := rfl
@[simp] theorem State.outputsOff_outputs (s : State) :
    s.outputsOff.outputs = { pump := false, vmain := false, vtrim := false } := rfl

end Sys2Proof.Machine
end

