-- ==== Sys2Proof/Laws/Step.lean ====
section
/-! SUPPORT. What surrounds a command: entering the notices of a step, and the supply. -/

namespace Sys2Proof.Machine

/-- With no notice raised, nothing is entered. -/
theorem commitNotices_of_no_notice {s : State} (h : s.console.raised = []) : s.commitNotices = s := by
  obtain ⟨link, engine, replica, wiped, limitReached, responder, port, ident, meter, activity, outputs, gauge,
    supply, stop, console, clock, free, pending⟩ := s
  obtain ⟨request, selected, replies, noticeClocked, notices, lost, releasing, config, started,
    resetPending, raised⟩ := console
  simp only at h
  subst h
  rfl

/-- One notice raised is entered. -/
theorem commitNotices_raise {s : State} (b : NoticeBody) (h : s.console.raised = []) :
    (s.raise b).commitNotices = s.noticed b := by
  obtain ⟨link, engine, replica, wiped, limitReached, responder, port, ident, meter, activity, outputs, gauge,
    supply, stop, console, clock, free, pending⟩ := s
  obtain ⟨request, selected, replies, noticeClocked, notices, lost, releasing, config, started,
    resetPending, raised⟩ := console
  simp only at h
  subst h
  by_cases hn : notices.length < 16 <;>
    simp [State.raise, State.commitNotices, State.noticed, mixedBlocks, Console.enter, hn]

/-- With the supply up a command has its effect. -/
theorem act_of_live {s : State} (f : State → State) (h : s.Live) : s.act f = (f s).commitNotices := by
  simp [State.act, h.1]

/-- A command that raises no notice leaves just its effect. -/
theorem act_of_no_notice {s : State} (f : State → State) (h : s.Live) (hf : (f s).console.raised = []) :
    s.act f = f s := by
  rw [act_of_live f h, commitNotices_of_no_notice hf]

/-- In POWER_DOWN no block takes any event. -/
theorem act_of_powerDown {s : State} (f : State → State) (h : s.supply.state = .powerDown) :
    s.act f = s := by
  simp [State.act, h]

end Sys2Proof.Machine
end

