-- ==== Sys2Proof/Laws/Exec.lean ====
section
/-! SUPPORT. What a command answers, and what applying a frame and taking a console request come to. -/

namespace Sys2Proof.Machine

/-- Every command answers a next state: no fault and no refusal. -/
theorem exec_answers_next (c : Instr) (s : State) : ∃ t, exec c s = .next t := by
  cases c <;> exact ⟨_, rfl⟩

/-- Every step answers a next state. -/
theorem step_answers_next (s : State) : ∃ t, step s = .next t := by
  unfold step
  split
  · exact ⟨_, rfl⟩
  · exact exec_answers_next _ _

@[simp] theorem State.popNext_replica (s : State) : s.popNext.replica = s.replica := by
  unfold State.popNext; split <;> rfl
@[simp] theorem State.popNext_limitReached (s : State) : s.popNext.limitReached = s.limitReached := by
  unfold State.popNext; split <;> rfl
@[simp] theorem State.popNext_free (s : State) : s.popNext.free = s.free := by
  unfold State.popNext; split <;> rfl

/-- The row of a frame on the tables alone begins its write, and does nothing else. -/
theorem applyRow_of_applies {s : State} {f : Frame} {sel : Payload → Bool} (h : s.AppliesNext f)
    (hs : sel f.payload = true)
    (hl : ∀ (res : ApplyResult) (x : State), State.localEffects f res x = x) :
    s.applyRow sel = s.writes f (applyEffect s.replica.counted f) := by
  obtain ⟨_, hf, hq⟩ := h
  simp only [State.applyRow, hf, hs, if_true, State.beginWrite, hl]
  simp only [State.writes, applyFrame, nextSeq, freeAfterSeq, hq, if_true, Replica.counted,
    State.popNext_replica, State.popNext_free]

/-- A frame that the row does not select leaves the state as it is. -/
theorem applyRow_of_other {s : State} {sel : Payload → Bool}
    (h : ∀ f, s.toApply = some f → sel f.payload = false) : s.applyRow sel = s := by
  unfold State.applyRow
  split
  · rename_i f hf
    simp [h f hf]
  · rfl

/-! ## Console requests (R175, R176) -/

/-- A request behind an earlier one of the same transaction is ignored. -/
theorem request_of_later {s : State} {code : Byte} {body : List Byte} {fits : Bool}
    {f : State → State × List Byte} (h : s.console.request ≠ []) : s.request code body fits f = s := by
  have : s.console.request.isEmpty = false := by
    cases hr : s.console.request with
    | nil => exact absurd hr h
    | cons _ _ => rfl
  simp [State.request, this]

/-- A request that does not fit is answered BAD_REQUEST, at a free port with the supply up. -/
theorem request_of_unfit {s : State} (code : Byte) (body : List Byte)
    (f : State → State × List Byte) (hq : s.console.request = []) (hr : s.console.replies = [])
    (hs : s.supply.state = .normal) :
    s.request code body false f = State.reply badRequestReply false
      { s with console := { s.console with
        request := code :: leBytes 2 body.length ++ body, selected := true } } := by
  simp [State.request, hq, hr, hs]

/-- A request that fits is answered by the block that owns it, at a free port with the supply up. -/
theorem request_of_fit {s : State} (code : Byte) (body : List Byte)
    (f : State → State × List Byte) (hq : s.console.request = []) (hr : s.console.replies = [])
    (hs : s.supply.state = .normal) :
    s.request code body true f =
      let r := f { s with console := { s.console with
        request := code :: leBytes 2 body.length ++ body, selected := true } }
      r.1.reply r.2 (code == 0x06) := by
  simp [State.request, hq, hr, hs]

end Sys2Proof.Machine
end

