-- ==== Sys2Proof/Laws/Queue.lean ====
section
/-! SUPPORT. The shared operations of the queues: what offering, replacing, keeping and removing do to the transmit
queue (R14 to R16), and the bounds of the inbound and the notice queue (R18, R185). -/

namespace Sys2Proof.Machine

/-! ## Transmit queue -/

theorem Link.queued_eq_none {l : Link} {o : Origin} :
    l.queued o = none ↔ ∀ e ∈ l.tx, e.origin ≠ o := by
  simp [Link.queued, List.find?_eq_none]

theorem Link.queued_some {l : Link} {o : Origin} {e : TxEntry} (h : l.queued o = some e) :
    e ∈ l.tx ∧ e.origin = o :=
  ⟨List.mem_of_find?_eq_some h, by simpa using List.find?_some h⟩

/-- With no frame queued an offer enters the queue. -/
theorem Link.offer_of_none {l : Link} {o : Origin} (d : Nat) (p : Payload) (h : l.queued o = none) :
    l.offer o d p = l.enter o d p := by
  simp [Link.offer, h]

/-- An offer that replaces a queued PROGRESS drops what the block keeps. -/
theorem Link.offer_of_replaces {l : Link} {o : Origin} {e : TxEntry} (d : Nat) (p : Payload)
    (h : l.queued o = some e) (hr : replaces p e.payload = true) (hw : l.onWire o = false) :
    l.offer o d p = (l.replace o d p).dropKept o := by
  simp [Link.offer, h, hr, hw]

/-- An offer that is refused is kept. -/
theorem Link.offer_of_busy {l : Link} {o : Origin} {e : TxEntry} (d : Nat) (p : Payload)
    (h : l.queued o = some e) (hr : replaces p e.payload = false ∨ l.onWire o = true) :
    l.offer o d p = l.keep o d p := by
  rcases hr with hr | hr <;> simp [Link.offer, h, hr]

@[simp] theorem Link.enter_origins (l : Link) (o : Origin) (d : Nat) (p : Payload) :
    (l.enter o d p).tx.map TxEntry.origin = l.tx.map TxEntry.origin ++ [o] := by
  simp [Link.enter]

@[simp] theorem Link.replace_origins (l : Link) (o : Origin) (d : Nat) (p : Payload) :
    (l.replace o d p).tx.map TxEntry.origin = l.tx.map TxEntry.origin := by
  simp only [Link.replace, List.map_map]
  apply List.map_congr_left
  intro e _
  simp only [Function.comp]
  split <;> rfl

@[simp] theorem Link.keep_tx (l : Link) (o : Origin) (d : Nat) (p : Payload) :
    (l.keep o d p).tx = l.tx := rfl

@[simp] theorem Link.dropKept_tx (l : Link) (o : Origin) : (l.dropKept o).tx = l.tx := rfl

/-- Each block has one frame in the queue at most, also after an offer. -/
theorem Link.offer_nodup {l : Link} (o : Origin) (d : Nat) (p : Payload)
    (h : (l.tx.map TxEntry.origin).Nodup) : ((l.offer o d p).tx.map TxEntry.origin).Nodup := by
  unfold Link.offer
  split
  · rename_i hn
    rw [Link.enter_origins, List.nodup_append]
    refine ⟨h, by simp, ?_⟩
    intro a ha b hb
    obtain ⟨e, he, rfl⟩ := List.mem_map.mp ha
    simp only [List.mem_singleton] at hb
    subst hb
    exact Link.queued_eq_none.mp hn e he
  · split
    · simpa using h
    · simpa using h

theorem Link.remove_nodup {l : Link} (o : Origin) (h : (l.tx.map TxEntry.origin).Nodup) :
    ((l.remove o).tx.map TxEntry.origin).Nodup :=
  List.Nodup.sublist (List.Sublist.map _ List.filter_sublist) h

/-- After a removal the block has no frame in the queue. -/
theorem Link.remove_queued (l : Link) (o : Origin) : (l.remove o).queued o = none := by
  rw [Link.queued_eq_none]
  intro e he
  simpa using (List.mem_filter.mp he).2

/-- What enters a queue that holds no frame of its block is what the block then has there. -/
theorem Link.enter_queued {l : Link} {o : Origin} (d : Nat) (p : Payload) (h : l.queued o = none) :
    (l.enter o d p).queued o =
      some { origin := o, dest := d, payload := p, voids := 0, entered := l.entered } := by
  simp only [Link.queued, Link.enter, List.find?_append] at h ⊢
  simp [h]

/-- What a block keeps is gone once it is dropped. -/
theorem Link.dropKept_kept {l : Link} {o : Origin} : ∀ k ∈ (l.dropKept o).kept, k.origin ≠ o := by
  intro k hk
  simpa using (List.mem_filter.mp hk).2

/-- A block with no frame queued has none to withdraw. -/
theorem Link.withdrawable_of_none {l : Link} {o : Origin} (k : Kind) (h : l.queued o = none) :
    l.withdrawable o k = false := by
  simp [Link.withdrawable, h]

@[simp] theorem Link.enter_inbound (l : Link) (o : Origin) (d : Nat) (p : Payload) :
    (l.enter o d p).inbound = l.inbound := rfl
@[simp] theorem Link.offer_inbound (l : Link) (o : Origin) (d : Nat) (p : Payload) :
    (l.offer o d p).inbound = l.inbound := by
  unfold Link.offer; split <;> (try split) <;> rfl
@[simp] theorem Link.offer_state (l : Link) (o : Origin) (d : Nat) (p : Payload) :
    (l.offer o d p).state = l.state := by
  unfold Link.offer; split <;> (try split) <;> rfl
@[simp] theorem Link.offer_wire (l : Link) (o : Origin) (d : Nat) (p : Payload) :
    (l.offer o d p).wire = l.wire := by
  unfold Link.offer; split <;> (try split) <;> rfl

/-- An offer leaves what the other blocks have in the queue. -/
theorem Link.offer_queued_ne {l : Link} {o o' : Origin} (d : Nat) (p : Payload) (h : o ≠ o') :
    (l.offer o d p).queued o' = l.queued o' := by
  unfold Link.offer
  split
  · simp [Link.enter, Link.queued, List.find?_append, h]
  · split
    · simp only [Link.dropKept, Link.replace, Link.queued]
      generalize l.tx = es
      induction es with
      | nil => rfl
      | cons a es ih =>
        simp only [List.map_cons, List.find?_cons]
        by_cases ha : a.origin = o
        · have hb : (a.origin == o') = false := by simpa [ha] using h
          have hc : (o == o') = false := by simpa using h
          simp only [ha, if_true, hc]
          exact ih
        · simp only [ha, if_false]
          cases a.origin == o' <;> simp_all
    · rfl

@[simp] theorem Link.remove_inbound (l : Link) (o : Origin) : (l.remove o).inbound = l.inbound := rfl

/-! ## A frame that leaves, and what the activity controller offers -/

/-- With the frame that was on the wire gone from the queue, its block offers the frame that it keeps (R14). -/
theorem Link.remove_offerKept {l : Link} {o : Origin} (h : l.onWire o = true ∨ l.wire = none) :
    (l.remove o).offerKept o = l.afterLeaving o := by
  have hw : (if l.onWire o = true then none else l.wire) = none := by
    rcases h with h | h <;> simp [h]
  unfold Link.offerKept Link.afterLeaving
  rw [Link.remove_queued]
  cases hk : l.kept.find? fun k => k.origin == o <;>
    simp [Link.remove, Link.dropKept, Link.enter, hw, hk]

/-- A frame leaves whose outcome its block does not act on: what the block keeps is offered, and nothing else is done. -/
theorem State.frameLeaves_of_unheeded {s : State} {e : TxEntry} {oc : TxOutcome}
    (hw : s.link.onWire e.origin = true ∨ s.link.wire = none)
    (h : ∀ l, State.blockOutcome e.origin e.payload oc { s with link := l } = { s with link := l }) :
    s.frameLeaves e oc = { s with link := s.link.afterLeaving e.origin } := by
  simp only [State.frameLeaves, h, Link.remove_offerKept hw]

/-- An offer of the activity controller is what ActivityOffers says. -/
theorem State.activityOffers_offer (s : State) (p : Payload) : s.ActivityOffers p (s.offer .activity p) := by
  refine ⟨fun h => by simp [State.offer, Link.offer_of_none 0 p h, Link.enter, State.withOffer, State.newEntry], ?_⟩
  intro e he
  have hr : replaces p e.payload = true ↔ e.payload.kind? = some .progress ∧ p.activitySeq.isSome = true
      ∧ (p.kind? = some .progress ∨ p.activitySeq = e.payload.activitySeq) := by
    simp [replaces, and_assoc]
  refine ⟨fun h => ?_, fun h => ?_⟩
  · rw [State.offer, Link.offer_of_replaces 0 p he (hr.mpr h.2) h.1]; rfl
  · have : replaces p e.payload = false ∨ s.link.onWire .activity = true := by
      cases hw : s.link.onWire .activity
      · exact .inl (by simpa using fun hp => h ⟨hw, hr.mp hp⟩)
      · exact .inr rfl
    rw [State.offer, Link.offer_of_busy 0 p he this]; rfl

/-- What the offer says of the next state is said of its link engine alone. -/
theorem State.ActivityOffers.congr {s t u : State} {p : Payload} (h : s.ActivityOffers p t) (hl : u.link = t.link) :
    s.ActivityOffers p u := by
  simpa only [State.ActivityOffers, hl] using h

/-! ## The frame to contend with -/

theorem firstInOrder_mem {l : List TxEntry} {e : TxEntry} (h : firstInOrder l = some e) : e ∈ l := by
  induction l generalizing e with
  | nil => cases h
  | cons a as ih =>
    unfold firstInOrder at h
    cases hm : firstInOrder as with
    | none =>
      rw [hm] at h
      cases h
      exact List.mem_cons_self
    | some m =>
      rw [hm] at h
      simp only at h
      split at h
      · cases h
        exact List.mem_cons_of_mem _ (ih hm)
      · cases h
        exact List.mem_cons_self

/-- The frame to contend with is queued, and the link state may send it. -/
theorem Link.nextToSend_mem {l : Link} {e : TxEntry} (h : l.nextToSend = some e) :
    e ∈ l.tx ∧ l.maySend e.payload = true := by
  have := List.mem_filter.mp (firstInOrder_mem h)
  exact ⟨this.1, by simpa using this.2⟩

/-! ## Inbound queue and notice queue -/

theorem Link.enqueue_length {l : Link} (f : Frame) (h : l.inbound.length ≤ 8) :
    (l.enqueue f).inbound.length ≤ 8 := by
  unfold Link.enqueue
  split
  · simp; omega
  · exact h

theorem Console.enter_length {c : Console} (n : Notice) (h : c.notices.length ≤ 16) :
    (c.enter n).notices.length ≤ 16 := by
  unfold Console.enter
  split
  · simp; omega
  · exact h

theorem Console.foldl_enter_length (ns : List Notice) {c : Console} (h : c.notices.length ≤ 16) :
    (ns.foldl Console.enter c).notices.length ≤ 16 := by
  induction ns generalizing c with
  | nil => exact h
  | cons n ns ih => exact ih (Console.enter_length n h)

/-- Entering the notices of a step keeps the bound of the notice queue. -/
theorem State.commitNotices_length {s : State} (h : s.console.notices.length ≤ 16) :
    s.commitNotices.console.notices.length ≤ 16 := by
  unfold State.commitNotices
  exact Console.foldl_enter_length _ h

end Sys2Proof.Machine
end

