-- ==== Sys2Proof/Laws/Recovery.lean ====
section
/-! SUPPORT. Recovery of the retained record (R167 to R169), and the end of a donation, which lets it go on (R38): what
they do, and what they leave. -/

namespace Sys2Proof.Machine

/-- Recovery by the own entry: the frame of recoveryOf is offered, or the record is cleared, with RECORD_UNMATCHED where
the last ended activity is another one. -/
theorem State.recover_eq {s : State} {r : ActRecord} {e : StationEntry} (he : s.replica.station? s.me = some e) :
    s.recover r =
      match recoveryOf r e s.clock with
      | some p => s.offerRecovery p
      | none =>
        if e.last.map LastEnded.openSeq = some r.openSeq then s.clearRecord
        else s.clearRecord.raise (.recordUnmatched r.openSeq r.kind r.gross) := by
  have hlast : e.activity.map OpenActivity.openSeq ≠ some r.openSeq →
      s.recoverByLast r e.last =
        match recoveryOf r e s.clock with
        | some p => s.offerRecovery p
        | none =>
          if e.last.map LastEnded.openSeq = some r.openSeq then s.clearRecord
          else s.clearRecord.raise (.recordUnmatched r.openSeq r.kind r.gross) := by
    intro ha
    simp only [recoveryOf, if_neg ha, State.recoverByLast]
    cases e.last with
    | none => rfl
    | some l =>
      by_cases h1 : l.openSeq = r.openSeq
      · cases hk : l.kind <;> by_cases h2 : l.billed = r.gross <;> simp [h1, hk, h2, ActRecord.adjusting]
      · simp [h1]
  simp only [State.recover, State.ownEntry, he]
  cases ha : e.activity with
  | none => exact hlast (by simp [ha])
  | some a =>
    by_cases hs : a.openSeq = r.openSeq
    · cases hk : r.kind <;> simp [recoveryOf, ha, hs, hk, ActRecord.closing]
    · simp only [if_neg hs]
      exact hlast (by simpa [ha] using hs)

/-- Recovery runs for a held record at an admitted station that is not frozen and waits for no census. -/
theorem State.runRecovery_of_held {s : State} {r : ActRecord} (hr : s.supply.record = some r)
    (hp : s.supply.phase = .held) (ha : s.engine.admitted = true) (hf : s.engine.freeze = false)
    (hw : s.supply.waitCensus = false) : s.runRecovery = s.recover r := by
  simp [State.runRecovery, hr, hp, ha, hf, hw]

/-- It does not run at another station. -/
theorem State.runRecovery_of_not {s : State}
    (h : s.engine.admitted = false ∨ s.engine.freeze = true ∨ s.supply.waitCensus = true) :
    s.runRecovery = s := by
  unfold State.runRecovery
  split
  · rcases h with h | h | h <;> simp [h]
  · rfl

/-- What the frames of another block leave in the queue. -/
abbrev State.LeavesDonation (s t : State) : Prop :=
  t.engine = s.engine ∧ t.replica = s.replica ∧ t.link.wire = s.link.wire
    ∧ t.link.inbound = s.link.inbound ∧ t.link.queued .donation = s.link.queued .donation

theorem State.offerRecovery_leaves (p : Payload) (s : State) : s.LeavesDonation (s.offerRecovery p) :=
  ⟨rfl, rfl, Link.offer_wire _ _ _ _, Link.offer_inbound _ _ _ _, Link.offer_queued_ne _ _ (by decide)⟩

/-- Recovery leaves the engine, the tables, the wire and the place of the donation. -/
theorem State.runRecovery_leaves (s : State) : s.LeavesDonation s.runRecovery := by
  unfold State.runRecovery State.recover State.recoverByLast
  repeat' split
  all_goals first | exact State.offerRecovery_leaves _ s | exact ⟨rfl, rfl, rfl, rfl, rfl⟩

/-- So does the responder. -/
theorem State.responderPump_leaves (s : State) : s.LeavesDonation s.responderPump := by
  unfold State.responderPump
  repeat' split
  all_goals first
    | exact ⟨rfl, rfl, rfl, rfl, rfl⟩
    | exact ⟨rfl, rfl, Link.offer_wire _ _ _ _, Link.offer_inbound _ _ _ _, Link.offer_queued_ne _ _ (by decide)⟩

/-- The thaw clears the freeze and the stream, and leaves the rest of the engine, the tables, the wire and the place of
the donation (R38). -/
theorem State.thaw_leaves (s : State) :
    { s with engine := { s.engine with freeze := false, stream := none } }.LeavesDonation s.thaw := by
  unfold State.thaw
  generalize hu : ({ s with
    engine := { s.engine with freeze := false, stream := none }
    responder := s.responder.await s.engine.deferred.isEmpty } : State) = u
  obtain ⟨a1, a2, a3, a4, a5⟩ := State.responderPump_leaves u.runRecovery
  obtain ⟨b1, b2, b3, b4, b5⟩ := State.runRecovery_leaves u
  subst hu
  exact ⟨a1.trans b1, a2.trans b2, a3.trans b3, a4.trans b4, a5.trans b5⟩

end Sys2Proof.Machine
end

