-- ==== Sys2Proof/Laws/Stop.lean ====
section
/-! SUPPORT. What the console stop path does as the stop becomes wanted (R171), and what a write-back request changes as
it is taken (R67). -/

namespace Sys2Proof.Machine

/-! ## The stop path (R171) -/

theorem StopPath.reason_eq (p : StopPath) :
    p.reason = Reason.code (if p.byConsole then .estopConsole else .estopInput) := by
  unfold StopPath.reason
  split <;> rfl

/-- Withdrawing a frame changes the link engine alone. -/
theorem State.withdraw_eq (o : Origin) (k : Kind) (s : State) :
    s.withdraw o k = { s with link := (s.withdraw o k).link } := by
  unfold State.withdraw
  split <;> rfl

/-- Offering STOP changes the link engine alone. -/
theorem State.offerStop_eq (s : State) : s.offerStop = { s with link := s.offerStop.link } := by
  unfold State.offerStop
  split <;> rfl

/-- That the stop becomes wanted changes the stop path and the link engine alone. -/
theorem State.wantStop_eq (b : Bool) (s : State) :
    s.wantStop b = { s with stop := (s.wantStop b).stop, link := (s.wantStop b).link } := by
  unfold State.wantStop
  simp only
  rw [State.offerStop_eq, State.withdraw_eq]

/-- With the stop wanted, STOP enters the queue of a station IN_SERVICE where the path has no frame there; nothing else is
entered or taken away. -/
theorem State.offerStop_queued (s : State) (hw : s.stop.wanted = true) :
    s.offerStop.link.kept = s.link.kept
    ∧ (s.link.queued .stopPath = none → s.offerStop.link.queued .stopPath =
        if s.link.state = .inService then some (s.newEntry .stopPath (.stop s.stop.reason)) else none)
    ∧ (s.link.queued .stopPath ≠ none → s.offerStop = s)
    ∧ (s.offerStop.link.tx.filter fun y => decide (y.origin ≠ .stopPath))
        = s.link.tx.filter fun y => decide (y.origin ≠ .stopPath) := by
  unfold State.offerStop
  cases hq : s.link.queued .stopPath with
  | none =>
    by_cases hs : s.link.state = .inService
    · simp [hw, State.inService, hs, State.offer, Link.offer_of_none _ _ hq, Link.enter_queued _ _ hq,
        State.newEntry]
      simp [Link.enter]
    · simp [hw, State.inService, hs, hq]
  | some e => simp

/-- What `wantStop` does to the stop path, its frame and the others. -/
theorem State.wantStop_wants (b : Bool) (s : State) :
    s.WantsStop b (s.wantStop b)
      ∧ ((s.wantStop b).link.tx.filter fun y => decide (y.origin ≠ .stopPath))
        = s.link.tx.filter fun y => decide (y.origin ≠ .stopPath) := by
  let p : StopPath := { wanted := true, byConsole := if s.stop.wanted then s.stop.byConsole else b }
  unfold State.WantsStop State.wantStop State.withdraw
  by_cases hw : s.link.withdrawable .stopPath .resume = true
  · simp only [hw, if_true]
    obtain ⟨hk, hf, _, ho⟩ := State.offerStop_queued
      { s with stop := p, link := (s.link.remove .stopPath).dropKept .stopPath } rfl
    refine ⟨⟨by rw [State.offerStop_eq], fun _ => ?_, fun h => by simp at h, ?_⟩, ?_⟩
    · have := hf (Link.remove_queued s.link .stopPath)
      rw [StopPath.reason_eq] at this
      exact this
    · rw [hk]
      exact Link.dropKept_kept
    · rw [ho]
      simp [Link.remove]
  · simp only [Bool.not_eq_true] at hw
    simp only [hw, if_false, Bool.false_eq_true]
    obtain ⟨hk, hf, hb, ho⟩ := State.offerStop_queued
      { s with stop := p, link := s.link.dropKept .stopPath } rfl
    refine ⟨⟨by rw [State.offerStop_eq], fun h => ?_, fun h => ?_, ?_⟩, ?_⟩
    · simp only [or_false] at h
      have := hf h
      rw [StopPath.reason_eq] at this
      exact this
    · simp only [or_false] at h
      rw [hb h]
      rfl
    · rw [hk]
      exact Link.dropKept_kept
    · rw [ho]
      rfl

/-! ## A write-back request (R67) -/

/-- Taking a write-back request changes the identification controller, the port and the notices raised alone. -/
theorem State.takeWriteBack_eq (q : WriteBackRequest) (s : State) :
    (s.takeWriteBack q).1 =
      { s with
        ident := (s.takeWriteBack q).1.ident
        port := (s.takeWriteBack q).1.port
        console := (s.takeWriteBack q).1.console } := by
  unfold State.takeWriteBack
  split
  · rfl
  · split
    · split <;> rfl
    · rfl

end Sys2Proof.Machine
end

