-- ==== Sys2Proof/Laws/Tag.lean ====
section
/-! SUPPORT. The TAG line: what the levels of whole characters read as, and what driving a command against the line read
back comes to. -/

namespace Sys2Proof.Machine

theorem charLevels_length (c : TagChar) : (charLevels c).length = 12 := rfl

/-- The levels of a character read as that character, with what follows. -/
theorem wholeChars_charLevels (c : TagChar) (rest : List TagLevel) :
    wholeChars (charLevels c ++ rest) = c :: wholeChars rest := by
  have h : BitVec.ofBoolListLE (charLevels c) = c := by
    apply BitVec.eq_of_getLsbD_eq
    intro i hi
    rw [BitVec.getLsbD_ofBoolListLE]
    have hi' : i < 12 := hi
    simp [charLevels, List.getD_eq_getElem?_getD, hi']
    exact (BitVec.getLsbD_eq_getElem hi').symm
  exact congrArg (· :: wholeChars rest) h

/-- A line of whole characters reads as these. -/
@[simp] theorem wholeChars_lineOf (cs : List TagChar) : wholeChars (lineOf cs) = cs := by
  induction cs with
  | nil => rfl
  | cons c cs ih =>
    simp only [lineOf, List.flatMap_cons] at ih ⊢
    rw [wholeChars_charLevels, ih]

@[simp] theorem lineOf_length (cs : List TagChar) : (lineOf cs).length = 12 * cs.length := by
  induction cs with
  | nil => rfl
  | cons c cs ih =>
    simp only [lineOf, List.flatMap_cons, List.length_append, charLevels_length] at ih ⊢
    rw [ih, List.length_cons]; omega

/-- A line of whole characters leaves none under way. -/
@[simp] theorem partChar_lineOf (cs : List TagChar) : partChar (lineOf cs) = [] := by
  simp [partChar]

/-- At a character boundary a READ reply reads as its characters do. -/
@[simp] theorem readLine_lineOf (n : Nat) (cs : List TagChar) : readLine n (lineOf cs) = readReply n cs := by
  simp [readLine]

/-- Silence behind whole characters of a READ reply is CHECK where they sum to 0, else NO_REPLY. -/
theorem silenceError_read_lineOf (a n : Nat) (c : TagChar) (cs : List TagChar) :
    silenceError (.read a n) (lineOf (c :: cs)) =
      if sumsToZero ((c :: cs).map charByte) = true then .check else .noReply := by
  have h : (lineOf (c :: cs)).isEmpty = false := rfl
  simp [silenceError, h]

/-- Silence before anything was heard is NO_REPLY at every command. -/
theorem silenceError_nil (c : TagCommand) : silenceError c [] = .noReply := by
  cases c <;> rfl

/-- An attempt at any command but RELOCK leaves the unlock state. -/
theorem State.lockFor_of_ne {c : TagCommand} (h : c ≠ .relock) (s : State) : s.lockFor c = s := by
  simp [State.lockFor, h]

theorem contends_self (c : TagChar) : contends c c = false := by
  simp [contends]

/-- What is read back as it is driven meets no contention. -/
theorem driveChars_echo (cs : List TagChar) (n : Nat) : driveChars cs (cs.take n) = (cs.take n, false) := by
  induction cs generalizing n with
  | nil => cases n <;> rfl
  | cons c cs ih =>
    cases n with
    | zero => rfl
    | succ n => simp [driveChars, contends_self, ih n]

/-- The first character that reads low where it is released ends the driving with it. -/
theorem driveChars_contends (cs : List TagChar) (n : Nat) (c r : TagChar) (more : List TagChar)
    (h : cs[n]? = some c) (hr : contends c r = true) :
    driveChars cs (cs.take n ++ r :: more) = (cs.take (n + 1), true) := by
  induction cs generalizing n with
  | nil => simp at h
  | cons d cs ih =>
    cases n with
    | zero =>
      simp only [List.getElem?_cons_zero, Option.some.injEq] at h
      subst h
      simp [driveChars, hr]
    | succ n =>
      simp only [List.getElem?_cons_succ] at h
      simp [driveChars, contends_self, ih n h]

/-- A command made due at an idle port leaves what the last transaction sent. -/
theorem Port.due_of_idle {p : Port} (h : p.state = .idle) (c : TagCommand) (u : TagPurpose) :
    p.due c u = { p with job := some { command := c, purpose := u, attempts := 0 }, heard := [] } := by
  simp [Port.due, Port.abandon, h]

/-- Behind a transaction that was abandoned no character is late. -/
theorem State.strayReply_of_none_sent {s : State} (p : TagCommand → Bool) (line : List TagLevel)
    (h : s.port.sent = []) : s.strayReply p line = s := by
  simp [State.strayReply, State.replied, h]

end Sys2Proof.Machine
end

