-- ==== Sys2Proof/Laws/Window.lean ====
section
/-! SUPPORT. The slots behind an accepted frame that is not placed in the inbound queue, and the frames that wait at a
joiner. -/

namespace Sys2Proof.Machine

/-- Only an IN_SERVICE or a JOINING station answers a census. -/
theorem State.answersCensus_out {s : State} (p : Payload) (h : s.link.state ≠ .inService)
    (h' : s.link.state ≠ .joining) : s.answersCensus p = false := by
  simp [State.answersCensus, State.inService, h, h']

/-- A station out of service reads the slots of a CENSUS and touches nothing else. -/
theorem State.slotsFollow_out {s : State} (f : Frame) (h : s.link.state ≠ .inService)
    (h' : s.link.state ≠ .joining) (hs : s.link.slots = none) :
    s.slotsFollow f = { s with link := { s.link with slots := readSlots f } } := by
  unfold State.slotsFollow readSlots isKind
  by_cases hk : f.payload.kind? = some .census
  · simp [hk, State.censusAccepted, State.answersCensus_out f.payload h h']
  · simp [hk, ← hs]

@[simp] theorem State.slotsFollow_state (f : Frame) (s : State) :
    (s.slotsFollow f).link.state = s.link.state := by
  unfold State.slotsFollow; split <;> rfl

@[simp] theorem State.slotsFollow_engine (f : Frame) (s : State) : (s.slotsFollow f).engine = s.engine := by
  unfold State.slotsFollow; split <;> rfl

@[simp] theorem State.slotsFollow_replica (f : Frame) (s : State) : (s.slotsFollow f).replica = s.replica := by
  unfold State.slotsFollow; split <;> rfl

@[simp] theorem State.slotsFollow_activity (f : Frame) (s : State) : (s.slotsFollow f).activity = s.activity := by
  unfold State.slotsFollow; split <;> rfl

@[simp] theorem State.slotsFollow_console (f : Frame) (s : State) : (s.slotsFollow f).console = s.console := by
  unfold State.slotsFollow; split <;> rfl

@[simp] theorem followsOn_nil (r : Replica) : followsOn r [] = some r := rfl

/-- The frames of two lists follow on where those of the first do and those of the second behind them. -/
theorem followsOn_append (r : Replica) (fs gs : List Frame) :
    followsOn r (fs ++ gs) = (followsOn r fs).bind fun r' => followsOn r' gs := by
  induction fs generalizing r with
  | nil => rfl
  | cons f fs ih =>
    simp only [List.cons_append, followsOn]
    split
    · exact ih _
    · rfl

end Sys2Proof.Machine
end

