-- ==== Sys2Proof/WellFormed.lean ====
section
/-! DEFINITION. Which commands an outside sender can give: the data that a command carries is what its event brings
(log entry 1). The meanings hold for every command; these checks say which ones the hardware can meet. -/

namespace Sys2Proof

/-- Bits that this station abandons as a frame (R7). -/
def abandonsFrame (rx : List Bit) : Bool :=
  match Machine.receive rx with
  | .abandoned _ => true
  | _ => false

/-- Bits at which the bus stays recessive inside a frame (R2). -/
def truncatesFrame (rx : List Bit) : Bool :=
  match Machine.receive rx with
  | .truncated _ => true
  | _ => false

/-- Bits of a frame of a category that can be followed to its window; no bits where the own frame is on
the wire (R9 to R11). -/
def reachesWindow (k : Machine.Category) (rx : List Bit) : Bool :=
  rx.isEmpty ||
    match Machine.receive rx with
    | .window r => r.frame.payload.category == k
    | _ => false

/-- Bits of any frame that can be followed to its window (R13). -/
def followsFrame (rx : List Bit) : Bool :=
  match Machine.receive rx with
  | .window _ => true
  | _ => false

/-- The body of a request is of 0 to 1 024 bytes (R175). -/
def bodyFits (body : List Byte) : Bool := decide (body.length ≤ 1024)

/-- Bytes short of a whole request: less than a code and a length, or fewer body bytes than the length
gives (R176). -/
def isPartial (bs : List Byte) : Bool :=
  match bs with
  | [] => true
  | [_] => true
  | [_, _] => true
  | _ :: l0 :: l1 :: body => decide (body.length < Machine.leNat [l0, l1])

/-- A command that an outside sender can give. -/
def Instr.wf : Instr → Bool
  | .frameStart _ rivals _ => rivals.all fun b => decide (b.toNat % 32 ≠ 0)
  | .numberClash rival => rival.any fun b => !b
  | .frameAbandoned rx => abandonsFrame rx
  | .truncated rx => truncatesFrame rx
  | .replicaWindow rx _ => reachesWindow .replica rx
  | .foundingWindow rx _ => reachesWindow .founding rx
  | .serviceWindow rx _ => reachesWindow .service rx
  | .censusSlotsEnd map => !map.getLsbD 0
  | .undelivered slots => slots.void
  | .receiveFailure rx _ => followsFrame rx
  | .filterInputChange _ samples => decide (1 ≤ samples)
  | .configure body => bodyFits body
  | .start body => bodyFits body
  | .reset body => bodyFits body
  | .wipe body => bodyFits body
  | .status body => bodyFits body
  | .notice body => bodyFits body
  | .consoleRead body => bodyFits body
  | .preset body => bodyFits body
  | .keyedId body => bodyFits body
  | .cancel body => bodyFits body
  | .estop body => bodyFits body
  | .consoleResume body => bodyFits body
  | .delivery body => bodyFits body
  | .gaugeNow body => bodyFits body
  | .clearFault body => bodyFits body
  | .consoleLeave body => bodyFits body
  | .selRise _ partialRequest _ => isPartial partialRequest
  | .unknownRequestCode code body =>
    bodyFits body && decide (code ≠ 0) && decide (0x10 < code.toNat)
  | _ => true

end Sys2Proof
end

