-- ==== Sys2Proof/Tests/Slice0.lean ====
section
/-! SUPPORT. Tests: for every statement with hypotheses, states and operands that meet them; the check of
well-formed commands on ill-formed ones; and values that the spec states. -/

namespace Sys2Proof.Tests

open Sys2Proof.Machine

set_option maxRecDepth 100000
set_option Elab.async false

/-! ## Outcomes -/

/-- The outcome is a next state of which `p` holds. -/
def answers (o : Answer) (p : State → Bool) : Bool :=
  match o with
  | .next t => p t
  | _ => false

theorem next_of_answers {o : Answer} {p : State → Bool} (h : answers o p = true) :
    ∃ t, o = .next t ∧ p t = true := by
  match o, h with
  | .next t, h => exact ⟨t, rfl, h⟩

theorem of_none {α : Type} {o : Option α} {P : α → Prop} (h : o.isNone = true) : ∀ a ∈ o, P a := by
  cases o with
  | none => simp
  | some _ => exact absurd h (by simp)


/-! ## Small states -/

/-- A DISPENSE station of number 3 at tank 1, with a gauge. -/
def cfg : Settings :=
  { station := 3, role := .dispense, rate := .kbit125, hose := some 1, served := none, pulse := 50000,
    sensors := .three, filters := List.replicate 8 { mode := .delayed, threshold := 2 },
    factors := List.replicate 9 10000, tmp := true, gaugeTank := some 1, gaugeFactor := some 100,
    strapping := some [(0, 0), (2000, 10000)], slowDown := 100, anticipation := 5, overrun := 50,
    progressStep := 1000, key := 0x0123456789ABCDEF#64 }

/-- A RECEIPT station of number 3 that serves tanks 1 and 2. -/
def cfgR : Settings := { cfg with role := .receipt, hose := none, served := some 3#8, gaugeTank := none,
                                  gaugeFactor := none, strapping := none }

/-- Tank 1 and machine 7, of grade 2. -/
def tank1 : TankEntry :=
  { number := 1, grade := 2, capacity := 100000, book := 50000, reserved := 0, reorder := 1000,
    restock := .normal, deliveryStation := none, quietSince := none, lastGauge := none, suspect := false }

def machine7 : MachineEntry :=
  { number := 7, grade := 2, capacity := 3000, allowance := 20000, costCentre := 4, barred := false,
    dropPending := false, hold := none, lastFill := none }

/-- An entry in service. -/
def serving (n : Nat) (role : Role) (hose : Option Nat) (served : Option (BitVec 8)) : StationEntry :=
  { StationEntry.wiped n with membership := .inService, role := some role, hose, served }

/-- Stations 3 to 5 and the office 30 in service. -/
def stations : List StationEntry :=
  (List.range' 1 31).map fun n =>
    if n = 3 then serving 3 .dispense (some 1) none
    else if n = 4 then serving 4 .dispense (some 1) none
    else if n = 5 then serving 5 .receipt none (some 3#8)
    else if n = 30 then serving 30 .office none none
    else StationEntry.wiped n

def site : SiteRecord :=
  { seq := 100, nextRecord := 1, stop := none, minFill := 200, tolerance := 2500, keyed := true,
    keyCheck := 0x1234#16 }

def rep : Replica :=
  { Replica.wiped 0x1234#16 with site, stations, tanks := [tank1], machines := [machine7] }

/-- A live station in a link state, with settings. -/
def at' (st : LinkState) (c : Settings) : State :=
  { State.reset with
    replica := rep
    wiped := true
    link := { Link.reset with state := st }
    engine := { Engine.reset with admitted := st == .inService }
    meter := State.reset.meter.configure c
    console := { Console.reset with config := some c, started := true } }

/-- The station in service. -/
def live : State := at' .inService cfg

/-- A frame of station 4. -/
def frame (p : Payload) : Frame := { sender := 4, dest := 0, seq16 := 1#16, payload := p, map := none }

/-- A frame of another station. -/
def sentBy (n : Nat) (p : Payload) : Frame := { frame p with sender := n }

/-- A frame waits at the front of the inbound queue. -/
def inbox (s : State) (f : Frame) : State := { s with link := { s.link with inbound := [f] } }

/-- A frame is on the wire and in the transmit queue. -/
def sending (s : State) (o : Origin) (f : Frame) (voids : Nat) : State :=
  let e : TxEntry := { origin := o, dest := f.dest, payload := f.payload, voids, entered := 0 }
  { s with link := { s.link with tx := [e], wire := some { origin := o, frame := f }, entered := 1 } }

/-- Change one part of a state. -/
def onLink (s : State) (f : Link → Link) : State := { s with link := f s.link }
def onEngine (s : State) (f : Engine → Engine) : State := { s with engine := f s.engine }
def onSite (s : State) (f : SiteRecord → SiteRecord) : State :=
  { s with replica := { s.replica with site := f s.replica.site } }
def onActivity (s : State) (f : Activity → Activity) : State := { s with activity := f s.activity }
def onMeter (s : State) (f : Meter → Meter) : State := { s with meter := f s.meter }
def onCells (s : State) (f : Cells → Cells) : State := onMeter s fun m => { m with cells := f m.cells }
def onPort (s : State) (f : Port → Port) : State := { s with port := f s.port }
def onIdent (s : State) (f : Ident → Ident) : State := { s with ident := f s.ident }
def onConsole (s : State) (f : Console → Console) : State := { s with console := f s.console }
def onGauge (s : State) (f : GaugeUnit → GaugeUnit) : State := { s with gauge := f s.gauge }
def onSupply (s : State) (f : Supply → Supply) : State := { s with supply := f s.supply }

/-- A filter cell at a level, with the setting DELAYED 2 of its unit. -/
def cell (level : Bool) : FilterCell := { FilterCell.reset .delayed 2 level with threshold := 2 }

/-- A filter cell of mode IMMEDIATE in its lockout. -/
def locked (input output : Bool) : FilterCell :=
  { FilterCell.reset .immediate 2 output with input, lockout := some 2000 }

/-- An identification of machine 7. -/
def heldResult : IdResult :=
  { mode := .tag, number := 7, grade := 2, capacity := 3000, hours := some 5, level := none }

/-- A fill of station 3 in a controller state. -/
def filling (st : ActState) : State :=
  onActivity live fun a =>
    { a with state := st, openSeq := some 90, granted := some 1000,
             result := some heldResult,
             points := some { slowDown := 900, stop := 995, progress := 1000, overrun := 1050 },
             noFlow := some 20000000, full := some 5000000, settle := some 2000000,
             limit := some 10000000 }

/-- The retained record of that fill. -/
def record3 : ActRecord :=
  { kind := .fill, openSeq := 90, party := 7, tank := 1, volume := 1000, gross := 0, comp := some 0,
    progress := 0, endReason := none, mode := .tag }

/-- A good identity block and machine record of machine 7, and their READ reply characters. -/
def blockBytes : List Byte := [1, 2, 3, 4, 5, 6, 2, 7, 0, 1, 8, 3, 0, 0, 0, 0]

def recordBytes : List Byte := [2, 255, 0xB8, 0x0B, 0, 0, 9, 0, 0, 0, 0, 0, 0, 0, 0, 0]

/-- A data reply with its check byte. -/
def reply (bs : List Byte) : List TagChar :=
  (bs ++ [BitVec.ofNat 8 (256 - (bs.map BitVec.toNat).sum % 256)]).map charOf

/-- An inlet context of mode TAG that has read the block. -/
def inlet : Inlet :=
  { newInlet .tag true none with block := some (parseBlock blockBytes) }

/-- A command that the port has sent once. -/
def job (c : TagCommand) (u : TagPurpose) : TagJob := { command := c, purpose := u, attempts := 1 }

/-- The port awaits the reply to a command, with a context. -/
def awaiting (s : State) (j : TagJob) (c : Inlet) (st : IdState) : State :=
  { s with port := { s.port with state := .awaitingReply, job := some j },
           ident := { s.ident with state := st, context := some c, runTimer := some 5000000 } }

/-- A retained write in progress at a live station. -/
def writing (p : Payload) (sender : Nat) (res : ApplyResult) (r : Replica) : State :=
  onEngine live fun e =>
    { e with writing := some { replica := r, frame := { frame p with sender }, result := res,
                               limit := false } }

/-- The open fill of station 3 at tank 1 for machine 7, with its hold and reservation. -/
def fill3 : OpenActivity :=
  { kind := .fill, openSeq := 90, party := 7, tank := 1, volume := 1000, progress := 500, mode := .tag,
    openTime := none }

def entry3 : StationEntry := { serving 3 .dispense (some 1) none with activity := some fill3 }

def held7 : MachineEntry := { machine7 with hold := some { station := 3, openSeq := 90 } }

def opened : Replica :=
  { rep with
    stations := stations.map fun e => if e.number = 3 then entry3 else e
    machines := [held7]
    tanks := [{ tank1 with reserved := 1000 }] }

/-- The open delivery of station 5. -/
def delivery5 : OpenActivity := { fill3 with kind := .delivery, party := 9 }

def entry5 : StationEntry := { serving 5 .receipt none (some 3#8) with activity := some delivery5 }

def delivering : Replica :=
  { rep with stations := stations.map fun e => if e.number = 5 then entry5 else e }

/-- Station 4 has missed two censuses. -/
def missed : Replica :=
  { rep with stations := stations.map fun e =>
      if e.number = 4 then { serving 4 .dispense (some 1) none with misses := 2 } else e }

/-- Station 9 joins from donor 3. -/
def entry9 : StationEntry := { StationEntry.wiped 9 with membership := .joining, donor := some 3 }

/-- Its donor. -/
def donor3 : StationEntry := { serving 3 .dispense (some 1) none with donatingTo := some 9 }

def joiningRep : Replica :=
  { rep with stations := stations.map fun e =>
      if e.number = 9 then entry9 else if e.number = 3 then donor3 else e }

/-- Station 9 has lost its donor. -/
def orphanJoiner : Replica :=
  { rep with stations := stations.map fun e =>
      if e.number = 9 then { entry9 with donor := none } else e }

/-- The last fill of station 3 was orphaned at 500 dL. -/
def ended3 : StationEntry :=
  { serving 3 .dispense (some 1) none with last := some { openSeq := 90, kind := .orphaned, billed := 500 } }

def ended : Replica :=
  { rep with stations := stations.map fun e => if e.number = 3 then ended3 else e }

/-- A delivery at a RECEIPT station in a controller state. -/
def receiving (st : ActState) : State :=
  { (at' .inService cfgR) with activity := { (filling st).activity with namedTank := some 1 } }

/-- A stream of the responder that a freeze has cut. -/
def cutRead : ServiceContext :=
  { requester := 4, table := 2, position := 3, remaining := 5, lastBuilt := false, paused := true }

def cutStream (s : State) : State := { s with responder := { s.responder with context := some cutRead } }

/-- A configuration record, and its body. -/
def rawConfig : RawConfig :=
  { station := 3, role := .office, rate := 2, hose := none, served := none, pulse := 50000, sensors := 3,
    filters := List.replicate 8 (1, 2), factors := List.replicate 9 10000, tmp := false,
    gaugeTank := none, gaugeFactor := none, strapping := none, slowDown := 100, anticipation := 5,
    overrun := 50, progressStep := 1000, key := 1#64 }

def configBody : List Byte :=
  [0, 3, 3, 2, 0x50, 0xC3, 3] ++ (List.replicate 8 [1, 2, 0]).flatten
    ++ (List.replicate 9 [0x10, 0x27]).flatten ++ [0, 100, 0, 5, 50, 0, 0xE8, 0x03, 1, 0, 0, 0, 0, 0, 0, 0]

/-! ## Frames and parts of states that several witnesses use -/

def grantReq : Granting :=
  { machine := 7, mode := .set, value := 500, grade := 2, capacity := 3000, costCentre := 63 }

def tankReq : TankSetting :=
  { tank := 8, grade := 7, capacity := 1000, reorder := 1000, book := some 5 }

def openReq : OpenRequest :=
  { machine := 7, tank := 1, requested := 99999, mode := some .tag, hours := none, openTime := none }

def deliveryReq : DeliveryRequest :=
  { tank := 1, tanker := 9, grade := 2, declared := 1000, mode := .tag, hours := none, openTime := none }

def gaugeReq : Gauging :=
  { tank := 1, level := 20000, volume := 49000, temperature := none, census := 80 }

def joinReq : Joining :=
  { station := 9, role := .dispense, hose := some 1, served := none, keyCheck := 0x1234#16, retained := 0 }

def adjustReq : Adjusting :=
  { openSeq := 90, kind := .fill, party := 7, tank := 1, mode := .tag, billedBefore := 500, delta := -20,
    time := none }

def stopInfo : StopInfo :=
  { origin := 4, reason := 5, seq := 60 }

def progressEntry : TxEntry :=
  { origin := .activity, dest := 0, payload := .progress 90 5, voids := 0, entered := 0 }

def limitWriting : Writing :=
  { replica := rep, frame := frame .leave, result := .applied, limit := true }

def repCounts : Counts :=
  { site := 1, stations := 31, tanks := 1, costCentres := 64, machines := 1, log := 0 }

def roundOf5 : Round :=
  { sealer := 5, candidates := [{ station := 5, retained := 8, keyCheck := 0x1234#16 }] }

def sealReq : Sealing :=
  { winner := 5, retained := 8, keyCheck := 0x1234#16, candidates := 1 }

def noticeReply : Reply :=
  { bytes := [0x80, 0x00, 0x00], toNotice := true }

def resumeNotice : Notice :=
  { seq := 1, body := .siteResume }

def closing : Closing :=
  { openSeq := 90, gross := 1010, comp := none, endReason := .preset, overrun := 10, hours := none,
    endTime := none }

def announceReq : Announcing :=
  { founder := false, role := .dispense, hose := some 1, served := none, keyCheck := 0x1234#16 }

def assembling (entries : List Entry) : JoinArea :=
  { donor := 4, joinSeq := 200, counts := repCounts, entries }

/-- One more census and that station is removed. -/
def missing (r : Replica) (n : Nat) : Replica :=
  { r with stations := r.stations.map fun e => if e.number = n then { e with misses := 2 } else e }

/-- An opening frame that waits in the transmit queue. -/
def openEntry : TxEntry :=
  { origin := .activity, dest := 0, payload := .openFill openReq, voids := 0, entered := 0 }

def deliveryEntry : TxEntry := { openEntry with payload := .deliveryOpen deliveryReq }

/-- The bits of a frame whose last check bit is wrong. -/
def badCheck (f : Frame) : List Bit := stuff ((frameBits f).set ((frameBits f).length - 1)
  ((frameBits f).getLast? == some false))

def goodRx (f : Frame) : RxFrame := { frame := f, error := none }

def badRx (f : Frame) : RxFrame := { frame := f, error := some .check }

/-- A frame of the responder to station 4, its stream at a context. -/
def responding (s : State) (p : Payload) (voids : Nat) : State :=
  let t := sending s .responder { sentBy 3 p with dest := 4, seq16 := 0#16 } voids
  { t with responder := { context := some { cutRead with paused := false }, waitingBusy := none } }

def responderWire (p : Payload) : OnWire :=
  { origin := .responder, frame := { sentBy 3 p with dest := 4, seq16 := 0#16 } }

def responderEntry (p : Payload) (voids : Nat) : TxEntry :=
  { origin := .responder, dest := 4, payload := p, voids, entered := 0 }

def someData : Payload := .data 2 100 [] false

def lastData : Payload := .data 2 100 [] true

/-- The next frame of a stream that ended at frame 200. -/
def nextFrame : Frame := { sentBy 30 (.bar 7) with seq16 := 201#16 }

/-- A round of the founding station 3. -/
def foundingRound : State :=
  onEngine (at' .founding cfg) fun e =>
    { e with round := some roundOf5, roundTimer := some 5000000, sealTimer := some 2000000 }

/-- The own frame of an origin waits. -/
def queueing (s : State) (o : Origin) (p : Payload) : State :=
  let e : TxEntry := { origin := o, dest := 0, payload := p, voids := 0, entered := 0 }
  onLink s fun l => { l with tx := [e], entered := 1 }

/-- A block keeps a frame behind a refused offer. -/
def keeping (s : State) (o : Origin) (p : Payload) : State :=
  onLink s fun l => { l with kept := [{ origin := o, dest := 0, payload := p }] }

/-- Station 3 donates to station 9, its deferred queue full, one more frame at the front of the inbound queue; `s` gives
the transmit queue. -/
def overflowing (s : State) : State :=
  onEngine (inbox s (frame .leave)) fun e =>
    { e with freeze := true, deferred := List.replicate 64 (frame .leave),
             stream := some { joiner := 9, keyOk := true, next := .head, offered := true } }

def headOf3 : Frame := { sentBy 3 (.snapHead 100 0x1234#16 repCounts) with dest := 9, seq16 := 0#16 }

def headEntry (voids : Nat) : TxEntry :=
  { origin := .donation, dest := 9, payload := headOf3.payload, voids, entered := 0 }

def stream9 : Stream := { joiner := 9, keyOk := true, next := .head, offered := true }

/-- What a donor meets at the 65th frame (R38). -/
abbrev Overflows (s : State) (f : Frame) (rest : List Frame) (d : Stream) : Prop :=
  s.Live ∧ s.engine.writing = none ∧ s.link.inbound = f :: rest ∧ f.payload.isReplica = true ∧
    s.link.state = .inService ∧ s.engine.freeze = true ∧ 64 ≤ s.engine.deferred.length ∧
    s.engine.stream = some d ∧ s.engine.abortTo = none

/-- The machine record is read at the DISPENSE station. -/
def readingMachine (st : ActState) : State :=
  onActivity (awaiting live (job (.read 16 16) .run) inlet .readingRecord) fun a => { a with state := st }

abbrev ReadsRecord (s : State) (j : TagJob) (a n : Nat) (line : List TagLevel) (reply : List TagChar)
    (bs : List Byte) (c : Inlet) (b : IdentBlock) : Prop :=
  s.Awaits j ∧ s.Hears line reply ∧ j.command = .read a n ∧ j.purpose = .run ∧
    readReply n reply = .data bs ∧ s.ident.context = some c ∧ c.block = some b

abbrev levelRead (r : TagRecord) (b : IdentBlock) : Option Nat :=
  if b.format = 1 ∨ r.level = 255 then none else some r.level.toNat

abbrev badRecord (r : TagRecord) (b : IdentBlock) : Bool :=
  decide (r.grade.toNat < 1) || decide (7 < r.grade.toNat) || r.capacity == 0
    || foundAnd (fun l => decide (100 < l)) (levelRead r b)

/-- The first check of a DISPENSE station that fails, as TagReadIsChecked has it. -/
abbrev dispenseFound (s : State) (r : TagRecord) (b : IdentBlock) : Option Reason :=
  let m := s.replica.machine? b.number.toNat
  firstReason
    [(.tagFormat, badRecord r b), (.wrongClass, b.fleetClass != 1),
     (.misgrade, (s.hose.bind s.replica.tank?).map TankEntry.grade != some r.grade.toNat),
     (.unknownMachine, m.isNone), (.barred, foundAnd MachineEntry.barred m),
     (.heldElsewhere, foundAnd (fun x => x.hold.isSome) m)]

/-- That of a RECEIPT station. -/
abbrev receiptFound (s : State) (r : TagRecord) (c : Inlet) (b : IdentBlock) : Option Reason :=
  firstReason
    [(.tagFormat, badRecord r b), (.wrongClass, b.fleetClass != 2),
     (.misgrade, c.namedTank.isSome
       && (c.namedTank.bind s.replica.tank?).map TankEntry.grade != some r.grade.toNat)]

/-- Station 3 donates to station 9 with its fill open. -/
def donating3 : StationEntry := { entry3 with donatingTo := some 9 }

def donatingOpen : Replica :=
  { opened with stations := stations.map fun e =>
      if e.number = 9 then entry9 else if e.number = 3 then donating3 else e }

/-- The context of a tanker's tag at a RECEIPT station, with the tank of the delivery. -/
def tankerInlet (tank : Option Nat) : Inlet :=
  { newInlet .tag true tank with block := some { parseBlock blockBytes with fleetClass := 2 } }

/-- The machine record is read at a RECEIPT station. -/
def readingTanker (tank : Option Nat) (st : ActState) : State :=
  onActivity (awaiting (at' .inService cfgR) (job (.read 16 16) .run) (tankerInlet tank) .readingRecord) fun a =>
    { a with state := st, namedTank := tank, declared := some 5000 }

/-- The last-fill area that is written back, and the passes. -/
def writtenArea : LastFillArea :=
  { record := 1, gross := 50, station := 3, endTime := none, keyCheck := 0x1234#16 }

def verifying (pass : Nat) : State :=
  onIdent (awaiting (filling .writeback) (job (.read 32 16) .writeBack) { inlet with unlock := .unlocked } .writing)
    fun x => { x with writing := some { area := writtenArea, pass } }

/-- The stop is wanted. -/
def wanting (s : State) (byConsole : Bool) : State := { s with stop := { wanted := true, byConsole } }

/-- ESTOP is asserted. -/
def stopped (s : State) : State := onCells s fun c => { c with estop := cell true }

/-- ESTOP can rise. -/
def unstopped (s : State) : State := onCells s fun c => { c with estop := cell false }

/-- The path's frame on the wire, void fifteen times. -/
def pathFrame (p : Payload) : OnWire := { origin := .stopPath, frame := sentBy 3 p }

def pathEntry (p : Payload) : TxEntry :=
  { origin := .stopPath, dest := 0, payload := p, voids := 15, entered := 0 }

/-- The own CLOSE is being written, and its hypotheses in ResultsReachTheFill. -/
def ownClose (s : State) : State := { s with engine := (writing (.close closing) 3 (.closed 1) rep).engine }

def closeWriting : Writing :=
  { replica := rep, frame := sentBy 3 (.close closing), result := .closed 1, limit := false }

abbrev ClosesOwn (s : State) (w : Writing) (x : Closing) (n : Nat) : Prop :=
  s.Live ∧ s.engine.writing = some w ∧ w.limit = false ∧ w.frame.sender = s.me ∧ w.frame.payload = .close x ∧
    w.result = .closed n ∧ s.link.state = .inService ∧ w.replica.inService s.me = true ∧
    s.role = some .dispense ∧ s.activity.state = .closing

/-- An identified context at a station. -/
def identified (s : State) (c : Inlet) : State :=
  onIdent s fun x => { x with state := .identified, context := some c }

/-- What the ends of a write-back share in WriteBackPasses. -/
abbrev WritesBack (s : State) (w : WriteBack) (c : Inlet) : Prop :=
  s.Live ∧ s.ident.writing = some w ∧ s.ident.context = some c ∧ c.mode = .tag ∧ c.unlock = .unlocked ∧
    s.ident.state = .writing ∧ s.role = some .dispense ∧ s.activity.state = .writeback

/-- A request that waits for a keep-alive. -/
def backRequest : WriteBackRequest := { area := writtenArea, couplerLost := false }

def keepingAlive : State :=
  onIdent (awaiting (filling .writeback) (job .ident .keepAlive) { inlet with unlock := .unlocked } .identified)
    fun x => { x with waiting := some backRequest }

abbrev WaitsToWrite (s : State) (j : TagJob) (c : Inlet) (q : WriteBackRequest) : Prop :=
  s.Live ∧ s.port.job = some j ∧ j.command = .ident ∧ j.purpose = .keepAlive ∧ s.ident.state = .identified ∧
    s.ident.context = some c ∧ c.mode = .tag ∧ s.ident.waiting = some q ∧ s.role = some .dispense ∧
    s.activity.state = .writeback ∧ s.activity.writeBackDone = false

/-- The discriminator stands at A alone, and can step to A and B (forward), A and C (back) or all three (wrong). -/
def turning (s : State) : State :=
  onMeter s fun m => { m with
    position := some ⟨true, false, false⟩, lastStep := some 80, cells := { m.cells with a := cell true } }

/-- The next forward step makes a boundary, in an open activity. -/
def boundaryOf (s : State) : State := onMeter (turning s) fun m => { m with acc := 50000, activityOpen := true }

/-- A station that has lost the link in an activity and is admitted again. -/
def readmitted (s : State) : State :=
  onActivity (onSupply s fun x => { x with record := some record3, phase := .running }) fun a =>
    { a with linkLost := true }

/-! ## Witnesses: what the hypotheses of each statement are met by -/

theorem test_witness_stepRunsFrontCommand :
    (∃ (c : Instr) (rest : List Instr) (s : State), s.pending = c :: rest) ∧
    (∃ (s : State), s.pending = []) := by
  exact ⟨
    ⟨.clockTick, [.keepAlive], { live with pending := [.clockTick, .keepAlive] }, by decide +kernel⟩,
    ⟨live, by decide +kernel⟩⟩

theorem test_witness_powerDownTakesNoEvent :
    (∃ (c : Instr) (s : State), isBlockEvent c = true ∧ s.supply.state = .powerDown) ∧
    (∃ (c : Instr) (code : Byte) (body : List Byte) (s : State), requestOf c = some (code, body) ∧ code ≠
      0x03 ∧ code ≠ 0x05 ∧ s.supply.state = .powerDown ∧ s.console.raised = [] ∧ s.console.request = [] ∧
      s.console.replies = []) ∧
    (∃ (s : State), s.supply.state = .powerDown ∧ s.console.raised = [] ∧ s.console.request = [] ∧
      s.console.replies = []) ∧
    (∃ (s : State), s.supply.state = .powerDown ∧ s.console.raised = [] ∧ s.console.request = [] ∧
      s.console.replies = []) ∧
    (∃ (s : State) (body : List Byte), s.supply.state = .powerDown ∧ s.console.raised = [] ∧
      s.console.request = [] ∧ s.console.replies = [] ∧ body ≠ []) := by
  exact ⟨
    ⟨.censusTimer, onSupply live fun x => { x with state := .powerDown }, by decide +kernel⟩,
    ⟨.wipe [1], 4, [1], onSupply live fun x => { x with state := .powerDown }, by decide +kernel⟩,
    ⟨onSupply live fun x => { x with state := .powerDown }, by decide +kernel⟩,
    ⟨onSupply live fun x => { x with state := .powerDown }, by decide +kernel⟩,
    ⟨onSupply live fun x => { x with state := .powerDown }, [1], by decide +kernel⟩⟩

theorem test_witness_resetValues :
    ∃ (x : Cell × Nat × FilterMode × Nat), x ∈ [(Cell.a, 0, FilterMode.delayed, 2), (.b, 1, .delayed, 2),
      (.c, 2, .delayed, 2), (.noz, 3, .immediate, 200), (.cpl, 4, .delayed, 200), (.estop, 5, .immediate,
      50), (.svm, 6, .delayed, 50), (.dhs, 7, .immediate, 200)] := by
  exact ⟨(.svm, 6, .delayed, 50), by decide +kernel⟩

theorem test_witness_officeKindsNeedTheOffice :
    (∃ (f : Frame), f.payload.kind? = none) ∧
    (∃ (r : Replica) (f : Frame) (k : Kind), f.payload.kind? = some k ∧ k ∈ [Kind.grant, .bar, .unbar,
      .drop, .release, .tankSet, .order, .ccClear, .siteSet, .time] ∧ (∀ e ∈ r.station? f.sender,
      e.membership ≠ .inService ∨ e.role ≠ some .office)) := by
  exact ⟨
    ⟨frame (.unknown 4 0x77 [1]), by decide +kernel⟩,
    ⟨rep, frame (.bar 7), .bar, by decide +kernel⟩⟩

theorem test_witness_officeFramesOnMachines :
    (∃ (r : Replica) (f : Frame) (g : Granting), r.isOffice f.sender = true ∧ f.payload = .grant g) ∧
    (∃ (r : Replica) (f : Frame) (n : Nat) (v : Bool), r.isOffice f.sender = true ∧ f.payload = (if v then
      .bar n else .unbar n)) ∧
    (∃ (r : Replica) (f : Frame) (n : Nat), r.isOffice f.sender = true ∧ f.payload = .drop n) := by
  exact ⟨
    ⟨rep, sentBy 30 (.grant grantReq), grantReq, by decide +kernel⟩,
    ⟨rep, sentBy 30 (.bar 7), 7, true, by decide +kernel⟩,
    ⟨rep, sentBy 30 (.drop 7), 7, by decide +kernel⟩⟩

theorem test_witness_officeFramesOnTanks :
    (∃ (r : Replica) (f : Frame) (x : TankSetting), r.isOffice f.sender = true ∧ f.payload = .tankSet x) ∧
    (∃ (r : Replica) (f : Frame) (n : Nat), r.isOffice f.sender = true ∧ f.payload = .order n) := by
  exact ⟨
    ⟨rep, sentBy 30 (.tankSet tankReq), tankReq, by decide +kernel⟩,
    ⟨rep, sentBy 30 (.order 1), 1, by decide +kernel⟩⟩

theorem test_witness_siteSetChangesParameters :
    ∃ (r : Replica) (f : Frame) (minFill : Option Nat) (tolerance : Option Nat) (keyed : Option Bool),
      r.isOffice f.sender = true ∧ f.payload = .siteSet minFill tolerance keyed := by
  exact ⟨rep, sentBy 30 (.siteSet (some 10) (some 50000) none), some 10, some 50000, none,
    by decide +kernel⟩

theorem test_witness_ccClearResetsOneCentre :
    ∃ (f : Frame) (n : Nat), f.payload = .ccClear n := by
  exact ⟨sentBy 30 (.ccClear 63), 63, by decide +kernel⟩

theorem test_witness_releaseAndProgress :
    (∃ (r : Replica) (f : Frame) (n : Nat), (r.log.map Record.number).Pairwise (· < ·) ∧ r.isOffice f.sender
      = true ∧ f.payload = .release n) ∧
    (∃ (f : Frame) (openSeq : Nat) (volume : Nat), f.payload = .progress openSeq volume) := by
  exact ⟨
    ⟨rep, sentBy 30 (.release 5), 5, by decide +kernel⟩,
    ⟨sentBy 3 (.progress 90 55), 90, 55, by decide +kernel⟩⟩

theorem test_witness_openIsDecidedInOrder :
    ∃ (f : Frame) (o : OpenRequest), f.payload = .openFill o := by
  exact ⟨sentBy 3 (.openFill openReq), openReq, by decide +kernel⟩

theorem test_witness_deliveryOpenIsDecidedInOrder :
    ∃ (f : Frame) (d : DeliveryRequest), f.payload = .deliveryOpen d := by
  exact ⟨sentBy 5 (.deliveryOpen deliveryReq), deliveryReq, by decide +kernel⟩

theorem test_witness_closingFramesBill :
    (∃ (r : Replica) (f : Frame) (c : Closing) (e : StationEntry) (a : OpenActivity) (m : MachineEntry),
      f.payload = .close c ∧ r.station? f.sender = some e ∧ e.activity = some a ∧ a.kind = .fill ∧ a.openSeq
      = c.openSeq ∧ r.machine? a.party = some m ∧ 0 ≤ c.gross ∧ 0 ≤ c.overrun ∧ c.endReason ∈
      fillEndReasons) ∧
    (∃ (r : Replica) (f : Frame) (c : Closing) (e : StationEntry) (a : OpenActivity), f.payload =
      .deliveryClose c ∧ r.station? f.sender = some e ∧ e.activity = some a ∧ a.kind = .delivery ∧ a.openSeq
      = c.openSeq ∧ 0 ≤ c.gross ∧ 0 ≤ c.overrun ∧ c.endReason ∈ deliveryEndReasons) ∧
    (∃ (r : Replica) (f : Frame) (c : Closing) (k : ActivityKind) (reasons : List Reason), (f.payload =
      .close c ∧ k = .fill ∧ reasons = fillEndReasons ∨ f.payload = .deliveryClose c ∧ k = .delivery ∧
      reasons = deliveryEndReasons) ∧ (c.gross < 0 ∨ c.overrun < 0 ∨ c.endReason ∉ reasons ∨ ∀ a ∈
      (r.station? f.sender).bind StationEntry.activity, a.kind ≠ k ∨ a.openSeq ≠ c.openSeq)) := by
  exact ⟨
    ⟨opened, sentBy 3 (.close closing), closing, entry3, fill3, held7, by decide +kernel⟩,
    ⟨delivering, sentBy 5 (.deliveryClose { closing with endReason := .limit }),
      { closing with endReason := .limit }, entry5, delivery5, by decide +kernel⟩,
    ⟨rep, sentBy 3 (.close closing), closing, .fill, fillEndReasons, by decide +kernel⟩⟩

theorem test_witness_flowCensusSetsQuietSince :
    (∃ (r : Replica) (f : Frame) (n : Nat) (time : Option Nat) (map : BitVec 32), f.payload = .census .flow
      n time ∧ f.map = some map ∧ r.InOrder ∧ (n < 1 ∨ 8 < n)) ∧
    (∃ (r : Replica) (f : Frame) (n : Nat) (time : Option Nat) (map : BitVec 32), f.payload = .census .flow
      n time ∧ f.map = some map ∧ r.InOrder ∧ (n < 1 ∨ 8 < n) ∧ n = 0) ∧
    (∃ (f : Frame) (n : Nat) (time : Option Nat) (map : BitVec 32), f.payload = .census .flow n time ∧ f.map
      = some map) := by
  exact ⟨
    ⟨rep, { frame (.census .flow 9 none) with map := some 0#32 }, 9, none, 0#32, by decide +kernel⟩,
    ⟨rep, { frame (.census .flow 0 none) with map := some 0#32 }, 0, none, 0#32, by decide +kernel⟩,
    ⟨{ frame (.census .flow 1 none) with map := some 0#32 }, 1, none, 0#32, by decide +kernel⟩⟩

theorem test_witness_gaugeIsJudged :
    ∃ (f : Frame) (g : Gauging), f.payload = .gauge g := by
  exact ⟨frame (.gauge gaugeReq), gaugeReq, by decide +kernel⟩

theorem test_witness_presentCensusCountsMisses :
    (∃ (r : Replica) (f : Frame) (n : Nat) (time : Option Nat) (map : BitVec 32), f.payload = .census
      .present n time ∧ f.map = some map ∧
       let g (e : StationEntry) : Nat :=
       (
          match e.membership, e.donor with
          | .absent, _ => e.misses
          | .joining, none => e.misses + 1
          | _, _ => if map.getLsbD e.number = true then 0 else e.misses + 1)
       (∀ e ∈ r.stations, g e < 3)) ∧
    (∃ (r : Replica) (f : Frame) (n : Nat) (time : Option Nat) (map : BitVec 32) (e : StationEntry),
      r.InOrder ∧ f.payload = .census .present n time ∧ f.map = some map ∧ e ∈ r.stations ∧ e.membership =
      .inService ∧ e.misses = 2 ∧ map.getLsbD e.number = false) ∧
    (∃ (r : Replica) (f : Frame) (n : Nat) (time : Option Nat) (map : BitVec 32) (e : StationEntry),
      r.InOrder ∧ r.HoldsMatch ∧ f.payload = .census .present n time ∧ f.map = some map ∧ e ∈ r.stations ∧
      e.membership ≠ .absent ∧
       let g (x : StationEntry) : Nat :=
       (
          match x.membership, x.donor with
          | .absent, _ => x.misses
          | .joining, none => x.misses + 1
          | _, _ => if map.getLsbD x.number = true then 0 else x.misses + 1)
       3 ≤ g e ∧ (∀ x ∈ r.stations, x.number ≠ e.number → g x < 3)) ∧
    (∃ (r : Replica) (f : Frame) (n : Nat) (time : Option Nat) (map : BitVec 32) (e : StationEntry),
      r.InOrder ∧ r.HoldsMatch ∧ f.payload = .census .present n time ∧ f.map = some map ∧ e ∈ r.stations ∧
      e.membership ≠ .absent ∧
       let g (x : StationEntry) : Nat :=
       (
          match x.membership, x.donor with
          | .absent, _ => x.misses
          | .joining, none => x.misses + 1
          | _, _ => if map.getLsbD x.number = true then 0 else x.misses + 1)
       3 ≤ g e ∧ (∀ x ∈ r.stations, x.number ≠ e.number → g x < 3) ∧ e.activity = none ∧ e.membership =
         .joining ∧ e.donor = some 3) ∧
    (∃ (r : Replica) (f : Frame) (n : Nat) (time : Option Nat) (map : BitVec 32) (e : StationEntry),
      r.InOrder ∧ r.HoldsMatch ∧ f.payload = .census .present n time ∧ f.map = some map ∧ e ∈ r.stations ∧
      e.membership ≠ .absent ∧
       let g (x : StationEntry) : Nat :=
       (
          match x.membership, x.donor with
          | .absent, _ => x.misses
          | .joining, none => x.misses + 1
          | _, _ => if map.getLsbD x.number = true then 0 else x.misses + 1)
       3 ≤ g e ∧ (∀ x ∈ r.stations, x.number ≠ e.number → g x < 3) ∧ e.membership = .inService ∧
         e.donatingTo = some 9) := by
  exact ⟨
    ⟨rep, { frame (.census .present 0 none) with map := some 0#32 }, 0, none, 0#32, by decide +kernel⟩,
    ⟨missed, { frame (.census .present 0 none) with map := some 0#32 }, 0, none, 0#32,
      { serving 4 .dispense (some 1) none with misses := 2 }, by decide +kernel⟩,
    ⟨(missing opened 3), { frame (.census .present 0 (some 50)) with map := some 0#32 }, 0, some 50, 0#32,
      { entry3 with misses := 2 }, by decide +kernel⟩,
    ⟨(missing joiningRep 9), { frame (.census .present 0 (some 50)) with map := some 8#32 }, 0, some 50,
      8#32, { entry9 with misses := 2 }, by decide +kernel⟩,
    ⟨(missing joiningRep 3), { frame (.census .present 0 (some 50)) with map := some 512#32 }, 0, some 50,
      512#32, { donor3 with misses := 2 }, by decide +kernel⟩⟩

theorem test_witness_membershipFrames :
    (∃ (r : Replica) (f : Frame) (j : Joining) (e : StationEntry) (d : StationEntry), f.payload = .join j ∧
      j.station = f.sender ∧ r.station? f.sender = some e ∧ e.membership ≠ .inService ∧ e.donor = none ∧ (∃
      before after, r.stations = before ++ d :: after ∧ ∀ x ∈ before, x.membership ≠ .inService ∨ (x.role ≠
      some .dispense ∧ x.role ≠ some .receipt) ∨ x.donatingTo ≠ none) ∧ d.membership = .inService ∧ (d.role
      = some .dispense ∨ d.role = some .receipt) ∧ d.donatingTo = none) ∧
    (∃ (r : Replica) (f : Frame) (j : Joining), f.payload = .join j ∧ (j.station ≠ f.sender ∨ (r.station?
      f.sender).map StationEntry.membership = some .inService ∨ ((r.station? f.sender).bind
      StationEntry.donor = none ∧ ∀ x ∈ r.stations, x.membership ≠ .inService ∨ (x.role ≠ some .dispense ∧
      x.role ≠ some .receipt) ∨ x.donatingTo ≠ none))) ∧
    (∃ (r : Replica) (f : Frame) (a : Announcing) (e : StationEntry) (d : Nat), f.payload = .announce a ∧
      a.founder = false ∧ r.station? f.sender = some e ∧ e.membership = .joining ∧ e.donor = some d) ∧
    (∃ (r : Replica) (f : Frame) (a : Announcing), f.payload = .announce a ∧ a.founder = false ∧
      ((r.station? f.sender).map StationEntry.membership ≠ some .joining ∨ (r.station? f.sender).bind
      StationEntry.donor = none)) ∧
    (∃ (r : Replica) (f : Frame) (a : Announcing), f.payload = .announce a ∧ a.founder = false ∧
      ((r.station? f.sender).map StationEntry.membership ≠ some .joining ∨ (r.station? f.sender).bind
      StationEntry.donor = none) ∧ (r.station? f.sender).map StationEntry.membership = some .joining) ∧
    (∃ (r : Replica) (f : Frame) (a : Announcing), r.InOrder ∧ f.payload = .announce a ∧ a.founder = true ∧
      (∀ e ∈ r.stations, e.number ≠ f.sender → e.activity = none)) ∧
    (∃ (r : Replica) (f : Frame) (a : Announcing) (x : StationEntry) (o : OpenActivity), r.InOrder ∧
      r.HoldsMatch ∧ f.payload = .announce a ∧ a.founder = true ∧ x ∈ r.stations ∧ x.number ≠ f.sender ∧
      x.activity = some o ∧ (∀ e ∈ r.stations, e.number ≠ f.sender → e.number ≠ x.number → e.activity =
      none)) ∧
    (∃ (r : Replica) (f : Frame) (j : Joining) (e : StationEntry) (d : StationEntry) (n : Nat),
      f.payload = .join j ∧ j.station = f.sender ∧ r.station? f.sender = some e ∧ e.membership = .joining ∧
      e.donor = some n ∧
       let ended : Replica :=
         (r.modStation n fun x => { x with donatingTo := none }).modStation f.sender fun x =>
           { x with donor := none }
       (∃ before after, ended.stations = before ++ d :: after ∧ ∀ x ∈ before, x.membership ≠ .inService ∨
         (x.role ≠ some .dispense ∧ x.role ≠ some .receipt) ∨ x.donatingTo ≠ none) ∧
       d.membership = .inService ∧ (d.role = some .dispense ∨ d.role = some .receipt) ∧ d.donatingTo = none) := by
  exact ⟨
    ⟨rep, sentBy 9 (.join joinReq), joinReq, StationEntry.wiped 9, serving 3 .dispense (some 1) none,
      by refine ⟨?_,?_,?_,?_,?_,?_,?_,?_,?_⟩ <;> first | decide +kernel | exact ⟨[StationEntry.wiped 1, StationEntry.wiped 2], stations.drop 3, by decide +kernel⟩⟩,
    ⟨rep, sentBy 8 (.join joinReq), joinReq, by decide +kernel⟩,
    ⟨joiningRep, sentBy 9 (.announce announceReq), announceReq, entry9, 3, by decide +kernel⟩,
    ⟨rep, sentBy 9 (.announce announceReq), announceReq, by decide +kernel⟩,
    ⟨orphanJoiner, sentBy 9 (.announce announceReq), announceReq, by decide +kernel⟩,
    ⟨rep, sentBy 9 (.announce { announceReq with founder := true }), { announceReq with founder := true },
      by decide +kernel⟩,
    ⟨opened, sentBy 9 (.announce { announceReq with founder := true }),
      { announceReq with founder := true }, entry3, fill3, by decide +kernel⟩,
    ⟨joiningRep, sentBy 9 (.join joinReq), joinReq, entry9, serving 3 .dispense (some 1) none, 3,
      by refine ⟨?_,?_,?_,?_,?_,⟨[StationEntry.wiped 1, StationEntry.wiped 2],
        joiningRep.stations.drop 3 |>.map fun x => if x.number = 9 then { x with donor := none } else x,
        ?_⟩,?_⟩ <;> decide +kernel⟩⟩

theorem test_witness_leaveOrphansTheFill :
    (∃ (r : Replica) (f : Frame) (e : StationEntry), f.payload = .leave ∧ r.station? f.sender = some e ∧
      e.activity = none ∧ e.donor = none ∧ e.donatingTo = none) ∧
    (∃ (r : Replica) (f : Frame) (e : StationEntry) (n : Nat), f.payload = .leave ∧ r.station? f.sender =
      some e ∧ e.activity = none ∧ e.membership = .inService ∧ e.donatingTo = some n) ∧
    (∃ (r : Replica) (f : Frame) (e : StationEntry) (n : Nat), f.payload = .leave ∧ r.station? f.sender =
      some e ∧ e.activity = none ∧ e.membership = .joining ∧ e.donor = some n) ∧
    (∃ (r : Replica) (f : Frame) (e : StationEntry) (a : OpenActivity), r.InOrder ∧ r.HoldsMatch ∧ f.payload
      = .leave ∧ r.station? f.sender = some e ∧ e.activity = some a ∧ (e.donor.isSome = true ∨
      e.donatingTo.isSome = true)) ∧
    (∃ (r : Replica) (f : Frame) (e : StationEntry) (a : OpenActivity), r.InOrder ∧ f.payload = .leave ∧
      r.station? f.sender = some e ∧ e.activity = some a ∧ a.kind = .delivery ∧ e.donor = none ∧
      e.donatingTo = none) ∧
    (∃ (r : Replica) (f : Frame) (e : StationEntry) (a : OpenActivity) (m : MachineEntry), r.InOrder ∧
      f.payload = .leave ∧ r.station? f.sender = some e ∧ e.activity = some a ∧ a.kind = .fill ∧ e.donor =
      none ∧ e.donatingTo = none ∧ r.machine? a.party = some m) := by
  exact ⟨
    ⟨rep, sentBy 3 .leave, serving 3 .dispense (some 1) none, by decide +kernel⟩,
    ⟨joiningRep, sentBy 3 .leave, donor3, 9, by decide +kernel⟩,
    ⟨joiningRep, sentBy 9 .leave, entry9, 3, by decide +kernel⟩,
    ⟨donatingOpen, sentBy 3 .leave, donating3, fill3, by decide +kernel⟩,
    ⟨delivering, sentBy 5 .leave, entry5, delivery5, by decide +kernel⟩,
    ⟨opened, sentBy 3 .leave, entry3, fill3, held7, by decide +kernel⟩⟩

theorem test_witness_adjustIsGuarded :
    (∃ (r : Replica) (f : Frame) (a : Adjusting), f.payload = .adjust a ∧ (a.delta = 0 ∨ ∀ l ∈ (r.station?
      f.sender).bind StationEntry.last, l.openSeq ≠ a.openSeq ∨ l.kind = .closed ∨ l.billed ≠
      a.billedBefore)) ∧
    (∃ (r : Replica) (f : Frame) (a : Adjusting) (l : LastEnded), f.payload = .adjust a ∧ a.delta ≠ 0 ∧
      (r.station? f.sender).bind StationEntry.last = some l ∧ l.openSeq = a.openSeq ∧ l.kind ≠ .closed ∧
      l.billed = a.billedBefore ∧ (512 ≤ r.log.length + r.openCount ∨ 2 ^ 32 - 1 ≤ r.site.nextRecord +
      r.openCount)) ∧
    (∃ (r : Replica) (f : Frame) (a : Adjusting) (l : LastEnded), f.payload = .adjust a ∧ a.delta ≠ 0 ∧
      (r.station? f.sender).bind StationEntry.last = some l ∧ l.openSeq = a.openSeq ∧ l.kind ≠ .closed ∧
      l.billed = a.billedBefore ∧ r.log.length + r.openCount < 512 ∧ r.site.nextRecord + r.openCount < 2 ^
      32 - 1) := by
  exact ⟨
    ⟨rep, sentBy 3 (.adjust adjustReq), adjustReq, by decide +kernel⟩,
    ⟨{ ended with site := { ended.site with nextRecord := 2 ^ 32 - 1 } }, sentBy 3 (.adjust adjustReq),
      adjustReq, { openSeq := 90, kind := .orphaned, billed := 500 }, by decide +kernel⟩,
    ⟨ended, sentBy 3 (.adjust adjustReq), adjustReq, { openSeq := 90, kind := .orphaned, billed := 500 },
      by decide +kernel⟩⟩

theorem test_witness_appliedFrameBeginsItsWrite :
    (∃ (row : Instr × (Payload → Bool)) (s : State) (f : Frame), row ∈ tableRows ∧ s.AppliesNext f ∧ row.2
      f.payload = true) ∧
    (∃ (row : Instr × (Payload → Bool)) (s : State) (f : Frame), row ∈ tableRows ∧ s.Live ∧ s.toApply = some
      f ∧ row.2 f.payload = true ∧ maxSeq ≤ s.replica.site.seq) := by
  exact ⟨
    ⟨(.release, isKind .release), inbox live (frame (.release 5)), frame (.release 5),
      by refine ⟨?_,?_,?_⟩ <;> first | decide +kernel | simp [tableRows]⟩,
    ⟨(.leave, isKind .leave), inbox (onSite live fun x => { x with seq := maxSeq }) (frame .leave), frame
      .leave, by refine ⟨?_,?_,?_,?_,?_⟩ <;> first | decide +kernel | simp [tableRows]⟩⟩

theorem test_witness_heededFramesAreApplied :
    (∃ (s : State) (f : Frame) (cls : Nat) (kind : Byte) (bytes : List Byte), s.AppliesNext f ∧ f.payload =
      .unknown cls kind bytes) ∧
    (∃ (s : State) (f : Frame) (reason : Byte), s.AppliesNext f ∧ f.payload = .stop reason) ∧
    (∃ (s : State) (f : Frame) (n : Nat), s.AppliesNext f ∧ f.payload = .time n) ∧
    (∃ (s : State) (f : Frame) (x : StopInfo), s.AppliesNext f ∧ f.payload = .resume ∧ s.replica.site.stop =
      some x ∧ (x.origin = f.sender ∨ s.replica.isOffice f.sender = true) ∧ s.meter.cells.estop.output =
      false) ∧
    (∃ (s : State) (f : Frame) (x : StopInfo), s.AppliesNext f ∧ f.payload = .resume ∧ s.replica.site.stop =
      some x ∧ (x.origin = f.sender ∨ s.replica.isOffice f.sender = true) ∧ s.meter.cells.estop.output =
      true) ∧
    (∃ (s : State) (f : Frame), s.AppliesNext f ∧ f.payload = .resume ∧ (∀ x ∈ s.replica.site.stop, x.origin
      ≠ f.sender ∧ s.replica.isOffice f.sender = false)) ∧
    (∃ (s : State) (f : Frame) (x : StopInfo), s.AppliesNext f ∧ f.payload = .resume ∧ s.replica.site.stop =
      some x ∧ (x.origin = f.sender ∨ s.replica.isOffice f.sender = true) ∧ s.meter.cells.estop.output =
      true ∧ s.link.withdrawable .stopPath .resume = true) := by
  exact ⟨
    ⟨inbox live (frame (.unknown 4 0x77 [1])), frame (.unknown 4 0x77 [1]), 4, 0x77, [1], by decide +kernel⟩,
    ⟨inbox live (frame (.stop 5)), frame (.stop 5), 5, by decide +kernel⟩,
    ⟨inbox live (sentBy 30 (.time 50)), sentBy 30 (.time 50), 50, by decide +kernel⟩,
    ⟨inbox (onSite live fun x => { x with stop := some stopInfo }) (frame .resume), frame .resume, stopInfo,
      by decide +kernel⟩,
    ⟨inbox (onCells (onSite live fun x => { x with stop := some stopInfo }) fun c =>
      { c with estop := cell true }) (frame .resume), frame .resume, stopInfo, by decide +kernel⟩,
    ⟨inbox live (frame .resume), frame .resume, by decide +kernel⟩,
    ⟨inbox (queueing (stopped (onSite live fun x => { x with stop := some stopInfo })) .stopPath .resume)
      (frame .resume), frame .resume, stopInfo, by decide +kernel⟩⟩

theorem test_witness_frameStartContends :
    (∃ (l : Link) (e : TxEntry), l.nextToSend = some e) ∧
    (∃ (l : Link) (e : TxEntry), l.nextToSend = some e) ∧
    (∃ (l : Link) (e : TxEntry) (x : _), l.nextToSend = some e ∧ x ∈ l.tx ∧ l.maySend x.payload = true) ∧
    (∃ (idle : Nat) (s : State) (e : TxEntry), s.Live ∧ s.link.nextToSend = some e ∧ s.link.wire = none ∧
      s.link.slots = none ∧
       let gap := (if s.link.lostPlace then 48 else if s.link.voidHold then 24 else 12)
       idle < gap) ∧
    (∃ (idle : Nat) (rivals : List Byte) (early : Bool) (s : State) (e : TxEntry), s.Live ∧
      s.link.nextToSend = some e ∧ s.link.wire = none ∧ s.link.slots = none ∧
       let gap := (if s.link.lostPlace then 48 else if s.link.voidHold then 24 else 12)
       let f := s.wireFrame e
       let own := (contentionByte f.payload.cls f.sender).toNat
       gap ≤ idle ∧ early = false ∧ (∀ r ∈ rivals, own ≤ r.toNat)) ∧
    (∃ (idle : Nat) (rivals : List Byte) (early : Bool) (s : State) (e : TxEntry), s.Live ∧
      s.link.nextToSend = some e ∧ s.link.wire = none ∧ s.link.slots = none ∧
       let gap := (if s.link.lostPlace then 48 else if s.link.voidHold then 24 else 12)
       let f := s.wireFrame e
       let own := (contentionByte f.payload.cls f.sender).toNat
       gap ≤ idle ∧ (early = true ∨ ∃ r ∈ rivals, r.toNat < own)) ∧
    (∃ (s : State) (e : TxEntry), s.Live ∧ s.link.nextToSend = some e ∧ s.link.wire = none ∧ s.link.slots =
      none) ∧
    (∃ (s : State) (e : TxEntry), s.Live ∧ s.link.nextToSend = some e ∧ s.link.wire = none ∧ s.link.slots =
      none) ∧
    (∃ (s : State) (e : TxEntry), s.Live ∧ s.link.nextToSend = some e ∧ s.link.wire = none ∧ s.link.slots =
      none ∧ e.payload.kind? ≠ some .sealRound) ∧
    (∃ (s : State) (e : TxEntry) (x : Sealing) (r : Round), s.Live ∧ s.link.nextToSend = some e ∧
      s.link.wire = none ∧ s.link.slots = none ∧ e.payload = .sealRound x ∧ s.engine.round = some r ∧
      r.candidates ≠ []) := by
  exact ⟨
    ⟨Link.enter { Link.reset with state := .inService } .activity 0 (.progress 90 5), progressEntry,
      by decide +kernel⟩,
    ⟨Link.enter { Link.reset with state := .inService } .activity 0 (.progress 90 5), progressEntry,
      by decide +kernel⟩,
    ⟨Link.enter { Link.reset with state := .inService } .activity 0 (.progress 90 5), progressEntry,
      progressEntry, by decide +kernel⟩,
    ⟨11, (onLink live fun l => { l with tx := [progressEntry], entered := 1 }), progressEntry,
      by decide +kernel⟩,
    ⟨12, [67], false, (onLink live fun l => { l with tx := [progressEntry], entered := 1 }), progressEntry,
      by decide +kernel⟩,
    ⟨12, [66], false, (onLink live fun l => { l with tx := [progressEntry], entered := 1 }), progressEntry,
      by decide +kernel⟩,
    ⟨(onLink live fun l => { l with tx := [progressEntry], entered := 1 }), progressEntry,
      by decide +kernel⟩,
    ⟨(onLink live fun l => { l with tx := [progressEntry], entered := 1 }), progressEntry,
      by decide +kernel⟩,
    ⟨(onLink live fun l => { l with tx := [progressEntry], entered := 1 }), progressEntry,
      by decide +kernel⟩,
    ⟨queueing foundingRound .membership (.sealRound sealReq),
      { origin := .membership, dest := 0, payload := .sealRound sealReq, voids := 0, entered := 0 },
      sealReq, roundOf5, by decide +kernel⟩⟩

theorem test_witness_linkFaultsAndErrors :
    (∃ (s : State) (w : OnWire) (rival : List Bit), s.Live ∧ s.link.wire = some w ∧ readsDominant ((wireBits
      w.frame).drop (contentionEnd w.frame)) rival = true) ∧
    (∃ (s : State) (w : SlotWait) (map : BitVec 32) (n : Nat) (time : Option Nat), s.Live ∧ s.link.slots =
      some w ∧ w.answered = true ∧ w.frame.payload = .census .present n time ∧ map.getLsbD s.me = false) ∧
    (∃ (c : Instr) (s : State) (w : Writing), c ∈ [Instr.retainedWriteComplete, .sequenceLimit] ∧ s.Live ∧
      s.engine.writing = some w ∧ w.limit = true) ∧
    (∃ (s : State) (rx : List Bit) (e : RxError), s.Receives ∧ receive rx = .abandoned e) ∧
    (∃ (s : State) (rx : List Bit) (e : RxError), s.Receives ∧ receive rx = .truncated e) := by
  exact ⟨
    ⟨sending live .stopPath (sentBy 3 (.stop 0)) 0, { origin := .stopPath, frame := sentBy 3 (.stop 0) },
      List.replicate 40 false, by decide +kernel⟩,
    ⟨onLink live fun l =>
      { l with slots := some { frame := frame (.census .present 0 none), answered := true, queue := true } },
      { frame := frame (.census .present 0 none), answered := true, queue := true }, 0#32, 0, none,
      by decide +kernel⟩,
    ⟨.sequenceLimit, onEngine live fun e => { e with writing := some limitWriting }, limitWriting,
      by decide +kernel⟩,
    ⟨live, List.replicate 6 true ++ List.replicate 5 false, .stuff, by decide +kernel⟩,
    ⟨live, (wireBits (frame (.stop 0))).take 70 ++ List.replicate 12 true, .truncated, by decide +kernel⟩⟩

theorem test_witness_replicaWindowIsDecided :
    (∃ (s : State) (rx : List Bit) (x : Slots) (f : Frame), s.Receives ∧ s.link.state = .inService ∧ receive
      rx = .window { frame := f, error := none } ∧ f.payload.category = .replica ∧ s.link.inbound.length < 8
      ∧ f.payload.kind? ≠ some .join ∧ f.seq16 = BitVec.ofNat 16 (s.link.acceptedSeq + 1) ∧ x.void = true) ∧
    (∃ (s : State) (rx : List Bit) (x : Slots) (f : Frame), s.Receives ∧ s.link.state = .inService ∧ receive
      rx = .window { frame := f, error := none } ∧ f.payload.category = .replica ∧ s.link.inbound.length < 8
      ∧ f.payload.kind? ≠ some .join ∧ f.seq16 = BitVec.ofNat 16 (s.link.acceptedSeq + 1) ∧ x.void = false ∧
      f.payload.kind? ≠ some .census ∧ (f.payload.kind? = some .stop → s.activity.state ∉
      [ActState.awaitingId, .opening, .flowing, .slowing])) ∧
    (∃ (s : State) (rx : List Bit) (x : Slots) (f : Frame), s.Receives ∧ s.link.state = .inService ∧ receive
      rx = .window { frame := f, error := none } ∧ f.payload.category = .replica ∧ s.link.inbound.length < 8
      ∧ f.payload.kind? ≠ some .join ∧ f.seq16 = BitVec.ofNat 16 (s.link.acceptedSeq + 1) ∧ x.void = false ∧
      f.payload.kind? = some .stop ∧ (s.activity.state = .flowing ∨ s.activity.state = .slowing)) ∧
    (∃ (s : State) (rx : List Bit) (x : Slots) (f : Frame), s.Receives ∧ s.link.state = .inService ∧ receive
      rx = .window { frame := f, error := none } ∧ f.payload.category = .replica ∧ s.link.inbound.length < 8
      ∧ f.payload.kind? ≠ some .join ∧ f.seq16 = BitVec.ofNat 16 (s.link.acceptedSeq + 1) ∧ x.void = false ∧
      f.payload.kind? = some .stop ∧ s.activity.state = .awaitingId) ∧
    (∃ (s : State) (rx : List Bit) (x : Slots) (f : Frame), s.Receives ∧ s.link.state = .inService ∧ receive
      rx = .window { frame := f, error := none } ∧ f.payload.category = .replica ∧ s.link.inbound.length < 8
      ∧ f.payload.kind? ≠ some .join ∧ f.seq16 = BitVec.ofNat 16 (s.link.acceptedSeq + 1) ∧ x.void = false ∧
      f.payload.kind? = some .stop ∧ s.activity.state = .opening) ∧
    (∃ (s : State) (rx : List Bit) (x : Slots) (f : Frame), s.Receives ∧ s.link.state = .inService ∧ receive
      rx = .window { frame := f, error := none } ∧ f.payload.category = .replica ∧ s.link.inbound.length < 8
      ∧ f.payload.kind? ≠ some .join ∧ f.seq16 = BitVec.ofNat 16 (s.link.acceptedSeq + 1) ∧ x.void = false ∧
      f.payload.kind? = some .stop ∧ s.activity.state = .opening ∧ s.activity.pendingEnd = none ∧
      s.link.withdrawable .activity s.openKind = true) ∧
    (∃ (s : State) (rx : List Bit) (x : Slots) (f : Frame), s.Receives ∧ s.link.state = .inService ∧ receive
      rx = .window { frame := f, error := none } ∧ f.payload.category = .replica ∧ s.link.inbound.length < 8
      ∧ f.payload.kind? ≠ some .join ∧ f.seq16 = BitVec.ofNat 16 (s.link.acceptedSeq + 1) ∧ x.void = false ∧
      f.payload.kind? = some .stop ∧ s.activity.state = .opening ∧ s.activity.pendingEnd = none ∧
      s.link.withdrawable .activity s.openKind = false) ∧
    (∃ (s : State) (rx : List Bit) (x : Slots) (f : Frame) (n : _) (time : _), s.Receives ∧ s.link.state =
      .inService ∧ receive rx = .window { frame := f, error := none } ∧ f.payload.category = .replica ∧
      s.link.inbound.length < 8 ∧ f.payload.kind? ≠ some .join ∧ f.seq16 = BitVec.ofNat 16
      (s.link.acceptedSeq + 1) ∧ x.void = false ∧ f.payload = .census .flow n time) ∧
    (∃ (s : State) (rx : List Bit) (x : Slots) (f : Frame) (n : _) (time : _), s.Receives ∧ s.link.state =
      .inService ∧ receive rx = .window { frame := f, error := none } ∧ f.payload.category = .replica ∧
      s.link.inbound.length < 8 ∧ f.payload.kind? ≠ some .join ∧ f.seq16 = BitVec.ofNat 16
      (s.link.acceptedSeq + 1) ∧ x.void = false ∧ f.payload = .census .present n time ∧ (∀ e ∈ s.link.tx,
      e.origin = .census → e.payload.kind? = some .census)) ∧
    (∃ (s : State) (rx : List Bit) (f : Frame), s.Receives ∧ s.link.state = .inService ∧ receive rx =
      .window { frame := f, error := none } ∧ f.payload.kind? = some .join ∧ s.link.inbound.length < 8) ∧
    (∃ (s : State) (rx : List Bit) (x : Slots) (f : Frame), s.Receives ∧ s.link.state = .inService ∧ receive
      rx = .window { frame := f, error := none } ∧ f.payload.kind? = some .join ∧ s.link.inbound.length < 8
      ∧ x.void = true) ∧
    (∃ (s : State) (rx : List Bit) (r : RxFrame), s.Receives ∧ s.link.state = .inService ∧ receive rx =
      .window r ∧ r.frame.payload.category = .replica ∧ (r.error.isSome = true ∨ 8 ≤ s.link.inbound.length)
      ∧ s.link.voidRun < 7) := by
  exact ⟨
    ⟨live, wireBits (frame (.bar 7)), ⟨false, false, true⟩, frame (.bar 7), by decide +kernel⟩,
    ⟨live, wireBits (frame (.bar 7)), ⟨true, false, false⟩, frame (.bar 7), by decide +kernel⟩,
    ⟨filling .flowing, wireBits (frame (.stop 5)), ⟨true, false, false⟩, frame (.stop 5), by decide +kernel⟩,
    ⟨onActivity live fun a => { a with state := .awaitingId }, wireBits (frame (.stop 5)), ⟨true, false,
      false⟩, frame (.stop 5), by decide +kernel⟩,
    ⟨onActivity (filling .opening) fun a => { a with pendingEnd := some .hung }, wireBits (frame (.stop 5)),
      ⟨true, false, false⟩, frame (.stop 5), by decide +kernel⟩,
    ⟨(onLink (filling .opening) fun l => { l with tx := [openEntry], entered := 1 }), wireBits (frame (.stop
      5)), ⟨true, false, false⟩, frame (.stop 5), by decide +kernel⟩,
    ⟨filling .opening, wireBits (frame (.stop 5)), ⟨true, false, false⟩, frame (.stop 5), by decide +kernel⟩,
    ⟨live, wireBits (frame (.census .flow 1 none)), ⟨true, false, false⟩, frame (.census .flow 1 none), 1,
      none, by decide +kernel⟩,
    ⟨live, wireBits (frame (.census .present 0 none)), ⟨true, false, false⟩, frame (.census .present 0
      none), 0, none, by decide +kernel⟩,
    ⟨live, wireBits (sentBy 9 (.join joinReq)), sentBy 9 (.join joinReq), by decide +kernel⟩,
    ⟨live, wireBits (sentBy 9 (.join joinReq)), ⟨false, false, true⟩, sentBy 9 (.join joinReq),
      by decide +kernel⟩,
    ⟨(onLink live fun l => { l with inbound := List.replicate 8 (frame .leave) }), wireBits (frame (.bar
      7)), { frame := frame (.bar 7), error := none }, by decide +kernel⟩⟩

theorem test_witness_otherWindowsAreDecided :
    (∃ (s : State) (x : Slots) (w : OnWire) (e : TxEntry), s.Sends w e ∧ s.link.state = .inService ∧
      w.frame.payload.category = .replica ∧ w.origin = .activity ∧ w.frame.payload.kind?
      ≠ some .census ∧ w.frame.payload.kind? ≠ some .stop ∧ s.link.inbound.length < 8 ∧ Accepting x) ∧
    (∃ (s : State) (x : Slots) (w : OnWire) (e : TxEntry) (n : _) (time : _), s.Sends w e ∧ s.link.state =
      .inService ∧ w.frame.payload = e.payload ∧ Accepting x ∧ w.origin = .census ∧
      e.payload = .census .present n time) ∧
    (∃ (s : State) (x : Slots) (w : OnWire) (e : TxEntry) (n : _) (time : _), s.Sends w e ∧ s.link.state =
      .inService ∧ w.frame.payload = e.payload ∧ Accepting x ∧ w.origin = .gauge ∧
      e.payload = .census .flow n time) ∧
    (∃ (s : State) (x : Slots) (w : OnWire) (e : TxEntry) (n : _) (time : _), s.Sends w e ∧ s.link.state =
      .inService ∧ w.frame.payload = e.payload ∧ Accepting x ∧ w.origin = .gauge ∧
      e.payload = .census .flow n time ∧ s.answersFlow n = true) ∧
    (∃ (s : State) (x : Slots) (w : OnWire) (e : TxEntry), s.Sends w e ∧ s.link.state = .inService ∧
      w.frame.payload = e.payload ∧ Accepting x ∧ s.link.inbound.length < 8 ∧ (w.origin =
      .gauge ∧ e.payload.kind? = some .gauge ∨ w.origin = .membership ∧ (e.payload.kind? = some .announce ∨
      e.payload.kind? = some .leave) ∨ w.origin = .stopPath ∧ e.payload.kind? = some .resume ∧ s.stop.wanted
      = false)) ∧
    (∃ (s : State) (x : Slots) (w : OnWire) (e : TxEntry), s.Sends w e ∧ s.link.state = .inService ∧
      w.frame.payload = e.payload ∧ Accepting x ∧ s.link.inbound.length < 8 ∧ (w.origin =
      .gauge ∧ e.payload.kind? = some .gauge ∨ w.origin = .membership ∧ (e.payload.kind? = some .announce ∨
      e.payload.kind? = some .leave) ∨ w.origin = .stopPath ∧ e.payload.kind? = some .resume ∧ s.stop.wanted
      = false) ∧ e.payload.kind? = some .announce) ∧
    (∃ (s : State) (x : Slots) (w : OnWire) (e : TxEntry), s.Sends w e ∧ s.link.state = .inService ∧
      w.frame.payload = e.payload ∧ Accepting x ∧ s.link.inbound.length < 8 ∧ (w.origin =
      .gauge ∧ e.payload.kind? = some .gauge ∨ w.origin = .membership ∧ (e.payload.kind? = some .announce ∨
      e.payload.kind? = some .leave) ∨ w.origin = .stopPath ∧ e.payload.kind? = some .resume ∧ s.stop.wanted
      = false) ∧ e.payload.kind? = some .leave) ∧
    (∃ (s : State) (x : Slots) (w : OnWire) (e : TxEntry), s.Sends w e ∧ s.link.state = .inService ∧
      w.frame.payload = e.payload ∧ Accepting x ∧ s.link.inbound.length < 8 ∧ (w.origin =
      .gauge ∧ e.payload.kind? = some .gauge ∨ w.origin = .membership ∧ (e.payload.kind? = some .announce ∨
      e.payload.kind? = some .leave) ∨ w.origin = .stopPath ∧ e.payload.kind? = some .resume ∧ s.stop.wanted
      = false) ∧ e.payload.kind? = some .resume) ∧
    (∃ (s : State) (x : Slots) (w : OnWire) (e : TxEntry) (o : _), s.Sends w e ∧ s.link.state = .inService ∧
      w.frame.payload = e.payload ∧ Accepting x ∧ s.link.inbound.length < 8 ∧ w.origin =
      .stopPath ∧ e.payload = .stop o ∧ s.activity.state ∉ [ActState.awaitingId, .opening, .flowing,
      .slowing]) ∧
    (∃ (s : State) (x : Slots) (w : OnWire) (e : TxEntry) (o : _), s.Sends w e ∧ s.link.state = .inService ∧
      w.frame.payload = e.payload ∧ Accepting x ∧ s.link.inbound.length < 8 ∧ w.origin =
      .stopPath ∧ e.payload = .stop o ∧ (s.activity.state = .flowing ∨ s.activity.state = .slowing)) ∧
    (∃ (s : State) (x : Slots) (w : OnWire) (e : TxEntry) (o : _), s.Sends w e ∧ s.link.state = .inService ∧
      w.frame.payload = e.payload ∧ Accepting x ∧ s.link.inbound.length < 8 ∧ w.origin =
      .stopPath ∧ e.payload = .stop o ∧ s.activity.state = .awaitingId) ∧
    (∃ (s : State) (x : Slots) (w : OnWire) (e : TxEntry) (o : _), s.Sends w e ∧ s.link.state = .inService ∧
      w.frame.payload = e.payload ∧ Accepting x ∧ s.link.inbound.length < 8 ∧ w.origin =
      .stopPath ∧ e.payload = .stop o ∧ s.activity.state = .opening) ∧
    (∃ (s : State) (rx : List Bit) (f : Frame), s.Receives ∧ (s.link.state = .listening ∨ s.link.state =
      .founding) ∧ receive rx = .window { frame := f, error := none } ∧ f.payload.category = .founding ∧
      s.link.inbound.length < 8) ∧
    (∃ (s : State) (x : Slots) (w : OnWire) (e : TxEntry) (q : Nat) (k : Check), s.Sends w e ∧ (s.link.state
      = .listening ∨ s.link.state = .founding) ∧ w.origin = .membership ∧ w.frame.payload.category =
      .founding ∧ e.payload = .found q k ∧ s.link.inbound.length < 8 ∧ x.void = false) ∧
    (∃ (s : State) (rx : List Bit) (f : Frame), s.Receives ∧ s.link.state = .inService ∧ receive rx =
      .window { frame := f, error := none } ∧ f.payload.kind? = some .read ∧ s.link.inbound.length < 8) ∧
    (∃ (s : State) (x : Slots) (w : OnWire) (e : TxEntry), s.Sends w e ∧ w.frame.payload.category = .service
      ∧ w.origin = .responder ∧ e.payload = .busy ∧ s.responder =
      { context := none, waitingBusy := none } ∧ x.void = false) ∧
    (∃ (s : State) (x : Slots) (w : OnWire) (e : TxEntry) (j : Joining), s.Sends w e ∧ s.link.state =
      .listening ∧ w.frame.payload.category = .replica ∧ w.origin = .membership ∧ e.payload = .join j ∧
      Accepting x) ∧
    (∃ (s : State) (rx : List Bit) (x : Slots) (r : RxFrame), s.Receives ∧ receive rx = .window r ∧
      r.frame.payload.category = .replica ∧ s.link.state ∈ [LinkState.listening, .founding, .joining] ∧
      (¬Accepting x ∨ s.link.state = .listening ∧ r.frame.payload.kind? = some .join ∧ x.accept = false ∨
      s.link.state = .founding ∧ r.frame.payload.kind? = some .join)) ∧
    (∃ (s : State) (rx : List Bit) (x : Slots) (r : RxFrame), s.Receives ∧ receive rx = .window r ∧
      r.frame.payload.category = .replica ∧ s.link.state ∈ [LinkState.listening, .founding, .joining] ∧
      (¬Accepting x ∨ s.link.state = .listening ∧ r.frame.payload.kind? = some .join ∧ x.accept = false ∨
      s.link.state = .founding ∧ r.frame.payload.kind? = some .join) ∧ s.link.state = .founding ∧ Accepting
      x) ∧
    (∃ (s : State) (rx : List Bit) (x : Slots) (r : RxFrame), s.Receives ∧ receive rx = .window r ∧
      r.frame.payload.category = .replica ∧ s.link.state ∈ [LinkState.listening, .founding, .joining] ∧
      (¬Accepting x ∨ s.link.state = .listening ∧ r.frame.payload.kind? = some .join ∧ x.accept = false ∨
      s.link.state = .founding ∧ r.frame.payload.kind? = some .join) ∧ s.link.state = .listening ∧ Accepting
      x ∧ r.frame.payload.kind? = some .join) ∧
    (∃ (s : State) (rx : List Bit) (x : Slots) (r : RxFrame), s.Receives ∧ receive rx = .window r ∧
      r.frame.payload.category = .replica ∧ s.link.state ∈ [LinkState.listening, .founding, .joining] ∧
      (¬Accepting x ∨ s.link.state = .listening ∧ r.frame.payload.kind? = some .join ∧ x.accept = false ∨
      s.link.state = .founding ∧ r.frame.payload.kind? = some .join) ∧ s.link.state = .joining ∧
      r.error.isSome = true) ∧
    (∃ (s : State) (rx : List Bit) (x : Slots) (r : RxFrame), s.Receives ∧ s.link.state = .listening ∧
      receive rx = .window r ∧ r.frame.payload.category = .replica ∧ Accepting x ∧ (r.frame.payload.kind? =
      some .join → x.accept = true) ∧ s.engine.holdOff.isSome = true) ∧
    (∃ (s : State) (rx : List Bit) (x : Slots) (r : RxFrame), s.Receives ∧ s.link.state = .listening ∧
      receive rx = .window r ∧ r.frame.payload.category = .replica ∧ Accepting x ∧ (r.frame.payload.kind? =
      some .join → x.accept = true) ∧ s.engine.holdOff.isSome = true ∧ r.frame.payload.kind? = some .census
      ∧ s.engine.listenTimer.isSome = true) ∧
    (∃ (s : State) (rx : List Bit) (x : Slots) (r : RxFrame), s.Receives ∧ s.link.state = .listening ∧
      receive rx = .window r ∧ r.frame.payload.category = .replica ∧ Accepting x ∧ (r.frame.payload.kind? =
      some .join → x.accept = true) ∧ s.engine.holdOff = none ∧ s.link.queued .membership = none) ∧
    (∃ (s : State) (rx : List Bit) (x : Slots) (r : RxFrame), s.Receives ∧ s.link.state = .listening ∧
      receive rx = .window r ∧ r.frame.payload.category = .replica ∧ Accepting x ∧ (r.frame.payload.kind? =
      some .join → x.accept = true) ∧ s.engine.holdOff = none ∧ s.link.queued .membership = none ∧
      r.frame.payload.kind? = some .join) ∧
    (∃ (s : State) (rx : List Bit) (x : Slots) (r : RxFrame), s.Receives ∧ s.link.state = .listening ∧
      receive rx = .window r ∧ r.frame.payload.category = .replica ∧ Accepting x ∧ (r.frame.payload.kind? =
      some .join → x.accept = true) ∧ s.engine.holdOff = none ∧ s.link.queued .membership = none ∧
      r.frame.payload.kind? = some .census ∧ r.error.isSome = true) ∧
    (∃ (s : State) (rx : List Bit) (x : Slots) (r : RxFrame) (e : _), s.Receives ∧ s.link.state = .listening
      ∧ receive rx = .window r ∧ r.frame.payload.category = .replica ∧ Accepting x ∧ (r.frame.payload.kind?
      = some .join → x.accept = true) ∧ s.engine.holdOff = none ∧ s.link.queued .membership = some e) ∧
    (∃ (s : State) (rx : List Bit) (x : Slots) (r : RxFrame) (e : _), s.Receives ∧ s.link.state = .listening
      ∧ receive rx = .window r ∧ r.frame.payload.category = .replica ∧ Accepting x ∧ (r.frame.payload.kind?
      = some .join → x.accept = true) ∧ s.engine.holdOff = none ∧ s.link.queued .membership = some e ∧
      e.payload.kind? = some .join) ∧
    (∃ (s : State) (rx : List Bit) (x : Slots) (r : RxFrame), s.Receives ∧ s.link.state = .founding ∧
      receive rx = .window r ∧ r.frame.payload.category = .replica ∧ Accepting x ∧ r.frame.payload.kind? ≠
      some .join ∧ (∀ e ∈ s.link.queued .membership, e.payload.kind? = some .found ∨ e.payload.kind? = some
      .sealRound)) ∧
    (∃ (s : State) (rx : List Bit) (x : Slots) (r : RxFrame), s.Receives ∧ s.link.state = .founding ∧
      receive rx = .window r ∧ r.frame.payload.category = .replica ∧ Accepting x ∧ r.frame.payload.kind? ≠
      some .join ∧ (∀ e ∈ s.link.queued .membership, e.payload.kind? = some .found ∨ e.payload.kind? = some
      .sealRound) ∧ r.frame.payload.kind? = some .census ∧ r.error.isSome = true) ∧
    (∃ (s : State) (rx : List Bit) (x : Slots) (r : RxFrame), s.Receives ∧ s.link.state = .founding ∧
      receive rx = .window r ∧ r.frame.payload.category = .replica ∧ Accepting x ∧ r.frame.payload.kind? ≠
      some .join ∧ (∀ e ∈ s.link.queued .membership, e.payload.kind? = some .found ∨ e.payload.kind? = some
      .sealRound) ∧ s.engine.holdOff.isSome = true) ∧
    (∃ (s : State) (rx : List Bit) (x : Slots) (r : RxFrame), s.Receives ∧ s.link.state = .founding ∧
      receive rx = .window r ∧ r.frame.payload.category = .replica ∧ Accepting x ∧ r.frame.payload.kind? ≠
      some .join ∧ (∀ e ∈ s.link.queued .membership, e.payload.kind? = some .found ∨ e.payload.kind? = some
      .sealRound) ∧ (s.link.queued .membership).isSome = true) ∧
    (∃ (s : State) (rx : List Bit) (x : Slots) (r : RxFrame), s.Receives ∧ s.link.state = .joining ∧ receive
      rx = .window r ∧ r.frame.payload.category = .replica ∧ Accepting x ∧ 8 ≤ s.link.inbound.length) ∧
    (∃ (s : State) (rx : List Bit) (x : Slots) (r : RxFrame), s.Receives ∧ s.link.state = .joining ∧ receive
      rx = .window r ∧ r.frame.payload.category = .replica ∧ Accepting x ∧ 8 ≤ s.link.inbound.length ∧
      r.frame.payload.kind? = some .census) ∧
    (∃ (s : State) (rx : List Bit) (x : Slots) (r : RxFrame), s.Receives ∧ s.link.state = .joining ∧ receive
      rx = .window r ∧ r.frame.payload.category = .replica ∧ Accepting x ∧ s.link.inbound.length < 8) ∧
    (∃ (s : State) (rx : List Bit) (x : Slots) (r : RxFrame), s.Receives ∧ s.link.state = .joining ∧ receive
      rx = .window r ∧ r.frame.payload.category = .replica ∧ Accepting x ∧
       let answers : Bool :=
       (match r.frame.payload with
       | .census .present _ _ => true
       | .census .flow n _ => s.answersFlow n
       | _ => false)
       s.link.inbound.length < 8 ∧ r.frame.payload.kind? = some .census ∧ answers = true) ∧
    (∃ (s : State) (rx : List Bit) (x : Slots) (r : RxFrame), s.Receives ∧ s.link.state = .joining ∧ receive
      rx = .window r ∧ r.frame.payload.category = .replica ∧ Accepting x ∧
       let answers : Bool :=
       (match r.frame.payload with
       | .census .present _ _ => true
       | .census .flow n _ => s.answersFlow n
       | _ => false)
       s.link.inbound.length < 8 ∧ r.frame.payload.kind? = some .census ∧ answers = true ∧ r.error.isSome =
         true) ∧
    (∃ (s : State) (rx : List Bit) (x : Slots) (r : RxFrame), s.Receives ∧ s.link.state = .joining ∧ receive
      rx = .window r ∧ r.frame.payload.category = .replica ∧ Accepting x ∧
       let answers : Bool :=
       (match r.frame.payload with
       | .census .present _ _ => true
       | .census .flow n _ => s.answersFlow n
       | _ => false)
       s.link.inbound.length < 8 ∧ r.frame.payload.kind? = some .census ∧ answers = false) ∧
    (∃ (s : State) (rx : List Bit) (x : Slots) (r : RxFrame), s.Receives ∧ s.link.state = .joining ∧ receive
      rx = .window r ∧ r.frame.payload.category = .replica ∧ Accepting x ∧ s.link.inbound.length < 8 ∧
      r.error.isSome = true ∧ r.frame.payload.kind? ≠ some .census) ∧
    (∃ (s : State) (x : Slots) (w : OnWire) (e : TxEntry), s.Sends w e ∧ s.link.state = .inService ∧
      w.frame.payload.category = .replica ∧ w.origin = .activity ∧ w.frame.payload.kind? ≠ some .census ∧
      w.frame.payload.kind? ≠ some .stop ∧ s.link.inbound.length < 8 ∧ Accepting x ∧
      (s.link.kept.find? fun k => k.origin == .activity).isSome = true) ∧
    (∃ (s : State) (x : Slots) (w : OnWire) (e : TxEntry) (o : _), s.Sends w e ∧ s.link.state = .inService ∧
      w.frame.payload = e.payload ∧ Accepting x ∧ s.link.inbound.length < 8 ∧ w.origin = .stopPath ∧
      e.payload = .stop o ∧ s.activity.state = .opening ∧
      (s.link.kept.find? fun k => k.origin == .stopPath).isSome = true) := by
  exact ⟨
    ⟨sending live .activity (sentBy 3 (.progress 90 5)) 0, ⟨true, false, false⟩,
      { origin := .activity, frame := sentBy 3 (.progress 90 5) }, progressEntry, by decide +kernel⟩,
    ⟨sending (live) .census (sentBy 3 (.census .present 0 none)) 0, ⟨true, false, false⟩,
      { origin := .census, frame := sentBy 3 (.census .present 0 none) },
      { origin := .census, dest := 0, payload := .census .present 0 none, voids := 0, entered := 0 }, 0,
      none, by decide +kernel⟩,
    ⟨sending (live) .gauge (sentBy 3 (.census .flow 1 none)) 0, ⟨true, false, false⟩,
      { origin := .gauge, frame := sentBy 3 (.census .flow 1 none) },
      { origin := .gauge, dest := 0, payload := .census .flow 1 none, voids := 0, entered := 0 }, 1, none,
      by decide +kernel⟩,
    ⟨sending (onMeter live fun m => { m with recentTimer := some 5 }) .gauge (sentBy 3 (.census .flow 1
      none)) 0, ⟨true, false, false⟩, { origin := .gauge, frame := sentBy 3 (.census .flow 1 none) },
      { origin := .gauge, dest := 0, payload := .census .flow 1 none, voids := 0, entered := 0 }, 1, none,
      by decide +kernel⟩,
    ⟨sending (live) .gauge (sentBy 3 (.gauge gaugeReq)) 0, ⟨true, false, false⟩,
      { origin := .gauge, frame := sentBy 3 (.gauge gaugeReq) },
      { origin := .gauge, dest := 0, payload := .gauge gaugeReq, voids := 0, entered := 0 },
      by decide +kernel⟩,
    ⟨sending (live) .membership (sentBy 3 (.announce announceReq)) 0, ⟨true, false, false⟩,
      { origin := .membership, frame := sentBy 3 (.announce announceReq) },
      { origin := .membership, dest := 0, payload := .announce announceReq, voids := 0, entered := 0 },
      by decide +kernel⟩,
    ⟨sending (live) .membership (sentBy 3 (.leave)) 0, ⟨true, false, false⟩,
      { origin := .membership, frame := sentBy 3 (.leave) },
      { origin := .membership, dest := 0, payload := .leave, voids := 0, entered := 0 }, by decide +kernel⟩,
    ⟨sending (live) .stopPath (sentBy 3 (.resume)) 0, ⟨true, false, false⟩,
      { origin := .stopPath, frame := sentBy 3 (.resume) },
      { origin := .stopPath, dest := 0, payload := .resume, voids := 0, entered := 0 }, by decide +kernel⟩,
    ⟨sending ({ (live) with stop := { wanted := true, byConsole := true } }) .stopPath (sentBy 3 (.stop 5))
      0, ⟨true, false, false⟩, { origin := .stopPath, frame := sentBy 3 (.stop 5) },
      { origin := .stopPath, dest := 0, payload := .stop 5, voids := 0, entered := 0 }, 5,
      by decide +kernel⟩,
    ⟨sending ({ (filling .flowing) with stop := { wanted := true, byConsole := true } }) .stopPath (sentBy 3
      (.stop 5)) 0, ⟨true, false, false⟩, { origin := .stopPath, frame := sentBy 3 (.stop 5) },
      { origin := .stopPath, dest := 0, payload := .stop 5, voids := 0, entered := 0 }, 5,
      by decide +kernel⟩,
    ⟨sending
      ({ (onActivity live fun a => { a with state := .awaitingId }) with stop := { wanted := true, byConsole := true } })
      .stopPath (sentBy 3 (.stop 5)) 0, ⟨true, false, false⟩,
      { origin := .stopPath, frame := sentBy 3 (.stop 5) },
      { origin := .stopPath, dest := 0, payload := .stop 5, voids := 0, entered := 0 }, 5,
      by decide +kernel⟩,
    ⟨sending ({ (filling .opening) with stop := { wanted := true, byConsole := true } }) .stopPath (sentBy 3
      (.stop 5)) 0, ⟨true, false, false⟩, { origin := .stopPath, frame := sentBy 3 (.stop 5) },
      { origin := .stopPath, dest := 0, payload := .stop 5, voids := 0, entered := 0 }, 5,
      by decide +kernel⟩,
    ⟨at' .listening cfg, wireBits ({ frame (.found 9 0x1234#16) with seq16 := 0#16 }),
      { frame (.found 9 0x1234#16) with seq16 := 0#16 }, by decide +kernel⟩,
    ⟨sending (at' .listening cfg) .membership
      ({ frame (.found 9 0x1234#16) with sender := 3, seq16 := 0#16 }) 0, ⟨false, false, false⟩,
      { origin := .membership, frame := { frame (.found 9 0x1234#16) with sender := 3, seq16 := 0#16 } },
      { origin := .membership, dest := 0, payload := .found 9 0x1234#16, voids := 0, entered := 0 }, 9,
      0x1234#16, by decide +kernel⟩,
    ⟨live, wireBits ({ frame (.read 2 1 5) with dest := 3, seq16 := 0#16 }),
      { frame (.read 2 1 5) with dest := 3, seq16 := 0#16 }, by decide +kernel⟩,
    ⟨sending live .responder ({ frame .busy with sender := 3, dest := 4, seq16 := 0#16 }) 0, ⟨true, false,
      false⟩, { origin := .responder, frame := { frame .busy with sender := 3, dest := 4, seq16 := 0#16 } },
      { origin := .responder, dest := 4, payload := .busy, voids := 0, entered := 0 }, by decide +kernel⟩,
    ⟨sending (at' .listening cfg) .membership (sentBy 3 (.join joinReq)) 0, ⟨true, false, false⟩,
      { origin := .membership, frame := sentBy 3 (.join joinReq) },
      { origin := .membership, dest := 0, payload := .join joinReq, voids := 0, entered := 0 }, joinReq,
      by decide +kernel⟩,
    ⟨at' .listening cfg, wireBits (frame (.bar 7)), ⟨false, false, true⟩, goodRx (frame (.bar 7)),
      by decide +kernel⟩,
    ⟨foundingRound, wireBits (sentBy 9 (.join joinReq)), ⟨true, false, false⟩, goodRx (sentBy 9 (.join
      joinReq)), by decide +kernel⟩,
    ⟨at' .listening cfg, wireBits (sentBy 9 (.join joinReq)), ⟨false, false, false⟩, goodRx (sentBy 9 (.join
      joinReq)), by decide +kernel⟩,
    ⟨at' .joining cfg, badCheck (frame (.bar 7)), ⟨false, false, true⟩, badRx (frame (.bar 7)),
      by decide +kernel⟩,
    ⟨(onEngine (at' .listening cfg) fun e =>
      { e with holdOff := some 1200000, listenTimer := some 4000000 }), wireBits (frame (.bar 7)), ⟨true,
      false, false⟩, goodRx (frame (.bar 7)), by decide +kernel⟩,
    ⟨(onEngine (at' .listening cfg) fun e =>
      { e with holdOff := some 1200000, listenTimer := some 4000000 }), wireBits (frame (.census .present 0
      none)), ⟨true, false, false⟩, goodRx (frame (.census .present 0 none)), by decide +kernel⟩,
    ⟨at' .listening cfg, wireBits (frame (.bar 7)), ⟨true, false, false⟩, goodRx (frame (.bar 7)),
      by decide +kernel⟩,
    ⟨at' .listening cfg, wireBits (sentBy 9 (.join joinReq)), ⟨true, false, false⟩, goodRx (sentBy 9 (.join
      joinReq)), by decide +kernel⟩,
    ⟨at' .listening cfg, badCheck (frame (.census .present 0 none)), ⟨true, false, false⟩, badRx (frame
      (.census .present 0 none)), by decide +kernel⟩,
    ⟨queueing (at' .listening cfg) .membership (.found 9 0x1234#16), wireBits (frame (.bar 7)), ⟨true,
      false, false⟩, goodRx (frame (.bar 7)),
      { origin := .membership, dest := 0, payload := .found 9 0x1234#16, voids := 0, entered := 0 },
      by decide +kernel⟩,
    ⟨queueing (at' .listening cfg) .membership (.join joinReq), wireBits (frame (.census .present 0 none)),
      ⟨true, false, false⟩, goodRx (frame (.census .present 0 none)),
      { origin := .membership, dest := 0, payload := .join joinReq, voids := 0, entered := 0 },
      by decide +kernel⟩,
    ⟨foundingRound, wireBits (frame (.bar 7)), ⟨true, false, false⟩, goodRx (frame (.bar 7)),
      by decide +kernel⟩,
    ⟨foundingRound, badCheck (frame (.census .present 0 none)), ⟨true, false, false⟩, badRx (frame (.census
      .present 0 none)), by decide +kernel⟩,
    ⟨(onEngine (foundingRound) fun e => { e with holdOff := some 1200000, listenTimer := some 4000000 }),
      wireBits (frame (.census .present 0 none)), ⟨true, false, false⟩, goodRx (frame (.census .present 0
      none)), by decide +kernel⟩,
    ⟨queueing foundingRound .membership (.found 9 0x1234#16), wireBits (frame (.bar 7)), ⟨true, false,
      false⟩, goodRx (frame (.bar 7)), by decide +kernel⟩,
    ⟨(onLink (at' .joining cfg) fun l => { l with inbound := List.replicate 8 (frame .leave) }), wireBits
      (frame (.bar 7)), ⟨true, false, false⟩, goodRx (frame (.bar 7)), by decide +kernel⟩,
    ⟨(onLink (at' .joining cfg) fun l => { l with inbound := List.replicate 8 (frame .leave) }), wireBits
      (frame (.census .present 0 none)), ⟨true, false, false⟩, goodRx (frame (.census .present 0 none)),
      by decide +kernel⟩,
    ⟨at' .joining cfg, wireBits (frame (.bar 7)), ⟨true, false, false⟩, goodRx (frame (.bar 7)),
      by decide +kernel⟩,
    ⟨at' .joining cfg, wireBits (frame (.census .present 0 none)), ⟨true, false, false⟩, goodRx (frame
      (.census .present 0 none)), by decide +kernel⟩,
    ⟨at' .joining cfg, badCheck (frame (.census .present 0 none)), ⟨true, false, false⟩, badRx (frame
      (.census .present 0 none)), by decide +kernel⟩,
    ⟨at' .joining cfg, wireBits (frame (.census .flow 9 none)), ⟨true, false, false⟩, goodRx (frame (.census
      .flow 9 none)), by decide +kernel⟩,
    ⟨at' .joining cfg, badCheck (frame (.bar 7)), ⟨true, false, false⟩, badRx (frame (.bar 7)),
      by decide +kernel⟩,
    ⟨keeping (sending live .activity (sentBy 3 (.progress 90 5)) 0) .activity (.close closing),
      ⟨true, false, false⟩, { origin := .activity, frame := sentBy 3 (.progress 90 5) }, progressEntry,
      by decide +kernel⟩,
    ⟨keeping (sending (wanting (filling .opening) true) .stopPath (sentBy 3 (.stop 5)) 0) .stopPath .resume,
      ⟨true, false, false⟩, pathFrame (.stop 5), { pathEntry (.stop 5) with voids := 0 }, 5,
      by decide +kernel⟩⟩

theorem test_witness_leavingService :
    (∃ (s : State) (rx : List Bit) (x : Slots) (r : RxFrame) (c : Instr), s.Receives ∧ s.link.state =
      .inService ∧ s.link.voidRun = 7 ∧ receive rx = .window r ∧ r.frame.payload.category = .replica ∧
      (r.error.isSome = true ∨ 8 ≤ s.link.inbound.length) ∧ c ∈ [Instr.receiveFailure rx x, .replicaWindow
      rx x]) ∧
    (∃ (s : State) (rx : List Bit) (x : Slots) (f : Frame), s.Receives ∧ s.link.state = .inService ∧ receive
      rx = .window { frame := f, error := none } ∧ f.payload.category = .replica ∧ s.link.inbound.length < 8
      ∧ f.payload.kind? ≠ some .join ∧ f.seq16 ≠ BitVec.ofNat 16 (s.link.acceptedSeq + 1) ∧ x.void = false ∧
      x.accept = true) ∧
    (∃ (s : State) (rx : List Bit) (x : Slots) (f : Frame), s.Receives ∧ s.link.state = .inService ∧ receive
      rx = .window { frame := f, error := none } ∧ f.payload.category = .replica ∧ s.link.inbound.length < 8
      ∧ f.payload.kind? ≠ some .join ∧ f.seq16 ≠ BitVec.ofNat 16 (s.link.acceptedSeq + 1) ∧ x.void = false ∧
      x.accept = true ∧ s.activity.state = .opening ∧ (s.link.queued .activity).isSome = true) ∧
    (∃ (s : State) (rx : List Bit) (x : Slots) (f : Frame), s.Receives ∧ s.link.state = .inService ∧ receive
      rx = .window { frame := f, error := none } ∧ f.payload.category = .replica ∧ s.link.inbound.length < 8
      ∧ f.payload.kind? ≠ some .join ∧ f.seq16 ≠ BitVec.ofNat 16 (s.link.acceptedSeq + 1) ∧ x.void = false ∧
      x.accept = true ∧ s.activity.state = .opening ∧ s.link.inbound ≠ []) ∧
    (∃ (s : State) (rx : List Bit) (x : Slots) (f : Frame), s.Receives ∧ s.link.state = .inService ∧ receive
      rx = .window { frame := f, error := none } ∧ f.payload.category = .replica ∧ s.link.inbound.length < 8
      ∧ f.payload.kind? ≠ some .join ∧ f.seq16 ≠ BitVec.ofNat 16 (s.link.acceptedSeq + 1) ∧ x.void = false ∧
      x.accept = true ∧ s.activity.state = .closing ∧ (s.link.queued .activity).isSome = true) ∧
    (∃ (s : State) (rx : List Bit) (x : Slots) (f : Frame), s.Receives ∧ s.link.state = .inService ∧ receive
      rx = .window { frame := f, error := none } ∧ f.payload.category = .replica ∧ s.link.inbound.length < 8
      ∧ f.payload.kind? ≠ some .join ∧ f.seq16 ≠ BitVec.ofNat 16 (s.link.acceptedSeq + 1) ∧ x.void = false ∧
      x.accept = true ∧ s.activity.state = .closing ∧ s.link.queued .activity = none) ∧
    (∃ (s : State) (rx : List Bit) (x : Slots) (f : Frame), s.Receives ∧ s.link.state = .inService ∧ receive
      rx = .window { frame := f, error := none } ∧ f.payload.category = .replica ∧ s.link.inbound.length < 8
      ∧ f.payload.kind? ≠ some .join ∧ f.seq16 ≠ BitVec.ofNat 16 (s.link.acceptedSeq + 1) ∧ x.void = false ∧
      x.accept = true ∧ f.payload.kind? = some .census) ∧
    (∃ (s : State) (x : Slots) (w : OnWire) (e : TxEntry), s.Sends w e ∧ s.link.state = .inService ∧
      w.frame.payload.category = .replica ∧ x.void = false ∧ x.step = true ∧ x.accept = false) ∧
    (∃ (s : State) (rx : List Bit) (x : Slots) (f : Frame) (r : Byte), s.Receives ∧ s.link.state = .inService ∧
      receive rx = .window { frame := f, error := none } ∧ f.payload.category = .replica ∧
      s.link.inbound.length < 8 ∧ f.payload.kind? ≠ some .join ∧
      f.seq16 ≠ BitVec.ofNat 16 (s.link.acceptedSeq + 1) ∧ x.void = false ∧ x.accept = true ∧
      s.stop.wanted = true ∧ (s.link.queued .stopPath).map TxEntry.payload = some (.stop r)) := by
  exact ⟨
    ⟨(onLink (filling .flowing) fun l =>
      { l with voidRun := 7, inbound := List.replicate 8 (frame .leave) }), wireBits (frame (.bar 7)),
      ⟨true, false, false⟩, { frame := frame (.bar 7), error := none }, .receiveFailure (wireBits (frame
      (.bar 7))) ⟨true, false, false⟩, by decide +kernel⟩,
    ⟨filling .slowing, wireBits ({ frame (.bar 7) with seq16 := 9#16 }), ⟨true, false, false⟩,
      { frame (.bar 7) with seq16 := 9#16 }, by decide +kernel⟩,
    ⟨queueing (filling .opening) .activity (.openFill openReq), wireBits
      ({ frame (.bar 7) with seq16 := 9#16 }), ⟨true, false, false⟩, { frame (.bar 7) with seq16 := 9#16 },
      by decide +kernel⟩,
    ⟨inbox (filling .opening) (sentBy 3 (.openFill openReq)), wireBits
      ({ frame (.bar 7) with seq16 := 9#16 }), ⟨true, false, false⟩, { frame (.bar 7) with seq16 := 9#16 },
      by decide +kernel⟩,
    ⟨queueing (filling .closing) .activity (.close closing), wireBits
      ({ frame (.bar 7) with seq16 := 9#16 }), ⟨true, false, false⟩, { frame (.bar 7) with seq16 := 9#16 },
      by decide +kernel⟩,
    ⟨inbox (filling .closing) (sentBy 3 (.close closing)), wireBits ({ frame (.bar 7) with seq16 := 9#16 }),
      ⟨true, false, false⟩, { frame (.bar 7) with seq16 := 9#16 }, by decide +kernel⟩,
    ⟨filling .slowing, wireBits ({ frame (.census .present 0 none) with seq16 := 9#16 }), ⟨true, false,
      false⟩, { frame (.census .present 0 none) with seq16 := 9#16 }, by decide +kernel⟩,
    ⟨sending (filling .flowing) .activity (sentBy 3 (.progress 90 5)) 0, ⟨false, true, false⟩,
      { origin := .activity, frame := sentBy 3 (.progress 90 5) }, progressEntry, by decide +kernel⟩,
    ⟨wanting (queueing (filling .slowing) .stopPath (.stop 5)) true, wireBits
      { frame (.bar 7) with seq16 := 9#16 }, ⟨true, false, false⟩, { frame (.bar 7) with seq16 := 9#16 }, 5,
      by decide +kernel⟩⟩

theorem test_witness_voidedFramesAreRepeated :
    (∃ (s : State) (x : Slots) (w : OnWire) (e : TxEntry), s.Sends w e ∧ x.void = true ∧ e.voids < 15 ∧
      w.frame.payload.category = .replica) ∧
    (∃ (s : State) (x : Slots) (w : OnWire) (e : TxEntry), s.Sends w e ∧ x.void = true ∧ e.voids = 15 ∧
      (w.origin = .census
      ∨ w.origin = .activity ∧ e.payload.kind? = some .progress)) ∧
    (∃ (s : State) (x : Slots) (w : OnWire) (e : TxEntry) (j : Joining), s.Sends w e ∧ x.void = true ∧
      e.voids = 15 ∧ w.origin = .membership ∧ e.payload = .join j ∧ s.link.state =
      .listening) ∧
    (∃ (s : State) (x : Slots) (w : OnWire) (e : TxEntry) (a : Adjusting), s.Sends w e ∧ x.void = true ∧
      e.voids = 15 ∧ w.origin = .activity ∧ e.payload = .adjust a) ∧
    (∃ (s : State) (x : Slots) (w : OnWire) (e : TxEntry) (c : Closing), s.Sends w e ∧ x.void = true ∧
      e.voids = 15 ∧ w.origin = .activity ∧ (e.payload = .close c ∨ e.payload = .deliveryClose c) ∧
      s.link.state = .inService ∧ s.activity.state ≠ .flowing ∧ s.activity.state ≠ .slowing) ∧
    (∃ (s : State) (x : Slots) (w : OnWire) (e : TxEntry) (c : Closing), s.Sends w e ∧ x.void = true ∧
      e.voids = 15 ∧ w.origin = .activity ∧ (e.payload = .close c ∨ e.payload = .deliveryClose c) ∧
      s.link.state = .inService ∧ s.activity.state ≠ .flowing ∧ s.activity.state ≠ .slowing ∧ e.payload =
      .deliveryClose c ∧ s.activity.state = .closing) ∧
    (∃ (s : State) (x : Slots) (w : OnWire) (e : TxEntry), s.Sends w e ∧ x.void = true ∧ e.voids = 15 ∧
      w.origin = .activity ∧ (e.payload.kind? = some .openFill ∨ e.payload.kind? = some
      .deliveryOpen) ∧ s.activity.state = .opening) ∧
    (∃ (s : State) (x : Slots) (w : OnWire) (e : TxEntry), s.Sends w e ∧ x.void = true ∧ e.voids = 15 ∧
      w.origin = .activity ∧ (e.payload.kind? = some .openFill ∨ e.payload.kind? = some
      .deliveryOpen) ∧ s.activity.state = .opening ∧ e.payload.kind? = some .deliveryOpen) ∧
    (∃ (s : State) (x : Slots) (w : OnWire) (e : TxEntry) (r : Byte), s.Sends w e ∧ x.void = true ∧ e.voids = 15 ∧
      w.origin = .stopPath ∧ s.link.state = .inService ∧ e.payload = .stop r ∧ s.stop.wanted = true) ∧
    (∃ (s : State) (x : Slots) (w : OnWire) (e : TxEntry), s.Sends w e ∧ x.void = true ∧ e.voids = 15 ∧
      w.origin = .stopPath ∧ s.link.state = .inService ∧ e.payload = .resume ∧ s.stop.wanted = true) ∧
    (∃ (s : State) (x : Slots) (w : OnWire) (e : TxEntry), s.Sends w e ∧ x.void = true ∧ e.voids = 15 ∧
      w.origin = .stopPath ∧ s.link.state = .inService ∧ e.payload = .resume ∧ s.stop.wanted = false) ∧
    (∃ (s : State) (x : Slots) (w : OnWire) (e : TxEntry), s.Sends w e ∧ x.void = true ∧ e.voids < 15 ∧
      w.frame.payload.category = .founding) ∧
    (∃ (s : State) (x : Slots) (w : OnWire) (e : TxEntry), s.Sends w e ∧ x.void = true ∧ e.voids < 15 ∧
      w.frame.payload.category = .service) ∧
    (∃ (s : State) (x : Slots) (w : OnWire) (e : TxEntry), s.Sends w e ∧ x.void = true ∧ e.voids = 15 ∧
      (w.origin = .census ∨ w.origin = .activity ∧ e.payload.kind? = some .progress) ∧
      (s.link.kept.find? fun k => k.origin == w.origin).isSome = true) := by
  exact ⟨
    ⟨sending live .activity (sentBy 3 (.progress 90 5)) 14, ⟨false, false, true⟩,
      { origin := .activity, frame := sentBy 3 (.progress 90 5) },
      { origin := .activity, dest := 0, payload := .progress 90 5, voids := 14, entered := 0 },
      by decide +kernel⟩,
    ⟨sending live .census (sentBy 3 (.census .present 0 none)) 15, ⟨false, false, true⟩,
      { origin := .census, frame := sentBy 3 (.census .present 0 none) },
      { origin := .census, dest := 0, payload := .census .present 0 none, voids := 15, entered := 0 },
      by decide +kernel⟩,
    ⟨sending (at' .listening cfg) .membership (sentBy 9 (.join joinReq)) 15, ⟨false, false, true⟩,
      { origin := .membership, frame := sentBy 9 (.join joinReq) },
      { origin := .membership, dest := 0, payload := .join joinReq, voids := 15, entered := 0 }, joinReq,
      by decide +kernel⟩,
    ⟨sending live .activity (sentBy 3 (.adjust adjustReq)) 15, ⟨false, false, true⟩,
      { origin := .activity, frame := sentBy 3 (.adjust adjustReq) },
      { origin := .activity, dest := 0, payload := .adjust adjustReq, voids := 15, entered := 0 },
      adjustReq, by decide +kernel⟩,
    ⟨sending (filling .closing) .activity (sentBy 3 (.close closing)) 15, ⟨false, false, true⟩,
      { origin := .activity, frame := sentBy 3 (.close closing) },
      { origin := .activity, dest := 0, payload := .close closing, voids := 15, entered := 0 }, closing,
      by decide +kernel⟩,
    ⟨sending (receiving .closing) .activity (sentBy 3 (.deliveryClose closing)) 15, ⟨false, false, true⟩,
      { origin := .activity, frame := sentBy 3 (.deliveryClose closing) },
      { origin := .activity, dest := 0, payload := .deliveryClose closing, voids := 15, entered := 0 },
      closing, by decide +kernel⟩,
    ⟨sending (filling .opening) .activity (sentBy 3 (.openFill openReq)) 15, ⟨false, false, true⟩,
      { origin := .activity, frame := sentBy 3 (.openFill openReq) },
      { origin := .activity, dest := 0, payload := .openFill openReq, voids := 15, entered := 0 },
      by decide +kernel⟩,
    ⟨sending (receiving .opening) .activity (sentBy 3 (.deliveryOpen deliveryReq)) 15, ⟨false, false, true⟩,
      { origin := .activity, frame := sentBy 3 (.deliveryOpen deliveryReq) },
      { origin := .activity, dest := 0, payload := .deliveryOpen deliveryReq, voids := 15, entered := 0 },
      by decide +kernel⟩,
    ⟨sending (wanting live false) .stopPath (sentBy 3 (.stop 5)) 15, ⟨false, false, true⟩, pathFrame (.stop 5),
      pathEntry (.stop 5), 5, by decide +kernel⟩,
    ⟨sending (wanting live true) .stopPath (sentBy 3 .resume) 15, ⟨false, false, true⟩, pathFrame .resume,
      pathEntry .resume, by decide +kernel⟩,
    ⟨sending live .stopPath (sentBy 3 .resume) 15, ⟨false, false, true⟩, pathFrame .resume,
      pathEntry .resume, by decide +kernel⟩,
    ⟨sending (at' .listening cfg) .membership ({ sentBy 3 (.found 9 0x1234#16) with seq16 := 0#16 }) 14,
      ⟨false, false, true⟩,
      { origin := .membership, frame := { sentBy 3 (.found 9 0x1234#16) with seq16 := 0#16 } },
      { origin := .membership, dest := 0, payload := .found 9 0x1234#16, voids := 14, entered := 0 },
      by decide +kernel⟩,
    ⟨responding live someData 14, ⟨false, false, true⟩, responderWire someData, responderEntry someData 14,
      by decide +kernel⟩,
    ⟨keeping (sending live .activity (sentBy 3 (.progress 90 5)) 15) .activity (.close closing),
      ⟨false, false, true⟩, { origin := .activity, frame := sentBy 3 (.progress 90 5) },
      { progressEntry with voids := 15 }, by decide +kernel⟩⟩

theorem test_witness_censusRunsItsCourse :
    (∃ (s : State) (w : SlotWait) (map : BitVec 32), s.Live ∧ s.link.slots = some w ∧ s.link.inbound.length
      < 8 ∧ (w.answered = true → map.getLsbD s.me = true ∨ ∃ n time, w.frame.payload = .census .flow n
      time)) ∧
    (∃ (s : State), s.Live ∧ s.link.censusTimer.isSome = true ∧ s.link.queued .census = none) ∧
    (∃ (s : State) (e : TxEntry), s.Live ∧ s.link.censusTimer.isSome = true ∧ s.link.queued .census = some
      e) := by
  exact ⟨
    ⟨onLink live fun l =>
      { l with slots := some { frame := frame (.census .present 0 none), answered := true, queue := true } },
      { frame := frame (.census .present 0 none), answered := true, queue := true }, 8#32,
      by refine ⟨?_,?_,?_,?_⟩ <;> first | decide +kernel | exact fun _ => .inl (by decide +kernel)⟩,
    ⟨(onLink live fun l => { l with censusTimer := some 2060000 }), by decide +kernel⟩,
    ⟨sending (onLink live fun l => { l with censusTimer := some 2060000 }) .census (sentBy 3 (.census
      .present 0 none)) 0,
      { origin := .census, dest := 0, payload := .census .present 0 none, voids := 0, entered := 0 },
      by decide +kernel⟩⟩

theorem test_witness_retainedWriteIsTaken :
    (∃ (s : State) (w : Writing), s.Live ∧ s.engine.writing = some w ∧ w.limit = false ∧ w.frame.sender ≠
      s.me ∧ (∀ j, w.frame.payload ≠ .join j) ∧ w.frame.payload.kind? ≠ some .release ∧ (∀ n time,
      w.frame.payload ≠ .census .present n time) ∧ (w.replica.inService s.me = true ∨ s.replica.inService
      s.me = false ∨ s.link.state ≠ .inService) ∧ (∀ c ∈ s.responder.context, c.paused = true →
      s.engine.freeze = true ∨ s.engine.deferred ≠ [])) ∧
    (∃ (s : State) (w : Writing), s.Live ∧ s.engine.writing = some w ∧ w.limit = false ∧ w.frame.sender ≠
      s.me ∧ (∀ j, w.frame.payload ≠ .join j) ∧ w.frame.payload.kind? ≠ some .release ∧ (∀ n time,
      w.frame.payload ≠ .census .present n time) ∧ (w.replica.inService s.me = true ∨ s.replica.inService
      s.me = false ∨ s.link.state ≠ .inService) ∧ (∀ c ∈ s.responder.context, c.paused = true →
      s.engine.freeze = true ∨ s.engine.deferred ≠ []) ∧ s.responder.context = some cutRead) ∧
    (∃ (s : State) (w : Writing) (c : _) (k : _), s.Live ∧ s.engine.writing = some w ∧ w.limit = false ∧
      w.frame.sender ≠ s.me ∧ (∀ j, w.frame.payload ≠ .join j) ∧ w.frame.payload.kind? ≠ some .release ∧ (∀ n
      time, w.frame.payload ≠ .census .present n time) ∧ (w.replica.inService s.me = true ∨
      s.replica.inService s.me = false ∨ s.link.state ≠ .inService) ∧ s.responder.context = some c ∧
      c.paused = true ∧ c.lastBuilt = false ∧ s.engine.freeze = false ∧ s.engine.deferred = [] ∧
      s.link.queued .responder = none ∧ s.responder.waitingBusy = none ∧ ofCode tableCodes (BitVec.ofNat 8
      c.table) = some k) ∧
    (∃ (s : State) (w : Writing), s.Live ∧ s.engine.writing = some w ∧ w.limit = false ∧ s.link.state =
      .inService ∧ w.replica.inService s.me = false ∧ (w.frame.sender ≠ s.me ∧ s.replica.inService s.me =
      true ∨ w.frame.sender = s.me ∧ ∃ a, w.frame.payload = .announce a)) ∧
    (∃ (s : State) (w : Writing) (a : Announcing), s.Live ∧ s.engine.writing = some w ∧ w.limit = false ∧
      s.link.state = .inService ∧ w.frame.sender = s.me ∧ w.frame.payload = .announce a ∧
      w.replica.inService s.me = true) ∧
    (∃ (s : State) (w : Writing) (a : Announcing) (e : StationEntry) (r : _), s.Live ∧ s.engine.writing =
      some w ∧ w.limit = false ∧ s.link.state = .inService ∧ w.frame.sender = s.me ∧ w.frame.payload =
      .announce a ∧ w.replica.inService s.me = true ∧ w.replica.station? s.me = some e ∧ s.engine.freeze =
      false ∧ s.meter.cells.estop.output = false ∧ s.StreamsGoOn ∧
      s.supply.record = some r ∧ s.supply.phase = .held) ∧
    (∃ (s : State) (w : Writing) (a : Announcing) (e : StationEntry) (r : _), s.Live ∧ s.engine.writing =
      some w ∧ w.limit = false ∧ s.link.state = .inService ∧ w.frame.sender = s.me ∧ w.frame.payload =
      .announce a ∧ w.replica.inService s.me = true ∧ w.replica.station? s.me = some e ∧ s.engine.freeze =
      false ∧ s.meter.cells.estop.output = false ∧ s.StreamsGoOn ∧
      s.supply.record = some r ∧ s.supply.phase = .held ∧ recoveryOf r e s.clock = some (.adjust
      { adjustReq with delta := -500 })) ∧
    (∃ (s : State) (w : Writing) (a : Announcing) (e : StationEntry) (r : _), s.Live ∧ s.engine.writing =
      some w ∧ w.limit = false ∧ s.link.state = .inService ∧ w.frame.sender = s.me ∧ w.frame.payload =
      .announce a ∧ w.replica.inService s.me = true ∧ w.replica.station? s.me = some e ∧ s.engine.freeze =
      false ∧ s.meter.cells.estop.output = false ∧ s.StreamsGoOn ∧
      s.supply.record = some r ∧ s.supply.phase = .held ∧ recoveryOf r e s.clock = none ∧ (e.last.map
      LastEnded.openSeq = some r.openSeq)) ∧
    (∃ (s : State) (w : Writing) (a : Announcing) (e : StationEntry) (r : _), s.Live ∧ s.engine.writing =
      some w ∧ w.limit = false ∧ s.link.state = .inService ∧ w.frame.sender = s.me ∧ w.frame.payload =
      .announce a ∧ w.replica.inService s.me = true ∧ w.replica.station? s.me = some e ∧ s.engine.freeze =
      false ∧ s.meter.cells.estop.output = false ∧ s.StreamsGoOn ∧
      s.supply.record = some r ∧ s.supply.phase = .held ∧ recoveryOf r e s.clock = none ∧ (e.last.map
      LastEnded.openSeq ≠ some r.openSeq)) ∧
    (∃ (s : State) (w : Writing) (a : Announcing) (e : StationEntry) (x : _), s.Live ∧ s.engine.writing =
      some w ∧ w.limit = false ∧ s.link.state = .inService ∧ w.frame.sender = s.me ∧ w.frame.payload =
      .announce a ∧ w.replica.inService s.me = true ∧ w.replica.station? s.me = some e ∧ s.engine.freeze =
      false ∧ s.meter.cells.estop.output = false ∧ s.StreamsGoOn ∧
      s.supply.record = none ∧ e.activity = some x) ∧
    (∃ (s : State) (w : Writing) (a : Announcing) (e : StationEntry), s.Live ∧ s.engine.writing = some w ∧
      w.limit = false ∧ s.link.state = .inService ∧ w.frame.sender = s.me ∧ w.frame.payload = .announce a ∧
      w.replica.inService s.me = true ∧ w.replica.station? s.me = some e ∧ s.engine.freeze = false ∧
      s.meter.cells.estop.output = false ∧ s.StreamsGoOn ∧ s.supply.record
      = none ∧ e.activity = none) ∧
    (∃ (s : State) (w : Writing) (r : ActRecord) (e : StationEntry), s.Live ∧ s.engine.writing = some w ∧
      w.limit = false ∧ s.link.state = .inService ∧ w.replica.inService s.me = true ∧ w.replica.station?
      s.me = some e ∧ s.engine.admitted = true ∧ s.engine.freeze = false ∧ s.StreamsGoOn ∧ s.supply.record = some r ∧ (w.frame.payload.kind? = some .release ∧ s.supply.phase = .waitingRoom ∧ s.supply.waitCensus = false ∨ (∃ n time, w.frame.payload = .census
      .present n time) ∧ s.supply.phase = .held ∧ s.supply.waitCensus = true)) ∧
    (∃ (s : State) (w : Writing) (r : ActRecord) (e : StationEntry), s.Live ∧ s.engine.writing = some w ∧
      w.limit = false ∧ s.link.state = .inService ∧ w.replica.inService s.me = true ∧ w.replica.station?
      s.me = some e ∧ s.engine.admitted = true ∧ s.engine.freeze = false ∧ s.StreamsGoOn ∧ s.supply.record = some r ∧ (w.frame.payload.kind? = some .release ∧ s.supply.phase = .waitingRoom ∧ s.supply.waitCensus = false ∨ (∃ n time, w.frame.payload = .census
      .present n time) ∧ s.supply.phase = .held ∧ s.supply.waitCensus = true) ∧ s.supply.waitCensus = true) ∧
    (∃ (s : State) (w : Writing), s.Live ∧ s.engine.writing = some w ∧ w.limit = false ∧ s.link.state =
      .inService ∧ w.frame.sender = s.me ∧ w.frame.payload = .leave) ∧
    (∃ (s : State) (w : Writing) (a : Announcing), s.Live ∧ s.engine.writing = some w ∧ w.limit = false ∧
      s.link.state = .inService ∧ w.frame.sender = s.me ∧ w.frame.payload = .announce a ∧
      w.replica.inService s.me = true ∧ s.meter.cells.estop.output = true ∧ w.replica.site.stop = none) ∧
    (∃ (s : State) (w : Writing) (a : Announcing), s.Live ∧ s.engine.writing = some w ∧ w.limit = false ∧
      s.link.state = .inService ∧ w.frame.sender = s.me ∧ w.frame.payload = .announce a ∧
      w.replica.inService s.me = true ∧ s.meter.cells.estop.output = false) ∧
    (∃ (s : State) (w : Writing) (a : Announcing), s.Live ∧ s.engine.writing = some w ∧ w.limit = false ∧
      s.link.state = .inService ∧ w.frame.sender = s.me ∧ w.frame.payload = .announce a ∧
      w.replica.inService s.me = true ∧ s.meter.cells.estop.output = true ∧ w.replica.site.stop.isSome = true) ∧
    (∃ (s : State) (w : Writing) (r : ActRecord) (e : StationEntry), s.Live ∧ s.engine.writing = some w ∧
      w.limit = false ∧ s.link.state = .inService ∧ w.replica.inService s.me = true ∧ w.replica.station?
      s.me = some e ∧ s.engine.admitted = true ∧ s.engine.freeze = false ∧ s.StreamsGoOn ∧ s.supply.record =
      some r ∧ w.frame.payload.kind? = some .release ∧ w.result = .noChange ∧ s.supply.phase = .waitingRoom ∧
      s.supply.waitCensus = false) := by
  exact ⟨
    ⟨writing (.bar 7) 30 (.applied) rep,
      { replica := rep, frame := { frame (.bar 7) with sender := 30 }, result := .applied, limit := false },
      by refine ⟨?_,?_,?_,?_,?_,?_,?_,?_,?_⟩ <;> first | decide +kernel | nofun⟩,
    ⟨onEngine (cutStream (writing (.bar 7) 30 (.applied) rep)) fun e =>
      { e with deferred := [frame .leave] },
      { replica := rep, frame := { frame (.bar 7) with sender := 30 }, result := .applied, limit := false },
      by refine ⟨?_,?_,?_,?_,?_,?_,?_,?_,?_,?_⟩ <;> first | decide +kernel | nofun⟩,
    ⟨(cutStream (writing (.bar 7) 30 (.applied) rep)),
      { replica := rep, frame := { frame (.bar 7) with sender := 30 }, result := .applied, limit := false },
      cutRead, .stations,
      by refine ⟨?_,?_,?_,?_,?_,?_,?_,?_,?_,?_,?_,?_,?_,?_,?_,?_⟩ <;> first | decide +kernel | nofun⟩,
    ⟨writing (.bar 7) 30 (.applied) (Replica.wiped 0#16),
      { replica := (Replica.wiped 0#16), frame := { frame (.bar 7) with sender := 30 }, result := .applied, limit := false },
      by refine ⟨?_,?_,?_,?_,?_,?_⟩ <;> first | decide +kernel | exact .inl (by decide +kernel)⟩,
    ⟨writing (.announce announceReq) 3 (.applied) rep,
      { replica := rep, frame := { frame (.announce announceReq) with sender := 3 }, result := .applied, limit := false },
      announceReq, by decide +kernel⟩,
    ⟨(onSupply (writing (.announce announceReq) 3 (.applied) opened) fun x =>
      { x with record := some record3 }),
      { replica := opened, frame := { frame (.announce announceReq) with sender := 3 }, result := .applied, limit := false },
      announceReq, entry3, record3, by decide +kernel⟩,
    ⟨(onSupply (writing (.announce announceReq) 3 (.applied) ended) fun x =>
      { x with record := some record3 }),
      { replica := ended, frame := { frame (.announce announceReq) with sender := 3 }, result := .applied, limit := false },
      announceReq, ended3, record3, by decide +kernel⟩,
    ⟨(onSupply (writing (.announce announceReq) 3 (.applied) ended) fun x =>
      { x with record := some ({ record3 with gross := 500 }) }),
      { replica := ended, frame := { frame (.announce announceReq) with sender := 3 }, result := .applied, limit := false },
      announceReq, ended3, { record3 with gross := 500 }, by decide +kernel⟩,
    ⟨(onSupply (writing (.announce announceReq) 3 (.applied) rep) fun x =>
      { x with record := some record3 }),
      { replica := rep, frame := { frame (.announce announceReq) with sender := 3 }, result := .applied, limit := false },
      announceReq, serving 3 .dispense (some 1) none, record3, by decide +kernel⟩,
    ⟨(onSupply (writing (.announce announceReq) 3 (.applied) opened) fun x => { x with record := none }),
      { replica := opened, frame := { frame (.announce announceReq) with sender := 3 }, result := .applied, limit := false },
      announceReq, entry3, fill3, by decide +kernel⟩,
    ⟨(onSupply (writing (.announce announceReq) 3 (.applied) rep) fun x => { x with record := none }),
      { replica := rep, frame := { frame (.announce announceReq) with sender := 3 }, result := .applied, limit := false },
      announceReq, serving 3 .dispense (some 1) none, by decide +kernel⟩,
    ⟨(onSupply (writing (.release 5) 30 (.applied) ended) fun x =>
      { x with record := some record3, phase := .waitingRoom, waitCensus := false }),
      { replica := ended, frame := { frame (.release 5) with sender := 30 }, result := .applied, limit := false },
      record3, ended3,
      by refine ⟨?_,?_,?_,?_,?_,?_,?_,?_,?_,?_,?_⟩ <;> first | decide +kernel | exact .inl (by decide +kernel)⟩,
    ⟨(onSupply (writing (.census .present 0 none) 4 (.applied) ended) fun x =>
      { x with record := some record3, phase := .held, waitCensus := true }),
      { replica := ended, frame := { frame (.census .present 0 none) with sender := 4 }, result := .applied, limit := false },
      record3, ended3,
      by refine ⟨?_,?_,?_,?_,?_,?_,?_,?_,?_,?_,?_,?_⟩ <;> first | decide +kernel | exact .inr ⟨⟨_, _, rfl⟩, by decide +kernel⟩⟩,
    ⟨writing (.leave) 3 (.applied) (Replica.wiped 0#16),
      { replica := (Replica.wiped 0#16), frame := { frame (.leave) with sender := 3 }, result := .applied, limit := false },
      by decide +kernel⟩,
    ⟨stopped (writing (.announce announceReq) 3 (.applied) rep),
      { replica := rep, frame := sentBy 3 (.announce announceReq), result := .applied, limit := false },
      announceReq, by decide +kernel⟩,
    ⟨writing (.announce announceReq) 3 (.applied) rep,
      { replica := rep, frame := sentBy 3 (.announce announceReq), result := .applied, limit := false },
      announceReq, by decide +kernel⟩,
    ⟨stopped (writing (.announce announceReq) 3 (.applied)
      (onSite live fun x => { x with stop := some stopInfo }).replica),
      { replica := (onSite live fun x => { x with stop := some stopInfo }).replica, frame := sentBy 3 (.announce announceReq), result := .applied, limit := false },
      announceReq, by decide +kernel⟩,
    ⟨(onSupply (writing (.release 5) 4 .noChange ended) fun x =>
      { x with record := some record3, phase := .waitingRoom, waitCensus := false }),
      { replica := ended, frame := frame (.release 5), result := .noChange, limit := false },
      record3, ended3, by decide +kernel⟩⟩

theorem test_witness_resultsReachTheFill :
    (∃ (s : State) (w : Writing) (o : OpenRequest) (openSeq : Nat) (volume : Nat) (c : Settings) (r :
      IdResult), s.Live ∧ s.engine.writing = some w ∧ w.limit = false ∧ w.frame.sender = s.me ∧
      w.frame.payload = .openFill o ∧ w.result = .granted openSeq volume ∧ s.link.state = .inService ∧
      w.replica.inService s.me = true ∧ s.settings = some c ∧ c.role = .dispense ∧ s.activity.state =
      .opening ∧ s.activity.result = some r) ∧
    (∃ (s : State) (w : Writing) (o : OpenRequest) (openSeq : Nat) (volume : Nat) (c : Settings) (r :
      IdResult), s.Live ∧ s.engine.writing = some w ∧ w.limit = false ∧ w.frame.sender = s.me ∧
      w.frame.payload = .openFill o ∧ w.result = .granted openSeq volume ∧ s.link.state = .inService ∧
      w.replica.inService s.me = true ∧ s.settings = some c ∧ c.role = .dispense ∧ s.activity.state =
      .opening ∧ s.activity.result = some r ∧ s.activity.pendingEnd.isSome = true) ∧
    (∃ (s : State) (w : Writing) (o : OpenRequest) (openSeq : Nat) (volume : Nat) (c : Settings) (r :
      IdResult), s.Live ∧ s.engine.writing = some w ∧ w.limit = false ∧ w.frame.sender = s.me ∧
      w.frame.payload = .openFill o ∧ w.result = .granted openSeq volume ∧ s.link.state = .inService ∧
      w.replica.inService s.me = true ∧ s.settings = some c ∧ c.role = .dispense ∧ s.activity.state =
      .opening ∧ s.activity.result = some r ∧ c.slowDown < volume) ∧
    (∃ (s : State) (w : Writing) (o : OpenRequest) (openSeq : Nat) (volume : Nat) (c : Settings) (r :
      IdResult), s.Live ∧ s.engine.writing = some w ∧ w.limit = false ∧ w.frame.sender = s.me ∧
      w.frame.payload = .openFill o ∧ w.result = .granted openSeq volume ∧ s.link.state = .inService ∧
      w.replica.inService s.me = true ∧ s.settings = some c ∧ c.role = .dispense ∧ s.activity.state =
      .opening ∧ s.activity.result = some r ∧ volume ≤ c.anticipation) ∧
    (∃ (s : State) (w : Writing) (o : OpenRequest) (x : Reason), s.Live ∧ s.engine.writing = some w ∧
      w.limit = false ∧ w.frame.sender = s.me ∧ w.frame.payload = .openFill o ∧ w.result = .refused x ∧
      s.link.state = .inService ∧ w.replica.inService s.me = true ∧ s.activity.state = .opening) ∧
    (∃ (s : State) (w : Writing) (x : Closing) (n : Nat), s.Live ∧ s.engine.writing = some w ∧ w.limit =
      false ∧ w.frame.sender = s.me ∧ w.frame.payload = .close x ∧ w.result = .closed n ∧ s.link.state =
      .inService ∧ w.replica.inService s.me = true ∧ s.role = some .dispense ∧ s.activity.state = .closing) ∧
    (∃ (s : State) (w : Writing) (d : DeliveryRequest) (c : Settings) (r : IdResult) (openSeq : _) (volume :
      _), s.Live ∧ s.engine.writing = some w ∧ w.limit = false ∧ w.frame.sender = s.me ∧ w.frame.payload =
      .deliveryOpen d ∧ s.link.state = .inService ∧ w.replica.inService s.me = true ∧ s.settings = some c ∧
      c.role = .receipt ∧ s.activity.state = .opening ∧ s.activity.result = some r ∧ w.result = .granted
      openSeq volume) ∧
    (∃ (s : State) (w : Writing) (d : DeliveryRequest) (c : Settings) (r : IdResult) (openSeq : _) (volume :
      _), s.Live ∧ s.engine.writing = some w ∧ w.limit = false ∧ w.frame.sender = s.me ∧ w.frame.payload =
      .deliveryOpen d ∧ s.link.state = .inService ∧ w.replica.inService s.me = true ∧ s.settings = some c ∧
      c.role = .receipt ∧ s.activity.state = .opening ∧ s.activity.result = some r ∧ w.result = .granted
      openSeq volume ∧ s.activity.pendingEnd.isSome = true) ∧
    (∃ (s : State) (w : Writing) (d : DeliveryRequest) (c : Settings) (r : IdResult) (openSeq : _) (volume :
      _), s.Live ∧ s.engine.writing = some w ∧ w.limit = false ∧ w.frame.sender = s.me ∧ w.frame.payload =
      .deliveryOpen d ∧ s.link.state = .inService ∧ w.replica.inService s.me = true ∧ s.settings = some c ∧
      c.role = .receipt ∧ s.activity.state = .opening ∧ s.activity.result = some r ∧ w.result = .granted
      openSeq volume ∧ volume ≤ c.anticipation) ∧
    (∃ (s : State) (w : Writing) (d : DeliveryRequest) (c : Settings) (r : IdResult) (x : _), s.Live ∧
      s.engine.writing = some w ∧ w.limit = false ∧ w.frame.sender = s.me ∧ w.frame.payload = .deliveryOpen
      d ∧ s.link.state = .inService ∧ w.replica.inService s.me = true ∧ s.settings = some c ∧ c.role =
      .receipt ∧ s.activity.state = .opening ∧ s.activity.result = some r ∧ w.result = .refused x) ∧
    (∃ (s : State) (w : Writing) (x : Closing) (n : Nat), s.Live ∧ s.engine.writing = some w ∧ w.limit =
      false ∧ w.frame.sender = s.me ∧ w.frame.payload = .deliveryClose x ∧ w.result = .closed n ∧
      s.link.state = .inService ∧ w.replica.inService s.me = true ∧ s.role = some .receipt ∧
      s.activity.state = .closing) ∧
    (∃ (s : State) (w : Writing) (x : Closing) (n : Nat), s.Live ∧ s.engine.writing = some w ∧ w.limit =
      false ∧ w.frame.sender = s.me ∧ w.frame.payload = .deliveryClose x ∧ w.result = .closed n ∧
      s.link.state = .inService ∧ w.replica.inService s.me = true ∧ s.role = some .receipt ∧
      s.activity.state = .closing ∧ s.activity.faultPending = true) ∧
    (∃ (s : State) (w : Writing) (x : Closing) (r : ActRecord) (e : StationEntry), s.Live ∧ s.engine.writing
      = some w ∧ w.limit = false ∧ w.frame.sender = s.me ∧ (w.frame.payload = .close x ∨ w.frame.payload =
      .deliveryClose x) ∧ w.result = .noChange ∧ s.link.state = .inService ∧ w.replica.inService s.me = true
      ∧ s.activity.state = .closing ∧ s.supply.record = some r ∧ w.replica.station? s.me = some e ∧
      s.engine.freeze = false ∧ s.StreamsGoOn ∧ s.WritesInWriteback) ∧
    (∃ (s : State) (w : Writing) (x : Closing) (r : ActRecord) (e : StationEntry), s.Live ∧ s.engine.writing
      = some w ∧ w.limit = false ∧ w.frame.sender = s.me ∧ (w.frame.payload = .close x ∨ w.frame.payload =
      .deliveryClose x) ∧ w.result = .noChange ∧ s.link.state = .inService ∧ w.replica.inService s.me = true
      ∧ s.activity.state = .closing ∧ s.supply.record = some r ∧ w.replica.station? s.me = some e ∧
      s.engine.freeze = false ∧ s.StreamsGoOn ∧ s.WritesInWriteback ∧
      s.engine.admitted = false) ∧
    (∃ (s : State) (w : Writing) (x : Closing) (r : ActRecord) (e : StationEntry), s.Live ∧ s.engine.writing
      = some w ∧ w.limit = false ∧ w.frame.sender = s.me ∧ (w.frame.payload = .close x ∨ w.frame.payload =
      .deliveryClose x) ∧ w.result = .noChange ∧ s.link.state = .inService ∧ w.replica.inService s.me = true
      ∧ s.activity.state = .closing ∧ s.supply.record = some r ∧ w.replica.station? s.me = some e ∧
      s.engine.freeze = false ∧ s.StreamsGoOn ∧ s.WritesInWriteback ∧
      s.activity.faultPending = true) ∧
    (∃ (s : State) (w : Writing) (x : Closing) (r : ActRecord) (e : StationEntry), s.Live ∧ s.engine.writing
      = some w ∧ w.limit = false ∧ w.frame.sender = s.me ∧ (w.frame.payload = .close x ∨ w.frame.payload =
      .deliveryClose x) ∧ w.result = .noChange ∧ s.link.state = .inService ∧ w.replica.inService s.me = true
      ∧ s.activity.state = .closing ∧ s.supply.record = some r ∧ w.replica.station? s.me = some e ∧
      s.engine.freeze = false ∧ s.StreamsGoOn ∧ s.WritesInWriteback ∧
      s.supply.waitCensus = true) ∧
    (∃ (s : State) (w : Writing) (x : Closing) (r : ActRecord) (e : StationEntry), s.Live ∧ s.engine.writing
      = some w ∧ w.limit = false ∧ w.frame.sender = s.me ∧ (w.frame.payload = .close x ∨ w.frame.payload =
      .deliveryClose x) ∧ w.result = .noChange ∧ s.link.state = .inService ∧ w.replica.inService s.me = true
      ∧ s.activity.state = .closing ∧ s.supply.record = some r ∧ w.replica.station? s.me = some e ∧
      s.engine.freeze = false ∧ s.StreamsGoOn ∧ s.WritesInWriteback ∧
      recoveryOf r e s.clock ≠ none) ∧
    (∃ (s : State) (w : Writing), s.Live ∧ s.engine.writing = some w ∧ w.limit = false ∧ w.frame.sender =
      s.me ∧ s.link.state = .inService ∧ w.replica.inService s.me = true ∧ s.activity.state ≠ .closing ∧
       let closes := (∃ x, w.frame.payload = .close x) ∨ ∃ x, w.frame.payload = .deliveryClose x
       let adjusts := ∃ x, w.frame.payload = .adjust x
       ((closes ∧ ∃ n, w.result = .closed n) ∨ (adjusts ∧ w.result = .applied))) ∧
    (∃ (s : State) (w : Writing), s.Live ∧ s.engine.writing = some w ∧ w.limit = false ∧ w.frame.sender =
      s.me ∧ s.link.state = .inService ∧ w.replica.inService s.me = true ∧ s.activity.state ≠ .closing ∧
       let closes := (∃ x, w.frame.payload = .close x) ∨ ∃ x, w.frame.payload = .deliveryClose x
       let adjusts := ∃ x, w.frame.payload = .adjust x
       ((closes ∧ ∃ n, w.result = .closed n) ∨ (adjusts ∧ w.result = .applied)) ∧ (∃ n, w.result = .closed
         n)) ∧
    (∃ (s : State) (w : Writing), s.Live ∧ s.engine.writing = some w ∧ w.limit = false ∧ w.frame.sender =
      s.me ∧ s.link.state = .inService ∧ w.replica.inService s.me = true ∧ s.activity.state ≠ .closing ∧
       let adjusts := ∃ x, w.frame.payload = .adjust x
       adjusts ∧ w.result = .noRoom) ∧
    (∃ (s : State) (w : Writing) (r : _) (e : _), s.Live ∧ s.engine.writing = some w ∧ w.limit = false ∧
      w.frame.sender = s.me ∧ s.link.state = .inService ∧ w.replica.inService s.me = true ∧ s.activity.state
      ≠ .closing ∧
       let closes := (∃ x, w.frame.payload = .close x) ∨ ∃ x, w.frame.payload = .deliveryClose x
       let adjusts := ∃ x, w.frame.payload = .adjust x
       ((closes ∧ w.result = .noChange) ∨ (adjusts ∧ w.result = .noMatch)) ∧ s.supply.record = some r ∧
         w.replica.station? s.me = some e ∧ s.engine.admitted = true ∧ s.engine.freeze = false ∧
         s.supply.waitCensus = false ∧ s.StreamsGoOn) ∧
    (∃ (s : State) (w : Writing) (r : _) (e : _), s.Live ∧ s.engine.writing = some w ∧ w.limit = false ∧
      w.frame.sender = s.me ∧ s.link.state = .inService ∧ w.replica.inService s.me = true ∧ s.activity.state
      ≠ .closing ∧
       let closes := (∃ x, w.frame.payload = .close x) ∨ ∃ x, w.frame.payload = .deliveryClose x
       let adjusts := ∃ x, w.frame.payload = .adjust x
       ((closes ∧ w.result = .noChange) ∨ (adjusts ∧ w.result = .noMatch)) ∧ s.supply.record = some r ∧
         w.replica.station? s.me = some e ∧ s.engine.admitted = true ∧ s.engine.freeze = false ∧
         s.supply.waitCensus = false ∧ s.StreamsGoOn ∧ w.result =
         .noChange) ∧
    (∃ (s : State) (w : Writing) (x : Closing) (n : Nat), ClosesOwn s w x n ∧
      s.port.job.map TagJob.purpose = some .keepAlive) ∧
    (∃ (s : State) (w : Writing) (x : Closing) (n : Nat), ClosesOwn s w x n ∧
      s.port.job.map TagJob.purpose ≠ some .keepAlive ∧ s.activity.couplerLost = true) ∧
    (∃ (s : State) (w : Writing) (x : Closing) (n : Nat), ClosesOwn s w x n ∧
      s.port.job.map TagJob.purpose ≠ some .keepAlive ∧ s.activity.couplerLost = true ∧
      s.activity.faultPending = true) ∧
    (∃ (s : State) (w : Writing) (x : Closing) (n : Nat), ClosesOwn s w x n ∧
      s.port.job.map TagJob.purpose ≠ some .keepAlive ∧ s.activity.couplerLost = false ∧
      s.ident.state = .idle) ∧
    (∃ (s : State) (w : Writing) (x : Closing) (n : Nat) (c : Inlet), ClosesOwn s w x n ∧
      s.port.job.map TagJob.purpose ≠ some .keepAlive ∧ s.activity.couplerLost = false ∧
      s.ident.state = .identified ∧ s.ident.context = some c ∧ c.mode = .tag ∧ c.unlock = .unlocked) ∧
    (∃ (s : State) (w : Writing) (x : Closing) (n : Nat) (c : Inlet), ClosesOwn s w x n ∧
      s.port.job.map TagJob.purpose ≠ some .keepAlive ∧ s.activity.couplerLost = false ∧
      s.ident.state = .identified ∧ s.ident.context = some c ∧ c.mode = .tag ∧ c.unlock ≠ .unlocked) ∧
    (∃ (s : State) (w : Writing) (x : Closing) (n : Nat) (c : Inlet), ClosesOwn s w x n ∧
      s.port.job.map TagJob.purpose ≠ some .keepAlive ∧ s.activity.couplerLost = false ∧
      s.ident.state = .identified ∧ s.ident.context = some c ∧ c.mode = .keyed ∧
      s.meter.cells.noz.output = true) := by
  exact ⟨
    ⟨{ filling .opening with engine := (writing (.openFill openReq) 3 (.granted 101 101) rep).engine },
      { replica := rep, frame := { frame (.openFill openReq) with sender := 3 }, result := .granted 101 101, limit := false },
      openReq, 101, 101, cfg, heldResult, by decide +kernel⟩,
    ⟨{ onActivity (filling .opening) fun a => { a with pendingEnd := some .siteStop } with engine := (writing (.openFill openReq) 3 (.granted 101 101) rep).engine },
      { replica := rep, frame := { frame (.openFill openReq) with sender := 3 }, result := .granted 101 101, limit := false },
      openReq, 101, 101, cfg, heldResult, by decide +kernel⟩,
    ⟨{ filling .opening with engine := (writing (.openFill openReq) 3 (.granted 101 500) rep).engine },
      { replica := rep, frame := { frame (.openFill openReq) with sender := 3 }, result := .granted 101 500, limit := false },
      openReq, 101, 500, cfg, heldResult, by decide +kernel⟩,
    ⟨{ filling .opening with engine := (writing (.openFill openReq) 3 (.granted 101 5) rep).engine },
      { replica := rep, frame := { frame (.openFill openReq) with sender := 3 }, result := .granted 101 5, limit := false },
      openReq, 101, 5, cfg, heldResult, by decide +kernel⟩,
    ⟨{ filling .opening with engine := (writing (.openFill openReq) 3 (.refused .barred) rep).engine },
      { replica := rep, frame := { frame (.openFill openReq) with sender := 3 }, result := .refused .barred, limit := false },
      openReq, .barred, by decide +kernel⟩,
    ⟨{ filling .closing with engine := (writing (.close closing) 3 (.closed 1) rep).engine },
      { replica := rep, frame := { frame (.close closing) with sender := 3 }, result := .closed 1, limit := false },
      closing, 1, by decide +kernel⟩,
    ⟨{ (receiving .opening) with engine := (writing (.deliveryOpen deliveryReq) 3 (.granted 101 101) rep).engine },
      { replica := rep, frame := { frame (.deliveryOpen deliveryReq) with sender := 3 }, result := .granted 101 101, limit := false },
      deliveryReq, cfgR, heldResult, 101, 101, by decide +kernel⟩,
    ⟨onActivity
      ({ (receiving .opening) with engine := (writing (.deliveryOpen deliveryReq) 3 (.granted 101 101) rep).engine })
      fun a => { a with pendingEnd := some .siteStop },
      { replica := rep, frame := { frame (.deliveryOpen deliveryReq) with sender := 3 }, result := .granted 101 101, limit := false },
      deliveryReq, cfgR, heldResult, 101, 101, by decide +kernel⟩,
    ⟨{ (receiving .opening) with engine := (writing (.deliveryOpen deliveryReq) 3 (.granted 101 4) rep).engine },
      { replica := rep, frame := { frame (.deliveryOpen deliveryReq) with sender := 3 }, result := .granted 101 4, limit := false },
      deliveryReq, cfgR, heldResult, 101, 4, by decide +kernel⟩,
    ⟨{ (receiving .opening) with engine := (writing (.deliveryOpen deliveryReq) 3 (.refused .misgrade) rep).engine },
      { replica := rep, frame := { frame (.deliveryOpen deliveryReq) with sender := 3 }, result := .refused .misgrade, limit := false },
      deliveryReq, cfgR, heldResult, .misgrade, by decide +kernel⟩,
    ⟨{ (receiving .closing) with engine := (writing (.deliveryClose closing) 3 (.closed 1) rep).engine },
      { replica := rep, frame := { frame (.deliveryClose closing) with sender := 3 }, result := .closed 1, limit := false },
      closing, 1, by decide +kernel⟩,
    ⟨onActivity
      ({ (receiving .closing) with engine := (writing (.deliveryClose closing) 3 (.closed 1) rep).engine })
      fun a => { a with faultPending := true },
      { replica := rep, frame := { frame (.deliveryClose closing) with sender := 3 }, result := .closed 1, limit := false },
      closing, 1, by decide +kernel⟩,
    ⟨{ (onSupply (filling .closing) fun x => { x with record := some record3, phase := .running }) with engine := (writing (.close closing) 3 (.noChange) rep).engine },
      { replica := rep, frame := { frame (.close closing) with sender := 3 }, result := .noChange, limit := false },
      closing, record3, serving 3 .dispense (some 1) none, by decide +kernel⟩,
    ⟨onEngine
      { (onSupply (filling .closing) fun x => { x with record := some record3, phase := .running }) with engine := (writing (.close closing) 3 (.noChange) rep).engine }
      fun e => { e with admitted := false },
      { replica := rep, frame := { frame (.close closing) with sender := 3 }, result := .noChange, limit := false },
      closing, record3, serving 3 .dispense (some 1) none, by decide +kernel⟩,
    ⟨onActivity
      { (onSupply (filling .closing) fun x => { x with record := some record3, phase := .running }) with engine := (writing (.close closing) 3 (.noChange) rep).engine }
      fun a => { a with faultPending := true },
      { replica := rep, frame := { frame (.close closing) with sender := 3 }, result := .noChange, limit := false },
      closing, record3, serving 3 .dispense (some 1) none, by decide +kernel⟩,
    ⟨onSupply
      { (onSupply (filling .closing) fun x => { x with record := some record3, phase := .running }) with engine := (writing (.close closing) 3 (.noChange) rep).engine }
      fun x => { x with waitCensus := true },
      { replica := rep, frame := { frame (.close closing) with sender := 3 }, result := .noChange, limit := false },
      closing, record3, serving 3 .dispense (some 1) none, by decide +kernel⟩,
    ⟨{ (onSupply (filling .closing) fun x => { x with record := some record3, phase := .running }) with engine := (writing (.close closing) 3 (.noChange) opened).engine },
      { replica := opened, frame := { frame (.close closing) with sender := 3 }, result := .noChange, limit := false },
      closing, record3, entry3, by decide +kernel⟩,
    ⟨writing (.adjust adjustReq) 3 (.applied) rep,
      { replica := rep, frame := { frame (.adjust adjustReq) with sender := 3 }, result := .applied, limit := false },
      by refine ⟨?_,?_,?_,?_,?_,?_,?_,?_⟩ <;> first | decide +kernel | exact .inr ⟨⟨_, rfl⟩, rfl⟩⟩,
    ⟨writing (.close closing) 3 (.closed 1) rep,
      { replica := rep, frame := { frame (.close closing) with sender := 3 }, result := .closed 1, limit := false },
      by refine ⟨?_,?_,?_,?_,?_,?_,?_,?_,?_⟩ <;> first | decide +kernel | exact .inr ⟨⟨_, rfl⟩, rfl⟩ | exact .inl ⟨.inl ⟨_, rfl⟩, _, rfl⟩ | exact ⟨_, rfl⟩⟩,
    ⟨writing (.adjust adjustReq) 3 (.noRoom) rep,
      { replica := rep, frame := { frame (.adjust adjustReq) with sender := 3 }, result := .noRoom, limit := false },
      by refine ⟨?_,?_,?_,?_,?_,?_,?_,?_,?_⟩ <;> first | decide +kernel | exact ⟨_, rfl⟩⟩,
    ⟨(onSupply (writing (.adjust adjustReq) 3 (.noMatch) ended) fun x =>
      { x with record := some record3, phase := .recovering, waitCensus := false }),
      { replica := ended, frame := { frame (.adjust adjustReq) with sender := 3 }, result := .noMatch, limit := false },
      record3, ended3,
      by refine ⟨?_,?_,?_,?_,?_,?_,?_,?_,?_,?_,?_,?_,?_,?_⟩ <;> first | decide +kernel | exact .inr ⟨⟨_, rfl⟩, rfl⟩⟩,
    ⟨(onSupply (writing (.close closing) 3 (.noChange) ended) fun x =>
      { x with record := some record3, phase := .recovering, waitCensus := false }),
      { replica := ended, frame := { frame (.close closing) with sender := 3 }, result := .noChange, limit := false },
      record3, ended3,
      by refine ⟨?_,?_,?_,?_,?_,?_,?_,?_,?_,?_,?_,?_,?_,?_,?_⟩ <;> first | decide +kernel | exact .inr ⟨⟨_, rfl⟩, rfl⟩ | exact .inl ⟨.inl ⟨_, rfl⟩, rfl⟩⟩,
    ⟨ownClose (awaiting (filling .closing) (job .ident .keepAlive) { inlet with unlock := .unlocked } .identified),
      closeWriting, closing, 1, by decide +kernel⟩,
    ⟨ownClose (onActivity (filling .closing) fun a => { a with couplerLost := true }),
      closeWriting, closing, 1, by decide +kernel⟩,
    ⟨ownClose (onActivity (filling .closing) fun a => { a with couplerLost := true, faultPending := true }),
      closeWriting, closing, 1, by decide +kernel⟩,
    ⟨ownClose (filling .closing),
      closeWriting, closing, 1, by decide +kernel⟩,
    ⟨ownClose (identified (filling .closing) { inlet with unlock := .unlocked }),
      closeWriting, closing, 1, { inlet with unlock := .unlocked }, by decide +kernel⟩,
    ⟨ownClose (identified (filling .closing) { inlet with unlock := .lost }),
      closeWriting, closing, 1, { inlet with unlock := .lost }, by decide +kernel⟩,
    ⟨ownClose (onCells (identified (filling .closing) (newInlet .keyed false none)) fun c => { c with noz := cell true }),
      closeWriting, closing, 1, newInlet .keyed false none, by decide +kernel⟩⟩

theorem test_witness_framesWaitForTheSnapshot :
    (∃ (s : State) (f : Frame) (rest : List Frame), s.Live ∧ s.engine.writing = none ∧ s.link.inbound = f ::
      rest ∧ f.payload.isReplica = true ∧ s.link.state = .inService ∧ s.engine.freeze = true ∧
      s.engine.deferred.length < 64) ∧
    (∃ (s : State) (f : Frame) (rest : List Frame), s.Live ∧ s.engine.writing = none ∧ s.link.inbound = f ::
      rest ∧ f.payload.isReplica = true ∧ s.link.state = .inService ∧ s.engine.freeze = true ∧ 64 ≤
      s.engine.deferred.length) ∧
    (∃ (s : State) (f : Frame) (rest : List Frame), s.Live ∧ s.engine.writing = none ∧ s.link.inbound = f ::
      rest ∧ f.payload.isReplica = true ∧ s.link.state = .joining ∧ s.engine.catchUp.length < 64) ∧
    (∃ (s : State) (f : Frame) (rest : List Frame), s.Live ∧ s.engine.writing = none ∧ s.link.inbound = f ::
      rest ∧ f.payload.isReplica = true ∧ s.link.state = .joining ∧ 64 ≤ s.engine.catchUp.length) ∧
    (∃ (s : State) (w : Writing) (j : Joining) (e : StationEntry), s.Live ∧ s.engine.writing = some w ∧
      w.limit = false ∧ s.link.state = .inService ∧ w.frame.payload = .join j ∧ w.result = .applied ∧
      w.frame.sender ≠ s.me ∧ w.replica.station? w.frame.sender = some e ∧ e.donor = some s.me ∧
      w.replica.inService s.me = true ∧ s.link.queued .donation = none ∧ s.engine.abortTo = none) ∧
    (∃ (s : State) (x : Slots) (w : OnWire) (e : TxEntry) (d : Stream), s.Sends w e ∧ w.origin = .donation ∧
      w.frame.payload.category = .service ∧ e.payload ≠ .snapAbort ∧ s.engine.stream = some d ∧ d.offered =
      true ∧ s.engine.abortTo = none  ∧ x.void = false ∧ x.accept = true) ∧
    (∃ (s : State) (x : Slots) (w : OnWire) (e : TxEntry) (d : Stream), s.Sends w e ∧ w.origin = .donation ∧
      w.frame.payload.category = .service ∧ e.payload ≠ .snapAbort ∧ s.engine.stream = some d ∧ d.offered =
      true ∧ s.engine.abortTo = none  ∧ x.void = false ∧ x.accept = true ∧ d.keyOk =
      false) ∧
    (∃ (s : State) (x : Slots) (w : OnWire) (e : TxEntry) (d : Stream), s.Sends w e ∧ w.origin = .donation ∧
      w.frame.payload.category = .service ∧ e.payload ≠ .snapAbort ∧ s.engine.stream = some d ∧ d.offered =
      true ∧ s.engine.abortTo = none  ∧
       let entries := Entry.site s.replica.site :: s.replica.stations.map Entry.station ++
         s.replica.tanks.map Entry.tank ++ s.replica.costCentres.map Entry.costCentre ++
         s.replica.machines.map Entry.machine ++ s.replica.log.map Entry.record
       x.void = false ∧ x.accept = true ∧ (∃ n, d.next = .body n ∧ n + 2 < entries.length)) ∧
    (∃ (s : State) (x : Slots) (w : OnWire) (e : TxEntry) (d : Stream), s.Sends w e ∧ w.origin = .donation ∧
      w.frame.payload.category = .service ∧ e.payload ≠ .snapAbort ∧ s.engine.stream = some d ∧ d.offered =
      true ∧ s.engine.abortTo = none  ∧
       let entries := Entry.site s.replica.site :: s.replica.stations.map Entry.station ++
         s.replica.tanks.map Entry.tank ++ s.replica.costCentres.map Entry.costCentre ++
         s.replica.machines.map Entry.machine ++ s.replica.log.map Entry.record
       x.void = false ∧ x.accept = true ∧ (∃ n, d.next = .body n ∧ entries.length ≤ n + 2)) ∧
    (∃ (s : State) (x : Slots) (w : OnWire) (e : TxEntry) (d : Stream), s.Sends w e ∧ w.origin = .donation ∧
      w.frame.payload.category = .service ∧ e.payload ≠ .snapAbort ∧ s.engine.stream = some d ∧ d.offered =
      true ∧ s.engine.abortTo = none  ∧ x.void = false ∧ x.accept = true ∧ d.next =
      .finish) ∧
    (∃ (s : State) (rx : List Bit) (x : Slots) (w : OnWire) (e : TxEntry) (d : Stream) (c : _), s.Sends w e
      ∧ w.origin = .donation ∧ w.frame.payload.category = .service ∧ e.payload ≠ .snapAbort ∧
      s.engine.stream = some d ∧ d.offered = true ∧ s.engine.abortTo = none  ∧ (c =
      Instr.serviceWindow rx x ∧ x.void = false ∧ x.accept = false ∨ c = .undelivered x ∧ x.void = true ∧
      e.voids = 15)) ∧
    (∃ (s : State) (rx : List Bit) (x : Slots) (w : OnWire) (e : TxEntry) (d : Stream) (c : _), s.Sends w e
      ∧ w.origin = .donation ∧ w.frame.payload.category = .service ∧ e.payload ≠ .snapAbort ∧
      s.engine.stream = some d ∧ d.offered = true ∧ s.engine.abortTo = none  ∧ (c =
      Instr.serviceWindow rx x ∧ x.void = false ∧ x.accept = false ∨ c = .undelivered x ∧ x.void = true ∧
      e.voids = 15) ∧ e.voids = 15) ∧
    (∃ (s : State) (f : Frame) (rest : List Frame), s.link.state = .inService ∧ s.engine.freeze = false ∧
      s.engine.writing = none ∧ s.engine.deferred = f :: rest ∧ f.payload.isReplica = true) ∧
    (∃ (s : State) (f : Frame) (rest : List Frame) (d : Stream), Overflows s f rest d ∧
      s.link.queued .donation = none) ∧
    (∃ (s : State) (f : Frame) (rest : List Frame) (d : Stream), Overflows s f rest d ∧
      (∃ k ∈ [Kind.snapHead, .snap, .snapEnd], s.link.withdrawable .donation k = true)) ∧
    (∃ (s : State) (f : Frame) (rest : List Frame) (d : Stream) (e : TxEntry), Overflows s f rest d ∧
      s.link.queued .donation = some e ∧ s.link.onWire .donation = true) ∧
    (∃ (s : State) (f : Frame) (rest : List Frame) (d : Stream) (e : TxEntry), Overflows s f rest d ∧
      s.link.queued .donation = some e ∧ e.payload = .snapAbort) ∧
    (∃ (s : State) (x : Slots) (w : OnWire) (e : TxEntry) (j : Nat), s.Sends w e ∧ w.origin = .donation ∧
      w.frame.payload.category = .service ∧ s.engine.abortTo = some j ∧ (∀ d ∈ s.engine.stream, d.offered =
      false) ∧ x.void = false) ∧
    (∃ (s : State) (x : Slots) (w : OnWire) (e : TxEntry) (j : Nat), s.Sends w e ∧ w.origin = .donation ∧
      w.frame.payload.category = .service ∧ s.engine.abortTo = some j ∧ (∀ d ∈ s.engine.stream, d.offered =
      false) ∧ x.void = true ∧ e.voids = 15) := by
  exact ⟨
    ⟨(onEngine (inbox live (frame .leave)) fun e =>
      { e with freeze := true, deferred := List.replicate 63 (frame .leave) }), frame .leave, [],
      by decide +kernel⟩,
    ⟨(onEngine (inbox live (frame .leave)) fun e =>
      { e with freeze := true, deferred := List.replicate 64 (frame .leave) }), frame .leave, [],
      by decide +kernel⟩,
    ⟨(onEngine (inbox (at' .joining cfg) (frame .leave)) fun e =>
      { e with catchUp := List.replicate 63 (frame .leave) }), frame .leave, [], by decide +kernel⟩,
    ⟨(onEngine (inbox (at' .joining cfg) (frame .leave)) fun e =>
      { e with catchUp := List.replicate 64 (frame .leave) }), frame .leave, [], by decide +kernel⟩,
    ⟨writing (.join joinReq) 9 (.applied) joiningRep,
      { replica := joiningRep, frame := { frame (.join joinReq) with sender := 9 }, result := .applied, limit := false },
      joinReq, entry9, by decide +kernel⟩,
    ⟨onEngine (sending live .donation
      ({ sentBy 3 (.snapHead 100 0x1234#16 repCounts) with dest := 9, seq16 := 0#16 }) 0) fun e =>
      { e with freeze := true, stream := some { joiner := 9, keyOk := true, next := .head, offered := true } },
      ⟨true, false, false⟩,
      { origin := .donation, frame := { sentBy 3 (.snapHead 100 0x1234#16 repCounts) with dest := 9, seq16 := 0#16 } },
      { origin := .donation, dest := 9, payload := .snapHead 100 0x1234#16 repCounts, voids := 0, entered := 0 },
      { joiner := 9, keyOk := true, next := .head, offered := true },
      by refine ⟨?_,?_,?_,?_,?_,?_,?_,?_,?_⟩ <;> decide +kernel⟩,
    ⟨onEngine (sending live .donation
      ({ sentBy 3 (.snapHead 100 0x1234#16 repCounts) with dest := 9, seq16 := 0#16 }) 0) fun e =>
      { e with freeze := true, stream := some { joiner := 9, keyOk := false, next := .head, offered := true } },
      ⟨true, false, false⟩,
      { origin := .donation, frame := { sentBy 3 (.snapHead 100 0x1234#16 repCounts) with dest := 9, seq16 := 0#16 } },
      { origin := .donation, dest := 9, payload := .snapHead 100 0x1234#16 repCounts, voids := 0, entered := 0 },
      { joiner := 9, keyOk := false, next := .head, offered := true },
      by refine ⟨?_,?_,?_,?_,?_,?_,?_,?_,?_,?_⟩ <;> decide +kernel⟩,
    ⟨onEngine (sending live .donation ({ sentBy 3 (.snap []) with dest := 9, seq16 := 0#16 }) 0) fun e =>
      { e with freeze := true, stream := some { joiner := 9, keyOk := true, next := .body 94, offered := true } },
      ⟨true, false, false⟩,
      { origin := .donation, frame := { sentBy 3 (.snap []) with dest := 9, seq16 := 0#16 } },
      { origin := .donation, dest := 9, payload := .snap [], voids := 0, entered := 0 },
      { joiner := 9, keyOk := true, next := .body 94, offered := true },
      by refine ⟨?_,?_,?_,?_,?_,?_,?_,?_,?_,?_⟩ <;> first | decide +kernel | exact ⟨_, rfl, by decide +kernel⟩⟩,
    ⟨onEngine (sending live .donation ({ sentBy 3 (.snap []) with dest := 9, seq16 := 0#16 }) 0) fun e =>
      { e with freeze := true, stream := some { joiner := 9, keyOk := true, next := .body 96, offered := true } },
      ⟨true, false, false⟩,
      { origin := .donation, frame := { sentBy 3 (.snap []) with dest := 9, seq16 := 0#16 } },
      { origin := .donation, dest := 9, payload := .snap [], voids := 0, entered := 0 },
      { joiner := 9, keyOk := true, next := .body 96, offered := true },
      by refine ⟨?_,?_,?_,?_,?_,?_,?_,?_,?_,?_⟩ <;> first | decide +kernel | exact ⟨_, rfl, by decide +kernel⟩⟩,
    ⟨onEngine (sending live .donation ({ sentBy 3 (.snapEnd) with dest := 9, seq16 := 0#16 }) 0) fun e =>
      { e with freeze := true, stream := some { joiner := 9, keyOk := true, next := .finish, offered := true } },
      ⟨true, false, false⟩,
      { origin := .donation, frame := { sentBy 3 (.snapEnd) with dest := 9, seq16 := 0#16 } },
      { origin := .donation, dest := 9, payload := .snapEnd, voids := 0, entered := 0 },
      { joiner := 9, keyOk := true, next := .finish, offered := true },
      by refine ⟨?_,?_,?_,?_,?_,?_,?_,?_,?_,?_⟩ <;> decide +kernel⟩,
    ⟨onEngine (sending live .donation
      ({ sentBy 3 (.snapHead 100 0x1234#16 repCounts) with dest := 9, seq16 := 0#16 }) 0) fun e =>
      { e with freeze := true, stream := some { joiner := 9, keyOk := true, next := .head, offered := true } },
      [], ⟨false, false, false⟩,
      { origin := .donation, frame := { sentBy 3 (.snapHead 100 0x1234#16 repCounts) with dest := 9, seq16 := 0#16 } },
      { origin := .donation, dest := 9, payload := .snapHead 100 0x1234#16 repCounts, voids := 0, entered := 0 },
      { joiner := 9, keyOk := true, next := .head, offered := true }, .serviceWindow [] ⟨false, false,
      false⟩,
      by refine ⟨?_,?_,?_,?_,?_,?_,?_,?_⟩ <;> decide +kernel⟩,
    ⟨onEngine (sending live .donation
      ({ sentBy 3 (.snapHead 100 0x1234#16 repCounts) with dest := 9, seq16 := 0#16 }) 15) fun e =>
      { e with freeze := true, stream := some { joiner := 9, keyOk := true, next := .head, offered := true } },
      [], ⟨false, false, true⟩,
      { origin := .donation, frame := { sentBy 3 (.snapHead 100 0x1234#16 repCounts) with dest := 9, seq16 := 0#16 } },
      { origin := .donation, dest := 9, payload := .snapHead 100 0x1234#16 repCounts, voids := 15, entered := 0 },
      { joiner := 9, keyOk := true, next := .head, offered := true }, .undelivered ⟨false, false, true⟩,
      by refine ⟨?_,?_,?_,?_,?_,?_,?_,?_,?_⟩ <;> decide +kernel⟩,
    ⟨onEngine live fun e => { e with deferred := [frame .leave] }, frame .leave, [], by decide +kernel⟩,
    ⟨overflowing live, frame .leave, [], stream9, by decide +kernel⟩,
    ⟨overflowing (onLink live fun l => { l with tx := [headEntry 0], entered := 1 }), frame .leave, [], stream9, by decide +kernel⟩,
    ⟨overflowing (sending live .donation headOf3 0), frame .leave, [], stream9, headEntry 0, by decide +kernel⟩,
    ⟨overflowing (onLink live fun l => { l with tx := [live.abortEntry 9], entered := 1 }), frame .leave, [], stream9, live.abortEntry 9, by decide +kernel⟩,
    ⟨onEngine (sending live .donation headOf3 0) fun e => { e with abortTo := some 9, stream := none },
      ⟨false, false, false⟩, { origin := .donation, frame := headOf3 }, headEntry 0, 9, by decide +kernel⟩,
    ⟨onEngine (sending live .donation headOf3 15) fun e => { e with abortTo := some 9, stream := some { stream9 with offered := false } },
      ⟨false, false, true⟩, { origin := .donation, frame := headOf3 }, headEntry 15, 9, by decide +kernel⟩⟩

theorem test_witness_joinerTakesTheStream :
    (∃ (s : State) (f : Frame) (rest : List Frame) (q : Nat) (k : Check) (c : Counts), s.Live ∧ s.link.state
      = .joining ∧ s.engine.writing = none ∧ s.engine.join = none ∧ s.link.inbound = f :: rest ∧ f.payload =
      .snapHead q k c ∧ k = s.keyCheck) ∧
    (∃ (s : State) (f : Frame) (rest : List Frame) (q : Nat) (k : Check) (c : Counts), s.Live ∧ s.link.state
      = .joining ∧ s.engine.writing = none ∧ s.engine.join = none ∧ s.link.inbound = f :: rest ∧ f.payload =
      .snapHead q k c ∧ k ≠ s.keyCheck) ∧
    (∃ (s : State) (f : Frame) (rest : List Frame) (es : List Entry) (a : JoinArea) (l : _), s.Live ∧
      s.link.state = .joining ∧ s.engine.writing = none ∧ s.engine.join = some a ∧ s.link.inbound = f ::
      rest ∧ f.payload = .snap es ∧ f.sender = a.donor ∧ addEntries a.entries es = some l) ∧
    (∃ (s : State) (f : Frame) (rest : List Frame) (es : List Entry) (a : JoinArea), s.Live ∧ s.link.state =
      .joining ∧ s.engine.writing = none ∧ s.engine.join = some a ∧ s.link.inbound = f :: rest ∧ f.payload =
      .snap es ∧ f.sender = a.donor ∧ addEntries a.entries es = none) ∧
    (∃ (s : State) (f : Frame) (rest : List Frame) (a : JoinArea) (r : _), s.Live ∧ s.link.state = .joining
      ∧ s.engine.writing = none ∧ s.engine.join = some a ∧ s.link.slots = none ∧ s.link.inbound = f :: rest
      ∧ f.payload = .snapEnd ∧ f.sender = a.donor ∧ a.replica? = some r ∧ s.engine.catchUp = [] ∧ (∀ x ∈
      rest, x.payload.isReplica = false) ∧ s.link.queued .membership = none) ∧
    (∃ (s : State) (f : Frame) (rest : List Frame) (a : JoinArea), s.Live ∧ s.link.state = .joining ∧
      s.engine.writing = none ∧ s.engine.join = some a ∧ s.link.slots = none ∧ s.link.inbound = f :: rest ∧
      f.payload = .snapEnd ∧ f.sender = a.donor ∧ a.replica? = none) ∧
    (∃ (s : State) (f : Frame) (rest : List Frame) (a : JoinArea) (r : _) (g : _) (more : _), s.Live ∧
      s.link.state = .joining ∧ s.engine.writing = none ∧ s.engine.join = some a ∧ s.link.slots = none ∧
      s.link.inbound = f :: rest ∧ f.payload = .snapEnd ∧ f.sender = a.donor ∧ a.replica? = some r ∧
      s.engine.catchUp = g :: more ∧ g.payload.kind? ≠ some .join ∧ g.seq16 ≠ BitVec.ofNat 16 (r.site.seq +
      1)) ∧
    (∃ (s : State) (f : Frame) (rest : List Frame) (a : JoinArea) (r : _) (r' : _), s.Live ∧ s.link.state =
      .joining ∧ s.engine.writing = none ∧ s.engine.join = some a ∧ s.link.slots = none ∧ s.link.inbound = f
      :: rest ∧ f.payload = .snapEnd ∧ f.sender = a.donor ∧ a.replica? = some r ∧ s.link.queued .membership
      = none ∧ s.limitReached = false ∧
       let fs := s.engine.catchUp ++ rest.filter fun x => x.payload.isReplica
       r.site.seq + fs.length < maxSeq ∧ followsOn r fs = some r') ∧
    (∃ (s : State) (f : Frame) (rest : List Frame) (a : JoinArea) (r : _) (r' : _), s.Live ∧ s.link.state =
      .joining ∧ s.engine.writing = none ∧ s.engine.join = some a ∧ s.link.slots = none ∧ s.link.inbound = f
      :: rest ∧ f.payload = .snapEnd ∧ f.sender = a.donor ∧ a.replica? = some r ∧ s.link.queued .membership
      = none ∧ s.limitReached = false ∧
       let fs := s.engine.catchUp ++ rest.filter fun x => x.payload.isReplica
       r.site.seq + fs.length < maxSeq ∧ followsOn r fs = some r' ∧ s.engine.catchUp ≠ []) ∧
    (∃ (s : State) (f : Frame) (rest : List Frame) (a : JoinArea) (r : _) (r' : _), s.Live ∧ s.link.state =
      .joining ∧ s.engine.writing = none ∧ s.engine.join = some a ∧ s.link.slots = none ∧ s.link.inbound = f
      :: rest ∧ f.payload = .snapEnd ∧ f.sender = a.donor ∧ a.replica? = some r ∧ s.link.queued .membership
      = none ∧ s.limitReached = false ∧
       let fs := s.engine.catchUp ++ rest.filter fun x => x.payload.isReplica
       r.site.seq + fs.length < maxSeq ∧ followsOn r fs = some r' ∧ r.site.seq < s.replica.site.seq) ∧
    (∃ (s : State) (f : Frame) (rest : List Frame) (a : JoinArea) (r : _) (r' : _), s.Live ∧ s.link.state =
      .joining ∧ s.engine.writing = none ∧ s.engine.join = some a ∧ s.link.slots = none ∧ s.link.inbound = f
      :: rest ∧ f.payload = .snapEnd ∧ f.sender = a.donor ∧ a.replica? = some r ∧ s.link.queued .membership
      = none ∧ s.limitReached = false ∧
       let fs := s.engine.catchUp ++ rest.filter fun x => x.payload.isReplica
       r.site.seq + fs.length < maxSeq ∧ followsOn r fs = some r' ∧ rest ≠ []) ∧
    (∃ (s : State) (f : Frame) (rest : List Frame) (a : JoinArea) (r : _), s.Live ∧ s.link.state = .joining
      ∧ s.engine.writing = none ∧ s.engine.join = some a ∧ s.link.slots = none ∧ s.link.inbound = f :: rest
      ∧ f.payload = .snapEnd ∧ f.sender = a.donor ∧ a.replica? = some r ∧ s.link.queued .membership = none ∧
      s.limitReached = false ∧
       let fs := s.engine.catchUp ++ rest.filter fun x => x.payload.isReplica
       r.site.seq + fs.length < maxSeq ∧ followsOn r fs = none) := by
  exact ⟨
    ⟨inbox (at' .joining cfg) (frame (.snapHead 200 (keyCheckOf cfg.key) repCounts)), frame (.snapHead 200
      (keyCheckOf cfg.key) repCounts), [], 200, keyCheckOf cfg.key, repCounts, by decide +kernel⟩,
    ⟨inbox (at' .joining cfg) (frame (.snapHead 200 (0#16) repCounts)), frame (.snapHead 200 (0#16)
      repCounts), [], 200, 0#16, repCounts, by decide +kernel⟩,
    ⟨onEngine (inbox (at' .joining cfg) (frame (.snap [.site site]))) fun e =>
      { e with join := some (assembling []) }, frame (.snap [.site site]), [], [.site site], (assembling
      []), [.site site], by decide +kernel⟩,
    ⟨onEngine (inbox (at' .joining cfg) (frame (.snap [.tank tank1]))) fun e =>
      { e with join := some (assembling []) }, frame (.snap [.tank tank1]), [], [.tank tank1], (assembling
      []), by decide +kernel⟩,
    ⟨onEngine (inbox (at' .joining cfg) (frame .snapEnd)) fun e =>
      { e with join := some (assembling rep.entries) }, frame .snapEnd, [], (assembling rep.entries),
      { rep with site := { site with seq := 200 } }, by decide +kernel⟩,
    ⟨onEngine (inbox (at' .joining cfg) (frame .snapEnd)) fun e => { e with join := some (assembling []) },
      frame .snapEnd, [], (assembling []), by decide +kernel⟩,
    ⟨onEngine (onEngine (inbox (at' .joining cfg) (frame .snapEnd)) fun e =>
      { e with join := some (assembling rep.entries) }) fun e => { e with catchUp := [frame .leave] }, frame
      .snapEnd, [], (assembling rep.entries), { rep with site := { site with seq := 200 } }, frame .leave,
      [], by decide +kernel⟩,
    ⟨onEngine (inbox (at' .joining cfg) (frame .snapEnd)) fun e =>
      { e with join := some (assembling rep.entries) }, frame .snapEnd, [], (assembling rep.entries),
      { rep with site := { site with seq := 200 } }, { rep with site := { site with seq := 200 } },
      by decide +kernel⟩,
    ⟨onEngine (onEngine (inbox (at' .joining cfg) (frame .snapEnd)) fun e =>
      { e with join := some (assembling rep.entries) }) fun e => { e with catchUp := [nextFrame] }, frame
      .snapEnd, [], (assembling rep.entries), { rep with site := { site with seq := 200 } }, (applyEffect
      (Replica.counted { rep with site := { site with seq := 200 } }) nextFrame).1, by decide +kernel⟩,
    ⟨onSite (onEngine (inbox (at' .joining cfg) (frame .snapEnd)) fun e =>
      { e with join := some (assembling rep.entries) }) fun x => { x with seq := 300 }, frame .snapEnd, [],
      (assembling rep.entries), { rep with site := { site with seq := 200 } },
      { rep with site := { site with seq := 200 } }, by decide +kernel⟩,
    ⟨onLink (onEngine (inbox (at' .joining cfg) (frame .snapEnd)) fun e =>
      { e with join := some (assembling rep.entries) }) fun l =>
      { l with inbound := [frame .snapEnd, nextFrame] }, frame .snapEnd, [nextFrame], (assembling
      rep.entries), { rep with site := { site with seq := 200 } }, (applyEffect (Replica.counted
      { rep with site := { site with seq := 200 } }) nextFrame).1, by decide +kernel⟩,
    ⟨onEngine (onEngine (inbox (at' .joining cfg) (frame .snapEnd)) fun e =>
      { e with join := some (assembling rep.entries) }) fun e =>
      { e with catchUp := [nextFrame, frame .leave] }, frame .snapEnd, [], (assembling rep.entries),
      { rep with site := { site with seq := 200 } }, by decide +kernel⟩⟩

theorem test_witness_joinAndListenTimers :
    (∃ (s : State) (f : Frame) (rest : List Frame) (a : JoinArea), s.Live ∧ s.link.state = .joining ∧
      s.engine.writing = none ∧ s.engine.join = some a ∧ s.link.inbound = f :: rest ∧ f.payload = .snapAbort
      ∧ f.sender = a.donor) ∧
    (∃ (s : State), s.Live ∧ s.link.state = .joining ∧ s.engine.headTimer.isSome = true) ∧
    (∃ (s : State), s.Live ∧ s.link.state = .joining ∧ s.engine.joinTimer.isSome = true) ∧
    (∃ (s : State), s.Live ∧ s.link.state = .listening ∧ s.engine.listenTimer.isSome = true ∧ s.link.queued
      .membership = none) ∧
    (∃ (s : State), s.Live ∧ s.engine.holdOff.isSome = true ∧ (s.engine.heardNoted = false ∨ s.link.state ≠
      .listening)) ∧
    (∃ (s : State), s.Live ∧ s.engine.holdOff.isSome = true ∧ s.engine.heardNoted = true ∧ s.link.state =
      .listening ∧ s.link.queued .membership = none) := by
  exact ⟨
    ⟨onEngine (inbox (at' .joining cfg) (frame .snapAbort)) fun e =>
      { e with join := some (assembling []) }, frame .snapAbort, [], (assembling []), by decide +kernel⟩,
    ⟨onEngine (at' .joining cfg) fun e => { e with headTimer := some 1000000 }, by decide +kernel⟩,
    ⟨onEngine (at' .joining cfg) fun e => { e with joinTimer := some 30000000 }, by decide +kernel⟩,
    ⟨onEngine (at' .listening cfg) fun e => { e with listenTimer := some 4000000 }, by decide +kernel⟩,
    ⟨onEngine (at' .listening cfg) fun e => { e with holdOff := some 1150000 }, by decide +kernel⟩,
    ⟨onEngine (at' .listening cfg) fun e => { e with holdOff := some 1150000, heardNoted := true },
      by decide +kernel⟩⟩

theorem test_witness_foundingRoundRuns :
    (∃ (s : State) (f : Frame) (rest : List Frame) (q : Nat) (k : Check), s.Live ∧ s.link.state = .listening
      ∧ s.engine.writing = none ∧ s.link.inbound = f :: rest ∧ f.payload = .found q k ∧ s.link.queued
      .membership = none ∧ f.sender ≠ s.me ∧ s.engine.foundSent = false) ∧
    (∃ (s : State) (f : Frame) (rest : List Frame) (q : Nat) (k : Check), s.Live ∧ s.link.state = .listening
      ∧ s.engine.writing = none ∧ s.link.inbound = f :: rest ∧ f.payload = .found q k ∧ s.link.queued
      .membership = none ∧ f.sender = s.me) ∧
    (∃ (s : State) (f : Frame) (rest : List Frame) (q : Nat) (k : Check) (r : Round), s.Live ∧ s.link.state
      = .founding ∧ s.engine.writing = none ∧ s.engine.round = some r ∧ s.link.inbound = f :: rest ∧
      f.payload = .found q k ∧ f.sender ≠ s.me) ∧
    (∃ (s : State) (r : Round), s.Live ∧ s.link.state = .founding ∧ s.engine.sealTimer.isSome = true ∧
      s.engine.round = some r ∧ r.candidates ≠ [] ∧ s.link.queued .membership = none) ∧
    (∃ (s : State) (f : Frame) (rest : List Frame) (x : Sealing), s.Live ∧ s.link.state = .founding ∧
      s.engine.writing = none ∧ s.link.inbound = f :: rest ∧ f.payload = .sealRound x ∧ x.winner = s.me ∧
      s.link.queued .membership = none) ∧
    (∃ (s : State) (f : Frame) (rest : List Frame) (x : Sealing), s.Live ∧ s.link.state = .founding ∧
      s.engine.writing = none ∧ s.link.inbound = f :: rest ∧ f.payload = .sealRound x ∧ x.winner ≠ s.me ∧
      x.keyCheck = s.keyCheck) ∧
    (∃ (s : State) (f : Frame) (rest : List Frame) (x : Sealing), s.Live ∧ s.link.state = .founding ∧
      s.engine.writing = none ∧ s.link.inbound = f :: rest ∧ f.payload = .sealRound x ∧ x.winner ≠ s.me ∧
      x.keyCheck ≠ s.keyCheck) ∧
    (∃ (s : State), s.Live ∧ s.link.state = .founding ∧ s.engine.roundTimer.isSome = true ∧ (∀ f ∈
      s.link.inbound, f.payload.kind? ≠ some .sealRound)) ∧
    (∃ (s : State) (f : _) (x : _), s.Live ∧ s.link.state = .founding ∧ s.engine.roundTimer.isSome = true ∧
      f ∈ s.link.inbound ∧ f.payload = .sealRound x) := by
  exact ⟨
    ⟨inbox (at' .listening cfg) (frame (.found 9 0x1234#16)), frame (.found 9 0x1234#16), [], 9, 0x1234#16,
      by decide +kernel⟩,
    ⟨inbox (at' .listening cfg) (sentBy 3 (.found 9 0x1234#16)), sentBy 3 (.found 9 0x1234#16), [], 9,
      0x1234#16, by decide +kernel⟩,
    ⟨inbox (onEngine (at' .founding cfg) fun e =>
      { e with round := some roundOf5, roundTimer := some 5000000, sealTimer := some 2000000 }) (frame
      (.found 9 0x1234#16)), frame (.found 9 0x1234#16), [], 9, 0x1234#16, roundOf5, by decide +kernel⟩,
    ⟨(onEngine (at' .founding cfg) fun e =>
      { e with round := some roundOf5, roundTimer := some 5000000, sealTimer := some 2000000 }), roundOf5,
      by decide +kernel⟩,
    ⟨inbox (onEngine (at' .founding cfg) fun e =>
      { e with round := some roundOf5, roundTimer := some 5000000, sealTimer := some 2000000 }) (frame
      (.sealRound { winner := 3, retained := 9, keyCheck := 0#16, candidates := 2 })), frame (.sealRound
      { winner := 3, retained := 9, keyCheck := 0#16, candidates := 2 }), [],
      { winner := 3, retained := 9, keyCheck := 0#16, candidates := 2 }, by decide +kernel⟩,
    ⟨inbox (onEngine (at' .founding cfg) fun e =>
      { e with round := some roundOf5, roundTimer := some 5000000, sealTimer := some 2000000 }) (frame
      (.sealRound { winner := 5, retained := 9, keyCheck := keyCheckOf cfg.key, candidates := 2 })), frame
      (.sealRound { winner := 5, retained := 9, keyCheck := keyCheckOf cfg.key, candidates := 2 }), [],
      { winner := 5, retained := 9, keyCheck := keyCheckOf cfg.key, candidates := 2 }, by decide +kernel⟩,
    ⟨inbox (onEngine (at' .founding cfg) fun e =>
      { e with round := some roundOf5, roundTimer := some 5000000, sealTimer := some 2000000 }) (frame
      (.sealRound { winner := 5, retained := 9, keyCheck := 0#16, candidates := 2 })), frame (.sealRound
      { winner := 5, retained := 9, keyCheck := 0#16, candidates := 2 }), [],
      { winner := 5, retained := 9, keyCheck := 0#16, candidates := 2 }, by decide +kernel⟩,
    ⟨(onEngine (at' .founding cfg) fun e =>
      { e with round := some roundOf5, roundTimer := some 5000000, sealTimer := some 2000000 }),
      by decide +kernel⟩,
    ⟨inbox (onEngine (at' .founding cfg) fun e =>
      { e with round := some roundOf5, roundTimer := some 5000000, sealTimer := some 2000000 }) (frame
      (.sealRound { winner := 5, retained := 9, keyCheck := keyCheckOf cfg.key, candidates := 2 })), frame
      (.sealRound { winner := 5, retained := 9, keyCheck := keyCheckOf cfg.key, candidates := 2 }),
      { winner := 5, retained := 9, keyCheck := keyCheckOf cfg.key, candidates := 2 }, by decide +kernel⟩⟩

theorem test_witness_tagRunAdvances :
    (∃ (s : State), s.Live ∧ s.ident.state = .waking ∧ s.port.state = .idle) ∧
    (∃ (s : State) (j : TagJob), s.Live ∧ s.port.state = .idle ∧ s.port.job = some j ∧ (s.link.state ≠
      .offline ∨ j.purpose = .release) ∧ s.port.late = false) ∧
    (∃ (s : State) (j : TagJob) (n : Nat), s.Live ∧ s.port.state = .idle ∧ s.port.job = some j ∧
      (s.link.state ≠ .offline ∨ j.purpose = .release) ∧
       let chars := ([0xA6, j.command.code] ++ s.operands j.command).map charOf
       s.port.late = false ∧ chars.length ≤ n) ∧
    (∃ (s : State) (j : TagJob), s.Live ∧ s.port.state = .idle ∧ s.port.job = some j ∧ (s.link.state ≠
      .offline ∨ j.purpose = .release) ∧ s.port.late = false ∧ j.purpose = .release ∧ s.link.state =
      .offline) ∧
    (∃ (s : State) (j : TagJob) (n : Nat) (c : _) (r : _), s.Live ∧ s.port.state = .idle ∧ s.port.job = some
      j ∧ (s.link.state ≠ .offline ∨ j.purpose = .release) ∧
       let chars := ([0xA6, j.command.code] ++ s.operands j.command).map charOf
       s.port.late = false ∧ chars[n]? = some c ∧ contends c r = true ∧ j.command ≠ .relock) ∧
    (∃ (s : State) (j : TagJob), s.Live ∧ s.port.state = .idle ∧ s.port.job = some j ∧ (s.link.state ≠
      .offline ∨ j.purpose = .release) ∧ s.port.late = true) ∧
    (∃ (s : State) (j : TagJob) (n : Nat), s.Live ∧ s.port.state = .sending ∧ s.port.job = some j ∧
      (s.link.state ≠ .offline ∨ j.purpose = .release) ∧
       let chars := ([0xA6, j.command.code] ++ s.operands j.command).map charOf
       s.port.sent = chars.take n ∧ n < chars.length) ∧
    (∃ (s : State) (c : Settings) (w : WriteBack), s.settings = some c ∧ s.ident.writing = some w) ∧
    (∃ (s : State) (j : TagJob) (line : List TagLevel) (reply : List TagChar) (bs : List Byte), s.Awaits j ∧
      s.Hears line reply ∧ j.command = .ident ∧ j.purpose = .run ∧ dataReply 16 reply = .data bs ∧
       let b := parseBlock bs
       let wf := (b.format = 1 ∨ b.format = 2) ∧ 1 ≤ b.number.toNat ∧ b.number.toNat ≤ 65534 ∧ (b.fleetClass
         = 1 ∨ b.fleetClass = 2) ∧ 2 ≤ b.guardTime.toNat ∧ b.guardTime.toNat ≤ 32 ∧ b.gap.toNat ≤ 3
       wf) ∧
    (∃ (s : State) (j : TagJob) (line : List TagLevel) (reply : List TagChar) (bs : List Byte), s.Awaits j ∧
      s.Hears line reply ∧ j.command = .ident ∧ j.purpose = .run ∧ dataReply 16 reply = .data bs ∧
       let b := parseBlock bs
       let wf := (b.format = 1 ∨ b.format = 2) ∧ 1 ≤ b.number.toNat ∧ b.number.toNat ≤ 65534 ∧ (b.fleetClass
         = 1 ∨ b.fleetClass = 2) ∧ 2 ≤ b.guardTime.toNat ∧ b.guardTime.toNat ≤ 32 ∧ b.gap.toNat ≤ 3
       ¬wf) ∧
    (∃ (s : State) (j : TagJob), s.Awaits j ∧ j.command = .unlock) := by
  exact ⟨
    ⟨onIdent live fun x => { x with state := .waking, context := some inlet }, by decide +kernel⟩,
    ⟨onPort live fun p => { p with job := some (job .ident .run) }, job .ident .run, by decide +kernel⟩,
    ⟨onPort live fun p => { p with job := some (job .ident .run) }, job .ident .run, 2, by decide +kernel⟩,
    ⟨onPort (at' .offline cfg) fun p => { p with job := some (job .relock .release) }, job .relock .release,
      by decide +kernel⟩,
    ⟨onPort live fun p => { p with job := some (job .ident .run) }, job .ident .run, 0, charOf 0xA6, 0#12,
      by decide +kernel⟩,
    ⟨onPort live fun p => { p with job := some (job .ident .run), late := true }, job .ident .run,
      by decide +kernel⟩,
    ⟨onPort live fun p =>
      { p with job := some (job .ident .run), state := .sending, sent := [charOf 0xA6] }, job .ident .run,
      1, by decide +kernel⟩,
    ⟨onIdent live fun x =>
      { x with writing := some { area := { record := 1, gross := 50, station := 3, endTime := none, keyCheck := 0x1234#16 }, pass := 1 } },
      cfg,
      { area := { record := 1, gross := 50, station := 3, endTime := none, keyCheck := 0x1234#16 }, pass := 1 },
      by decide +kernel⟩,
    ⟨awaiting live (job .ident .run) inlet .readingIdent, job .ident .run, lineOf (reply blockBytes), reply
      blockBytes, blockBytes, by decide +kernel⟩,
    ⟨awaiting live (job .ident .run) inlet .readingIdent, job .ident .run, lineOf (reply (blockBytes.set 6
      3)), reply (blockBytes.set 6 3), (blockBytes.set 6 3), by decide +kernel⟩,
    ⟨awaiting live (job .unlock .run) inlet .unlocking, job .unlock .run, by decide +kernel⟩⟩

theorem test_witness_tagReadIsChecked :
    (∃ (s : State) (j : TagJob) (a n : Nat) (line : List TagLevel) (reply : List TagChar)
      (bs : List Byte) (c : Inlet) (b : IdentBlock) (x : Reason),
      ReadsRecord s j a n line reply bs c b ∧ s.role = some .dispense ∧
      dispenseFound s (parseTagRecord bs) b = some x) ∧
    (∃ (s : State) (j : TagJob) (a n : Nat) (line : List TagLevel) (reply : List TagChar)
      (bs : List Byte) (c : Inlet) (b : IdentBlock),
      ReadsRecord s j a n line reply bs c b ∧ s.role = some .dispense ∧
      dispenseFound s (parseTagRecord bs) b = none ∧ s.activity.state ∉ [ActState.awaitingId, .faulted]) ∧
    (∃ (s : State) (j : TagJob) (a n : Nat) (line : List TagLevel) (reply : List TagChar)
      (bs : List Byte) (c : Inlet) (b : IdentBlock),
      ReadsRecord s j a n line reply bs c b ∧ s.role = some .dispense ∧
      dispenseFound s (parseTagRecord bs) b = none ∧ s.activity.state = .faulted) ∧
    (∃ (s : State) (j : TagJob) (a n : Nat) (line : List TagLevel) (reply : List TagChar)
      (bs : List Byte) (c : Inlet) (b : IdentBlock),
      ReadsRecord s j a n line reply bs c b ∧ s.role = some .dispense ∧
      dispenseFound s (parseTagRecord bs) b = none ∧ s.activity.state = .awaitingId ∧ s.engine.admitted = false) ∧
    (∃ (s : State) (j : TagJob) (a n : Nat) (line : List TagLevel) (reply : List TagChar)
      (bs : List Byte) (c : Inlet) (b : IdentBlock),
      ReadsRecord s j a n line reply bs c b ∧ s.role = some .dispense ∧
      dispenseFound s (parseTagRecord bs) b = none ∧ s.activity.state = .awaitingId ∧ s.engine.admitted = true ∧
      s.supply.record.isSome = true) ∧
    (∃ (s : State) (j : TagJob) (a n : Nat) (line : List TagLevel) (reply : List TagChar)
      (bs : List Byte) (c : Inlet) (b : IdentBlock),
      ReadsRecord s j a n line reply bs c b ∧ s.role = some .dispense ∧
      dispenseFound s (parseTagRecord bs) b = none ∧ s.activity.state = .awaitingId ∧ s.engine.admitted = true ∧
      s.supply.record = none) ∧
    (∃ (s : State) (j : TagJob) (a n : Nat) (line : List TagLevel) (reply : List TagChar)
      (bs : List Byte) (c : Inlet) (b : IdentBlock) (x : Reason),
      ReadsRecord s j a n line reply bs c b ∧ s.role = some .receipt ∧
      receiptFound s (parseTagRecord bs) c b = some x) ∧
    (∃ (s : State) (j : TagJob) (a n : Nat) (line : List TagLevel) (reply : List TagChar)
      (bs : List Byte) (c : Inlet) (b : IdentBlock) (x : Reason),
      ReadsRecord s j a n line reply bs c b ∧ s.role = some .receipt ∧
      receiptFound s (parseTagRecord bs) c b = some x ∧ c.namedTank = none) ∧
    (∃ (s : State) (j : TagJob) (a n : Nat) (line : List TagLevel) (reply : List TagChar)
      (bs : List Byte) (c : Inlet) (b : IdentBlock),
      ReadsRecord s j a n line reply bs c b ∧ s.role = some .receipt ∧
      receiptFound s (parseTagRecord bs) c b = none ∧ s.activity.state = .faulted) ∧
    (∃ (s : State) (j : TagJob) (a n : Nat) (line : List TagLevel) (reply : List TagChar)
      (bs : List Byte) (c : Inlet) (b : IdentBlock),
      ReadsRecord s j a n line reply bs c b ∧ s.role = some .receipt ∧
      receiptFound s (parseTagRecord bs) c b = none ∧ s.activity.state ≠ .faulted ∧ c.namedTank = none) ∧
    (∃ (s : State) (j : TagJob) (a n : Nat) (line : List TagLevel) (reply : List TagChar)
      (bs : List Byte) (c : Inlet) (b : IdentBlock) (k : Nat),
      ReadsRecord s j a n line reply bs c b ∧ s.role = some .receipt ∧
      receiptFound s (parseTagRecord bs) c b = none ∧ c.namedTank = some k ∧
      s.activity.state ∉ [ActState.awaitingId, .faulted]) ∧
    (∃ (s : State) (j : TagJob) (a n : Nat) (line : List TagLevel) (reply : List TagChar)
      (bs : List Byte) (c : Inlet) (b : IdentBlock) (k : Nat),
      ReadsRecord s j a n line reply bs c b ∧ s.role = some .receipt ∧
      receiptFound s (parseTagRecord bs) c b = none ∧ c.namedTank = some k ∧
      s.activity.state = .awaitingId ∧ s.engine.admitted = false) ∧
    (∃ (s : State) (j : TagJob) (a n : Nat) (line : List TagLevel) (reply : List TagChar)
      (bs : List Byte) (c : Inlet) (b : IdentBlock) (k : Nat),
      ReadsRecord s j a n line reply bs c b ∧ s.role = some .receipt ∧
      receiptFound s (parseTagRecord bs) c b = none ∧ c.namedTank = some k ∧
      s.activity.state = .awaitingId ∧ s.engine.admitted = true ∧ s.supply.record.isSome = true) ∧
    (∃ (s : State) (j : TagJob) (a n : Nat) (line : List TagLevel) (reply : List TagChar)
      (bs : List Byte) (c : Inlet) (b : IdentBlock) (k : Nat),
      ReadsRecord s j a n line reply bs c b ∧ s.role = some .receipt ∧
      receiptFound s (parseTagRecord bs) c b = none ∧ c.namedTank = some k ∧
      s.activity.state = .awaitingId ∧ s.engine.admitted = true ∧ s.supply.record = none) ∧
    (∃ (s : State) (j : TagJob) (a : Nat) (n : Nat) (line : List TagLevel) (reply : List TagChar) (c :
      Inlet), s.Awaits j ∧ s.Hears line reply ∧ j.command = .read a n ∧ j.purpose = .run ∧ readReply n reply
      = .error .refused ∧ s.ident.context = some c ∧ c.pairs < 2) ∧
    (∃ (s : State) (j : TagJob) (a : Nat) (n : Nat) (line : List TagLevel) (reply : List TagChar) (c :
      Inlet), s.Awaits j ∧ s.Hears line reply ∧ j.command = .read a n ∧ j.purpose = .run ∧ readReply n reply
      = .error .refused ∧ s.ident.context = some c ∧ 2 ≤ c.pairs) := by
  exact ⟨
    ⟨readingMachine .awaitingId, job (.read 16 16) .run, 16, 16, lineOf (reply (recordBytes.set 0 3)),
      reply (recordBytes.set 0 3), recordBytes.set 0 3, inlet, parseBlock blockBytes, .misgrade, by decide +kernel⟩,
    ⟨readingMachine .idle, job (.read 16 16) .run, 16, 16, lineOf (reply recordBytes),
      reply recordBytes, recordBytes, inlet, parseBlock blockBytes, by decide +kernel⟩,
    ⟨readingMachine .faulted, job (.read 16 16) .run, 16, 16, lineOf (reply recordBytes),
      reply recordBytes, recordBytes, inlet, parseBlock blockBytes, by decide +kernel⟩,
    ⟨onEngine (readingMachine .awaitingId) fun e => { e with admitted := false }, job (.read 16 16) .run, 16, 16, lineOf (reply recordBytes),
      reply recordBytes, recordBytes, inlet, parseBlock blockBytes, by decide +kernel⟩,
    ⟨onSupply (readingMachine .awaitingId) fun x => { x with record := some record3 }, job (.read 16 16) .run, 16, 16, lineOf (reply recordBytes),
      reply recordBytes, recordBytes, inlet, parseBlock blockBytes, by decide +kernel⟩,
    ⟨readingMachine .awaitingId, job (.read 16 16) .run, 16, 16, lineOf (reply recordBytes),
      reply recordBytes, recordBytes, inlet, parseBlock blockBytes, by decide +kernel⟩,
    ⟨readingTanker (some 1) .awaitingId, job (.read 16 16) .run, 16, 16, lineOf (reply (3 :: recordBytes.tail)),
      reply (3 :: recordBytes.tail), 3 :: recordBytes.tail, tankerInlet (some 1), { parseBlock blockBytes with fleetClass := 2 }, .misgrade, by decide +kernel⟩,
    ⟨readingTanker none .idle, job (.read 16 16) .run, 16, 16, lineOf (reply (0 :: recordBytes.tail)),
      reply (0 :: recordBytes.tail), 0 :: recordBytes.tail, tankerInlet none, { parseBlock blockBytes with fleetClass := 2 }, .tagFormat, by decide +kernel⟩,
    ⟨readingTanker none .faulted, job (.read 16 16) .run, 16, 16, lineOf (reply recordBytes),
      reply recordBytes, recordBytes, tankerInlet none, { parseBlock blockBytes with fleetClass := 2 }, by decide +kernel⟩,
    ⟨readingTanker none .idle, job (.read 16 16) .run, 16, 16, lineOf (reply recordBytes),
      reply recordBytes, recordBytes, tankerInlet none, { parseBlock blockBytes with fleetClass := 2 }, by decide +kernel⟩,
    ⟨readingTanker (some 1) .idle, job (.read 16 16) .run, 16, 16, lineOf (reply recordBytes),
      reply recordBytes, recordBytes, tankerInlet (some 1), { parseBlock blockBytes with fleetClass := 2 }, 1, by decide +kernel⟩,
    ⟨onEngine (readingTanker (some 1) .awaitingId) fun e => { e with admitted := false }, job (.read 16 16) .run, 16, 16, lineOf (reply recordBytes),
      reply recordBytes, recordBytes, tankerInlet (some 1), { parseBlock blockBytes with fleetClass := 2 }, 1, by decide +kernel⟩,
    ⟨onSupply (readingTanker (some 1) .awaitingId) fun x => { x with record := some record3 }, job (.read 16 16) .run, 16, 16, lineOf (reply recordBytes),
      reply recordBytes, recordBytes, tankerInlet (some 1), { parseBlock blockBytes with fleetClass := 2 }, 1, by decide +kernel⟩,
    ⟨readingTanker (some 1) .awaitingId, job (.read 16 16) .run, 16, 16, lineOf (reply recordBytes),
      reply recordBytes, recordBytes, tankerInlet (some 1), { parseBlock blockBytes with fleetClass := 2 }, 1, by decide +kernel⟩,
    ⟨awaiting live (job (.read 16 16) .run) { inlet with pairs := 1 } .readingRecord, job (.read 16 16)
      .run, 16, 16, lineOf ([charOf 0xC3]), [charOf 0xC3], { inlet with pairs := 1 }, by decide +kernel⟩,
    ⟨awaiting live (job (.read 16 16) .run) { inlet with pairs := 2 } .readingRecord, job (.read 16 16)
      .run, 16, 16, lineOf ([charOf 0xC3]), [charOf 0xC3], { inlet with pairs := 2 }, by decide +kernel⟩⟩

theorem test_witness_writeBackPasses :
    (∃ (s : State) (j : TagJob) (line : List TagLevel) (reply : List TagChar), s.Awaits j ∧ s.Hears line
      reply ∧ j.command = .stage ∧ charReply [0x5A] reply = .code 0x5A) ∧
    (∃ (s : State) (j : TagJob) (line : List TagLevel) (reply : List TagChar), s.Awaits j ∧ s.Hears line
      reply ∧ j.command = .commit ∧ commitReply reply = .code 0x5A) ∧
    (∃ (s : State) (j : TagJob) (line : List TagLevel) (reply : List TagChar) (w : WriteBack), s.Awaits j ∧
      s.Hears line reply ∧ j.command = .commit ∧ commitReply reply = .code 0xE1 ∧ s.ident.writing = some w ∧
      w.pass < 3) ∧
    (∃ (s : State) (j : TagJob) (line : List TagLevel) (reply : List TagChar) (w : WriteBack) (bs : List
      Byte), s.Awaits j ∧ s.Hears line reply ∧ j.command = .read 32 16 ∧ j.purpose = .writeBack ∧ readReply
      16 reply = .data bs ∧ s.ident.writing = some w ∧ bs ≠ w.area.bytes ∧ w.pass < 3) ∧
    (∃ (s : State) (j : TagJob) (line : List TagLevel) (reply : List TagChar) (w : WriteBack) (c : Inlet) (i
      : Instr) (n : NoticeBody), s.Awaits j ∧ s.Hears line reply ∧ s.ident.writing = some w ∧
      s.ident.context = some c ∧ c.unlock = .unlocked ∧ s.role = some .dispense ∧ s.activity.state =
      .writeback ∧ s.activity.faultPending = false ∧ (i = .tagCommit line ∧ j.command = .commit ∧
      commitReply reply = .code 0xE1 ∧ 3 ≤ w.pass ∧ n = .tagNotWritten .writeFailed w.area.record ∨ i =
      .tagRead line ∧ j.command = .read 32 16 ∧ j.purpose = .writeBack ∧ readReply 16 reply = .data
      w.area.bytes ∧ n = .tagWritten w.area.record ∨ i = .tagRead line ∧ j.command = .read 32 16 ∧ j.purpose
      = .writeBack ∧ (∃ bs, readReply 16 reply = .data bs ∧ bs ≠ w.area.bytes) ∧ 3 ≤ w.pass ∧ n =
      .tagNotWritten .verifyFailed w.area.record)) ∧
    (∃ (s : State) (j : TagJob) (line : List TagLevel) (reply : List TagChar) (w : WriteBack) (c : Inlet) (i
      : Instr) (n : NoticeBody), s.Awaits j ∧ s.Hears line reply ∧ s.ident.writing = some w ∧
      s.ident.context = some c ∧ c.unlock = .unlocked ∧ s.role = some .dispense ∧ s.activity.state =
      .writeback ∧ s.activity.faultPending = false ∧ (i = .tagCommit line ∧ j.command = .commit ∧
      commitReply reply = .code 0xE1 ∧ 3 ≤ w.pass ∧ n = .tagNotWritten .writeFailed w.area.record ∨ i =
      .tagRead line ∧ j.command = .read 32 16 ∧ j.purpose = .writeBack ∧ readReply 16 reply = .data
      w.area.bytes ∧ n = .tagWritten w.area.record ∨ i = .tagRead line ∧ j.command = .read 32 16 ∧ j.purpose
      = .writeBack ∧ (∃ bs, readReply 16 reply = .data bs ∧ bs ≠ w.area.bytes) ∧ 3 ≤ w.pass ∧ n =
      .tagNotWritten .verifyFailed w.area.record) ∧ j.purpose = .writeBack) ∧
    (∃ (s : State) (j : TagJob) (line : List TagLevel) (reply : List TagChar) (w : WriteBack) (c : Inlet) (i
      : Instr) (n : NoticeBody), s.Awaits j ∧ s.Hears line reply ∧ s.ident.writing = some w ∧
      s.ident.context = some c ∧ c.unlock = .unlocked ∧ s.role = some .dispense ∧ s.activity.state =
      .writeback ∧ s.activity.faultPending = false ∧ (i = .tagCommit line ∧ j.command = .commit ∧
      commitReply reply = .code 0xE1 ∧ 3 ≤ w.pass ∧ n = .tagNotWritten .writeFailed w.area.record ∨ i =
      .tagRead line ∧ j.command = .read 32 16 ∧ j.purpose = .writeBack ∧ readReply 16 reply = .data
      w.area.bytes ∧ n = .tagWritten w.area.record ∨ i = .tagRead line ∧ j.command = .read 32 16 ∧ j.purpose
      = .writeBack ∧ (∃ bs, readReply 16 reply = .data bs ∧ bs ≠ w.area.bytes) ∧ 3 ≤ w.pass ∧ n =
      .tagNotWritten .verifyFailed w.area.record) ∧ n = .tagNotWritten .verifyFailed 1) ∧
    (∃ (s : State) (w : WriteBack) (c : Inlet) (j : TagJob) (line : List TagLevel) (reply : List TagChar),
      WritesBack s w c ∧ s.Awaits j ∧ s.Hears line reply ∧ j.command = .read 32 16 ∧ j.purpose = .writeBack ∧
      readReply 16 reply = .error .refused) ∧
    (∃ (s : State) (w : WriteBack) (c : Inlet) (j : TagJob), WritesBack s w c ∧ s.port.state = .settling ∧
      s.port.job = some j ∧ 3 ≤ j.attempts ∧ j.purpose = .writeBack ∧ s.activity.faultPending = true) ∧
    (∃ (s : State) (w : WriteBack) (c : Inlet) (held : Nat), WritesBack s w c ∧
      s.meter.cells.cpl.passes .cpl false held = true ∧ s.meter.cells.noz.output = true) ∧
    (∃ (s : State) (j : TagJob) (c : Inlet) (q : WriteBackRequest) (line : List TagLevel)
      (reply : List TagChar) (bs : List Byte), WaitsToWrite s j c q ∧ s.Awaits j ∧ s.Hears line reply ∧
      dataReply 16 reply = .data bs ∧ c.block = some (parseBlock bs)) ∧
    (∃ (s : State) (j : TagJob) (c : Inlet) (q : WriteBackRequest) (line : List TagLevel)
      (reply : List TagChar) (bs : List Byte), WaitsToWrite s j c q ∧ s.Awaits j ∧ s.Hears line reply ∧
      dataReply 16 reply = .data bs ∧ c.block ≠ some (parseBlock bs)) ∧
    (∃ (s : State) (j : TagJob) (c : Inlet) (q : WriteBackRequest), WaitsToWrite s j c q ∧
      s.port.state = .settling ∧ 3 ≤ j.attempts) := by
  exact ⟨
    ⟨awaiting live (job .stage .writeBack) inlet .writing, job .stage .writeBack, lineOf ([charOf 0x5A]),
      [charOf 0x5A], by decide +kernel⟩,
    ⟨awaiting live (job .commit .writeBack) inlet .writing, job .commit .writeBack, lineOf ([charOf 0x96,
      charOf 0x5A]), [charOf 0x96, charOf 0x5A], by decide +kernel⟩,
    ⟨onIdent (awaiting (live) (job .commit .writeBack) { inlet with unlock := .unlocked } .writing) fun x =>
      { x with writing := some { area := { record := 1, gross := 50, station := 3, endTime := none, keyCheck := 0x1234#16 }, pass := 2 } },
      job .commit .writeBack, lineOf ([charOf 0xE1]), [charOf 0xE1],
      { area := { record := 1, gross := 50, station := 3, endTime := none, keyCheck := 0x1234#16 }, pass := 2 },
      by decide +kernel⟩,
    ⟨verifying 2, job (.read 32 16) .writeBack, lineOf (reply recordBytes), reply recordBytes,
      { area := writtenArea, pass := 2 }, recordBytes, by decide +kernel⟩,
    ⟨onIdent (awaiting (filling .writeback) (job .commit .writeBack) { inlet with unlock := .unlocked }
      .writing) fun x =>
      { x with writing := some { area := { record := 1, gross := 50, station := 3, endTime := none, keyCheck := 0x1234#16 }, pass := 3 } },
      job .commit .writeBack, lineOf ([charOf 0xE1]), [charOf 0xE1],
      { area := { record := 1, gross := 50, station := 3, endTime := none, keyCheck := 0x1234#16 }, pass := 3 },
      { inlet with unlock := .unlocked }, .tagCommit (lineOf ([charOf 0xE1])), .tagNotWritten .writeFailed
      1,
      by refine ⟨?_,?_,?_,?_,?_,?_,?_,?_,?_⟩ <;> first | decide +kernel | exact .inl ⟨rfl, rfl, by decide +kernel, by decide +kernel, rfl⟩⟩,
    ⟨onIdent (awaiting (filling .writeback) (job (.read 32 16) .writeBack)
      { inlet with unlock := .unlocked } .writing) fun x =>
      { x with writing := some { area := { record := 1, gross := 50, station := 3, endTime := none, keyCheck := 0x1234#16 }, pass := 1 } },
      job (.read 32 16) .writeBack, lineOf (reply (LastFillArea.bytes
      { record := 1, gross := 50, station := 3, endTime := none, keyCheck := 0x1234#16 })), reply
      (LastFillArea.bytes
      { record := 1, gross := 50, station := 3, endTime := none, keyCheck := 0x1234#16 }),
      { area := { record := 1, gross := 50, station := 3, endTime := none, keyCheck := 0x1234#16 }, pass := 1 },
      { inlet with unlock := .unlocked }, .tagRead (lineOf (reply (LastFillArea.bytes
      { record := 1, gross := 50, station := 3, endTime := none, keyCheck := 0x1234#16 }))), .tagWritten 1,
      by refine ⟨?_,?_,?_,?_,?_,?_,?_,?_,?_,?_⟩ <;> first | decide +kernel | exact .inr (.inl ⟨rfl, rfl, rfl, by decide +kernel, rfl⟩)⟩,
    ⟨verifying 3, job (.read 32 16) .writeBack, lineOf (reply recordBytes), reply recordBytes,
      { area := writtenArea, pass := 3 }, { inlet with unlock := .unlocked }, .tagRead (lineOf (reply
      recordBytes)), .tagNotWritten .verifyFailed 1,
      by refine ⟨?_,?_,?_,?_,?_,?_,?_,?_,?_,?_⟩ <;> first | decide +kernel | exact .inr (.inr ⟨rfl, rfl, rfl, ⟨recordBytes, by decide +kernel, by decide +kernel⟩, by decide +kernel, rfl⟩)⟩,
    ⟨verifying 1, { area := writtenArea, pass := 1 }, { inlet with unlock := .unlocked },
      job (.read 32 16) .writeBack, lineOf [charOf 0xC3], [charOf 0xC3], by decide +kernel⟩,
    ⟨onActivity (onPort (verifying 2) fun p =>
      { p with state := .settling, job := some { job .commit .writeBack with attempts := 3 } }) fun a =>
      { a with faultPending := true },
      { area := writtenArea, pass := 2 }, { inlet with unlock := .unlocked },
      { job .commit .writeBack with attempts := 3 }, by decide +kernel⟩,
    ⟨onCells (verifying 3) fun c => { c with cpl := cell true, noz := cell true },
      { area := writtenArea, pass := 3 }, { inlet with unlock := .unlocked }, 2000, by decide +kernel⟩,
    ⟨keepingAlive, job .ident .keepAlive, { inlet with unlock := .unlocked }, backRequest,
      lineOf (reply blockBytes), reply blockBytes, blockBytes, by decide +kernel⟩,
    ⟨keepingAlive, job .ident .keepAlive, { inlet with unlock := .unlocked }, backRequest,
      lineOf (reply recordBytes), reply recordBytes, recordBytes, by decide +kernel⟩,
    ⟨onPort keepingAlive fun p =>
      { p with state := .settling, job := some { job .ident .keepAlive with attempts := 3 } },
      { job .ident .keepAlive with attempts := 3 }, { inlet with unlock := .unlocked }, backRequest,
      by decide +kernel⟩⟩

theorem test_witness_tagErrorsAreSettled :
    (∃ (s : State) (j : TagJob) (c : Instr) (e : Reason), s.Awaits j ∧ ((∃ line reply, s.Hears line reply ∧
      c = .tagIdent line ∧ j.command = .ident ∧ dataReply 16 reply = .error e) ∨ (∃ line reply a n, s.Hears
      line reply ∧ c = .tagRead line ∧ j.command = .read a n ∧ readReply n reply = .error e ∧ e ≠ .refused)
      ∨ (∃ line reply, s.Hears line reply ∧ c = .tagStage line ∧ j.command = .stage ∧ charReply [0x5A] reply
      = .error e) ∨ (∃ line reply, s.Hears line reply ∧ c = .tagCommit line ∧ j.command = .commit ∧
      commitReply reply = .error e) ∨ (∃ line, s.port.heard ++ line = [true] ∧ e = .start ∧ ((∃ a n, c =
      .tagRead line ∧ j.command = .read a n) ∨ c = .tagIdent line ∧ j.command = .ident ∨ c = .tagStage line
      ∧ j.command = .stage ∨ c = .tagCommit line ∧ j.command = .commit)) ∨ c = .tagUnlock true ∧ j.command =
      .unlock ∧ e = .check ∨ c = .noReply ∧ s.port.state = .awaitingReply ∧ j.command ≠ .unlock ∧ j.command
      ≠ .relock ∧ e = .noReply ∧ (∀ a n, j.command = .read a n → s.port.heard = [] ∨ sumsToZero ((wholeChars
      s.port.heard).map charByte) = false) ∨ c = .noReply ∧ s.port.state = .awaitingReply ∧ e = .check ∧
      s.port.heard ≠ [] ∧ (∃ a n, j.command = .read a n) ∧ sumsToZero ((wholeChars s.port.heard).map
      charByte) = true)) ∧
    (∃ (s : State) (j : TagJob) (c : Instr) (e : Reason), s.Awaits j ∧ ((∃ line reply, s.Hears line reply ∧
      c = .tagIdent line ∧ j.command = .ident ∧ dataReply 16 reply = .error e) ∨ (∃ line reply a n, s.Hears
      line reply ∧ c = .tagRead line ∧ j.command = .read a n ∧ readReply n reply = .error e ∧ e ≠ .refused)
      ∨ (∃ line reply, s.Hears line reply ∧ c = .tagStage line ∧ j.command = .stage ∧ charReply [0x5A] reply
      = .error e) ∨ (∃ line reply, s.Hears line reply ∧ c = .tagCommit line ∧ j.command = .commit ∧
      commitReply reply = .error e) ∨ (∃ line, s.port.heard ++ line = [true] ∧ e = .start ∧ ((∃ a n, c =
      .tagRead line ∧ j.command = .read a n) ∨ c = .tagIdent line ∧ j.command = .ident ∨ c = .tagStage line
      ∧ j.command = .stage ∨ c = .tagCommit line ∧ j.command = .commit)) ∨ c = .tagUnlock true ∧ j.command =
      .unlock ∧ e = .check ∨ c = .noReply ∧ s.port.state = .awaitingReply ∧ j.command ≠ .unlock ∧ j.command
      ≠ .relock ∧ e = .noReply ∧ (∀ a n, j.command = .read a n → s.port.heard = [] ∨ sumsToZero ((wholeChars
      s.port.heard).map charByte) = false) ∨ c = .noReply ∧ s.port.state = .awaitingReply ∧ e = .check ∧
      s.port.heard ≠ [] ∧ (∃ a n, j.command = .read a n) ∧ sumsToZero ((wholeChars s.port.heard).map
      charByte) = true) ∧ c = .noReply) ∧
    (∃ (s : State) (j : TagJob) (c : Instr) (e : Reason), s.Awaits j ∧ ((∃ line reply, s.Hears line reply ∧
      c = .tagIdent line ∧ j.command = .ident ∧ dataReply 16 reply = .error e) ∨ (∃ line reply a n, s.Hears
      line reply ∧ c = .tagRead line ∧ j.command = .read a n ∧ readReply n reply = .error e ∧ e ≠ .refused)
      ∨ (∃ line reply, s.Hears line reply ∧ c = .tagStage line ∧ j.command = .stage ∧ charReply [0x5A] reply
      = .error e) ∨ (∃ line reply, s.Hears line reply ∧ c = .tagCommit line ∧ j.command = .commit ∧
      commitReply reply = .error e) ∨ (∃ line, s.port.heard ++ line = [true] ∧ e = .start ∧ ((∃ a n, c =
      .tagRead line ∧ j.command = .read a n) ∨ c = .tagIdent line ∧ j.command = .ident ∨ c = .tagStage line
      ∧ j.command = .stage ∨ c = .tagCommit line ∧ j.command = .commit)) ∨ c = .tagUnlock true ∧ j.command =
      .unlock ∧ e = .check ∨ c = .noReply ∧ s.port.state = .awaitingReply ∧ j.command ≠ .unlock ∧ j.command
      ≠ .relock ∧ e = .noReply ∧ (∀ a n, j.command = .read a n → s.port.heard = [] ∨ sumsToZero ((wholeChars
      s.port.heard).map charByte) = false) ∨ c = .noReply ∧ s.port.state = .awaitingReply ∧ e = .check ∧
      s.port.heard ≠ [] ∧ (∃ a n, j.command = .read a n) ∧ sumsToZero ((wholeChars s.port.heard).map
      charByte) = true) ∧ e = .start) ∧
    (∃ (s : State) (j : TagJob) (c : Instr) (e : Reason), s.Awaits j ∧ ((∃ line reply, s.Hears line reply ∧
      c = .tagIdent line ∧ j.command = .ident ∧ dataReply 16 reply = .error e) ∨ (∃ line reply a n, s.Hears
      line reply ∧ c = .tagRead line ∧ j.command = .read a n ∧ readReply n reply = .error e ∧ e ≠ .refused)
      ∨ (∃ line reply, s.Hears line reply ∧ c = .tagStage line ∧ j.command = .stage ∧ charReply [0x5A] reply
      = .error e) ∨ (∃ line reply, s.Hears line reply ∧ c = .tagCommit line ∧ j.command = .commit ∧
      commitReply reply = .error e) ∨ (∃ line, s.port.heard ++ line = [true] ∧ e = .start ∧ ((∃ a n, c =
      .tagRead line ∧ j.command = .read a n) ∨ c = .tagIdent line ∧ j.command = .ident ∨ c = .tagStage line
      ∧ j.command = .stage ∨ c = .tagCommit line ∧ j.command = .commit)) ∨ c = .tagUnlock true ∧ j.command =
      .unlock ∧ e = .check ∨ c = .noReply ∧ s.port.state = .awaitingReply ∧ j.command ≠ .unlock ∧ j.command
      ≠ .relock ∧ e = .noReply ∧ (∀ a n, j.command = .read a n → s.port.heard = [] ∨ sumsToZero ((wholeChars
      s.port.heard).map charByte) = false) ∨ c = .noReply ∧ s.port.state = .awaitingReply ∧ e = .check ∧
      s.port.heard ≠ [] ∧ (∃ a n, j.command = .read a n) ∧ sumsToZero ((wholeChars s.port.heard).map
      charByte) = true) ∧ (∃ line, c = .tagStage line)) ∧
    (∃ (s : State) (j : TagJob) (c : Instr) (e : Reason), s.Awaits j ∧ ((∃ line reply, s.Hears line reply ∧
      c = .tagIdent line ∧ j.command = .ident ∧ dataReply 16 reply = .error e) ∨ (∃ line reply a n, s.Hears
      line reply ∧ c = .tagRead line ∧ j.command = .read a n ∧ readReply n reply = .error e ∧ e ≠ .refused)
      ∨ (∃ line reply, s.Hears line reply ∧ c = .tagStage line ∧ j.command = .stage ∧ charReply [0x5A] reply
      = .error e) ∨ (∃ line reply, s.Hears line reply ∧ c = .tagCommit line ∧ j.command = .commit ∧
      commitReply reply = .error e) ∨ (∃ line, s.port.heard ++ line = [true] ∧ e = .start ∧ ((∃ a n, c =
      .tagRead line ∧ j.command = .read a n) ∨ c = .tagIdent line ∧ j.command = .ident ∨ c = .tagStage line
      ∧ j.command = .stage ∨ c = .tagCommit line ∧ j.command = .commit)) ∨ c = .tagUnlock true ∧ j.command =
      .unlock ∧ e = .check ∨ c = .noReply ∧ s.port.state = .awaitingReply ∧ j.command ≠ .unlock ∧ j.command
      ≠ .relock ∧ e = .noReply ∧ (∀ a n, j.command = .read a n → s.port.heard = [] ∨ sumsToZero ((wholeChars
      s.port.heard).map charByte) = false) ∨ c = .noReply ∧ s.port.state = .awaitingReply ∧ e = .check ∧
      s.port.heard ≠ [] ∧ (∃ a n, j.command = .read a n) ∧ sumsToZero ((wholeChars s.port.heard).map
      charByte) = true) ∧ c = .noReply ∧ e = .check) ∧
    (∃ (s : State) (j : TagJob) (c : Instr) (e : Reason), s.Awaits j ∧ ((∃ line reply, s.Hears line reply ∧
      c = .tagIdent line ∧ j.command = .ident ∧ dataReply 16 reply = .error e) ∨ (∃ line reply a n, s.Hears
      line reply ∧ c = .tagRead line ∧ j.command = .read a n ∧ readReply n reply = .error e ∧ e ≠ .refused)
      ∨ (∃ line reply, s.Hears line reply ∧ c = .tagStage line ∧ j.command = .stage ∧ charReply [0x5A] reply
      = .error e) ∨ (∃ line reply, s.Hears line reply ∧ c = .tagCommit line ∧ j.command = .commit ∧
      commitReply reply = .error e) ∨ (∃ line, s.port.heard ++ line = [true] ∧ e = .start ∧ ((∃ a n, c =
      .tagRead line ∧ j.command = .read a n) ∨ c = .tagIdent line ∧ j.command = .ident ∨ c = .tagStage line
      ∧ j.command = .stage ∨ c = .tagCommit line ∧ j.command = .commit)) ∨ c = .tagUnlock true ∧ j.command =
      .unlock ∧ e = .check ∨ c = .noReply ∧ s.port.state = .awaitingReply ∧ j.command ≠ .unlock ∧ j.command
      ≠ .relock ∧ e = .noReply ∧ (∀ a n, j.command = .read a n → s.port.heard = [] ∨ sumsToZero ((wholeChars
      s.port.heard).map charByte) = false) ∨ c = .noReply ∧ s.port.state = .awaitingReply ∧ e = .check ∧
      s.port.heard ≠ [] ∧ (∃ a n, j.command = .read a n) ∧ sumsToZero ((wholeChars s.port.heard).map
      charByte) = true) ∧ c = .noReply ∧ s.port.heard ≠ [] ∧ e = .noReply) ∧
    (∃ (s : State) (j : TagJob) (line : List TagLevel) (c : Instr), s.Awaits j ∧ (s.port.heard ++
      line).head? = some false ∧ (s.port.heard ++ line).length < 10 ∧ (c = .tagIdent line ∧ j.command =
      .ident ∨ c = .tagStage line ∧ j.command = .stage ∨ c = .tagCommit line ∧ j.command = .commit ∨ c =
      .tagRead line ∧ ∃ a n, j.command = .read a n)) ∧
    (∃ (s : State) (j : TagJob) (line : List TagLevel) (c : Instr), s.Awaits j ∧ (s.port.heard ++
      line).head? = some false ∧ (s.port.heard ++ line).length < 10 ∧ (c = .tagIdent line ∧ j.command =
      .ident ∨ c = .tagStage line ∧ j.command = .stage ∨ c = .tagCommit line ∧ j.command = .commit ∨ c =
      .tagRead line ∧ ∃ a n, j.command = .read a n) ∧ s.port.heard ≠ []) ∧
    (∃ (s : State) (j : TagJob) (line : List TagLevel) (reply : List TagChar) (c : Instr), s.Awaits j ∧
      s.Hears line reply ∧ (c = .tagIdent line ∧ j.command = .ident ∧ dataReply 16 reply = .incomplete ∨ c =
      .tagCommit line ∧ j.command = .commit ∧ commitReply reply = .incomplete ∨ c = .tagRead line ∧
      reply.map charByte ≠ [0xC3] ∧ ∃ a n, j.command = .read a n ∧ dataReply n reply = .incomplete)) ∧
    (∃ (s : State) (j : TagJob) (line : List TagLevel) (reply : List TagChar) (c : Instr), s.Awaits j ∧
      s.Hears line reply ∧ (c = .tagIdent line ∧ j.command = .ident ∧ dataReply 16 reply = .incomplete ∨ c =
      .tagCommit line ∧ j.command = .commit ∧ commitReply reply = .incomplete ∨ c = .tagRead line ∧
      reply.map charByte ≠ [0xC3] ∧ ∃ a n, j.command = .read a n ∧ dataReply n reply = .incomplete) ∧ (∃ a
      n, j.command = .read a n)) ∧
    (∃ (s : State) (j : TagJob) (line : List TagLevel) (reply : List TagChar) (c : Instr), s.Awaits j ∧
      s.Hears line reply ∧ (c = .tagIdent line ∧ j.command = .ident ∧ dataReply 16 reply = .incomplete ∨ c =
      .tagCommit line ∧ j.command = .commit ∧ commitReply reply = .incomplete ∨ c = .tagRead line ∧
      reply.map charByte ≠ [0xC3] ∧ ∃ a n, j.command = .read a n ∧ dataReply n reply = .incomplete) ∧
      j.command = .commit) ∧
    (∃ (s : State) (k : TagCommand) (line : List TagLevel) (c : Instr), s.Live ∧ s.port.state = .idle ∧
      s.port.sent ≠ [] ∧ s.port.signature.error = .noReason ∧ s.port.signature.command = some k ∧
      s.ident.state ≠ .waking ∧ s.ident.state ≠ .readingIdent ∧ line ≠ [] ∧ (c = .tagIdent line ∧ k = .ident
      ∨ c = .tagStage line ∧ k = .stage ∨ c = .tagCommit line ∧ k = .commit ∨ c = .tagRead line ∧ ∃ a n, k =
      .read a n)) ∧
    (∃ (s : State) (j : TagJob), s.Awaits j ∧ j.command = .relock) ∧
    (∃ (s : State), s.Live ∧ s.port.state = .settling ∧ (∀ j ∈ s.port.job, j.attempts < 3)) ∧
    (∃ (s : State) (j : TagJob), s.Live ∧ s.port.state = .settling ∧ s.port.job = some j ∧ 3 ≤ j.attempts ∧
      j.purpose = .run) ∧
    (∃ (s : State) (j : TagJob) (c : Inlet), s.Live ∧ s.port.state = .settling ∧ s.port.job = some j ∧ 3 ≤
      j.attempts ∧ j.purpose = .keepAlive ∧ s.ident.context = some c ∧ s.ident.waiting = none) := by
  exact ⟨
    ⟨awaiting live (job .unlock .run) inlet .unlocking, job .unlock .run, .tagUnlock true, .check,
      by refine ⟨?_,?_⟩ <;> first | decide +kernel | exact .inr (.inr (.inr (.inr (.inr (.inl (by decide +kernel))))))⟩,
    ⟨awaiting live (job .ident .run) inlet .readingIdent, job .ident .run, .noReply, .noReply,
      by refine ⟨?_,?_,?_⟩ <;> first | decide +kernel | exact .inr (.inr (.inr (.inr (.inr (.inl (by decide +kernel)))))) | exact .inr (.inr (.inr (.inr (.inr (.inr (.inl ⟨rfl, rfl, nofun, nofun, rfl, fun _ _ _ => by decide +kernel⟩))))))⟩,
    ⟨awaiting live (job .ident .run) inlet .readingIdent, job .ident .run, .tagIdent [true], .start,
      by refine ⟨?_,?_,?_⟩ <;> first | decide +kernel | exact .inr (.inr (.inr (.inr (.inr (.inl (by decide +kernel)))))) | exact .inr (.inr (.inr (.inr (.inr (.inr (.inl ⟨rfl, rfl, nofun, nofun, rfl, fun _ _ _ => by decide +kernel⟩)))))) | exact .inr (.inr (.inr (.inr (.inr (.inr (.inr ⟨rfl, rfl, rfl, nofun, ⟨_, _, rfl⟩, by decide +kernel⟩)))))) | exact .inr (.inr (.inr (.inr (.inl ⟨_, rfl, rfl, .inr (.inl ⟨rfl, rfl⟩)⟩))))⟩,
    ⟨awaiting live (job .stage .writeBack) inlet .writing, job .stage .writeBack, .tagStage (lineOf ([charOf
      0x5B])), .check,
      by refine ⟨?_,?_,?_⟩ <;> first | decide +kernel | exact .inr (.inr (.inr (.inr (.inr (.inl (by decide +kernel)))))) | exact .inr (.inr (.inr (.inr (.inr (.inr (.inl ⟨rfl, rfl, nofun, nofun, rfl, fun _ _ _ => by decide +kernel⟩)))))) | exact .inr (.inr (.inr (.inr (.inr (.inr (.inr ⟨rfl, rfl, rfl, nofun, ⟨_, _, rfl⟩, by decide +kernel⟩)))))) | exact .inr (.inr (.inr (.inr (.inl ⟨_, rfl, rfl, .inr (.inl ⟨rfl, rfl⟩)⟩)))) | exact .inr (.inr (.inl ⟨_, [charOf 0x5B], by decide +kernel, rfl, rfl, by decide +kernel⟩)) | exact ⟨_, rfl⟩⟩,
    ⟨onPort (awaiting live (job (.read 16 16) .run) inlet .readingRecord) fun p =>
      { p with heard := lineOf (reply [1]) }, job (.read 16 16) .run, .noReply, .check,
      by refine ⟨?_,?_,?_⟩ <;> first | decide +kernel | exact .inr (.inr (.inr (.inr (.inr (.inl (by decide +kernel)))))) | exact .inr (.inr (.inr (.inr (.inr (.inr (.inl ⟨rfl, rfl, nofun, nofun, rfl, fun _ _ _ => by decide +kernel⟩)))))) | exact .inr (.inr (.inr (.inr (.inr (.inr (.inr ⟨rfl, rfl, rfl, nofun, ⟨_, _, rfl⟩, by decide +kernel⟩))))))⟩,
    ⟨onPort (awaiting live (job (.read 16 16) .run) inlet .readingRecord) fun p =>
      { p with heard := lineOf [charOf 0x01] }, job (.read 16 16) .run, .noReply, .noReply,
      by refine ⟨?_,?_,?_⟩ <;> first | decide +kernel | exact .inr (.inr (.inr (.inr (.inr (.inl (by decide +kernel)))))) | exact .inr (.inr (.inr (.inr (.inr (.inr (.inl ⟨rfl, rfl, nofun, nofun, rfl, fun _ _ _ => by decide +kernel⟩))))))⟩,
    ⟨awaiting live (job .ident .run) inlet .readingIdent, job .ident .run, [false], .tagIdent [false],
      by refine ⟨?_,?_,?_,?_⟩ <;> first | decide +kernel | exact .inl ⟨rfl, rfl⟩⟩,
    ⟨onPort (awaiting live (job .ident .run) inlet .readingIdent) fun p =>
      { p with state := .receiving, heard := List.replicate 8 false }, job .ident .run, [true], .tagIdent
      [true], by refine ⟨?_,?_,?_,?_,?_⟩ <;> first | decide +kernel | exact .inl ⟨rfl, rfl⟩⟩,
    ⟨awaiting live (job .ident .run) inlet .readingIdent, job .ident .run, lineOf ([charOf 0x01]), [charOf
      0x01], .tagIdent (lineOf ([charOf 0x01])),
      by refine ⟨?_,?_,?_⟩ <;> first | decide +kernel | exact .inl ⟨rfl, rfl, by decide +kernel⟩⟩,
    ⟨awaiting live (job (.read 16 16) .run) inlet .readingRecord, job (.read 16 16) .run, lineOf ([charOf
      0x01]), [charOf 0x01], .tagRead (lineOf ([charOf 0x01])),
      by refine ⟨?_,?_,?_,?_⟩ <;> first | decide +kernel | exact .inl ⟨rfl, rfl, by decide +kernel⟩ | exact .inr (.inl ⟨rfl, rfl, by decide +kernel⟩) | exact .inr (.inr ⟨rfl, by decide +kernel, _, _, rfl, by decide +kernel⟩) | exact ⟨_, _, rfl⟩⟩,
    ⟨awaiting live (job .commit .writeBack) inlet .writing, job .commit .writeBack, lineOf ([charOf 0x96]),
      [charOf 0x96], .tagCommit (lineOf ([charOf 0x96])),
      by refine ⟨?_,?_,?_,?_⟩ <;> first | decide +kernel | exact .inl ⟨rfl, rfl, by decide +kernel⟩ | exact .inr (.inl ⟨rfl, rfl, by decide +kernel⟩)⟩,
    ⟨(onPort live fun p =>
      { p with sent := [charOf 0xA6], signature := { command := some (.read 16 16), attempts := 1, error := .noReason } }),
      .read 16 16, lineOf ([charOf 0x01]), .tagRead (lineOf ([charOf 0x01])),
      by refine ⟨?_,?_,?_,?_,?_,?_,?_,?_,?_⟩ <;> first | decide +kernel | exact .inr (.inr (.inr ⟨rfl, _, _, rfl⟩))⟩,
    ⟨awaiting live (job .relock .release) { inlet with unlock := .unlocked } .identified, job .relock
      .release, by decide +kernel⟩,
    ⟨onPort live fun p => { p with state := .settling, job := some { job .ident .run with attempts := 2 } },
      by decide +kernel⟩,
    ⟨onPort live fun p => { p with state := .settling, job := some { job .ident .run with attempts := 3 } },
      { job .ident .run with attempts := 3 }, by decide +kernel⟩,
    ⟨onPort (onIdent live fun x =>
      { x with state := .identified, context := some { inlet with unlock := .unlocked } }) fun p =>
      { p with state := .settling, job := some { job .ident .keepAlive with attempts := 3 } },
      { job .ident .keepAlive with attempts := 3 }, { inlet with unlock := .unlocked }, by decide +kernel⟩⟩

theorem test_witness_couplerAndIdentTimers :
    (∃ (s : State) (held : Nat), s.Live ∧ s.meter.cells.cpl.passes .cpl true held = true ∧ s.link.state ≠
      .offline ∧ s.ident.state = .idle) ∧
    (∃ (s : State) (held : Nat), s.Live ∧ s.meter.cells.cpl.passes .cpl false held = true ∧ (s.ident.context
      = none ∧ s.port.job = none ∨ ∃ c ∈ s.ident.context, c.mode = .keyed)) ∧
    (∃ (s : State) (held : Nat) (c : Inlet), s.Live ∧ s.meter.cells.cpl.passes .cpl false held = true ∧
      s.ident.context = some c ∧ c.mode = .tag ∧ s.ident.state ∈ [IdState.waking, .readingIdent, .unlocking,
      .readingRecord, .checking]) ∧
    (∃ (s : State) (held : Nat) (c : Inlet) (r : IdResult), s.Live ∧ s.meter.cells.cpl.passes .cpl false
      held = true ∧ s.ident.context = some c ∧ c.mode = .tag ∧ s.ident.state = .identified ∧ s.ident.waiting
      = none ∧ s.activity.result = some r ∧ r.mode = .tag ∧ (s.activity.state = .flowing ∨ s.activity.state
      = .slowing)) ∧
    (∃ (s : State) (held : Nat) (c : Inlet) (r : IdResult), s.Live ∧ s.meter.cells.cpl.passes .cpl false
      held = true ∧ s.ident.context = some c ∧ c.mode = .tag ∧ s.ident.state = .identified ∧ s.ident.waiting
      = none ∧ s.activity.result = some r ∧ r.mode = .tag ∧ s.activity.state = .opening) ∧
    (∃ (s : State) (c : Inlet), s.Live ∧ s.role = some .dispense ∧ s.ident.state = .identified ∧
      s.ident.context = some c ∧ c.mode = .tag ∧ c.unlock = .unlocked ∧ s.port.job = none ∧ s.port.state =
      .idle) ∧
    (∃ (s : State) (c : Inlet), s.Live ∧ s.ident.context = some c ∧ c.unlock = .unlocked ∧ s.port.job =
      none) ∧
    (∃ (s : State), s.Live ∧ s.ident.runTimer.isSome = true) ∧
    (∃ (s : State) (held : Nat) (c : Inlet) (r : IdResult), s.Live ∧ s.meter.cells.cpl.passes .cpl false
      held = true ∧ s.ident.context = some c ∧ c.mode = .tag ∧ s.ident.state = .identified ∧ s.ident.waiting
      = none ∧ s.activity.result = some r ∧ r.mode = .tag ∧ s.activity.state = .stopping) ∧
    (∃ (s : State) (held : Nat) (c : Inlet) (r : IdResult), s.Live ∧ s.meter.cells.cpl.passes .cpl false
      held = true ∧ s.ident.context = some c ∧ c.mode = .tag ∧ s.ident.state = .identified ∧ s.ident.waiting
      = none ∧ s.activity.result = some r ∧ r.mode = .tag ∧ s.activity.state = .closing) := by
  exact ⟨
    ⟨onCells live fun c => { c with cpl := cell false }, 2000, by decide +kernel⟩,
    ⟨onCells live fun c => { c with cpl := cell true }, 2000, by decide +kernel⟩,
    ⟨onCells (onIdent live fun x => { x with state := .waking, context := some inlet }) fun c =>
      { c with cpl := cell true }, 2000, inlet, by decide +kernel⟩,
    ⟨onCells (onIdent (filling .flowing) fun x => { x with state := .identified, context := some inlet })
      fun c => { c with cpl := cell true }, 2000, inlet, heldResult, by decide +kernel⟩,
    ⟨onCells (onIdent (filling .opening) fun x => { x with state := .identified, context := some inlet })
      fun c => { c with cpl := cell true }, 2000, inlet, heldResult, by decide +kernel⟩,
    ⟨(onIdent live fun x =>
      { x with state := .identified, context := some { inlet with unlock := .unlocked } }),
      { inlet with unlock := .unlocked }, by decide +kernel⟩,
    ⟨(onIdent live fun x =>
      { x with state := .identified, context := some { inlet with unlock := .unlocked } }),
      { inlet with unlock := .unlocked }, by decide +kernel⟩,
    ⟨onIdent live fun x => { x with state := .waking, runTimer := some 5000000 }, by decide +kernel⟩,
    ⟨onCells (identified (filling .stopping) inlet) fun c => { c with cpl := cell true }, 2000, inlet, heldResult,
      by decide +kernel⟩,
    ⟨onCells (identified (filling .closing) inlet) fun c => { c with cpl := cell true }, 2000, inlet, heldResult,
      by decide +kernel⟩⟩

theorem test_witness_filterCellsFollow :
    (∃ (s : State) (n : Cell), s.Live ∧
       let x := s.meter.cells.get n
       x.idle = false ∧ x.threshold ≠ 0 ∧ x.glitches ≤ 255 ∧ x.mode = .delayed ∧ x.input = x.output) ∧
    (∃ (s : State) (n : Cell) (samples : Nat), s.Live ∧
       let x := s.meter.cells.get n
       x.idle = false ∧ x.threshold ≠ 0 ∧ x.glitches ≤ 255 ∧ x.mode = .delayed ∧ x.input ≠ x.output ∧ 0 <
         x.count + samples ∧ x.count + samples < x.threshold * cellUnit n) ∧
    (∃ (s : State) (n : Cell), s.Live ∧
       let x := s.meter.cells.get n
       x.idle = false ∧ x.threshold ≠ 0 ∧ x.glitches ≤ 255 ∧ x.mode = .immediate ∧ x.lockout.isSome = true) ∧
    (∃ (s : State) (n : Cell), s.Live ∧
       let x := s.meter.cells.get n
       x.idle = false ∧ x.threshold ≠ 0 ∧ x.glitches ≤ 255 ∧ x.mode = .immediate ∧ x.lockout = none) ∧
    (∃ (s : State) (n : Cell), s.Live ∧
       let x := s.meter.cells.get n
       x.lockout.isSome = true ∧ x.input = x.output) ∧
    (∃ (s : State), s.Live ∧ s.meter.cells.estop.lockout.isSome = true ∧ s.meter.cells.estop.input = false ∧
      s.meter.cells.estop.output = true) ∧
    (∃ (s : State) (held : Nat), s.Live ∧ s.meter.cells.dhs.passes .dhs true held = true) ∧
    (∃ (s : State) (held : Nat), s.Live ∧ s.meter.cells.estop.passes .estop false held = true) ∧
    (∃ (x : FilterCell) (level : Bool), x.idle = false ∧ x.output ≠ level) ∧
    (∃ (f : FilterSetting), f.mode ≠ .bypass ∧ f.threshold ≠ 0) ∧
    (∃ (f : FilterSetting), (f.mode = .bypass ∨ f.threshold = 0)) := by
  exact ⟨
    ⟨live, .estop, by decide +kernel⟩,
    ⟨onCells live fun c => { c with estop := { cell false with input := true } }, .estop, 1999,
      by decide +kernel⟩,
    ⟨onCells live fun c => { c with estop := locked true true }, .estop, by decide +kernel⟩,
    ⟨onCells live fun c => { c with estop := { locked true true with lockout := none } }, .estop,
      by decide +kernel⟩,
    ⟨onCells live fun c => { c with estop := locked true true }, .estop, by decide +kernel⟩,
    ⟨onCells live fun c => { c with estop := locked false true }, by decide +kernel⟩,
    ⟨at' .inService cfgR, 2000, by decide +kernel⟩,
    ⟨onCells live fun c => { c with estop := cell true }, 2000, by decide +kernel⟩,
    ⟨cell true, false, by decide +kernel⟩,
    ⟨{ mode := .immediate, threshold := 5 }, by decide +kernel⟩,
    ⟨{ mode := .delayed, threshold := 0 }, by decide +kernel⟩⟩

theorem test_witness_meterStepsCount :
    (∃ (temp : Int), temp ≤ -200) ∧
    (∃ (temp : Int), 600 ≤ temp) ∧
    (∃ (temp : Int) (i : Nat), i < 8 ∧ -200 + 100 * (i : Int) ≤ temp ∧ temp < -100 + 100 * (i : Int)) ∧
    (∃ (s : State) (time : Nat) (held : Nat) (levels : Pattern) (c : Settings) (q : Pattern) (p : Pattern),
      s.StepsForward time held levels c q p) ∧
    (∃ (s : State) (time : Nat) (held : Nat) (levels : Pattern) (c : Settings) (q : Pattern) (p : Pattern),
      s.StepsForward time held levels c q p ∧ clamp47 (s.meter.acc + c.pulse) / 100000 ≠ s.meter.acc /
      100000 ∧ s.supply.phase = .running ∧ s.supply.record.isSome = true) ∧
    (∃ (s : State) (time : Nat) (held : Nat) (levels : Pattern) (c : Settings) (q : Pattern) (p : Pattern),
      s.StepsForward time held levels c q p ∧ s.meter.activityOpen = false ∧ s.meter.episodeNoticed = false
      ∧ 500000 < s.meter.unauthVolume + c.pulse) ∧
    (∃ (s : State) (time : Nat) (held : Nat) (levels : Pattern) (c : Settings) (q : Pattern) (p : Pattern),
      s.StepsBack time held levels c q p) ∧
    (∃ (s : State) (time : Nat) (held : Nat) (levels : Pattern) (c : Settings) (q : Pattern) (p : Pattern),
      s.StepsBack time held levels c q p ∧ clamp47 (s.meter.acc - c.pulse) / 100000 ≠ s.meter.acc / 100000 ∧
      s.supply.record.isSome = true) ∧
    (∃ (s : State) (time : Nat) (held : Nat) (levels : Pattern) (c : Settings) (q : Pattern) (p : Pattern),
      s.StepsWrong time held levels c q p) ∧
    (∃ (s : State) (held : Nat) (levels : Pattern) (c : Settings) (p : Pattern) (cells : _), s.Live ∧
      s.meter.running = true ∧ s.settings = some c ∧ s.meter.cells.passPattern levels held = some cells ∧
      seenPattern c.sensors cells.pattern = p ∧ s.meter.position = some p) ∧
    (∃ (s : State) (held : Nat) (levels : Pattern) (c : Settings) (p : Pattern) (cells : _), s.Live ∧
      s.meter.running = true ∧ s.settings = some c ∧ s.meter.cells.passPattern levels held = some cells ∧
      seenPattern c.sensors cells.pattern = p ∧ s.meter.position = none) ∧
    (∃ (s : State) (held : Nat) (levels : Pattern) (c : Settings) (p : Pattern) (cells : _), s.Live ∧
      s.meter.running = true ∧ s.settings = some c ∧ s.meter.cells.passPattern levels held = some cells ∧
      seenPattern c.sensors cells.pattern = p ∧ s.meter.position = none ∧ c.sensors = .three ∧ p.a = p.b ∧
      p.b = p.c) ∧
    (∃ (s : State) (time : Nat) (held : Nat) (levels : Pattern) (c : Settings) (q : Pattern) (p : Pattern),
      s.StepsForward time held levels c q p ∧ s.activity.state.flows = true ∧ s.activity.noFlow.isSome = true ∧
      c.role = .dispense ∧ clamp47 (s.meter.acc + c.pulse) / 100000 ≠ s.meter.acc /
      100000 ∧ ∀ x ∈ s.activity.points, clamp47 (s.meter.acc + c.pulse) / 100000 < x.stop) ∧
    (∃ (s : State) (time : Nat) (held : Nat) (levels : Pattern) (c : Settings) (q : Pattern) (p : Pattern),
      s.StepsForward time held levels c q p ∧ s.activity.state.flows = true ∧ c.role = .receipt ∧
      ∀ x ∈ s.activity.points, clamp47 (s.meter.acc + c.pulse) / 100000 < x.stop) ∧
    (∃ (s : State) (time : Nat) (held : Nat) (levels : Pattern) (c : Settings) (q : Pattern) (p : Pattern),
      s.StepsForward time held levels c q p ∧ s.activity.state.flows = true ∧ clamp47 (s.meter.acc + c.pulse) / 100000 ≠ s.meter.acc /
      100000 ∧ ∃ x ∈ s.activity.points,
      x.stop = clamp47 (s.meter.acc + c.pulse) / 100000) ∧
    (∃ (s : State) (time : Nat) (held : Nat) (levels : Pattern) (c : Settings) (q : Pattern) (p : Pattern),
      s.StepsForward time held levels c q p ∧ s.activity.state = .stopping ∧
      clamp47 (s.meter.acc + c.pulse) / 100000 ≠ s.meter.acc /
      100000 ∧ ∀ x ∈ s.activity.points, x.overrun = clamp47 (s.meter.acc + c.pulse) / 100000) ∧
    (∃ (s : State) (time : Nat) (held : Nat) (levels : Pattern) (c : Settings) (q : Pattern) (p : Pattern),
      s.StepsBack time held levels c q p ∧ s.activity.state.flows = true ∧ s.activity.noFlow.isSome = true ∧
      clamp47 (s.meter.rev + c.pulse) / 100000 = 10) ∧
    (∃ (s : State) (time : Nat) (held : Nat) (levels : Pattern) (c : Settings) (q : Pattern) (p : Pattern),
      s.StepsBack time held levels c q p ∧ s.activity.state.flows = true ∧ s.activity.noFlow = none ∧ s.meter.phaseErrors = 8) ∧
    (∃ (s : State) (time : Nat) (held : Nat) (levels : Pattern) (c : Settings) (q : Pattern) (p : Pattern),
      s.StepsBack time held levels c q p ∧ s.activity.state.flows = true ∧ 10 < clamp47 (s.meter.rev + c.pulse) / 100000) ∧
    (∃ (s : State) (time : Nat) (held : Nat) (levels : Pattern) (c : Settings) (q : Pattern) (p : Pattern),
      s.StepsBack time held levels c q p ∧ s.activity.state = .stopping) ∧
    (∃ (s : State) (time : Nat) (held : Nat) (levels : Pattern) (c : Settings) (q : Pattern) (p : Pattern),
      s.StepsForward time held levels c q p ∧ s.activity.state = .closing) ∧
    (∃ (s : State) (time : Nat) (held : Nat) (levels : Pattern) (c : Settings) (q : Pattern) (p : Pattern),
      s.StepsWrong time held levels c q p ∧ s.activity.state.flows = true ∧ s.meter.rev / 100000 ≤ 10 ∧
      s.meter.phaseErrors = 7) ∧
    (∃ (s : State) (time : Nat) (held : Nat) (levels : Pattern) (c : Settings) (q : Pattern) (p : Pattern),
      s.StepsWrong time held levels c q p ∧ s.activity.state = .stopping) := by
  exact ⟨
    ⟨-201, by decide +kernel⟩,
    ⟨600, by decide +kernel⟩,
    ⟨-50, 1, by decide +kernel⟩,
    ⟨onMeter (live) fun m =>
      { m with position := some ⟨true, false, false⟩, lastStep := some 80, cells := { m.cells with a := cell true } },
      100, 2, ⟨true, true, false⟩, cfg, ⟨true, false, false⟩, ⟨true, true, false⟩, by decide +kernel⟩,
    ⟨onMeter ((onSupply (onActivity (filling .flowing) fun a =>
      { a with points := some { slowDown := 900, stop := 995, progress := 1000, overrun := 1050 } }) fun x
      => { x with record := some record3, phase := .running })) fun m =>
      { m with position := some ⟨true, false, false⟩, lastStep := some 80, cells := { m.cells with a := cell true }, acc := 50000, lastBoundary := some 50, activityOpen := true, tmp := { m.tmp with reading := some 155 } },
      100, 2, ⟨true, true, false⟩, cfg, ⟨true, false, false⟩, ⟨true, true, false⟩, by decide +kernel⟩,
    ⟨onMeter (live) fun m =>
      { m with position := some ⟨true, false, false⟩, lastStep := some 80, cells := { m.cells with a := cell true }, unauthVolume := 480000, episode := true },
      100, 2, ⟨true, true, false⟩, cfg, ⟨true, false, false⟩, ⟨true, true, false⟩, by decide +kernel⟩,
    ⟨onMeter (live) fun m =>
      { m with position := some ⟨true, false, false⟩, lastStep := some 80, cells := { m.cells with a := cell true } },
      100, 2, ⟨true, false, true⟩, cfg, ⟨true, false, false⟩, ⟨true, false, true⟩, by decide +kernel⟩,
    ⟨onMeter ((onSupply (onActivity (filling .flowing) fun a =>
      { a with points := some { slowDown := 900, stop := 995, progress := 1000, overrun := 1050 } }) fun x
      => { x with record := some record3, phase := .running })) fun m =>
      { m with position := some ⟨true, false, false⟩, lastStep := some 80, cells := { m.cells with a := cell true }, acc := 0, comp := 5, activityOpen := true },
      100, 2, ⟨true, false, true⟩, cfg, ⟨true, false, false⟩, ⟨true, false, true⟩, by decide +kernel⟩,
    ⟨onMeter (live) fun m =>
      { m with position := some ⟨true, false, false⟩, lastStep := some 80, cells := { m.cells with a := cell true } },
      100, 2, ⟨true, true, true⟩, cfg, ⟨true, false, false⟩, ⟨true, true, true⟩, by decide +kernel⟩,
    ⟨onMeter live fun m =>
      { m with position := some ⟨true, false, false⟩, cells := { m.cells with a := cell true, b := cell true, c := cell true } },
      2, ⟨true, false, false⟩, cfg, ⟨true, false, false⟩,
      { live.meter.cells with a := cell true, b := (cell true).pass .b false, c := (cell true).pass .c false },
      by decide +kernel⟩,
    ⟨onMeter live fun m => { m with position := none, cells := { m.cells with a := cell false } }, 2, ⟨true,
      false, false⟩, cfg, ⟨true, false, false⟩, { live.meter.cells with a := (cell false).pass .a true },
      by decide +kernel⟩,
    ⟨onMeter live fun m => { m with position := none, cells := { m.cells with a := cell true } }, 2, ⟨false,
      false, false⟩, cfg, ⟨false, false, false⟩, { live.meter.cells with a := (cell true).pass .a false },
      by decide +kernel⟩,
    ⟨turning (onMeter (filling .flowing) fun m => { m with acc := 99350000 }),
      100, 2, ⟨true, true, false⟩, cfg, ⟨true, false, false⟩, ⟨true, true, false⟩, by decide +kernel⟩,
    ⟨turning (receiving .slowing),
      100, 2, ⟨true, true, false⟩, cfgR, ⟨true, false, false⟩, ⟨true, true, false⟩, by decide +kernel⟩,
    ⟨turning (onMeter (filling .slowing) fun m => { m with acc := 99450000 }),
      100, 2, ⟨true, true, false⟩, cfg, ⟨true, false, false⟩, ⟨true, true, false⟩, by decide +kernel⟩,
    ⟨turning (onMeter (filling .stopping) fun m => { m with acc := 104950000 }),
      100, 2, ⟨true, true, false⟩, cfg, ⟨true, false, false⟩, ⟨true, true, false⟩, by decide +kernel⟩,
    ⟨turning (onMeter (filling .flowing) fun m => { m with rev := 1049999 }),
      100, 2, ⟨true, false, true⟩, cfg, ⟨true, false, false⟩, ⟨true, false, true⟩, by decide +kernel⟩,
    ⟨turning (onMeter (onActivity (filling .slowing) fun a => { a with noFlow := none }) fun m => { m with phaseErrors := 8 }),
      100, 2, ⟨true, false, true⟩, cfg, ⟨true, false, false⟩, ⟨true, false, true⟩, by decide +kernel⟩,
    ⟨turning (onMeter (filling .flowing) fun m => { m with rev := 1050000 }),
      100, 2, ⟨true, false, true⟩, cfg, ⟨true, false, false⟩, ⟨true, false, true⟩, by decide +kernel⟩,
    ⟨turning (filling .stopping),
      100, 2, ⟨true, false, true⟩, cfg, ⟨true, false, false⟩, ⟨true, false, true⟩, by decide +kernel⟩,
    ⟨turning (filling .closing),
      100, 2, ⟨true, true, false⟩, cfg, ⟨true, false, false⟩, ⟨true, true, false⟩, by decide +kernel⟩,
    ⟨turning (onMeter (filling .flowing) fun m => { m with phaseErrors := 7 }),
      100, 2, ⟨true, true, true⟩, cfg, ⟨true, false, false⟩, ⟨true, true, true⟩, by decide +kernel⟩,
    ⟨turning (filling .stopping),
      100, 2, ⟨true, true, true⟩, cfg, ⟨true, false, false⟩, ⟨true, true, true⟩, by decide +kernel⟩⟩

theorem test_witness_meterLimitsStopTheFill :
    (∃ (s : State) (time : Nat) (held : Nat) (levels : Pattern) (c : Settings) (q : Pattern) (p : Pattern)
      (x : ComparePoints), s.StepsForward time held levels c q p ∧ c.role ≠ .office ∧ (s.activity.state =
      .flowing ∨ s.activity.state = .slowing) ∧ s.activity.points = some x ∧
       let gross := clamp47 (s.meter.acc + c.pulse) / 100000
       gross ≠ s.meter.acc / 100000 ∧ x.stop ≤ gross) ∧
    (∃ (s : State) (time : Nat) (held : Nat) (levels : Pattern) (c : Settings) (q : Pattern) (p : Pattern)
      (x : ComparePoints), s.StepsForward time held levels c q p ∧ c.role ≠ .office ∧ (s.activity.state =
      .flowing ∨ s.activity.state = .slowing) ∧ s.activity.points = some x ∧
       let gross := clamp47 (s.meter.acc + c.pulse) / 100000
       gross ≠ s.meter.acc / 100000 ∧ x.stop ≤ gross ∧ c.role = .receipt) ∧
    (∃ (s : State) (time : Nat) (held : Nat) (levels : Pattern) (c : Settings) (q : Pattern) (p : Pattern)
      (x : ComparePoints), s.StepsForward time held levels c q p ∧ c.role ≠ .office ∧ (s.activity.state =
      .flowing ∨ s.activity.state = .slowing) ∧ s.activity.points = some x ∧
       let gross := clamp47 (s.meter.acc + c.pulse) / 100000
       gross ≠ s.meter.acc / 100000 ∧ x.progress ≤ gross) ∧
    (∃ (s : State) (time : Nat) (held : Nat) (levels : Pattern) (c : Settings) (q : Pattern) (p : Pattern)
      (x : ComparePoints), s.StepsForward time held levels c q p ∧ c.role ≠ .office ∧ (s.activity.state =
      .flowing ∨ s.activity.state = .slowing) ∧ s.activity.points = some x ∧
       let gross := clamp47 (s.meter.acc + c.pulse) / 100000
       gross ≠ s.meter.acc / 100000 ∧ x.progress ≤ gross ∧ c.role = .receipt) ∧
    (∃ (s : State) (time : Nat) (held : Nat) (levels : Pattern) (c : Settings) (q : Pattern) (p : Pattern)
      (x : ComparePoints), s.StepsForward time held levels c q p ∧ c.role ≠ .office ∧ (s.activity.state =
      .flowing ∨ s.activity.state = .slowing) ∧ s.activity.points = some x ∧
       let gross := clamp47 (s.meter.acc + c.pulse) / 100000
       gross ≠ s.meter.acc / 100000 ∧ s.activity.state = .flowing ∧ x.slowDown ≤ gross ∧ gross < x.stop ∧
         s.meter.rev / 100000 ≤ 10 ∧ s.meter.phaseErrors ≤ 8) ∧
    (∃ (s : State) (time : Nat) (held : Nat) (levels : Pattern) (c : Settings) (q : Pattern) (p : Pattern)
      (x : ComparePoints), s.StepsForward time held levels c q p ∧ s.activity.state = .stopping ∧
      s.activity.points = some x ∧
       let gross := clamp47 (s.meter.acc + c.pulse) / 100000
       gross ≠ s.meter.acc / 100000 ∧ x.overrun < gross) ∧
    (∃ (s : State) (time : Nat) (held : Nat) (levels : Pattern) (c : Settings) (q : Pattern) (p : Pattern)
      (x : ComparePoints), s.StepsForward time held levels c q p ∧ s.activity.state = .stopping ∧
      s.activity.points = some x ∧
       let gross := clamp47 (s.meter.acc + c.pulse) / 100000
       gross ≠ s.meter.acc / 100000 ∧ x.overrun < gross ∧
         (s.activity.linkLost = true ∨ s.engine.admitted = false) ∧ (s.engine.admitted = false ∨
         s.engine.freeze = true ∨ s.supply.waitCensus = true)) ∧
    (∃ (s : State) (time : Nat) (held : Nat) (levels : Pattern) (c : Settings) (q : Pattern) (p : Pattern)
      (x : ComparePoints), s.StepsForward time held levels c q p ∧ s.activity.state = .stopping ∧
      s.activity.points = some x ∧
       let gross := clamp47 (s.meter.acc + c.pulse) / 100000
       gross ≠ s.meter.acc / 100000 ∧ x.overrun < gross ∧ c.role = .receipt) ∧
    (∃ (s : State) (time : Nat) (held : Nat) (levels : Pattern) (c : Settings) (q : Pattern) (p : Pattern)
      (i : _), s.StepsBack time held levels c q p ∧ (s.activity.state = .flowing ∨ s.activity.state =
      .slowing) ∧ s.meter.rev / 100000 ≤ 10 ∧ 10 < clamp47 (s.meter.rev + c.pulse) / 100000 ∧ i ∈
      [Instr.reverseFlow time held levels, .meterStep time held levels]) ∧
    (∃ (s : State) (time : Nat) (held : Nat) (levels : Pattern) (c : Settings) (q : Pattern) (p : Pattern)
      (i : _), s.StepsWrong time held levels c q p ∧ (s.activity.state = .flowing ∨ s.activity.state =
      .slowing) ∧ s.meter.rev / 100000 ≤ 10 ∧ s.meter.phaseErrors = 8 ∧ i ∈ [Instr.meterFault time held
      levels, .meterStep time held levels]) ∧
    (∃ (s : State) (time : Nat) (held : Nat) (levels : Pattern) (c : Settings) (q : Pattern) (p : Pattern)
      (x : ComparePoints), s.StepsForward time held levels c q p ∧ c.role ≠ .office ∧ (s.activity.state =
      .flowing ∨ s.activity.state = .slowing) ∧ s.activity.points = some x ∧
       let gross := clamp47 (s.meter.acc + c.pulse) / 100000
       gross ≠ s.meter.acc / 100000 ∧ x.progress ≤ gross ∧ x.stop ≤ gross) ∧
    (∃ (s : State) (time : Nat) (held : Nat) (levels : Pattern) (c : Settings) (q : Pattern) (p : Pattern)
      (x : ComparePoints) (e : TxEntry), s.StepsForward time held levels c q p ∧ c.role ≠ .office ∧ (s.activity.state =
      .flowing ∨ s.activity.state = .slowing) ∧ s.activity.points = some x ∧
       let gross := clamp47 (s.meter.acc + c.pulse) / 100000
       gross ≠ s.meter.acc / 100000 ∧ x.progress ≤ gross ∧ s.link.queued .activity = some e ∧
         s.link.onWire .activity = false ∧ e.payload.kind? = some .progress) ∧
    (∃ (s : State) (time : Nat) (held : Nat) (levels : Pattern) (c : Settings) (q : Pattern) (p : Pattern)
      (x : ComparePoints) (e : TxEntry), s.StepsForward time held levels c q p ∧ c.role ≠ .office ∧ (s.activity.state =
      .flowing ∨ s.activity.state = .slowing) ∧ s.activity.points = some x ∧
       let gross := clamp47 (s.meter.acc + c.pulse) / 100000
       gross ≠ s.meter.acc / 100000 ∧ x.progress ≤ gross ∧ s.link.queued .activity = some e ∧
         s.link.onWire .activity = true) ∧
    (∃ (s : State) (time : Nat) (held : Nat) (levels : Pattern) (c : Settings) (q : Pattern) (p : Pattern)
      (x : ComparePoints) (e : TxEntry), s.StepsForward time held levels c q p ∧ s.activity.state = .stopping ∧ s.activity.points = some x ∧
       let gross := clamp47 (s.meter.acc + c.pulse) / 100000
       gross ≠ s.meter.acc / 100000 ∧ x.overrun < gross ∧ s.activity.linkLost = false ∧ s.engine.admitted = true ∧
         s.link.queued .activity = some e ∧ s.link.onWire .activity = false ∧
         e.payload.activitySeq = s.activity.openSeq) ∧
    (∃ (s : State) (time : Nat) (held : Nat) (levels : Pattern) (c : Settings) (q : Pattern) (p : Pattern)
      (x : ComparePoints) (r : ActRecord) (e : StationEntry), s.StepsForward time held levels c q p ∧ s.activity.state = .stopping ∧ s.activity.points = some x ∧
       let gross := clamp47 (s.meter.acc + c.pulse) / 100000
       gross ≠ s.meter.acc / 100000 ∧ x.overrun < gross ∧ s.activity.linkLost = true ∧ s.engine.admitted = true ∧
         s.engine.freeze = false ∧ s.supply.waitCensus = false ∧ s.supply.record = some r ∧ s.supply.phase =
         .running ∧ s.replica.station? s.me = some e) := by
  exact ⟨
    ⟨onMeter (onActivity (filling .flowing) fun a =>
      { a with points := some { slowDown := 1, stop := 1, progress := 1000, overrun := 1050 } }) fun m =>
      { m with position := some ⟨true, false, false⟩, lastStep := some 80, cells := { m.cells with a := cell true }, acc := 50000 },
      100, 2, ⟨true, true, false⟩, cfg, ⟨true, false, false⟩, ⟨true, true, false⟩,
      { slowDown := 1, stop := 1, progress := 1000, overrun := 1050 }, by decide +kernel⟩,
    ⟨onMeter (onActivity (receiving .slowing) fun a =>
      { a with points := some { slowDown := 1, stop := 1, progress := 1000, overrun := 1050 } }) fun m =>
      { m with position := some ⟨true, false, false⟩, lastStep := some 80, cells := { m.cells with a := cell true }, acc := 50000 },
      100, 2, ⟨true, true, false⟩, cfgR, ⟨true, false, false⟩, ⟨true, true, false⟩,
      { slowDown := 1, stop := 1, progress := 1000, overrun := 1050 }, by decide +kernel⟩,
    ⟨onMeter (onActivity (filling .flowing) fun a =>
      { a with points := some { slowDown := 900, stop := 995, progress := 1, overrun := 1050 } }) fun m =>
      { m with position := some ⟨true, false, false⟩, lastStep := some 80, cells := { m.cells with a := cell true }, acc := 50000 },
      100, 2, ⟨true, true, false⟩, cfg, ⟨true, false, false⟩, ⟨true, true, false⟩,
      { slowDown := 900, stop := 995, progress := 1, overrun := 1050 }, by decide +kernel⟩,
    ⟨onMeter (onActivity (receiving .slowing) fun a =>
      { a with points := some { slowDown := 900, stop := 995, progress := 1, overrun := 1050 } }) fun m =>
      { m with position := some ⟨true, false, false⟩, lastStep := some 80, cells := { m.cells with a := cell true }, acc := 50000 },
      100, 2, ⟨true, true, false⟩, cfgR, ⟨true, false, false⟩, ⟨true, true, false⟩,
      { slowDown := 900, stop := 995, progress := 1, overrun := 1050 }, by decide +kernel⟩,
    ⟨onMeter (onActivity (filling .flowing) fun a =>
      { a with points := some { slowDown := 1, stop := 2, progress := 1000, overrun := 1050 } }) fun m =>
      { m with position := some ⟨true, false, false⟩, lastStep := some 80, cells := { m.cells with a := cell true }, acc := 50000 },
      100, 2, ⟨true, true, false⟩, cfg, ⟨true, false, false⟩, ⟨true, true, false⟩,
      { slowDown := 1, stop := 2, progress := 1000, overrun := 1050 }, by decide +kernel⟩,
    ⟨onMeter ((onSupply (onActivity (filling .stopping) fun a =>
      { a with points := some { slowDown := 0, stop := 0, progress := 1000, overrun := 0 } }) fun x =>
      { x with record := some record3, phase := .running })) fun m =>
      { m with position := some ⟨true, false, false⟩, lastStep := some 80, cells := { m.cells with a := cell true }, acc := 50000, activityOpen := true },
      100, 2, ⟨true, true, false⟩, cfg, ⟨true, false, false⟩, ⟨true, true, false⟩,
      { slowDown := 0, stop := 0, progress := 1000, overrun := 0 }, by decide +kernel⟩,
    ⟨onMeter ((onSupply (onActivity (onEngine (filling .stopping) fun e => { e with admitted := false }) fun
      a => { a with points := some { slowDown := 0, stop := 0, progress := 1000, overrun := 0 } }) fun x =>
      { x with record := some record3, phase := .running })) fun m =>
      { m with position := some ⟨true, false, false⟩, lastStep := some 80, cells := { m.cells with a := cell true }, acc := 50000, activityOpen := true },
      100, 2, ⟨true, true, false⟩, cfg, ⟨true, false, false⟩, ⟨true, true, false⟩,
      { slowDown := 0, stop := 0, progress := 1000, overrun := 0 }, by decide +kernel⟩,
    ⟨onMeter ((onSupply (onActivity (receiving .stopping) fun a =>
      { a with points := some { slowDown := 0, stop := 0, progress := 1000, overrun := 0 } }) fun x =>
      { x with record := some record3, phase := .running })) fun m =>
      { m with position := some ⟨true, false, false⟩, lastStep := some 80, cells := { m.cells with a := cell true }, acc := 50000, activityOpen := true },
      100, 2, ⟨true, true, false⟩, cfgR, ⟨true, false, false⟩, ⟨true, true, false⟩,
      { slowDown := 0, stop := 0, progress := 1000, overrun := 0 }, by decide +kernel⟩,
    ⟨onMeter (onActivity (filling .flowing) fun a =>
      { a with points := some { slowDown := 1, stop := 2, progress := 1000, overrun := 1050 } }) fun m =>
      { m with position := some ⟨true, false, false⟩, lastStep := some 80, cells := { m.cells with a := cell true }, acc := 50000, rev := 1050000 },
      100, 2, ⟨true, false, true⟩, cfg, ⟨true, false, false⟩, ⟨true, false, true⟩, .reverseFlow 100 2 ⟨true,
      false, true⟩, by decide +kernel⟩,
    ⟨onMeter (onActivity (filling .flowing) fun a =>
      { a with points := some { slowDown := 1, stop := 2, progress := 1000, overrun := 1050 } }) fun m =>
      { m with position := some ⟨true, false, false⟩, lastStep := some 80, cells := { m.cells with a := cell true }, acc := 50000, phaseErrors := 8 },
      100, 2, ⟨true, true, true⟩, cfg, ⟨true, false, false⟩, ⟨true, true, true⟩, .meterFault 100 2 ⟨true,
      true, true⟩, by decide +kernel⟩,
    ⟨boundaryOf (onActivity (filling .flowing) fun a => { a with points := some { slowDown := 900, stop := 1, progress := 1, overrun := 1050 } }),
      100, 2, ⟨true, true, false⟩, cfg, ⟨true, false, false⟩, ⟨true, true, false⟩,
      { slowDown := 900, stop := 1, progress := 1, overrun := 1050 }, by decide +kernel⟩,
    ⟨boundaryOf (onActivity (queueing (filling .flowing) .activity (.progress 90 5)) fun a => { a with points := some { slowDown := 900, stop := 995, progress := 1, overrun := 1050 } }),
      100, 2, ⟨true, true, false⟩, cfg, ⟨true, false, false⟩, ⟨true, true, false⟩,
      { slowDown := 900, stop := 995, progress := 1, overrun := 1050 }, progressEntry, by decide +kernel⟩,
    ⟨boundaryOf (onActivity (sending (filling .flowing) .activity (sentBy 3 (.progress 90 5)) 0) fun a => { a with points := some { slowDown := 900, stop := 995, progress := 1, overrun := 1050 } }),
      100, 2, ⟨true, true, false⟩, cfg, ⟨true, false, false⟩, ⟨true, true, false⟩,
      { slowDown := 900, stop := 995, progress := 1, overrun := 1050 }, progressEntry, by decide +kernel⟩,
    ⟨boundaryOf (onActivity (queueing (filling .stopping) .activity (.progress 90 5)) fun a => { a with points := some { slowDown := 0, stop := 0, progress := 1000, overrun := 0 } }),
      100, 2, ⟨true, true, false⟩, cfg, ⟨true, false, false⟩, ⟨true, true, false⟩,
      { slowDown := 0, stop := 0, progress := 1000, overrun := 0 }, progressEntry, by decide +kernel⟩,
    ⟨boundaryOf (onActivity (readmitted { filling .stopping with replica := ended }) fun a => { a with points := some { slowDown := 0, stop := 0, progress := 1000, overrun := 0 } }),
      100, 2, ⟨true, true, false⟩, cfg, ⟨true, false, false⟩, ⟨true, true, false⟩,
      { slowDown := 0, stop := 0, progress := 1000, overrun := 0 }, record3, ended3, by decide +kernel⟩⟩

theorem test_witness_dutyInputsAndTimers :
    (∃ (s : State) (rise : Nat) (fall : Nat), s.Live ∧ s.meter.tmp.running = true ∧ s.meter.tmp.lastRise =
      some rise ∧ s.meter.tmp.lastFall = some fall) ∧
    (∃ (s : State) (rise : Nat) (fall : Nat) (c : Settings), s.Live ∧ s.meter.gau.running = true ∧
      s.meter.gau.lastRise = some rise ∧ s.meter.gau.lastFall = some fall ∧ s.settings = some c ∧
      s.gauge.state ≠ .sampling) ∧
    (∃ (s : State) (rise : Nat) (fall : Nat) (c : Settings), s.Live ∧ s.meter.gau.running = true ∧
      s.meter.gau.lastRise = some rise ∧ s.meter.gau.lastFall = some fall ∧ s.settings = some c ∧
       let level := (fall - rise) * c.gaugeFactor.getD 0 / 1000
       s.gauge.state = .sampling ∧ level ≤ 20000 ∧ s.gauge.readings.length < 15) ∧
    (∃ (s : State) (rise : Nat) (fall : Nat) (c : Settings), s.Live ∧ s.meter.gau.running = true ∧
      s.meter.gau.lastRise = some rise ∧ s.meter.gau.lastFall = some fall ∧ s.settings = some c ∧
       let level := (fall - rise) * c.gaugeFactor.getD 0 / 1000
       s.gauge.state = .sampling ∧ 20000 < level) ∧
    (∃ (s : State) (rise : Nat) (fall : Nat) (c : Settings), s.Live ∧ s.meter.gau.running = true ∧
      s.meter.gau.lastRise = some rise ∧ s.meter.gau.lastFall = some fall ∧ s.settings = some c ∧
       let level := (fall - rise) * c.gaugeFactor.getD 0 / 1000
       s.gauge.state = .sampling ∧ level ≤ 20000 ∧ s.gauge.readings.length = 15 ∧
       let all := s.gauge.readings ++ [level]
       (∃ a ∈ all, ∃ b ∈ all, b + 10 < a)) ∧
    (∃ (s : State) (rise : Nat) (fall : Nat) (c : Settings), s.Live ∧ s.meter.gau.running = true ∧
      s.meter.gau.lastRise = some rise ∧ s.meter.gau.lastFall = some fall ∧ s.settings = some c ∧
       let level := (fall - rise) * c.gaugeFactor.getD 0 / 1000
       s.gauge.state = .sampling ∧ level ≤ 20000 ∧ s.gauge.readings.length = 15 ∧
       let all := s.gauge.readings ++ [level]
       (∀ a ∈ all, ∀ b ∈ all, a ≤ b + 10) ∧ s.link.queued .gauge = none) ∧
    (∃ (s : State) (n : DutyCell), s.Live ∧ (s.meter.duty n).running = true ∧
       let d := s.meter.duty n
       (d.lastRise = none ∨ d.lastFall = none)) ∧
    (∃ (s : State) (n : DutyCell), s.Live ∧ (s.meter.duty n).running = true) ∧
    (∃ (s : State) (n : DutyCell), s.Live ∧ (s.meter.duty n).waitTimer.isSome = true ∧ (n = .tmp ∨
      s.gauge.state ≠ .sampling)) ∧
    (∃ (s : State) (n : DutyCell), s.Live ∧ (s.meter.duty n).waitTimer.isSome = true ∧ n = .gau ∧
      s.gauge.state = .sampling) ∧
    (∃ (s : State), s.Live ∧ s.meter.episodeTimer.isSome = true) ∧
    (∃ (s : State), s.Live ∧ s.meter.flowTimer.isSome = true) ∧
    (∃ (s : State), s.Live) ∧
    (∃ (s : State), s.Live) ∧
    (∃ (s : State) (n : Nat), s.Live ∧ s.clock = some n ∧ n + 1 < 2 ^ 32) ∧
    (∃ (s : State) (n : Nat), s.Live ∧ s.clock = some n ∧ n + 1 = 2 ^ 32) ∧
    (∃ (s : State), s.Live ∧ s.clock = none) := by
  exact ⟨
    ⟨onMeter live fun m => { m with tmp := { m.tmp with lastRise := some 100, lastFall := some 600 } }, 100,
      600, by decide +kernel⟩,
    ⟨onMeter live fun m => { m with gau := { m.gau with lastRise := some 100, lastFall := some 600 } }, 100,
      600, cfg, by decide +kernel⟩,
    ⟨onGauge (onMeter live fun m =>
      { m with gau := { m.gau with lastRise := some 100, lastFall := some 600 } }) fun g =>
      { g with state := .sampling }, 100, 600, cfg, by decide +kernel⟩,
    ⟨onGauge (onMeter live fun m =>
      { m with gau := { m.gau with lastRise := some 100, lastFall := some 300100 } }) fun g =>
      { g with state := .sampling, readings := [], censusSeq := some 80 }, 100, 300100, cfg,
      by decide +kernel⟩,
    ⟨onGauge (onMeter live fun m =>
      { m with gau := { m.gau with lastRise := some 100, lastFall := some 600 } }) fun g =>
      { g with state := .sampling, readings := List.replicate 15 61, censusSeq := some 80 }, 100, 600, cfg,
      by decide +kernel⟩,
    ⟨onGauge (onMeter live fun m =>
      { m with gau := { m.gau with lastRise := some 100, lastFall := some 600 } }) fun g =>
      { g with state := .sampling, readings := List.replicate 15 60, censusSeq := some 80 }, 100, 600, cfg,
      by decide +kernel⟩,
    ⟨live, .gau, by decide +kernel⟩,
    ⟨onMeter live fun m => { m with tmp := { m.tmp with lastRise := some 100 } }, .tmp, by decide +kernel⟩,
    ⟨onMeter live fun m => { m with tmp := { m.tmp with waitTimer := some 250000 } }, .tmp,
      by decide +kernel⟩,
    ⟨onGauge (onMeter live fun m => { m with gau := { m.gau with waitTimer := some 250000 } }) fun g =>
      { g with state := .sampling }, .gau, by decide +kernel⟩,
    ⟨onMeter live fun m => { m with episodeTimer := some 60000000 }, by decide +kernel⟩,
    ⟨onMeter live fun m => { m with flowTimer := some 10000000 }, by decide +kernel⟩,
    ⟨live, by decide +kernel⟩,
    ⟨live, by decide +kernel⟩,
    ⟨{ live with clock := some 4294967294 }, 4294967294, by decide +kernel⟩,
    ⟨{ live with clock := some (2 ^ 32 - 1) }, 4294967295, by decide +kernel⟩,
    ⟨live, by decide +kernel⟩⟩

theorem test_witness_nozzleBeginsTheFill :
    (∃ (s : State) (held : Nat), s.Live ∧ s.meter.cells.noz.passes .noz true held = true ∧ s.role = some
      .dispense ∧ s.activity.state = .idle ∧ (∀ c ∈ s.ident.context, s.ident.state = .identified →
      c.gradePending = true ∨ c.result = none)) ∧
    (∃ (s : State) (held : Nat) (c : Inlet) (r : IdResult), s.Live ∧ s.meter.cells.noz.passes .noz true held
      = true ∧ s.role = some .dispense ∧ s.activity.state = .idle ∧ s.ident.state = .identified ∧
      s.ident.context = some c ∧ c.gradePending = false ∧ c.result = some r ∧ s.engine.admitted = false) ∧
    (∃ (s : State) (held : Nat) (c : Inlet) (r : IdResult), s.Live ∧ s.meter.cells.noz.passes .noz true held
      = true ∧ s.role = some .dispense ∧ s.activity.state = .idle ∧ s.ident.state = .identified ∧
      s.ident.context = some c ∧ c.gradePending = false ∧ c.result = some r ∧ s.engine.admitted = true ∧
      s.supply.record.isSome = true) ∧
    (∃ (s : State) (held : Nat) (c : Inlet) (r : IdResult), s.Live ∧ s.meter.cells.noz.passes .noz true held
      = true ∧ s.role = some .dispense ∧ s.activity.state = .idle ∧ s.ident.state = .identified ∧
      s.ident.context = some c ∧ c.gradePending = false ∧ c.result = some r ∧ s.engine.admitted = true ∧
      s.supply.record = none ) ∧
    (∃ (s : State) (held : Nat), s.Live ∧ s.meter.cells.noz.passes .noz false held = true ∧ s.role = some
      .dispense ∧ s.activity.state = .awaitingId) ∧
    (∃ (s : State) (held : Nat), s.Live ∧ s.meter.cells.noz.passes .noz false held = true ∧ s.role = some
      .dispense ∧ s.activity.state = .opening) ∧
    (∃ (s : State) (held : Nat), s.Live ∧ s.meter.cells.noz.passes .noz false held = true ∧ s.role = some
      .dispense ∧ s.activity.state = .opening ∧ s.activity.pendingEnd = none ∧ s.link.withdrawable .activity
      s.openKind = true) ∧
    (∃ (s : State) (held : Nat), s.Live ∧ s.meter.cells.noz.passes .noz false held = true ∧ s.role = some
      .dispense ∧ s.activity.state = .opening ∧ s.activity.pendingEnd = none ∧ s.link.withdrawable .activity
      s.openKind = false) ∧
    (∃ (s : State) (held : Nat) (x : _), s.Live ∧ s.meter.cells.noz.passes .noz false held = true ∧ s.role =
      some .dispense ∧ s.activity.state = .refused x) ∧
    (∃ (s : State) (held : Nat), s.Live ∧ s.meter.cells.noz.passes .noz false held = true ∧ s.role = some
      .dispense ∧ s.activity.state = .writeback ∧ s.activity.writeBackDone = false) ∧
    (∃ (s : State) (held : Nat), s.Live ∧ s.meter.cells.noz.passes .noz false held = true ∧ s.role = some
      .dispense ∧ s.activity.state = .writeback ∧ s.activity.writeBackDone = true) ∧
    (∃ (s : State) (held : Nat), s.Live ∧ s.meter.cells.noz.passes .noz false held = true ∧ s.role = some
      .dispense ∧ s.activity.state = .writeback ∧ s.activity.writeBackDone = true ∧ s.activity.faultPending
      = true) ∧
    (∃ f : ActState → State, ∀ st ∈ [ActState.awaitingId, .opening, .refused .barred, .flowing, .slowing,
      .stopping, .closing, .writeback, .faulted], (f st).Live ∧ (f st).meter.cells.noz.passes .noz true 2000
      = true ∧ (f st).role = some .dispense ∧ (f st).activity.state = st ∧ st ≠ .idle) ∧
    (∃ f : ActState → State, ∀ st ∈ [ActState.idle, .stopping, .closing, .faulted], (f st).Live ∧
      (f st).meter.cells.noz.passes .noz false 2000 = true ∧ (f st).role = some .dispense ∧
      (f st).activity.state = st) := by
  exact ⟨
    ⟨onCells (live) fun c => { c with noz := cell false }, 2000, by decide +kernel⟩,
    ⟨onCells (onIdent (onEngine live fun e => { e with admitted := false }) fun x =>
      { x with state := .identified, context := some { inlet with unlock := .unlocked, result := some heldResult } })
      fun c => { c with noz := cell false }, 2000,
      { inlet with unlock := .unlocked, result := some heldResult }, heldResult, by decide +kernel⟩,
    ⟨onCells (onIdent (onSupply live fun x => { x with record := some record3 }) fun x =>
      { x with state := .identified, context := some { inlet with unlock := .unlocked, result := some heldResult } })
      fun c => { c with noz := cell false }, 2000,
      { inlet with unlock := .unlocked, result := some heldResult }, heldResult, by decide +kernel⟩,
    ⟨onCells (onIdent (live) fun x =>
      { x with state := .identified, context := some { inlet with unlock := .unlocked, result := some heldResult } })
      fun c => { c with noz := cell false }, 2000,
      { inlet with unlock := .unlocked, result := some heldResult }, heldResult, by decide +kernel⟩,
    ⟨onCells (onActivity live fun a => { a with state := .awaitingId, preset := some 500 }) fun c =>
      { c with noz := cell true }, 2000, by decide +kernel⟩,
    ⟨onCells (onActivity (filling .opening) fun a => { a with pendingEnd := some .siteStop }) fun c =>
      { c with noz := cell true }, 2000, by decide +kernel⟩,
    ⟨onCells ((onLink (filling .opening) fun l => { l with tx := [openEntry], entered := 1 })) fun c =>
      { c with noz := cell true }, 2000, by decide +kernel⟩,
    ⟨onCells (filling .opening) fun c => { c with noz := cell true }, 2000, by decide +kernel⟩,
    ⟨onCells (onActivity live fun a => { a with state := .refused .barred, preset := some 500 }) fun c =>
      { c with noz := cell true }, 2000, .barred, by decide +kernel⟩,
    ⟨onCells (filling .writeback) fun c => { c with noz := cell true }, 2000, by decide +kernel⟩,
    ⟨onCells (onActivity (filling .writeback) fun a => { a with writeBackDone := true }) fun c =>
      { c with noz := cell true }, 2000, by decide +kernel⟩,
    ⟨onCells (onActivity (filling .writeback) fun a =>
      { a with writeBackDone := true, faultPending := true }) fun c => { c with noz := cell true }, 2000,
      by decide +kernel⟩,
    ⟨fun st => onCells (filling st) fun c => { c with noz := cell false }, by decide +kernel⟩,
    ⟨fun st => onCells (filling st) fun c => { c with noz := cell true }, by decide +kernel⟩⟩

theorem test_witness_flowEndsInClosing :
    (∃ (s : State) (held : _), s.Live ∧ (s.activity.state = .flowing ∨ s.activity.state = .slowing) ∧ s.role
      = some .dispense ∧ s.meter.cells.noz.passes .noz false held = true) ∧
    (∃ (s : State) (held : _), s.Live ∧ (s.activity.state = .flowing ∨ s.activity.state = .slowing) ∧ s.role
      = some .receipt ∧ s.meter.cells.dhs.passes .dhs false held = true) ∧
    (∃ (s : State), s.Live ∧ (s.activity.state = .flowing ∨ s.activity.state = .slowing) ∧
      s.activity.noFlow.isSome = true) ∧
    (∃ (s : State), s.Live ∧ (s.activity.state = .flowing ∨ s.activity.state = .slowing) ∧
      s.activity.full.isSome = true) ∧
    (∃ (s : State) (held : Nat), s.Live ∧ s.role = some .receipt ∧ s.meter.cells.dhs.passes .dhs false held
      = true ∧ s.activity.state = .opening) ∧
    (∃ (s : State) (held : Nat), s.Live ∧ s.role = some .receipt ∧ s.meter.cells.dhs.passes .dhs false held
      = true ∧ s.activity.state = .opening ∧ s.activity.pendingEnd = none ∧ s.link.withdrawable .activity
      s.openKind = true) ∧
    (∃ (s : State) (held : Nat) (x : _), s.Live ∧ s.role = some .receipt ∧ s.meter.cells.dhs.passes .dhs
      false held = true ∧ (s.activity.state = .awaitingId ∨ s.activity.state = .refused x)) ∧
    (∃ (s : State) (held : Nat) (x : _), s.Live ∧ s.role = some .receipt ∧ s.meter.cells.dhs.passes .dhs
      false held = true ∧ (s.activity.state = .awaitingId ∨ s.activity.state = .refused x) ∧
      s.activity.state = .refused x) ∧
    (∃ (s : State) (i : Instr), s.Live ∧ s.activity.state = .stopping ∧ (s.role = some .dispense ∨ s.role =
      some .receipt) ∧ (i = .settleTimeout ∧ s.activity.settle.isSome = true ∨ i = .stoppingLimit ∧
      s.activity.limit.isSome = true) ∧ s.activity.linkLost = false ∧ s.engine.admitted = true) ∧
    (∃ (s : State) (i : Instr), s.Live ∧ s.activity.state = .stopping ∧ (s.role = some .dispense ∨ s.role =
      some .receipt) ∧ (i = .settleTimeout ∧ s.activity.settle.isSome = true ∨ i = .stoppingLimit ∧
      s.activity.limit.isSome = true) ∧ s.activity.linkLost = false ∧ s.engine.admitted = true ∧ s.role = some .receipt ∧ i = .stoppingLimit) ∧
    (∃ (s : State) (i : Instr), s.Live ∧ s.activity.state = .stopping ∧ (s.role = some .dispense ∨ s.role =
      some .receipt) ∧ (i = .settleTimeout ∧ s.activity.settle.isSome = true ∨ i = .stoppingLimit ∧
      s.activity.limit.isSome = true) ∧ (s.activity.linkLost = true ∨ s.engine.admitted = false) ∧ (s.engine.admitted =
      false ∨ s.engine.freeze = true ∨ s.supply.waitCensus = true)) ∧
    (∃ (s : State) (i : Instr), s.Live ∧ s.activity.state = .stopping ∧ (s.role = some .dispense ∨ s.role =
      some .receipt) ∧ (i = .settleTimeout ∧ s.activity.settle.isSome = true ∨ i = .stoppingLimit ∧
      s.activity.limit.isSome = true) ∧ (s.activity.linkLost = true ∨ s.engine.admitted = false) ∧ (s.engine.admitted =
      false ∨ s.engine.freeze = true ∨ s.supply.waitCensus = true) ∧ s.role = some .receipt) ∧
    (∃ (s : State) (i : Instr), s.Live ∧ s.activity.state = .stopping ∧ (s.role = some .dispense ∨ s.role =
      some .receipt) ∧ (i = .settleTimeout ∧ s.activity.settle.isSome = true ∨ i = .stoppingLimit ∧
      s.activity.limit.isSome = true) ∧ (s.activity.linkLost = true ∨ s.engine.admitted = false) ∧ (s.engine.admitted =
      false ∨ s.engine.freeze = true ∨ s.supply.waitCensus = true) ∧ s.role = some .dispense ∧
      s.meter.cells.noz.output = true) ∧
    (∃ f : ActState → State, ∀ st ∈ [ActState.idle, .stopping, .closing, .faulted], (f st).Live ∧
      (f st).meter.cells.dhs.passes .dhs false 2000 = true ∧ (f st).role = some .receipt ∧
      (f st).activity.state = st) ∧
    (∃ (s : State) (i : Instr) (e : TxEntry), s.Live ∧ s.activity.state = .stopping ∧ (s.role = some .dispense ∨ s.role =
      some .receipt) ∧ (i = .settleTimeout ∧ s.activity.settle.isSome = true ∨ i = .stoppingLimit ∧
      s.activity.limit.isSome = true) ∧ s.activity.linkLost = false ∧ s.engine.admitted = true ∧
      s.link.queued .activity = some e ∧ s.link.onWire .activity = false ∧ e.payload.kind? = some .progress ∧
      e.payload.activitySeq = s.activity.openSeq) ∧
    (∃ (s : State) (i : Instr) (e : TxEntry), s.Live ∧ s.activity.state = .stopping ∧ (s.role = some .dispense ∨ s.role =
      some .receipt) ∧ (i = .settleTimeout ∧ s.activity.settle.isSome = true ∨ i = .stoppingLimit ∧
      s.activity.limit.isSome = true) ∧ s.activity.linkLost = false ∧ s.engine.admitted = true ∧
      s.link.queued .activity = some e ∧ s.link.onWire .activity = true) ∧
    (∃ (s : State) (i : Instr), s.Live ∧ s.activity.state = .stopping ∧ (s.role = some .dispense ∨ s.role =
      some .receipt) ∧ (i = .settleTimeout ∧ s.activity.settle.isSome = true ∨ i = .stoppingLimit ∧
      s.activity.limit.isSome = true) ∧ s.activity.linkLost = true ∧ s.engine.admitted = true ∧
      s.engine.freeze = true) ∧
    (∃ (s : State) (i : Instr) (r : ActRecord) (e : StationEntry), s.Live ∧ s.activity.state = .stopping ∧ (s.role = some .dispense ∨ s.role =
      some .receipt) ∧ (i = .settleTimeout ∧ s.activity.settle.isSome = true ∨ i = .stoppingLimit ∧
      s.activity.limit.isSome = true) ∧ s.activity.linkLost = true ∧
      s.engine.admitted = true ∧ s.engine.freeze = false ∧ s.supply.waitCensus = false ∧ s.supply.record =
      some r ∧ s.replica.station? s.me = some e) := by
  exact ⟨
    ⟨onCells (filling .flowing) fun c => { c with noz := cell true }, 2000, by decide +kernel⟩,
    ⟨onCells { (at' .inService cfgR) with activity := (filling .slowing).activity } fun c =>
      { c with dhs := cell true }, 2000, by decide +kernel⟩,
    ⟨filling .flowing, by decide +kernel⟩,
    ⟨filling .slowing, by decide +kernel⟩,
    ⟨onCells
      { (at' .inService cfgR) with activity := { (filling .opening).activity with namedTank := some 1, lastTank := some 2, pendingEnd := some .siteStop } }
      fun c => { c with dhs := cell true }, 2000, by decide +kernel⟩,
    ⟨onLink (onCells
      { (at' .inService cfgR) with activity := { (filling .opening).activity with namedTank := some 1, lastTank := some 2 } }
      fun c => { c with dhs := cell true }) fun l => { l with tx := [deliveryEntry], entered := 1 }, 2000,
      by decide +kernel⟩,
    ⟨onCells
      { (at' .inService cfgR) with activity := { (filling .awaitingId).activity with namedTank := some 1, lastTank := some 2 } }
      fun c => { c with dhs := cell true }, 2000, .barred, by decide +kernel⟩,
    ⟨onCells
      { (at' .inService cfgR) with activity := { (filling .opening).activity with namedTank := some 1, lastTank := some 2, state := .refused .barred } }
      fun c => { c with dhs := cell true }, 2000, .barred, by decide +kernel⟩,
    ⟨filling .stopping, .settleTimeout, by decide +kernel⟩,
    ⟨onActivity (receiving .stopping) fun a => { a with endReason := some .hoseReleased }, .stoppingLimit,
      by decide +kernel⟩,
    ⟨onEngine (filling .stopping) fun e => { e with admitted := false }, .stoppingLimit, by decide +kernel⟩,
    ⟨onEngine (receiving .stopping) fun e => { e with admitted := false }, .settleTimeout,
      by decide +kernel⟩,
    ⟨onEngine (onCells (filling .stopping) fun c => { c with noz := cell true }) fun e =>
      { e with admitted := false }, .settleTimeout, by decide +kernel⟩,
    ⟨fun st => onCells (receiving st) fun c => { c with dhs := cell true }, by decide +kernel⟩,
    ⟨queueing (filling .stopping) .activity (.progress 90 5), .settleTimeout, progressEntry,
      by decide +kernel⟩,
    ⟨sending (filling .stopping) .activity (sentBy 3 (.progress 90 5)) 0, .settleTimeout, progressEntry,
      by decide +kernel⟩,
    ⟨onEngine (readmitted (filling .stopping)) fun e => { e with freeze := true }, .settleTimeout,
      by decide +kernel⟩,
    ⟨readmitted { filling .stopping with replica := ended }, .settleTimeout, record3, ended3,
      by decide +kernel⟩⟩

theorem test_witness_stopPathOffersStop :
    (∃ (s : State) (held : Nat), s.Live ∧ s.meter.cells.estop.passes .estop true held = true ∧ s.link.state
      = .inService ∧ s.link.queued .stopPath = none ∧ s.stop.wanted = false) ∧
    (∃ (s : State), s.PortFree ∧ s.link.state = .inService ∧ s.link.queued .stopPath = none ∧ s.stop.wanted
      = false) ∧
    (∃ (s : State), s.PortFree ∧ s.link.state ≠ .inService) ∧
    (∃ (s : State), s.PortFree ∧ s.link.queued .stopPath = none) ∧
    (∃ (s : State) (held : Nat), s.Live ∧ s.meter.cells.estop.passes .estop true held = true ∧ s.link.state
      = .inService ∧ s.link.withdrawable .stopPath .resume = true) ∧
    (∃ (s : State) (held : Nat), s.Live ∧ s.meter.cells.estop.passes .estop true held = true ∧ s.link.state
      = .inService ∧ s.link.withdrawable .stopPath .resume = false ∧ (s.link.queued .stopPath).isSome = true) ∧
    (∃ (s : State) (held : Nat), s.Live ∧ s.meter.cells.estop.passes .estop true held = true ∧ s.link.state
      ≠ .inService ∧ s.link.queued .stopPath = none) ∧
    (∃ (s : State) (held : Nat), s.Live ∧ s.meter.cells.estop.passes .estop true held = true ∧ s.stop
      = { wanted := true, byConsole := true }) ∧
    (∃ (s : State), s.PortFree ∧ s.link.state = .inService ∧ s.link.withdrawable .stopPath .resume = true) ∧
    (∃ (s : State), s.PortFree ∧ s.link.state = .inService ∧ s.link.withdrawable .stopPath .resume = false ∧ (s.link.queued .stopPath).isSome = true) ∧
    (∃ (s : State), s.PortFree ∧ s.link.state = .inService ∧ s.stop = { wanted := true, byConsole := false }) := by
  exact ⟨
    ⟨onCells live fun c => { c with estop := cell false }, 2000, by decide +kernel⟩,
    ⟨live, by decide +kernel⟩,
    ⟨at' .joining cfg, by decide +kernel⟩,
    ⟨live, by decide +kernel⟩,
    ⟨unstopped (queueing live .stopPath .resume), 2000, by decide +kernel⟩,
    ⟨unstopped (sending live .stopPath (sentBy 3 .resume) 0), 2000, by decide +kernel⟩,
    ⟨unstopped (at' .joining cfg), 2000, by decide +kernel⟩,
    ⟨unstopped (wanting live true), 2000, by decide +kernel⟩,
    ⟨queueing live .stopPath .resume, by decide +kernel⟩,
    ⟨sending live .stopPath (sentBy 3 .resume) 0, by decide +kernel⟩,
    ⟨wanting live false, by decide +kernel⟩⟩

theorem test_witness_gaugeRunsAndServiceReads :
    (∃ (s : State) (n : Nat), s.Live ∧ s.gauge.periodTimer.isSome = true ∧ s.gaugeTank = some n ∧
      s.gauge.state ≠ .idle) ∧
    (∃ (s : State) (n : Nat), s.Live ∧ s.gauge.periodTimer.isSome = true ∧ s.gaugeTank = some n ∧
      s.gauge.state = .idle ∧ s.meter.gau.reading = none) ∧
    (∃ (s : State) (n : Nat), s.Live ∧ s.gauge.periodTimer.isSome = true ∧ s.gaugeTank = some n ∧
      s.gauge.state = .idle ∧ s.meter.gau.reading.isSome = true ∧ s.replica.tank? n = none) ∧
    (∃ (s : State) (n : Nat), s.Live ∧ s.gauge.periodTimer.isSome = true ∧ s.gaugeTank = some n ∧
      s.gauge.state = .idle ∧ s.meter.gau.reading.isSome = true ∧ (s.replica.tank? n).isSome = true ∧
      s.link.queued .gauge = none) ∧
    (∃ (s : State), s.PortFree ∧ s.gaugeTank = none) ∧
    (∃ (s : State) (n : _), s.PortFree ∧ s.gaugeTank = some n ∧ s.engine.admitted = false) ∧
    (∃ (s : State) (n : _), s.PortFree ∧ s.gaugeTank = some n ∧ s.engine.admitted = true ∧ s.gauge.state ≠
      .idle) ∧
    (∃ (s : State) (n : _), s.PortFree ∧ s.gaugeTank = some n ∧ s.engine.admitted = true ∧ s.gauge.state =
      .idle ∧ s.meter.gau.reading.isSome = true ∧ (s.replica.tank? n).isSome = true ∧ s.link.queued .gauge =
      none) ∧
    (∃ (s : State) (n : _), s.PortFree ∧ s.gaugeTank = some n ∧ s.engine.admitted = true ∧ s.gauge.state =
      .idle ∧ (s.meter.gau.reading = none ∨ s.replica.tank? n = none)) ∧
    (∃ (s : State) (n : _), s.PortFree ∧ s.gaugeTank = some n ∧ s.engine.admitted = true ∧ s.gauge.state =
      .idle ∧ (s.meter.gau.reading = none ∨ s.replica.tank? n = none) ∧ s.meter.gau.reading.isSome = true) ∧
    (∃ (s : State) (w : Writing) (n : _) (time : _) (quiet : _) (seq : _), s.Live ∧ s.engine.writing = some
      w ∧ w.limit = false ∧ w.frame.sender = s.me ∧ s.link.state = .inService ∧ w.replica.inService s.me =
      true ∧ w.frame.payload = .census .flow n time ∧ w.result = .census quiet seq ∧ s.gauge.state =
      .calling) ∧
    (∃ (s : State) (w : Writing) (n : _) (time : _) (quiet : _) (seq : _), s.Live ∧ s.engine.writing = some
      w ∧ w.limit = false ∧ w.frame.sender = s.me ∧ s.link.state = .inService ∧ w.replica.inService s.me =
      true ∧ w.frame.payload = .census .flow n time ∧ w.result = .census quiet seq ∧ s.gauge.state =
      .calling ∧ quiet = false) ∧
    (∃ (s : State) (w : Writing) (g : _), s.Live ∧ s.engine.writing = some w ∧ w.limit = false ∧
      w.frame.sender = s.me ∧ s.link.state = .inService ∧ w.replica.inService s.me = true ∧ w.frame.payload
      = .gauge g ∧ s.gauge.state = .sending) ∧
    (∃ (s : State) (w : Writing) (g : _), s.Live ∧ s.engine.writing = some w ∧ w.limit = false ∧
      w.frame.sender = s.me ∧ s.link.state = .inService ∧ w.replica.inService s.me = true ∧ w.frame.payload
      = .gauge g ∧ s.gauge.state = .sending ∧ w.result = .noChange) ∧
    (∃ (s : State) (x : Slots) (w : OnWire) (e : TxEntry), s.Sends w e ∧ w.origin = .gauge ∧ x.void = true ∧
      e.voids = 15 ∧ (s.gauge.state = .calling ∨ s.gauge.state = .sending)) ∧
    (∃ (s : State) (x : Slots) (w : OnWire) (e : TxEntry), s.Sends w e ∧ w.origin = .gauge ∧ x.void = true ∧
      e.voids = 15 ∧ (s.gauge.state = .calling ∨ s.gauge.state = .sending) ∧
      s.gauge.state = .calling) ∧
    (∃ (before : List (Nat × Nat)) (after : List (Nat × Nat)) (l0 : Nat) (v0 : Nat) (l1 : Nat) (v1 : Nat)
      (level : Nat), ((before ++ (l0, v0) :: (l1, v1) :: after).map Prod.fst).Pairwise (· < ·) ∧ l0 ≤ level
      ∧ level < l1) ∧
    (∃ (before : List (Nat × Nat)) (after : List (Nat × Nat)) (l0 : Nat) (v0 : Nat) (l1 : Nat) (v1 : Nat)
      (level : Nat), ((before ++ (l0, v0) :: (l1, v1) :: after).map Prod.fst).Pairwise (· < ·) ∧ l0 ≤ level
      ∧ level < l1 ∧ level = l0) ∧
    (∃ (before : List (Nat × Nat)) (after : List (Nat × Nat)) (l0 : Nat) (v0 : Nat) (l1 : Nat) (v1 : Nat)
      (level : Nat), ((before ++ (l0, v0) :: (l1, v1) :: after).map Prod.fst).Pairwise (· < ·) ∧ before = []
      ∧ level ≤ l0) ∧
    (∃ (before : List (Nat × Nat)) (after : List (Nat × Nat)) (l0 : Nat) (v0 : Nat) (l1 : Nat) (v1 : Nat)
      (level : Nat), ((before ++ (l0, v0) :: (l1, v1) :: after).map Prod.fst).Pairwise (· < ·) ∧ after = []
      ∧ l1 ≤ level) ∧
    (∃ (s : State) (f : Frame) (rest : List Frame) (table : Nat) (start : Nat) (count : Nat), s.Live ∧
      s.link.state = .inService ∧ s.link.inbound = f :: rest ∧ f.payload = .read table start count ∧
      s.link.queued .responder = none ∧ s.engine.freeze = false ∧ s.responder =
      { context := none, waitingBusy := none }) ∧
    (∃ (s : State) (f : Frame) (rest : List Frame) (table : Nat) (start : Nat) (count : Nat), s.Live ∧
      s.link.state = .inService ∧ s.link.inbound = f :: rest ∧ f.payload = .read table start count ∧
      s.link.queued .responder = none ∧ (s.engine.freeze = true ∨ s.responder.context.isSome = true)) ∧
    (∃ (s : State) (f : Frame) (rest : List Frame) (table : Nat) (start : Nat) (count : Nat) (e : TxEntry),
      s.Live ∧ s.link.state = .inService ∧ s.link.inbound = f :: rest ∧ f.payload = .read table start count
      ∧ s.link.queued .responder = some e ∧ (s.engine.freeze = true ∨ s.responder.context.isSome = true)) ∧
    (∃ (s : State) (f : Frame) (rest : List Frame) (table : Nat) (start : Nat) (count : Nat) (e : TxEntry),
      s.Live ∧ s.link.state = .inService ∧ s.link.inbound = f :: rest ∧ f.payload = .read table start count
      ∧ s.link.queued .responder = some e ∧ (s.engine.freeze = true ∨ s.responder.context.isSome = true) ∧
      s.responder.waitingBusy.isSome = true) ∧
    (∃ (s : State) (f : Frame) (rest : List Frame) (table : Nat) (start : Nat) (count : Nat) (e : TxEntry),
      s.Live ∧ s.link.state = .inService ∧ s.link.inbound = f :: rest ∧ f.payload = .read table start count
      ∧ s.link.queued .responder = some e ∧ s.engine.freeze = false ∧ s.responder.context = none) ∧
    (∃ (s : State) (f : Frame) (rest : List Frame) (table : Nat) (start : Nat) (count : Nat) (e : TxEntry),
      s.Live ∧ s.link.state = .inService ∧ s.link.inbound = f :: rest ∧ f.payload = .read table start count
      ∧ s.link.queued .responder = some e ∧
       let known : Prop := (ofCode tableCodes (BitVec.ofNat 8 table)).isSome = true ∧ table < 256
       s.engine.freeze = false ∧ s.responder.context = none ∧ ¬known) ∧
    (∃ (s : State) (x : Slots) (w : OnWire) (e : TxEntry) (n : _), s.Sends w e ∧ w.frame.payload.category =
      .service ∧ w.origin = .responder ∧ x.void = false ∧ s.responder.waitingBusy = some
      n) ∧
    (∃ (s : State) (x : Slots) (w : OnWire) (e : TxEntry) (n : _), s.Sends w e ∧ w.frame.payload.category =
      .service ∧ w.origin = .responder ∧ x.void = false ∧ s.responder.waitingBusy = some
      n ∧ x.accept = false) ∧
    (∃ (s : State) (x : Slots) (w : OnWire) (e : TxEntry), s.Sends w e ∧ w.frame.payload.category = .service
      ∧ w.origin = .responder ∧ x.void = false ∧
       let goesOn : Bool :=
       (match e.payload with
       | .data _ _ _ endFlag => x.accept && !endFlag
       | _ => true)
       let ctx : Option ServiceContext := (if goesOn then s.responder.context else none)
       s.responder.waitingBusy = none ∧ (∀ c, ctx = some c → c.lastBuilt = true ∨ s.engine.freeze = true ∨
         c.paused = true)) ∧
    (∃ (s : State) (x : Slots) (w : OnWire) (e : TxEntry), s.Sends w e ∧ w.frame.payload.category = .service
      ∧ w.origin = .responder ∧ x.void = false ∧
       let goesOn : Bool :=
       (match e.payload with
       | .data _ _ _ endFlag => x.accept && !endFlag
       | _ => true)
       let ctx : Option ServiceContext := (if goesOn then s.responder.context else none)
       s.responder.waitingBusy = none ∧ (∀ c, ctx = some c → c.lastBuilt = true ∨ s.engine.freeze = true ∨
         c.paused = true) ∧ x.accept = false ∧ s.responder.context.isSome = true) ∧
    (∃ (s : State) (x : Slots) (w : OnWire) (e : TxEntry), s.Sends w e ∧ w.frame.payload.category = .service
      ∧ w.origin = .responder ∧ x.void = false ∧
       let goesOn : Bool :=
       (match e.payload with
       | .data _ _ _ endFlag => x.accept && !endFlag
       | _ => true)
       let ctx : Option ServiceContext := (if goesOn then s.responder.context else none)
       s.responder.waitingBusy = none ∧ (∀ c, ctx = some c → c.lastBuilt = true ∨ s.engine.freeze = true ∨
         c.paused = true) ∧ s.engine.freeze = true ∧ ctx.isSome = true) ∧
    (∃ (s : State) (x : Slots) (w : OnWire) (e : TxEntry), s.Sends w e ∧ w.frame.payload.category = .service
      ∧ w.origin = .responder ∧ x.void = false ∧
       let goesOn : Bool :=
       (match e.payload with
       | .data _ _ _ endFlag => x.accept && !endFlag
       | _ => true)
       let ctx : Option ServiceContext := (if goesOn then s.responder.context else none)
       s.responder.waitingBusy = none ∧ (∀ c, ctx = some c → c.lastBuilt = true ∨ s.engine.freeze = true ∨
         c.paused = true) ∧ s.engine.freeze = false ∧ ctx.isSome = true) ∧
    (∃ (s : State) (x : Slots) (w : OnWire) (e : TxEntry) (c : _), s.Sends w e ∧ w.frame.payload.category =
      .service ∧ w.origin = .responder ∧ x.void = false ∧
       let goesOn : Bool :=
       (match e.payload with
       | .data _ _ _ endFlag => x.accept && !endFlag
       | _ => true)
       let ctx : Option ServiceContext := (if goesOn then s.responder.context else none)
       s.responder.waitingBusy = none ∧ ctx = some c ∧ c.lastBuilt = false ∧ s.engine.freeze = false ∧
         c.paused = false) ∧
    (∃ (s : State) (x : Slots) (w : OnWire) (e : TxEntry) (c : _), s.Sends w e ∧ w.frame.payload.category =
      .service ∧ w.origin = .responder ∧ x.void = false ∧
       let goesOn : Bool :=
       (match e.payload with
       | .data _ _ _ endFlag => x.accept && !endFlag
       | _ => true)
       let ctx : Option ServiceContext := (if goesOn then s.responder.context else none)
       s.responder.waitingBusy = none ∧ ctx = some c ∧ c.lastBuilt = false ∧ s.engine.freeze = false ∧
         c.paused = false ∧ e.payload = .busy) ∧
    (∃ (s : State) (x : Slots) (w : OnWire) (e : TxEntry) (table : Nat) (seq : Nat) (es : List Entry)
      (endFlag : Bool), s.Sends w e ∧ w.origin = .responder ∧ e.payload = .data table seq
      es endFlag ∧ x.void = true ∧ e.voids = 15 ∧ s.responder.waitingBusy = none) := by
  exact ⟨
    ⟨onGauge (onGauge live fun g => { g with periodTimer := some 600000000 }) fun g =>
      { g with state := .calling }, 1, by decide +kernel⟩,
    ⟨(onGauge live fun g => { g with periodTimer := some 600000000 }), 1, by decide +kernel⟩,
    ⟨{ (onMeter (onGauge live fun g => { g with periodTimer := some 600000000 }) fun m => { m with gau := { m.gau with reading := some 700 } }) with replica := Replica.wiped 0#16 },
      1, by decide +kernel⟩,
    ⟨(onMeter (onGauge live fun g => { g with periodTimer := some 600000000 }) fun m =>
      { m with gau := { m.gau with reading := some 700 } }), 1, by decide +kernel⟩,
    ⟨at' .inService cfgR, by decide +kernel⟩,
    ⟨at' .joining cfg, 1, by decide +kernel⟩,
    ⟨onGauge live fun g => { g with state := .calling }, 1, by decide +kernel⟩,
    ⟨(onMeter live fun m => { m with gau := { m.gau with reading := some 700 } }), 1, by decide +kernel⟩,
    ⟨live, 1, by decide +kernel⟩,
    ⟨onMeter { live with replica := Replica.wiped 0#16 } fun m =>
      { m with gau := { m.gau with reading := some 61 } }, 1, by decide +kernel⟩,
    ⟨onGauge (writing (.census .flow 1 none) 3 (.census true 101) rep) fun g =>
      { g with state := .calling, periodTimer := some 600000000 },
      { replica := rep, frame := { frame (.census .flow 1 none) with sender := 3 }, result := .census true 101, limit := false },
      1, none, true, 101, by decide +kernel⟩,
    ⟨onGauge (writing (.census .flow 1 none) 3 (.census false 101) rep) fun g =>
      { g with state := .calling, periodTimer := some 600000000 },
      { replica := rep, frame := { frame (.census .flow 1 none) with sender := 3 }, result := .census false 101, limit := false },
      1, none, false, 101, by decide +kernel⟩,
    ⟨onGauge (writing (.gauge gaugeReq) 3 (.gauge true false (some 1000) false) rep) fun g =>
      { g with state := .sending, periodTimer := some 600000000 },
      { replica := rep, frame := { frame (.gauge gaugeReq) with sender := 3 }, result := .gauge true false (some 1000) false, limit := false },
      gaugeReq, by decide +kernel⟩,
    ⟨onGauge (writing (.gauge gaugeReq) 3 (.noChange) rep) fun g =>
      { g with state := .sending, periodTimer := some 600000000 },
      { replica := rep, frame := { frame (.gauge gaugeReq) with sender := 3 }, result := .noChange, limit := false },
      gaugeReq, by decide +kernel⟩,
    ⟨onGauge (sending live .gauge (sentBy 3 (.gauge gaugeReq)) 15) fun g => { g with state := .sending },
      ⟨false, false, true⟩, { origin := .gauge, frame := sentBy 3 (.gauge gaugeReq) },
      { origin := .gauge, dest := 0, payload := .gauge gaugeReq, voids := 15, entered := 0 },
      by decide +kernel⟩,
    ⟨onGauge (sending live .gauge (sentBy 3 (.census .flow 1 none)) 15) fun g =>
      { g with state := .calling }, ⟨false, false, true⟩,
      { origin := .gauge, frame := sentBy 3 (.census .flow 1 none) },
      { origin := .gauge, dest := 0, payload := .census .flow 1 none, voids := 15, entered := 0 },
      by decide +kernel⟩,
    ⟨[], [], 1, 100, 10, 205, 5, by decide +kernel⟩,
    ⟨[(0, 7)], [(12, 300)], 1, 100, 10, 205, 1, by decide +kernel⟩,
    ⟨[], [], 1, 100, 10, 205, 0, by decide +kernel⟩,
    ⟨[], [], 1, 100, 10, 205, 11, by decide +kernel⟩,
    ⟨inbox live { frame (.read 2 3 64) with dest := 3 }, { frame (.read 2 3 64) with dest := 3 }, [], 2, 3,
      64, by decide +kernel⟩,
    ⟨onEngine (inbox live { frame (.read 2 3 64) with dest := 3 }) fun e => { e with freeze := true },
      { frame (.read 2 3 64) with dest := 3 }, [], 2, 3, 64, by decide +kernel⟩,
    ⟨{ (onEngine live fun e => { e with freeze := true }) with link := (inbox (queueing live .responder .busy) ({ frame (.read 2 3 64) with dest := 3 })).link },
      { frame (.read 2 3 64) with dest := 3 }, [], 2, 3, 64,
      { origin := .responder, dest := 0, payload := .busy, voids := 0, entered := 0 }, by decide +kernel⟩,
    ⟨{ ({ live with link := (inbox (queueing live .responder .busy) ({ frame (.read 2 3 64) with dest := 3 })).link }) with responder := { context := some cutRead, waitingBusy := some 9 } },
      { frame (.read 2 3 64) with dest := 3 }, [], 2, 3, 64,
      { origin := .responder, dest := 0, payload := .busy, voids := 0, entered := 0 }, by decide +kernel⟩,
    ⟨{ live with link := (inbox (queueing live .responder .busy) ({ frame (.read 2 3 64) with dest := 3 })).link },
      { frame (.read 2 3 64) with dest := 3 }, [], 2, 3, 64,
      { origin := .responder, dest := 0, payload := .busy, voids := 0, entered := 0 }, by decide +kernel⟩,
    ⟨{ live with link := (inbox (queueing live .responder .busy) ({ frame (.read 9 3 65) with dest := 3 })).link },
      { frame (.read 9 3 65) with dest := 3 }, [], 9, 3, 65,
      { origin := .responder, dest := 0, payload := .busy, voids := 0, entered := 0 }, by decide +kernel⟩,
    ⟨{ (responding live someData 0) with responder := { context := some cutRead, waitingBusy := some 9 } },
      ⟨true, false, false⟩, responderWire someData, responderEntry someData 0, 9, by decide +kernel⟩,
    ⟨{ (responding live someData 0) with responder := { context := some cutRead, waitingBusy := some 9 } },
      ⟨false, false, false⟩, responderWire someData, responderEntry someData 0, 9, by decide +kernel⟩,
    ⟨responding live lastData 0, ⟨true, false, false⟩, responderWire lastData, responderEntry lastData 0,
      by decide +kernel⟩,
    ⟨responding live someData 0, ⟨false, false, false⟩, responderWire someData, responderEntry someData 0,
      by decide +kernel⟩,
    ⟨onEngine (responding live someData 0) fun e => { e with freeze := true }, ⟨true, false, false⟩,
      responderWire someData, responderEntry someData 0, by decide +kernel⟩,
    ⟨cutStream (responding live someData 0), ⟨true, false, false⟩, responderWire someData, responderEntry
      someData 0, by decide +kernel⟩,
    ⟨responding live someData 0, ⟨true, false, false⟩, responderWire someData, responderEntry someData 0,
      { cutRead with paused := false }, by decide +kernel⟩,
    ⟨responding live .busy 0, ⟨false, false, false⟩, responderWire .busy, responderEntry .busy 0,
      { cutRead with paused := false }, by decide +kernel⟩,
    ⟨responding live someData 15, ⟨false, false, true⟩, responderWire someData, responderEntry someData 15,
      2, 100, [], false, by decide +kernel⟩⟩

theorem test_witness_supplyDropAndReset :
    (∃ (s : State) (held : Nat), s.Live ∧ s.meter.cells.svm.passes .svm true held = true) ∧
    (∃ (inputs : BitVec 8), inputs.getLsbD 6 = false) ∧
    (∃ (inputs : BitVec 8), inputs.getLsbD 6 = true) ∧
    (∃ (s : State), s.console.raised = [] ∧ s.console.request = [] ∧ s.console.replies = []) ∧
    (∃ (s : State) (inputs : BitVec 8), s.console.raised = [] ∧ s.console.resetPending = true ∧
      s.engine.writing = none ∧ inputs.getLsbD 6 = false) := by
  exact ⟨
    ⟨onSupply (onCells live fun c => { c with svm := { cell false with threshold := 2 } }) fun x =>
      { x with record := some record3, phase := .running }, 2, by decide +kernel⟩,
    ⟨0#8, by decide +kernel⟩,
    ⟨64#8, by decide +kernel⟩,
    ⟨live, by decide +kernel⟩,
    ⟨onConsole live fun c => { c with resetPending := true }, 0#8, by decide +kernel⟩⟩

theorem test_witness_consoleTransactions :
    (∃ (c : Instr) (code : Byte) (body : List Byte) (s : State), requestOf c = some (code, body) ∧ s.Live ∧
      s.console.request = [] ∧ s.console.replies ≠ []) ∧
    (∃ (code : Byte) (s : State), s.PortFree ∧ 0x10 < code.toNat) ∧
    (∃ (s : State) (r : Reply), s.Live ∧ s.console.request = [] ∧ s.console.replies = [r]) ∧
    (∃ (s : State) (r : Reply) (clocked : Nat), s.Live ∧ s.console.resetPending = false ∧ s.console.replies
      = [r] ∧ r.bytes.length ≤ clocked) ∧
    (∃ (s : State) (b : Byte), s.PortFree ∧ s.console.resetPending = false ∧ s.console.noticeClocked = false
      ∧ b ≠ 0) := by
  exact ⟨
    ⟨.status [], 5, [], (onConsole live fun c => { c with replies := [noticeReply] }), by decide +kernel⟩,
    ⟨0x11, live, by decide +kernel⟩,
    ⟨(onConsole live fun c => { c with replies := [noticeReply] }), noticeReply, by decide +kernel⟩,
    ⟨(onConsole live fun c => { c with replies := [noticeReply] }), noticeReply, 3, by decide +kernel⟩,
    ⟨live, 7, by decide +kernel⟩⟩

theorem test_witness_setUpRequests :
    (∃ (s : State) (body : List Byte) (c : RawConfig), s.PortFree ∧ parseAll parseConfig body = some c) ∧
    (∃ (s : State) (body : List Byte), s.PortFree ∧ parseAll parseConfig body = none) ∧
    (∃ (s : State), s.PortFree ∧ s.link.state ≠ .offline) ∧
    (∃ (s : State), s.PortFree ∧ s.link.state = .offline ∧ s.console.config = none) ∧
    (∃ (s : State) (c : _), s.PortFree ∧ s.link.state = .offline ∧ s.console.config = some c ∧ s.wiped =
      false) ∧
    (∃ (s : State) (c : _), s.PortFree ∧ s.link.state = .offline ∧ s.console.config = some c ∧ s.wiped =
      true) ∧
    (∃ (s : State) (c : _), s.PortFree ∧ s.link.state = .offline ∧ s.console.config = some c ∧ s.wiped =
      true ∧ s.meter.running = true) ∧
    (∃ (s : State) (c : _), s.PortFree ∧ s.link.state = .offline ∧ s.console.config = some c ∧ s.wiped =
      true ∧ s.meter.running = false) ∧
    (∃ (s : State) (body : List Byte), s.PortFree ∧ body.length = 8 ∧ s.link.state ≠ .offline) ∧
    (∃ (s : State) (body : List Byte), s.PortFree ∧ body.length = 8 ∧ s.link.state = .offline) := by
  exact ⟨
    ⟨State.reset, configBody, rawConfig, by decide +kernel⟩,
    ⟨State.reset, [1], by decide +kernel⟩,
    ⟨live, by decide +kernel⟩,
    ⟨State.reset, by decide +kernel⟩,
    ⟨{ (at' .offline cfg) with wiped := false }, cfg, by decide +kernel⟩,
    ⟨(at' .offline cfg), cfg, by decide +kernel⟩,
    ⟨{ (at' .offline cfg) with meter := live.meter }, cfg, by decide +kernel⟩,
    ⟨onCells { (at' .offline cfg) with meter := State.reset.meter } fun c => { c with a := cell true }, cfg,
      by decide +kernel⟩,
    ⟨live, List.replicate 8 1, by decide +kernel⟩,
    ⟨State.reset, List.replicate 8 1, by decide +kernel⟩⟩

theorem test_witness_reportRequests :
    (∃ (s : State), s.PortFree) ∧
    (∃ (s : State) (n : Notice) (rest : List Notice), s.PortFree ∧ s.console.notices = n :: rest) ∧
    (∃ (s : State), s.PortFree ∧ s.console.notices = []) ∧
    (∃ (s : State) (table : Byte) (key : Nat), s.PortFree ∧ key < 2 ^ 32 ∧ ofCode tableCodes table = none) ∧
    (∃ (s : State) (table : Byte) (key : Nat), s.PortFree ∧ key < 2 ^ 32 ∧ ofCode tableCodes table = some
      .site) ∧
    (∃ (s : State) (table : Byte) (key : Nat) (k : _), s.PortFree ∧ key < 2 ^ 32 ∧ ofCode tableCodes table =
      some k ∧ k ≠ .site) := by
  exact ⟨
    ⟨live, by decide +kernel⟩,
    ⟨onConsole live fun c => { c with notices := [resumeNotice] }, resumeNotice, [], by decide +kernel⟩,
    ⟨live, by decide +kernel⟩,
    ⟨live, 0, 3, by decide +kernel⟩,
    ⟨live, 1, 77, by decide +kernel⟩,
    ⟨live, 2, 31, .stations, by decide +kernel⟩⟩

theorem test_witness_attendantRequests :
    (∃ (x : (List Byte → Instr) × Byte × Nat) (body : List Byte) (s : State), x ∈ [(Instr.preset, (0x08 :
      Byte), 4), (.keyedId, 0x09, 2), (.cancel, 0x0A, 0), (.delivery, 0x0D, 5)] ∧ s.PortFree ∧ body.length ≠
      x.2.2) ∧
    (∃ (x : (List Byte → Instr) × Byte × Nat) (body : List Byte) (s : State), x ∈ [(Instr.preset, (0x08 :
      Byte), 4), (.keyedId, 0x09, 2), (.cancel, 0x0A, 0), (.delivery, 0x0D, 5)] ∧ s.PortFree ∧ body.length =
      x.2.2 ∧ s.link.state = .offline) ∧
    (∃ (x : (List Byte → Instr) × Byte × Nat) (body : List Byte) (s : State), x ∈ [(Instr.preset, (0x08 :
      Byte), 4), (.keyedId, 0x09, 2), (.cancel, 0x0A, 0), (.delivery, 0x0D, 5)] ∧ s.PortFree ∧ body.length =
      x.2.2 ∧ s.link.state = .offline ∧ x.2.2 = 5) ∧
    (∃ (s : State) (v : Nat), s.PortFree ∧ s.link.state ≠ .offline ∧ v < 2 ^ 32) ∧
    (∃ (s : State) (n : Nat) (x : _), s.PortFree ∧ s.link.state ≠ .offline ∧ n < 2 ^ 16 ∧
       let order := [(badRequestReply, decide (n = 0) || decide (n = 65535)), (refusedReply .wrongRole,
         s.role != some .dispense), (wrongStateReply, s.meter.cells.cpl.output ||
         !s.ident.state.takesKeyed), (refusedReply .keyedNotPermitted, !s.replica.site.keyed)]
       order.find? Prod.snd = some x) ∧
    (∃ (s : State) (n : Nat), s.PortFree ∧ s.link.state ≠ .offline ∧ n < 2 ^ 16 ∧
       let order := [(badRequestReply, decide (n = 0) || decide (n = 65535)), (refusedReply .wrongRole,
         s.role != some .dispense), (wrongStateReply, s.meter.cells.cpl.output ||
         !s.ident.state.takesKeyed), (refusedReply .keyedNotPermitted, !s.replica.site.keyed)]
       order.find? Prod.snd = none) ∧
    (∃ (s : State) (n : Nat), s.PortFree ∧ s.link.state ≠ .offline ∧ n < 2 ^ 16 ∧
       let order := [(badRequestReply, decide (n = 0) || decide (n = 65535)), (refusedReply .wrongRole,
         s.role != some .dispense), (wrongStateReply, s.meter.cells.cpl.output ||
         !s.ident.state.takesKeyed), (refusedReply .keyedNotPermitted, !s.replica.site.keyed)]
       order.find? Prod.snd = none ∧
       let m := s.replica.machine? n
       let found := firstReason [(.unknownMachine, m.isNone), (.misgrade, (s.hose.bind s.replica.tank?).map
         TankEntry.grade != m.map MachineEntry.grade), (.barred, foundAnd MachineEntry.barred m),
         (.heldElsewhere, foundAnd (fun x => x.hold.isSome) m)]
       found = some .unknownMachine) ∧
    (∃ (s : State) (n : Nat), s.PortFree ∧ s.link.state ≠ .offline ∧ n < 2 ^ 16 ∧
       let order := [(badRequestReply, decide (n = 0) || decide (n = 65535)), (refusedReply .wrongRole,
         s.role != some .dispense), (wrongStateReply, s.meter.cells.cpl.output ||
         !s.ident.state.takesKeyed), (refusedReply .keyedNotPermitted, !s.replica.site.keyed)]
       order.find? Prod.snd = none ∧
       let m := s.replica.machine? n
       let found := firstReason [(.unknownMachine, m.isNone), (.misgrade, (s.hose.bind s.replica.tank?).map
         TankEntry.grade != m.map MachineEntry.grade), (.barred, foundAnd MachineEntry.barred m),
         (.heldElsewhere, foundAnd (fun x => x.hold.isSome) m)]
       found = none ∧ s.activity.state = .faulted) ∧
    (∃ (s : State) (n : Nat), s.PortFree ∧ s.link.state ≠ .offline ∧ n < 2 ^ 16 ∧
       let order := [(badRequestReply, decide (n = 0) || decide (n = 65535)), (refusedReply .wrongRole,
         s.role != some .dispense), (wrongStateReply, s.meter.cells.cpl.output ||
         !s.ident.state.takesKeyed), (refusedReply .keyedNotPermitted, !s.replica.site.keyed)]
       order.find? Prod.snd = none ∧
       let m := s.replica.machine? n
       let found := firstReason [(.unknownMachine, m.isNone), (.misgrade, (s.hose.bind s.replica.tank?).map
         TankEntry.grade != m.map MachineEntry.grade), (.barred, foundAnd MachineEntry.barred m),
         (.heldElsewhere, foundAnd (fun x => x.hold.isSome) m)]
       found = none ∧ s.activity.state = .awaitingId ∧ s.engine.admitted = false) ∧
    (∃ (s : State) (n : Nat), s.PortFree ∧ s.link.state ≠ .offline ∧ n < 2 ^ 16 ∧
       let order := [(badRequestReply, decide (n = 0) || decide (n = 65535)), (refusedReply .wrongRole,
         s.role != some .dispense), (wrongStateReply, s.meter.cells.cpl.output ||
         !s.ident.state.takesKeyed), (refusedReply .keyedNotPermitted, !s.replica.site.keyed)]
       order.find? Prod.snd = none ∧
       let m := s.replica.machine? n
       let found := firstReason [(.unknownMachine, m.isNone), (.misgrade, (s.hose.bind s.replica.tank?).map
         TankEntry.grade != m.map MachineEntry.grade), (.barred, foundAnd MachineEntry.barred m),
         (.heldElsewhere, foundAnd (fun x => x.hold.isSome) m)]
       found = none ∧ s.activity.state = .awaitingId ∧ s.engine.admitted = true ∧ s.supply.record.isSome =
         true) ∧
    (∃ (s : State) (n : Nat), s.PortFree ∧ s.link.state ≠ .offline ∧ n < 2 ^ 16 ∧
       let order := [(badRequestReply, decide (n = 0) || decide (n = 65535)), (refusedReply .wrongRole,
         s.role != some .dispense), (wrongStateReply, s.meter.cells.cpl.output ||
         !s.ident.state.takesKeyed), (refusedReply .keyedNotPermitted, !s.replica.site.keyed)]
       order.find? Prod.snd = none ∧
       let m := s.replica.machine? n
       let found := firstReason [(.unknownMachine, m.isNone), (.misgrade, (s.hose.bind s.replica.tank?).map
         TankEntry.grade != m.map MachineEntry.grade), (.barred, foundAnd MachineEntry.barred m),
         (.heldElsewhere, foundAnd (fun x => x.hold.isSome) m)]
       found = none ∧ s.activity.state = .awaitingId ∧ s.engine.admitted = true ∧ s.supply.record = none) ∧
    (∃ (s : State), s.PortFree ∧ s.link.state ≠ .offline ∧ s.role = some .office) ∧
    (∃ (s : State), s.PortFree ∧ s.link.state ≠ .offline ∧ s.role ≠ some .office ∧ s.activity.state ∉
      [ActState.awaitingId, .opening, .flowing, .slowing]) ∧
    (∃ (s : State), s.PortFree ∧ s.link.state ≠ .offline ∧ s.role ≠ some .office ∧ s.activity.state =
      .awaitingId) ∧
    (∃ (s : State) (r : _), s.PortFree ∧ s.link.state ≠ .offline ∧ s.role ≠ some .office ∧ s.activity.state
      = .opening ∧ s.activity.pendingEnd = some r) ∧
    (∃ (s : State), s.PortFree ∧ s.link.state ≠ .offline ∧ s.role ≠ some .office ∧ s.activity.state =
      .opening ∧ s.activity.pendingEnd = none ∧ s.link.withdrawable .activity s.openKind = false) ∧
    (∃ (s : State), s.PortFree ∧ s.link.state ≠ .offline ∧ s.role ≠ some .office ∧ s.activity.state =
      .opening ∧ s.activity.pendingEnd = none ∧ s.link.withdrawable .activity s.openKind = false ∧
      s.link.onWire .activity = true) ∧
    (∃ (s : State), s.PortFree ∧ s.link.state ≠ .offline ∧ s.role ≠ some .office ∧ s.activity.state =
      .opening ∧ s.activity.pendingEnd = none ∧ s.link.withdrawable .activity s.openKind = true) ∧
    (∃ (s : State), s.PortFree ∧ s.link.state ≠ .offline ∧ s.role ≠ some .office ∧ (s.activity.state =
      .flowing ∨ s.activity.state = .slowing)) ∧
    (∃ (s : State) (n : Nat) (v : Nat) (x : _), s.PortFree ∧ s.link.state ≠ .offline ∧ n < 2 ^ 8 ∧ v < 2 ^
      32 ∧
       let order := [(badRequestReply, !within 1 8 n || !within 1000 999999 v), (refusedReply .wrongRole,
         s.role != some .receipt), (refusedReply .notServed, !tankInSet (s.served.getD 0) n),
         (wrongStateReply, s.activity.state != .idle || !s.meter.cells.dhs.output)]
       order.find? Prod.snd = some x) ∧
    (∃ (s : State) (n : Nat) (v : Nat), s.PortFree ∧ s.link.state ≠ .offline ∧ n < 2 ^ 8 ∧ v < 2 ^ 32 ∧
       let order := [(badRequestReply, !within 1 8 n || !within 1000 999999 v), (refusedReply .wrongRole,
         s.role != some .receipt), (refusedReply .notServed, !tankInSet (s.served.getD 0) n),
         (wrongStateReply, s.activity.state != .idle || !s.meter.cells.dhs.output)]
       order.find? Prod.snd = none) ∧
    (∃ (s : State) (n : Nat) (v : Nat), s.PortFree ∧ s.link.state ≠ .offline ∧ n < 2 ^ 8 ∧ v < 2 ^ 32 ∧
       let order := [(badRequestReply, !within 1 8 n || !within 1000 999999 v), (refusedReply .wrongRole,
         s.role != some .receipt), (refusedReply .notServed, !tankInSet (s.served.getD 0) n),
         (wrongStateReply, s.activity.state != .idle || !s.meter.cells.dhs.output)]
       let grade := (s.replica.tank? n).map TankEntry.grade
       order.find? Prod.snd = none ∧ (s.ident.state = .identified ∧ ∃ c, s.ident.context = some c ∧
         c.gradePending = true ∧ grade ≠ c.result.map IdResult.grade)) ∧
    (∃ (s : State) (n : Nat) (v : Nat), s.PortFree ∧ s.link.state ≠ .offline ∧ n < 2 ^ 8 ∧ v < 2 ^ 32 ∧
       let order := [(badRequestReply, !within 1 8 n || !within 1000 999999 v), (refusedReply .wrongRole,
         s.role != some .receipt), (refusedReply .notServed, !tankInSet (s.served.getD 0) n),
         (wrongStateReply, s.activity.state != .idle || !s.meter.cells.dhs.output)]
       let grade := (s.replica.tank? n).map TankEntry.grade
       order.find? Prod.snd = none ∧ (s.ident.state = .identified ∧ ∃ c, s.ident.context = some c ∧
         c.gradePending = true ∧ grade = c.result.map IdResult.grade ∧ s.engine.admitted = false)) ∧
    (∃ (s : State) (n : Nat) (v : Nat), s.PortFree ∧ s.link.state ≠ .offline ∧ n < 2 ^ 8 ∧ v < 2 ^ 32 ∧
       let order := [(badRequestReply, !within 1 8 n || !within 1000 999999 v), (refusedReply .wrongRole,
         s.role != some .receipt), (refusedReply .notServed, !tankInSet (s.served.getD 0) n),
         (wrongStateReply, s.activity.state != .idle || !s.meter.cells.dhs.output)]
       let grade := (s.replica.tank? n).map TankEntry.grade
       order.find? Prod.snd = none ∧ (s.ident.state = .identified ∧ ∃ c, s.ident.context = some c ∧
         c.gradePending = true ∧ grade = c.result.map IdResult.grade ∧ s.engine.admitted = true ∧
         s.supply.record.isSome = true)) ∧
    (∃ (s : State) (n : Nat) (v : Nat), s.PortFree ∧ s.link.state ≠ .offline ∧ n < 2 ^ 8 ∧ v < 2 ^ 32 ∧
       let order := [(badRequestReply, !within 1 8 n || !within 1000 999999 v), (refusedReply .wrongRole,
         s.role != some .receipt), (refusedReply .notServed, !tankInSet (s.served.getD 0) n),
         (wrongStateReply, s.activity.state != .idle || !s.meter.cells.dhs.output)]
       let grade := (s.replica.tank? n).map TankEntry.grade
       order.find? Prod.snd = none ∧ (s.ident.state = .identified ∧ ∃ c, s.ident.context = some c ∧
         c.gradePending = true ∧ grade = c.result.map IdResult.grade ∧ s.engine.admitted = true ∧
         s.supply.record = none)) := by
  exact ⟨
    ⟨(.cancel, 0x0A, 0), [1], live, by refine ⟨?_,?_,?_⟩ <;> first | decide +kernel | simp⟩,
    ⟨(.keyedId, 0x09, 2), [7, 0], (at' .offline cfg),
      by refine ⟨?_,?_,?_,?_⟩ <;> first | decide +kernel | simp⟩,
    ⟨(.delivery, 0x0D, 5), [1, 232, 3, 0, 0], (at' .offline cfg),
      by refine ⟨?_,?_,?_,?_,?_⟩ <;> first | decide +kernel | simp⟩,
    ⟨live, 99999, by decide +kernel⟩,
    ⟨live, 65535, (badRequestReply, true), by decide +kernel⟩,
    ⟨live, 7, by decide +kernel⟩,
    ⟨live, 8, by decide +kernel⟩,
    ⟨filling .faulted, 7, by decide +kernel⟩,
    ⟨(onActivity (onEngine live fun e => { e with admitted := false }) fun a =>
      { a with state := .awaitingId }), 7, by decide +kernel⟩,
    ⟨(onActivity (onSupply live fun x => { x with record := some record3 }) fun a =>
      { a with state := .awaitingId }), 7, by decide +kernel⟩,
    ⟨(onActivity live fun a => { a with state := .awaitingId }), 7, by decide +kernel⟩,
    ⟨at' .inService { cfg with role := .office }, by decide +kernel⟩,
    ⟨live, by decide +kernel⟩,
    ⟨(onActivity live fun a => { a with state := .awaitingId }), by decide +kernel⟩,
    ⟨onActivity (filling .opening) fun a => { a with pendingEnd := some .hung }, .hung, by decide +kernel⟩,
    ⟨filling .opening, by decide +kernel⟩,
    ⟨sending (filling .opening) .activity (sentBy 3 (.openFill openReq)) 0, by decide +kernel⟩,
    ⟨onLink (sending (filling .opening) .activity (sentBy 3 (.openFill openReq)) 0) fun l =>
      { l with wire := none }, by decide +kernel⟩,
    ⟨filling .slowing, by decide +kernel⟩,
    ⟨(onCells (at' .inService cfgR) fun c => { c with dhs := cell true }), 9, 1000, (badRequestReply, true),
      by decide +kernel⟩,
    ⟨(onCells (at' .inService cfgR) fun c => { c with dhs := cell true }), 2, 1000,
      by refine ⟨?_,?_,?_,?_,?_⟩ <;> decide +kernel⟩,
    ⟨onIdent (onCells (at' .inService cfgR) fun c => { c with dhs := cell true }) fun x =>
      { x with state := .identified, context := some { inlet with gradePending := true, result := some { heldResult with grade := 3 } } },
      1, 1000,
      by refine ⟨?_,?_,?_,?_,?_,?_⟩ <;> decide +kernel⟩,
    ⟨onIdent (onEngine (onCells (at' .inService cfgR) fun c => { c with dhs := cell true }) fun e =>
      { e with admitted := false }) fun x =>
      { x with state := .identified, context := some { inlet with gradePending := true, result := some { heldResult with grade := 2 } } },
      1, 1000,
      by refine ⟨?_,?_,?_,?_,?_,?_⟩ <;> decide +kernel⟩,
    ⟨onIdent (onSupply (onCells (at' .inService cfgR) fun c => { c with dhs := cell true }) fun x =>
      { x with record := some record3 }) fun x =>
      { x with state := .identified, context := some { inlet with gradePending := true, result := some { heldResult with grade := 2 } } },
      1, 1000,
      by refine ⟨?_,?_,?_,?_,?_,?_⟩ <;> decide +kernel⟩,
    ⟨onIdent (onCells (at' .inService cfgR) fun c => { c with dhs := cell true }) fun x =>
      { x with state := .identified, context := some { inlet with gradePending := true, result := some { heldResult with grade := 2 } } },
      1, 1000,
      by refine ⟨?_,?_,?_,?_,?_,?_⟩ <;> decide +kernel⟩⟩

theorem test_witness_clearFaultAndLeave :
    (∃ (s : State), s.PortFree ∧ s.link.state = .faulted ∧ s.activity.state ≠ .faulted) ∧
    (∃ (s : State), s.PortFree ∧ s.link.state ≠ .faulted ∧ s.activity.state ≠ .faulted) ∧
    (∃ (s : State), s.PortFree ∧ s.link.state ≠ .faulted ∧ s.activity.state = .faulted ∧ s.meter.episode =
      true) ∧
    (∃ (s : State), s.PortFree ∧ s.link.state ≠ .faulted ∧ s.activity.state = .faulted ∧ s.meter.episode =
      false) ∧
    (∃ (s : State), s.PortFree ∧ s.link.state = .faulted ∧ s.activity.state = .faulted) ∧
    (∃ (s : State), s.PortFree ∧ s.link.state = .faulted ∧ s.activity.state = .faulted ∧ s.meter.episode =
      true) ∧
    (∃ (s : State) (x : _), s.PortFree ∧
       let order := [(refusedReply .notInService, s.link.state != .inService || !s.engine.admitted),
         (wrongStateReply, s.engine.leavePending), (wrongStateReply, s.activity.state != .idle),
         (refusedReply .recoveryPending, s.supply.record.isSome)]
       order.find? Prod.snd = some x) ∧
    (∃ (s : State), s.PortFree ∧
       let order := [(refusedReply .notInService, s.link.state != .inService || !s.engine.admitted),
         (wrongStateReply, s.engine.leavePending), (wrongStateReply, s.activity.state != .idle),
         (refusedReply .recoveryPending, s.supply.record.isSome)]
       order.find? Prod.snd = none ∧ s.link.queued .membership = none) := by
  exact ⟨
    ⟨at' .faulted cfg, by decide +kernel⟩,
    ⟨live, by decide +kernel⟩,
    ⟨onMeter (filling .faulted) fun m => { m with episode := true }, by decide +kernel⟩,
    ⟨filling .faulted, by decide +kernel⟩,
    ⟨{ (at' .faulted cfg) with activity := (filling .faulted).activity }, by decide +kernel⟩,
    ⟨onMeter { (at' .faulted cfg) with activity := (filling .faulted).activity } fun m =>
      { m with episode := true }, by decide +kernel⟩,
    ⟨at' .listening cfg, (refusedReply .notInService, true), by decide +kernel⟩,
    ⟨live, by decide +kernel⟩⟩

/-! ## Witnesses of the invariants and of the round trips -/

/-- A closing frame is applied at a station with an open fill. -/
def closingNow : State :=
  { inbox { live with replica := opened } (sentBy 3 (.close closing)) with pending := [.closeFill] }

theorem test_witness_stepKeepsTablesLegal :
    ∃ s t : State, s.TablesLegal ∧ (∀ a ∈ s.engine.join, ∀ r ∈ a.replica?, r.Legal)
      ∧ step s = .next t ∧ t.engine.writing.isSome = true := by
  obtain ⟨t, h, g⟩ := next_of_answers (o := step closingNow)
    (p := fun t => t.engine.writing.isSome) (by decide +kernel)
  exact ⟨closingNow, t, ⟨by decide +kernel, of_none (by decide +kernel)⟩, of_none (by decide +kernel), h, g⟩

theorem test_witness_stepKeepsQueuesBounded :
    ∃ s t : State, s.QueuesBounded ∧ step s = .next t ∧ t.link.inbound ≠ s.link.inbound := by
  obtain ⟨t, h, g⟩ := next_of_answers (o := step closingNow)
    (p := fun t => t.link.inbound.isEmpty) (by decide +kernel)
  refine ⟨closingNow, t, by decide +kernel, h, ?_⟩
  rw [List.isEmpty_iff.mp g]
  decide +kernel

/-- A fill in FLOWING with its outputs requested. -/
def flowing : State :=
  { filling .flowing with outputs := { pump := true, vmain := true, vtrim := true }
                          pending := [.nozFall 5000] }

theorem test_witness_stepKeepsValvesFollowing :
    ∃ s t : State, s.ValvesFollow ∧ step s = .next t ∧ s.pump = true ∧ t.pump = false := by
  obtain ⟨t, h, g⟩ := next_of_answers
    (o := step (onCells flowing fun c => { c with noz := cell true }))
    (p := fun t => !t.pump) (by decide +kernel)
  exact ⟨_, t, by decide +kernel, h, by decide +kernel, by simpa using g⟩

theorem test_witness_outputsAreGuarded :
    ∃ s : State, s.ValvesFollow ∧ s.pump = true ∧ s.vmain = true ∧ s.vtrim = true :=
  ⟨flowing, by decide +kernel⟩

theorem test_witness_commandsKeepOtherState :
    ∃ (c : Instr) (s t : State), exec c s = .next t ∧ t.link.inbound ≠ s.link.inbound := by
  obtain ⟨t, h, g⟩ := next_of_answers (o := exec .closeFill closingNow)
    (p := fun t => t.link.inbound.isEmpty) (by decide +kernel)
  refine ⟨_, _, t, h, ?_⟩
  rw [List.isEmpty_iff.mp g]
  decide +kernel

theorem test_witness_payloadRoundTrip :
    (∃ p : Payload, p.fits = true ∧ p = .close closing) ∧
    (∃ p : Payload, p.fits = true ∧ p = .read 255 (2 ^ 32 - 1) 255) ∧
    (∃ p : Payload, p.fits = true ∧ p = .unknown 4 0x77 [1]) ∧
    (∃ p : Payload, p.fits = true ∧ p = .snap [.station entry3, .tank tank1]) :=
  ⟨⟨_, by decide +kernel, rfl⟩, ⟨_, by decide +kernel, rfl⟩, ⟨_, by decide +kernel, rfl⟩,
    ⟨_, by decide +kernel, rfl⟩⟩

theorem test_witness_frameRoundTrip :
    (∃ f : Frame, f.fits = true ∧ f.payload = .close closing) ∧
    (∃ f : Frame, f.fits = true ∧ f.dest = 31 ∧ f.payload = .busy) :=
  ⟨⟨sentBy 3 (.close closing), by decide +kernel⟩,
    ⟨{ sentBy 31 .busy with dest := 31, seq16 := 0 }, by decide +kernel⟩⟩

/-! ## Well-formed commands: an ill-formed term for each check, refused -/

/-- A body longer than a request can carry. -/
def longBody : List Byte := List.replicate 1025 0

theorem test_wf_refuses_link_commands :
    [Instr.frameStart 12 [0x40] false, .numberClash [true, true], .frameAbandoned [], .truncated [],
     .replicaWindow (wireBits (frame (.found 9 0))) ⟨true, false, false⟩,
     .foundingWindow (wireBits (frame (.stop 5))) ⟨true, false, false⟩,
     .serviceWindow (wireBits (frame (.stop 5))) ⟨true, false, false⟩, .censusSlotsEnd 1,
     .undelivered ⟨true, true, false⟩, .receiveFailure [] ⟨true, false, false⟩].all
      (fun c => !c.wf) = true := by decide +kernel

theorem test_wf_refuses_long_bodies :
    [Instr.configure longBody, .start longBody, .reset longBody, .wipe longBody, .status longBody,
     .notice longBody, .consoleRead longBody, .preset longBody, .keyedId longBody, .cancel longBody,
     .estop longBody, .consoleResume longBody, .delivery longBody, .gaugeNow longBody,
     .clearFault longBody, .consoleLeave longBody, .unknownRequestCode 0x77 longBody].all
      (fun c => !c.wf) = true := by decide +kernel

theorem test_wf_refuses_other_commands :
    [Instr.filterInputChange .a 0, .selRise 0 [5, 0, 0] 0, .unknownRequestCode 0 [],
     .unknownRequestCode 0x10 []].all (fun c => !c.wf) = true := by decide +kernel

theorem test_wf_accepts :
    [Instr.frameStart 12 [0x42] false, .numberClash [false], .frameAbandoned (List.replicate 6 true),
     .truncated (List.replicate 12 true), .replicaWindow (wireBits (frame (.stop 5))) ⟨true, false, false⟩,
     .foundingWindow (wireBits { frame (.found 9 0) with seq16 := 0 }) ⟨false, false, false⟩,
     .serviceWindow [] ⟨true, false, false⟩, .censusSlotsEnd 2, .undelivered ⟨false, false, true⟩,
     .receiveFailure (wireBits (frame (.stop 5))) ⟨true, false, false⟩, .filterInputChange .a 1,
     .selRise 3 [5, 1, 0] 0, .status [], .unknownRequestCode 0x77 [1]].all Instr.wf = true := by
  decide +kernel

/-! ## Values that the spec states -/

/-- The contention bytes of 1.11. -/
theorem test_contention_bytes :
    contentionByte 2 2 = 0x42#8 ∧ contentionByte 2 7 = 0x47#8 ∧ contentionByte 0 20 = 0x14#8 := by decide

/-- R2: after five bits of one value the opposite one, which counts in the next run. -/
theorem test_stuffing :
    stuff (List.replicate 5 true) = List.replicate 5 true ++ [false] ∧
    stuff (List.replicate 5 true ++ List.replicate 4 false)
      = List.replicate 5 true ++ List.replicate 5 false ++ [true] := by decide

/-- R96: the ends of the duty range, the worked value, and a duty outside. -/
theorem test_temperature :
    temperatureOf 1000 10000 = some (-400) ∧ temperatureOf 9000 10000 = some 850 ∧
    temperatureOf 4456 10000 = some 140 ∧ temperatureOf 999 10000 = none := by decide

/-- The worked example of steps: 2-sensor mode with a pulse weight of 31 250 µL. -/
def metering (a b : Bool) (acc : Int) (comp : Int) : State :=
  onMeter (at' .inService { cfg with sensors := .two, pulse := 31250, factors := List.replicate 9 10025 })
    fun m => { m with position := some ⟨a, b, false⟩, acc, comp, lastStep := some 50, activityOpen := true,
                      tmp := { m.tmp with reading := some 140 },
                      cells := { m.cells with a := cell a, b := cell b } }

theorem test_forward_step :
    answers (exec (.meterStep 100 2 ⟨true, true, false⟩) (metering true false 31250 0))
      (fun t => t.meter.acc == 62500 && t.meter.phaseErrors == 0) = true := by decide +kernel

theorem test_reverse_step :
    answers (exec (.meterStep 100 2 ⟨true, false, false⟩) (metering true true 62500 0))
      (fun t => t.meter.acc == 31250 && t.meter.rev == 31250) = true := by decide +kernel

theorem test_step_under_spacing :
    answers (exec (.meterStep 58 2 ⟨true, true, false⟩) (metering true false 93750 0))
      (fun t => t.meter.acc == 93750 && t.meter.phaseErrors == 1
        && t.meter.position == some ⟨true, true, false⟩) = true := by decide +kernel

theorem test_forward_boundary :
    answers (exec (.meterStep 100 2 ⟨true, true, false⟩) (metering true false 93750 0))
      (fun t => t.meter.gross == 1 && t.meter.comp == 10025 && t.meter.compVolume == 1) = true := by
  decide +kernel

theorem test_reverse_boundary :
    answers (exec (.meterStep 100 2 ⟨true, false, false⟩) (metering true true 218750 20050))
      (fun t => t.meter.gross == 1 && t.meter.comp == 10025) = true := by decide +kernel

/-! ## The machine -/

/-- The delivery of station 5 with the mode KEYED: its RECEIPT record has TAG (R149, log entry 46). -/
def keyedDelivery : Replica :=
  { rep with stations := stations.map fun e =>
      if e.number = 5 then { entry5 with activity := some { delivery5 with mode := .keyed } } else e }

theorem test_receipt_record_mode :
    (applyEffect keyedDelivery (sentBy 5 (.deliveryClose { closing with endReason := .limit }))).1.log.map
      (fun x => (x.kind, x.mode)) = [(.receipt, .tag)] := by decide +kernel

/-- A RELEASE that is applied as no change returns a record that waits for room to recovery, as an applied one does. -/
theorem test_release_as_no_change_recovers :
    answers (exec .retainedWriteComplete (onSupply (writing (.release 5) 4 .noChange ended) fun x =>
      { x with record := some record3, phase := .waitingRoom })) (fun t =>
      decide (t.supply.phase = .recovering ∧ t.link.tx.map TxEntry.payload = [.adjust { adjustReq with delta := -500 }]))
      = true := by decide +kernel

theorem test_reset_is_idle : step State.reset = .next State.reset := by rfl

theorem test_no_row_gives_bits (n w : Nat) : decodeTableWord n w = none := by rfl

theorem test_withFetchWord (s : State) (n w : Nat) : s.withFetchWord n w = s := by rfl

end Sys2Proof.Tests
end

section
/-! The site parameters (R30): a frame of an in-service office has its kind's effect (R29), and what a SITE-SET comes to,
by its fields. -/

namespace Sys2Proof.Machine

/-- R29 refuses no frame of an in-service office. -/
theorem officeRefuses_of_isOffice {r : Replica} {f : Frame} (h : r.isOffice f.sender = true) :
    officeRefuses r f = false := by
  unfold officeRefuses
  split
  · rw [h, Bool.not_true, Bool.and_false]
  · rfl

theorem applyEffect_of_isOffice {r : Replica} {f : Frame} (h : r.isOffice f.sender = true) :
    applyEffect r f = kindEffect r f := by
  rw [applyEffect, officeRefuses_of_isOffice h, if_neg Bool.false_ne_true]

theorem applyEffect_siteSet {r : Replica} {f : Frame} {minFill tolerance : Option Nat} {keyed : Option Bool}
    (h : r.isOffice f.sender = true) (hp : f.payload = .siteSet minFill tolerance keyed) :
    applyEffect r f = siteSetEffect r minFill tolerance keyed := by
  rw [applyEffect_of_isOffice h, kindEffect, hp]

/-- An optional field is within a range unless it is present and beyond one of its ends. -/
theorem optIn_iff {lo hi : Nat} {x : Option Nat} :
    optIn lo hi x = true ↔ ¬ ∃ v ∈ x, v < lo ∨ hi < v := by
  cases x with
  | none => simp [optIn]
  | some v => simp [optIn]

/-- A SITE-SET that carries a field, all of them in range, replaces the fields it carries. -/
theorem siteSetEffect_of_inRange (r : Replica) {minFill tolerance : Option Nat} {keyed : Option Bool}
    (hfield : ¬ (minFill = none ∧ tolerance = none ∧ keyed = none))
    (hmin : optIn 10 5000 minFill = true) (htol : optIn 10 50000 tolerance = true) :
    siteSetEffect r minFill tolerance keyed =
      ({ r with site := { r.site with
          minFill := minFill.getD r.site.minFill
          tolerance := tolerance.getD r.site.tolerance
          keyed := keyed.getD r.site.keyed } }, .applied) := by
  have hsome : (minFill.isSome || tolerance.isSome || keyed.isSome) = true := by
    cases minFill with
    | some _ => rfl
    | none =>
      cases tolerance with
      | some _ => rfl
      | none =>
        cases keyed with
        | some _ => rfl
        | none => exact absurd ⟨rfl, rfl, rfl⟩ hfield
  rw [siteSetEffect, if_pos (by rw [hsome, hmin, htol]; rfl)]

/-- A SITE-SET without a field changes nothing. -/
theorem siteSetEffect_of_noField (r : Replica) : siteSetEffect r none none none = (r, .noChange) := rfl

/-- A SITE-SET with a field out of its range changes nothing, whatever else it carries. -/
theorem siteSetEffect_of_outOfRange (r : Replica) {minFill tolerance : Option Nat} (keyed : Option Bool)
    (h : ¬ (optIn 10 5000 minFill = true ∧ optIn 10 50000 tolerance = true)) :
    siteSetEffect r minFill tolerance keyed = (r, .noChange) := by
  rw [siteSetEffect, if_neg]
  intro hguard
  simp only [Bool.and_eq_true] at hguard
  obtain ⟨⟨_, hmin⟩, htol⟩ := hguard
  exact h ⟨hmin, htol⟩

/-- Settles O15: the frame has the effect of SITE-SET, by whether it carries a field and whether each is in range. -/
theorem siteSetChangesParameters : Obligations.SiteSetChangesParameters := by
  unfold Obligations.SiteSetChangesParameters
  intro r f minFill tolerance keyed hoffice hpayload
  rw [applyEffect_siteSet hoffice hpayload]
  split
  case isTrue hrefused =>
    rcases hrefused with ⟨rfl, rfl, rfl⟩ | hmin | htol
    · exact siteSetEffect_of_noField r
    · exact siteSetEffect_of_outOfRange r keyed fun h => optIn_iff.mp h.1 hmin
    · exact siteSetEffect_of_outOfRange r keyed fun h => optIn_iff.mp h.2 htol
  case isFalse htaken =>
    obtain ⟨hfield, hrange⟩ := not_or.mp htaken
    obtain ⟨hmin, htol⟩ := not_or.mp hrange
    exact siteSetEffect_of_inRange r hfield (optIn_iff.mpr hmin) (optIn_iff.mpr htol)

end Sys2Proof.Machine
end

section
/-! CENSUS(FLOW): no office kind, so R29 does not look at its sender; what R142 does to the entry of its tank, by whether
the tank is present and, if so, whether the census finds it quiet. -/

namespace Sys2Proof.Machine

/-- R29 refuses no frame of a kind that is no office kind, whoever sends it. -/
theorem applyEffect_of_not_officeKind {f : Frame} {k : Kind} (r : Replica)
    (hkind : f.payload.kind? = some k) (hk : k.isOffice = false) :
    applyEffect r f = kindEffect r f := by
  have hrefuses : officeRefuses r f = false := by
    simp only [officeRefuses, hkind, hk, Bool.false_and]
  rw [applyEffect, hrefuses, if_neg Bool.false_ne_true]

theorem applyEffect_flowCensus {f : Frame} {n : Nat} {time : Option Nat} {map : BitVec 32} (r : Replica)
    (hpayload : f.payload = .census .flow n time) (hmap : f.map = some map) :
    applyEffect r f = flowEffect r n map := by
  have hkind : f.payload.kind? = some .census := by rw [hpayload]; rfl
  rw [applyEffect_of_not_officeKind r hkind rfl, kindEffect, hpayload, hmap, Option.getD_some]

/-- Tables in order hold no tank of a number outside 1 to 8 (R126). -/
theorem Replica.InOrder.tank?_eq_none {r : Replica} (h : r.InOrder) {n : Nat} (hn : n < 1 ∨ 8 < n) :
    r.tank? n = none := by
  obtain ⟨_, _, _, _, _, _, htanks⟩ := h
  refine List.find?_eq_none.mpr fun t ht hnumber => ?_
  have hrange := htanks t ht
  have heq : t.number = n := beq_iff_eq.mp hnumber
  omega

/-- The three conditions of R142's table. -/
theorem TankEntry.quietAt_iff {t : TankEntry} {map : BitVec 32} :
    t.quietAt map = true ↔ map = 0 ∧ t.reserved = 0 ∧ t.restock ≠ .delivery := by
  simp only [TankEntry.quietAt, Bool.and_eq_true, beq_iff_eq, bne_iff_ne, and_assoc]

theorem flowEffect_of_absent {r : Replica} {n : Nat} (map : BitVec 32) (h : r.tank? n = none) :
    flowEffect r n map = (r, .noChange) := by
  rw [flowEffect, h]

/-- A FLOW census that finds its tank quiet sets quiet-since to its own sequence. -/
theorem flowEffect_of_quiet {r : Replica} {n : Nat} {map : BitVec 32} {t : TankEntry}
    (h : r.tank? n = some t) (hquiet : t.quietAt map = true) :
    flowEffect r n map =
      (r.modTank n fun e => { e with quietSince := some r.site.seq }, .census true r.site.seq) := by
  simp only [flowEffect, h, hquiet, if_true]

/-- A FLOW census that finds its tank not quiet clears quiet-since. -/
theorem flowEffect_of_not_quiet {r : Replica} {n : Nat} {map : BitVec 32} {t : TankEntry}
    (h : r.tank? n = some t) (hquiet : t.quietAt map = false) :
    flowEffect r n map =
      (r.modTank n fun e => { e with quietSince := none }, .census false r.site.seq) := by
  simp only [flowEffect, h, hquiet, Bool.false_eq_true, if_false]

/-- Settles O21: the frame has the effect of a FLOW census, by whether its tank is present and quiet. -/
theorem flowCensusSetsQuietSince : Obligations.FlowCensusSetsQuietSince := by
  unfold Obligations.FlowCensusSetsQuietSince
  intro r f n time map hpayload hmap
  rw [applyEffect_flowCensus r hpayload hmap]
  constructor
  · exact fun horder hn => flowEffect_of_absent map (horder.tank?_eq_none hn)
  · cases htank : r.tank? n with
    | none => exact flowEffect_of_absent map htank
    | some t =>
      dsimp only
      split
      case isTrue hquiet => exact flowEffect_of_quiet htank (TankEntry.quietAt_iff.mpr hquiet)
      case isFalse hbusy =>
        exact flowEffect_of_not_quiet htank (Bool.eq_false_iff.mpr (mt TankEntry.quietAt_iff.mp hbusy))

end Sys2Proof.Machine
end

section
/-! CC-CLEAR (R157): an office kind, so R29 decides by its sender whether it has an effect at all; what it then comes to,
by whether a cost-centre entry bears its number. -/

namespace Sys2Proof.Machine

/-- R29 refuses a frame of an office kind whose sender is no in-service office. -/
theorem applyEffect_of_officeKind_of_not_isOffice {r : Replica} {f : Frame} {k : Kind}
    (hkind : f.payload.kind? = some k) (hk : k.isOffice = true) (h : ¬ r.isOffice f.sender = true) :
    applyEffect r f = (r, .noChange) := by
  have hrefuses : officeRefuses r f = true := by
    simp only [officeRefuses, hkind, hk, Bool.eq_false_iff.mpr h, Bool.not_false, Bool.and_self]
  rw [applyEffect, if_pos hrefuses]

theorem applyEffect_ccClear {r : Replica} {f : Frame} {n : Nat}
    (h : r.isOffice f.sender = true) (hpayload : f.payload = .ccClear n) :
    applyEffect r f = ccClearEffect r n := by
  rw [applyEffect_of_isOffice h, kindEffect, hpayload]

/-- For a number from 0 to 63 the entry of that number is again as WIPE leaves it, and no other entry changes. -/
theorem ccClearEffect_of_le (r : Replica) {n : Nat} (hn : n ≤ 63) :
    ccClearEffect r n =
      ({ r with costCentres := r.costCentres.map fun e =>
          if e.number = n then CostCentre.wiped n else e }, .applied) := by
  rw [ccClearEffect, if_pos hn]

/-- R157: a number above 63, which no cost-centre entry bears (R155), is applied as no change. -/
theorem ccClearEffect_of_not_le (r : Replica) {n : Nat} (hn : ¬ n ≤ 63) :
    ccClearEffect r n = (r, .noChange) := by
  rw [ccClearEffect, if_neg hn]

/-- Settles O16: R29 refuses the frame of any other sender; that of an in-service office has the effect of CC-CLEAR, by
whether its number is one of an entry. -/
theorem ccClearResetsOneCentre : Obligations.CcClearResetsOneCentre := by
  unfold Obligations.CcClearResetsOneCentre
  intro r f n hpayload
  by_cases hoffice : r.isOffice f.sender = true
  case neg =>
    have hkind : f.payload.kind? = some .ccClear := by rw [hpayload]; rfl
    rw [applyEffect_of_officeKind_of_not_isOffice hkind rfl hoffice, if_neg fun h => hoffice h.1]
  case pos =>
    rw [applyEffect_ccClear hoffice hpayload]
    split
    case isTrue hcleared => exact ccClearEffect_of_le r hcleared.2
    case isFalse hrefused => exact ccClearEffect_of_not_le r fun hn => hrefused ⟨hoffice, hn⟩

end Sys2Proof.Machine
end

section
/-! Facts about propositions and lists that core Lean does not state. The model imports core Lean alone, and so do its
proofs. -/

namespace Sys2Proof.Machine

theorem ite_congr_of_iff {α : Type} {b c : Prop} [Decidable b] [Decidable c] {x y u v : α} (hcond : b ↔ c)
    (hthen : x = u) (helse : y = v) : (if b then x else y) = if c then u else v :=
  ite_congr (propext hcond) (fun _ => hthen) (fun _ => helse)

theorem ite_eq_cases {α : Type} {c : Prop} [Decidable c] {x y z : α} :
    (if c then x else y) = z ↔ c ∧ x = z ∨ ¬ c ∧ y = z := by
  split
  next h => simp only [h, true_and, not_true_eq_false, false_and, or_false]
  next h => simp only [h, true_and, not_false_eq_true, false_and, false_or]

theorem exists_of_not_forall {α : Type} {p q : α → Prop} (h : ¬ ∀ x, p x → q x) : ∃ x, p x ∧ ¬ q x := by
  obtain ⟨x, hx⟩ := Classical.not_forall.mp h
  exact ⟨x, Classical.not_imp.mp hx⟩

theorem exists_image_and {α β : Type} {f : α → β} {p : α → Prop} {q : β → Prop} :
    (∃ b, (∃ a, p a ∧ f a = b) ∧ q b) ↔ ∃ a, p a ∧ q (f a) := by
  constructor
  · rintro ⟨_, ⟨a, ha, rfl⟩, hq⟩
    exact ⟨a, ha, hq⟩
  · rintro ⟨a, ha, hq⟩
    exact ⟨f a, ⟨a, ha, rfl⟩, hq⟩

/-- A key that no two entries of a list share tells its entries apart. -/
theorem eq_of_key_eq {α : Type} {key : α → Nat} {l : List α} {x y : α} (hl : (l.map key).Nodup) (hx : x ∈ l)
    (hy : y ∈ l) (hkey : key x = key y) : x = y := by
  induction l with
  | nil => cases hx
  | cons a l ih =>
    rw [List.map_cons, List.nodup_cons] at hl
    obtain ⟨hnot, hl⟩ := hl
    cases hx with
    | head =>
      cases hy with
      | head => rfl
      | tail _ hy => exact absurd (hkey ▸ List.mem_map_of_mem hy) hnot
    | tail _ hx =>
      cases hy with
      | head => exact absurd (hkey ▸ List.mem_map_of_mem hx) hnot
      | tail _ hy => exact ih hl hx hy

end Sys2Proof.Machine
end

section
/-! What R29 lets through, and the frames of an office on the machine table and the tank table (R75 to R79, R129 to
R131): each effect by the tests of its rule. -/

namespace Sys2Proof.Machine

/-- A sender whose entry is not that of an in-service office is no office (R29). -/
theorem Replica.not_isOffice {r : Replica} {n : Nat}
    (h : ∀ e ∈ r.station? n, e.membership ≠ .inService ∨ e.role ≠ some .office) :
    ¬ r.isOffice n = true := by
  unfold Replica.isOffice
  cases he : r.station? n with
  | none => exact Bool.false_ne_true
  | some e =>
    rcases h e he with hm | hrole
    · simp [hm]
    · simp [hrole]

/-- A frame of unknown kind has no effect (R29). -/
theorem applyEffect_of_unknownKind {r : Replica} {f : Frame} (h : f.payload.kind? = none) :
    applyEffect r f = (r, .noChange) := by
  have hrefuses : officeRefuses r f = false := by rw [officeRefuses, h]
  rw [applyEffect, hrefuses, if_neg Bool.false_ne_true, kindEffect]
  cases hp : f.payload with
  | unknown c k b => rfl
  | _ => simp [hp, Payload.kind?] at h

/-- Settles O12: an unknown kind has no effect, and R29 refuses an office kind of any other sender. -/
theorem officeKindsNeedTheOffice : Obligations.OfficeKindsNeedTheOffice := by
  unfold Obligations.OfficeKindsNeedTheOffice
  refine ⟨fun r f h => applyEffect_of_unknownKind h, ?_⟩
  intro r f k hkind hk hsender
  have hoffice : k.isOffice = true := by
    simp only [List.mem_cons, List.not_mem_nil, or_false] at hk
    rcases hk with rfl | rfl | rfl | rfl | rfl | rfl | rfl | rfl | rfl | rfl <;> rfl
  exact applyEffect_of_officeKind_of_not_isOffice hkind hoffice (Replica.not_isOffice hsender)

/-! ## Tests of form -/

theorem namesMachine_iff {n : Nat} : namesMachine n = true ↔ ¬ (n = 0 ∨ 65534 < n) := by
  simp only [namesMachine, Bool.and_eq_true, decide_eq_true_eq]
  omega

theorem not_namesMachine_iff {n : Nat} : ¬ namesMachine n = true ↔ n = 0 ∨ 65534 < n := by
  rw [namesMachine_iff, Classical.not_not]

theorem inVolumeRange_iff {v : Int} :
    inVolumeRange v = true ↔ ¬ (v < -1000000000 ∨ 1000000000 < v) := by
  simp only [inVolumeRange, Bool.and_eq_true, decide_eq_true_eq]
  omega

theorem Granting.malformed_iff {g : Granting} :
    g.malformed = true ↔ g.machine = 0 ∨ 65534 < g.machine ∨ g.grade < 1 ∨ 7 < g.grade ∨ g.capacity = 0
      ∨ 99999 < g.capacity ∨ 63 < g.costCentre ∨ g.value < -1000000000 ∨ 1000000000 < g.value := by
  simp only [Granting.malformed, Bool.or_eq_true, Bool.not_eq_true', decide_eq_true_eq,
    ← Bool.not_eq_true, namesMachine_iff, inVolumeRange_iff, Classical.not_not, or_assoc]

theorem TankSetting.malformed_iff {x : TankSetting} :
    x.malformed = true ↔ x.tank < 1 ∨ 8 < x.tank ∨ x.grade < 1 ∨ 7 < x.grade ∨ x.capacity < 1000
      ∨ 10000000 < x.capacity ∨ x.capacity < x.reorder
      ∨ (∃ b ∈ x.book, b < -1000000000 ∨ 1000000000 < b) := by
  obtain ⟨tank, grade, capacity, reorder, book⟩ := x
  cases book with
  | none => simp [TankSetting.malformed, or_assoc]
  | some b =>
    simp only [TankSetting.malformed, Bool.or_eq_true, decide_eq_true_eq, Bool.not_eq_true',
      ← Bool.not_eq_true, inVolumeRange_iff, Classical.not_not, or_assoc, Option.mem_some_iff, exists_eq_left']

/-! ## The machine table -/

/-- GRANT of an in-service office has the effect of its kind. -/
theorem applyEffect_grant {r : Replica} {f : Frame} {g : Granting}
    (h : r.isOffice f.sender = true) (hp : f.payload = .grant g) :
    applyEffect r f = grantEffect r g := by
  rw [applyEffect_of_isOffice h, kindEffect, hp]

theorem applyEffect_bar {r : Replica} {f : Frame} {n : Nat} {v : Bool}
    (h : r.isOffice f.sender = true) (hp : f.payload = (if v then .bar n else .unbar n)) :
    applyEffect r f = barEffect r n v := by
  cases v with
  | true => rw [applyEffect_of_isOffice h, kindEffect, hp]; rfl
  | false => rw [applyEffect_of_isOffice h, kindEffect, hp]; rfl

theorem applyEffect_drop {r : Replica} {f : Frame} {n : Nat}
    (h : r.isOffice f.sender = true) (hp : f.payload = .drop n) :
    applyEffect r f = dropEffect r n := by
  rw [applyEffect_of_isOffice h, kindEffect, hp]

/-- R77: the value that a GRANT leaves must lie within the bounds of an allowance. -/
theorem grantExisting_eq (r : Replica) (g : Granting) (m : MachineEntry) :
    grantExisting r g m =
      let v := match g.mode with | .set => g.value | .add => m.allowance + g.value
      if v < -1000000000 ∨ 1000000000 < v then (r, .noChange)
      else (r.modMachine g.machine fun x =>
        { x with grade := g.grade, capacity := g.capacity, costCentre := g.costCentre,
                 allowance := v, dropPending := false }, .applied) := by
  cases hmode : g.mode with
  | set => simp only [grantExisting, hmode, inVolumeRange_iff, ite_not]
  | add => simp only [grantExisting, hmode, inVolumeRange_iff, ite_not]

/-- R76: a new machine finds the table full at 256 entries. -/
theorem grantNew_eq (r : Replica) (g : Granting) :
    grantNew r g =
      if 256 ≤ r.machines.length then (r, .noChange)
      else
        let m : MachineEntry :=
          { number := g.machine, grade := g.grade, capacity := g.capacity, allowance := g.value,
            costCentre := g.costCentre, barred := false, dropPending := false, hold := none,
            lastFill := none }
        ({ r with machines := insertMachine m r.machines }, .applied) := by
  rw [grantNew, ← ite_not]
  exact ite_congr_of_iff Nat.not_lt rfl rfl

/-- Settles O13: each of the three effects by the tests of its rule, in their order. -/
theorem officeFramesOnMachines : Obligations.OfficeFramesOnMachines := by
  unfold Obligations.OfficeFramesOnMachines
  refine ⟨fun r f g hoffice hp => ?_, fun r f n v hoffice hp => ?_, fun r f n hoffice hp => ?_⟩
  · rw [applyEffect_grant hoffice hp, grantEffect]
    refine ite_congr_of_iff Granting.malformed_iff rfl ?_
    cases r.machine? g.machine with
    | some m => exact grantExisting_eq r g m
    | none => exact grantNew_eq r g
  · rw [applyEffect_bar hoffice hp, barEffect, ← ite_not]
    refine ite_congr_of_iff not_namesMachine_iff rfl ?_
    cases r.machine? n with
    | none => rfl
    | some m => rfl
  · rw [applyEffect_drop hoffice hp, dropEffect, ← ite_not]
    refine ite_congr_of_iff not_namesMachine_iff rfl ?_
    cases r.machine? n with
    | none => rfl
    | some m =>
      cases hhold : m.hold with
      | none => simp [hhold, Replica.dropMachine]
      | some x => simp [hhold]

/-! ## The tank table -/

theorem applyEffect_tankSet {r : Replica} {f : Frame} {x : TankSetting}
    (h : r.isOffice f.sender = true) (hp : f.payload = .tankSet x) :
    applyEffect r f = tankSetEffect r x := by
  rw [applyEffect_of_isOffice h, kindEffect, hp]

theorem applyEffect_order {r : Replica} {f : Frame} {n : Nat}
    (h : r.isOffice f.sender = true) (hp : f.payload = .order n) :
    applyEffect r f = orderEffect r n := by
  rw [applyEffect_of_isOffice h, kindEffect, hp]

theorem Replica.tankInUse_iff {r : Replica} {n : Nat} :
    r.tankInUse n = true ↔ ∃ e ∈ r.stations, ∃ a ∈ e.activity, a.tank = n := by
  simp only [Replica.tankInUse, List.any_eq_true]
  refine exists_congr fun e => and_congr_right fun _ => ?_
  cases e.activity with
  | none => simp
  | some a => simp

theorem TankEntry.available_lt_iff {t : TankEntry} {v : Int} :
    ¬ t.available < v ↔ v ≤ t.book - (t.reserved : Int) := by
  simp only [TankEntry.available, Int.not_lt]

/-- R130: the restock evaluation decides the restock state by the old one and by the available stock. -/
theorem TankEntry.evaluate_eq (t : TankEntry) :
    t.evaluate = { t with restock :=
      match t.restock with
      | .normal => if t.book - (t.reserved : Int) < t.reorder then .low else .normal
      | .low => if t.book - (t.reserved : Int) < t.reorder then .low else .normal
      | .ordered => if t.book - (t.reserved : Int) < t.reorder then .ordered else .normal
      | .delivery => .delivery } := by
  obtain ⟨number, grade, capacity, book, reserved, reorder, restock, _⟩ := t
  by_cases hlow : book - (reserved : Int) < reorder
  · have hnot : ¬ (reorder : Int) ≤ book - (reserved : Int) := Int.not_le.mpr hlow
    cases restock <;> simp [TankEntry.evaluate, TankEntry.available, hlow, hnot]
  · have hle : (reorder : Int) ≤ book - (reserved : Int) := Int.not_lt.mp hlow
    cases restock <;> simp [TankEntry.evaluate, TankEntry.available, hlow, hle]

/-- R131: ORDER finds its tank LOW or changes nothing. -/
theorem orderEffect_eq (r : Replica) (n : Nat) :
    orderEffect r n =
      if (r.tank? n).map TankEntry.restock = some .low then
        (r.modTank n fun e => { e with restock := .ordered }, .applied)
      else (r, .noChange) := by
  rw [orderEffect]
  cases r.tank? n with
  | none => rfl
  | some t => simp

/-- Settles O14. -/
theorem officeFramesOnTanks : Obligations.OfficeFramesOnTanks := by
  unfold Obligations.OfficeFramesOnTanks
  refine ⟨fun r f x hoffice hp => ?_, fun r f n hoffice hp => ?_, TankEntry.evaluate_eq⟩
  · rw [applyEffect_tankSet hoffice hp, tankSetEffect]
    refine ite_congr_of_iff TankSetting.malformed_iff rfl ?_
    cases r.tank? x.tank with
    | none => rfl
    | some t => exact ite_congr_of_iff (and_congr_right fun _ => Replica.tankInUse_iff) rfl rfl
  · rw [applyEffect_order hoffice hp, orderEffect_eq]

end Sys2Proof.Machine
end

section
/-! RELEASE, PROGRESS, GAUGE and ADJUST (R115, R147, R151, R169): the effect of each frame by the tests of its rule. -/

namespace Sys2Proof.Machine

/-! ## RELEASE and PROGRESS -/

/-- Of a list in increasing order of `g`, the members at or below a bound stand in front. -/
theorem dropWhile_le_eq_filter {α : Type} {g : α → Nat} {n : Nat} {l : List α}
    (h : (l.map g).Pairwise (· < ·)) :
    l.dropWhile (fun x => decide (g x ≤ n)) = l.filter fun x => decide (n < g x) := by
  induction l with
  | nil => rfl
  | cons x xs ih =>
    rw [List.map_cons, List.pairwise_cons] at h
    obtain ⟨hfirst, hrest⟩ := h
    by_cases hx : g x ≤ n
    · rw [List.dropWhile_cons_of_pos (by simpa using hx), List.filter_cons_of_neg (by simpa using hx),
        ih hrest]
    · have hall : ∀ y ∈ x :: xs, decide (n < g y) = true := by
        intro y hy
        rcases List.mem_cons.mp hy with rfl | hy
        · simpa using hx
        · have := hfirst (g y) (List.mem_map_of_mem hy)
          simp only [decide_eq_true_eq]
          omega
      rw [List.dropWhile_cons_of_neg (by simpa using hx), List.filter_eq_self.mpr hall]

theorem applyEffect_release {r : Replica} {f : Frame} {n : Nat}
    (h : r.isOffice f.sender = true) (hp : f.payload = .release n) :
    applyEffect r f = releaseEffect r n := by
  rw [applyEffect_of_isOffice h, kindEffect, hp]

theorem applyEffect_progress {f : Frame} {openSeq volume : Nat} (r : Replica)
    (hp : f.payload = .progress openSeq volume) :
    applyEffect r f = progressEffect r f.sender openSeq volume := by
  have hkind : f.payload.kind? = some .progress := by rw [hp]; rfl
  rw [applyEffect_of_not_officeKind r hkind rfl, kindEffect, hp]

/-- The open activity of a sender is looked up in its entry, and then by its open sequence. -/
theorem Replica.activityOf_eq (r : Replica) (n openSeq : Nat) :
    r.activityOf n openSeq =
      ((r.station? n).bind StationEntry.activity).filter fun a => decide (a.openSeq = openSeq) := by
  unfold Replica.activityOf
  cases r.station? n with
  | none => rfl
  | some e =>
    cases ha : e.activity with
    | none => simp [ha]
    | some a => simp [ha, Option.filter]

/-- Settles O17. -/
theorem releaseAndProgress : Obligations.ReleaseAndProgress := by
  unfold Obligations.ReleaseAndProgress
  refine ⟨fun r f n hlog hoffice hp => ?_, fun r f openSeq volume hp => ?_⟩
  · rw [applyEffect_release hoffice hp, releaseEffect, dropWhile_le_eq_filter hlog]
  · rw [applyEffect_progress r hp, progressEffect, Replica.activityOf_eq]
    cases (r.station? f.sender).bind StationEntry.activity with
    | none => rfl
    | some a => by_cases hseq : a.openSeq = openSeq <;> simp [hseq, Option.filter]

/-! ## GAUGE -/

theorem applyEffect_gauge {f : Frame} {g : Gauging} (r : Replica) (hp : f.payload = .gauge g) :
    applyEffect r f = gaugeEffect r f.sender g := by
  have hkind : f.payload.kind? = some .gauge := by rw [hp]; rfl
  rw [applyEffect_of_not_officeKind r hkind rfl, kindEffect, hp]

theorem Replica.inService_eq_false_iff {r : Replica} {n : Nat} :
    r.inService n = false ↔ (r.station? n).map StationEntry.membership ≠ some .inService := by
  unfold Replica.inService
  cases r.station? n with
  | none => simp
  | some e => simp

/-- Settles O22: a GAUGE of an in-service sender with its fields in range is reconciled exactly when its census is the
one at which the tank was found quiet. -/
theorem gaugeIsJudged : Obligations.GaugeIsJudged := by
  unfold Obligations.GaugeIsJudged
  intro r f g hp
  rw [applyEffect_gauge r hp, gaugeEffect]
  cases htank : r.tank? g.tank with
  | none => rfl
  | some t =>
    refine ite_congr_of_iff (by rw [Replica.inService_eq_false_iff]) rfl ?_
    by_cases hquiet : t.quietSince = some g.census
    · simp [hquiet]
    · simp [hquiet]

/-! ## ADJUST -/

theorem applyEffect_adjust {f : Frame} {a : Adjusting} (r : Replica) (hp : f.payload = .adjust a) :
    applyEffect r f = adjustEffect r f.sender a := by
  have hkind : f.payload.kind? = some .adjust := by rw [hp]; rfl
  rw [applyEffect_of_not_officeKind r hkind rfl, kindEffect, hp]

/-- R169: an ADJUST matches the last ended of its sender's entry. -/
theorem Replica.adjustMatches_iff {r : Replica} {n : Nat} {a : Adjusting} :
    r.adjustMatches n a = true ↔ a.delta ≠ 0 ∧ ∃ l ∈ (r.station? n).bind StationEntry.last,
      l.openSeq = a.openSeq ∧ l.kind ≠ .closed ∧ l.billed = a.billedBefore := by
  unfold Replica.adjustMatches
  cases r.station? n with
  | none => simp
  | some e =>
    cases hl : e.last with
    | none => simp [hl]
    | some l => simp [hl, and_assoc]

theorem Replica.hasRoom_iff {r : Replica} :
    r.hasRoom = true ↔ r.log.length + r.openCount < 512 ∧ r.site.nextRecord + r.openCount < 2 ^ 32 - 1 := by
  rw [Replica.hasRoom, Bool.and_eq_true, decide_eq_true_eq, decide_eq_true_eq]

theorem adjustEffect_of_noMatch {r : Replica} {n : Nat} {a : Adjusting}
    (h : ¬ r.adjustMatches n a = true) : adjustEffect r n a = (r, .noMatch) := by
  rw [adjustEffect, if_neg h]

theorem adjustEffect_of_noRoom {r : Replica} {n : Nat} {a : Adjusting}
    (h : r.adjustMatches n a = true) (hroom : ¬ r.hasRoom = true) :
    adjustEffect r n a = (r, .noRoom) := by
  rw [adjustEffect, if_pos h, if_neg hroom]

theorem adjustEffect_of_room {r : Replica} {n : Nat} {a : Adjusting}
    (h : r.adjustMatches n a = true) (hroom : r.hasRoom = true) :
    adjustEffect r n a = (adjustBy r n a, .applied) := by
  rw [adjustEffect, if_pos h, if_pos hroom]

/-- Settles O26: the three outcomes by match and room; of a matching one with room, each table after its changes. -/
theorem adjustIsGuarded : Obligations.AdjustIsGuarded := by
  unfold Obligations.AdjustIsGuarded
  refine ⟨fun r f a hp hno => ?_, fun r f a l hp hdelta hl hseq hkind hbilled => ?_⟩
  · rw [applyEffect_adjust r hp]
    refine adjustEffect_of_noMatch fun hmatch => ?_
    obtain ⟨hdelta, l, hl, hseq, hkind, hbilled⟩ := Replica.adjustMatches_iff.mp hmatch
    rcases hno with hzero | hno
    · exact hdelta hzero
    · rcases hno l hl with h | h | h
      · exact h hseq
      · exact hkind h
      · exact h hbilled
  · have hmatch : r.adjustMatches f.sender a = true :=
      Replica.adjustMatches_iff.mpr ⟨hdelta, l, hl, hseq, hkind, hbilled⟩
    rw [applyEffect_adjust r hp]
    refine ⟨fun hfull => adjustEffect_of_noRoom hmatch ?_, fun hlog hnumber => ?_⟩
    · rw [Replica.hasRoom_iff]
      omega
    · refine ⟨_, adjustEffect_of_room hmatch (Replica.hasRoom_iff.mpr ⟨hlog, hnumber⟩), ?_⟩
      cases hk : a.kind with
      | fill =>
        simp only [adjustBy, hk]
        exact ⟨rfl, rfl, rfl, rfl, rfl, rfl⟩
      | delivery =>
        simp only [adjustBy, hk]
        exact ⟨rfl, rfl, rfl, rfl, rfl, rfl⟩

end Sys2Proof.Machine
end

section
/-! OPEN and DELIVERY-OPEN (R106 to R108, R135): the chain of tests of the effect gives the first reason of the table that
holds, and what a grant then comes to. -/

namespace Sys2Proof.Machine

/-! ## The first reason of a table -/

theorem firstReason_nil : firstReason [] = none := rfl

/-- The first reason of a table stands at its head, if that holds, and else in the rest. -/
theorem firstReason_cons (x : Reason) (b : Bool) (l : List (Reason × Bool)) :
    firstReason ((x, b) :: l) = if b then some x else firstReason l := by
  cases b <;> rfl

@[simp] theorem foundAnd_none {α : Type} (p : α → Bool) : foundAnd p none = false := rfl
@[simp] theorem foundAnd_some {α : Type} (p : α → Bool) (x : α) : foundAnd p (some x) = p x := rfl

theorem logFullTest_eq (r : Replica) : logFullTest r = r.logFull := rfl

/-! ## OPEN -/

theorem OpenRequest.malformed_iff {o : OpenRequest} :
    o.malformed = true ↔ o.machine = 0 ∨ 65534 < o.machine ∨ o.requested = 0 ∨ 99999 < o.requested
      ∨ o.mode = none ∨ o.tank < 1 ∨ 8 < o.tank := by
  simp only [OpenRequest.malformed, Bool.or_eq_true, Bool.not_eq_true', decide_eq_true_eq,
    ← Bool.not_eq_true, namesMachine_iff, Classical.not_not, or_assoc, Option.isNone_iff_eq_none]

theorem applyEffect_openFill {f : Frame} {o : OpenRequest} (r : Replica) (hp : f.payload = .openFill o) :
    applyEffect r f = openEffect r f.sender o := by
  have hkind : f.payload.kind? = some .openFill := by rw [hp]; rfl
  rw [applyEffect_of_not_officeKind r hkind rfl, kindEffect, hp]

/-- NOT_IN_SERVICE for an OPEN: the entry is not in service, of another role, or of another hose. -/
theorem StationEntry.not_dispenses_iff {e : StationEntry} {tank : Nat} :
    (!(e.membership == .inService && e.role == some .dispense && e.hose == some tank)) = true ↔
      e.membership ≠ .inService ∨ e.role ≠ some .dispense ∨ e.hose ≠ some tank := by
  simp only [Bool.not_eq_true', Bool.and_eq_false_iff, beq_eq_false_iff_ne, or_assoc]

/-- R106: the chain of tests gives the first reason of its table. -/
theorem openRefusal_eq (r : Replica) (n : Nat) (o : OpenRequest) :
    openRefusal r n o = firstReason (openTable r n o) := by
  cases he : r.station? n with
  | none => simp [openRefusal, openTable, he, firstReason_cons]
  | some e =>
    simp only [openRefusal, openTable, he, firstReason_cons, foundAnd_some,
      StationEntry.not_dispenses_iff]
    refine ite_congr_of_iff Iff.rfl rfl (ite_congr_of_iff Iff.rfl rfl (ite_congr_of_iff Iff.rfl rfl ?_))
    cases r.machine? o.machine with
    | none => simp
    | some m =>
      cases r.tank? o.tank with
      | none => simp
      | some t =>
        refine Eq.trans ?_ (if_neg (c := (some m).isNone = true) Bool.false_ne_true).symm
        refine ite_congr_of_iff Iff.rfl rfl (ite_congr_of_iff Iff.rfl rfl (ite_congr_of_iff ?grade rfl
          (ite_congr_of_iff ?keyed rfl (ite_congr_of_iff Iff.rfl rfl (ite_congr_of_iff Iff.rfl rfl rfl)))))
        case grade => simp [ne_comm (a := m.grade)]
        case keyed => simp

/-- Settles O18. -/
theorem openIsDecidedInOrder : Obligations.OpenIsDecidedInOrder := by
  unfold Obligations.OpenIsDecidedInOrder
  intro r f o hp
  rw [applyEffect_openFill r hp, openEffect, openRefusal_eq]
  refine ite_congr_of_iff OpenRequest.malformed_iff rfl ?_
  cases firstReason (openTable r f.sender o) with
  | some x => rfl
  | none =>
    cases r.machine? o.machine with
    | none => rfl
    | some m =>
      cases r.tank? o.tank with
      | none => rfl
      | some t => rfl

/-! ## DELIVERY-OPEN -/

theorem DeliveryRequest.malformed_iff {d : DeliveryRequest} :
    d.malformed = true ↔ d.tank < 1 ∨ 8 < d.tank ∨ d.tanker = 0 ∨ 65534 < d.tanker ∨ d.grade < 1
      ∨ 7 < d.grade ∨ d.declared < 1000 ∨ 999999 < d.declared := by
  simp only [DeliveryRequest.malformed, Bool.or_eq_true, Bool.not_eq_true', decide_eq_true_eq,
    ← Bool.not_eq_true, namesMachine_iff, Classical.not_not, or_assoc]

theorem applyEffect_deliveryOpen {f : Frame} {d : DeliveryRequest} (r : Replica)
    (hp : f.payload = .deliveryOpen d) : applyEffect r f = deliveryOpenEffect r f.sender d := by
  have hkind : f.payload.kind? = some .deliveryOpen := by rw [hp]; rfl
  rw [applyEffect_of_not_officeKind r hkind rfl, kindEffect, hp]

/-- NOT_IN_SERVICE for a DELIVERY-OPEN: the entry is not in service, or of another role. -/
theorem StationEntry.not_receives_iff {e : StationEntry} :
    (!(e.membership == .inService && e.role == some .receipt)) = true ↔
      e.membership ≠ .inService ∨ e.role ≠ some .receipt := by
  simp only [Bool.not_eq_true', Bool.and_eq_false_iff, beq_eq_false_iff_ne]

/-- R135: the chain of tests gives the first reason of its table. -/
theorem deliveryRefusal_eq (r : Replica) (n : Nat) (d : DeliveryRequest) :
    deliveryRefusal r n d = firstReason (deliveryTable r n d) := by
  cases he : r.station? n with
  | none => simp [deliveryRefusal, deliveryTable, he, firstReason_cons]
  | some e =>
    simp only [deliveryRefusal, deliveryTable, he, firstReason_cons, foundAnd_some,
      StationEntry.not_receives_iff]
    refine ite_congr_of_iff Iff.rfl rfl (ite_congr_of_iff Iff.rfl rfl (ite_congr_of_iff Iff.rfl rfl
      (ite_congr_of_iff Iff.rfl rfl ?_)))
    cases r.tank? d.tank with
    | none => simp
    | some t => simp [firstReason_nil, logFullTest_eq]

/-- Settles O19. -/
theorem deliveryOpenIsDecidedInOrder : Obligations.DeliveryOpenIsDecidedInOrder := by
  unfold Obligations.DeliveryOpenIsDecidedInOrder
  intro r f d hp
  rw [applyEffect_deliveryOpen r hp, deliveryOpenEffect, deliveryRefusal_eq]
  refine ite_congr_of_iff DeliveryRequest.malformed_iff rfl ?_
  cases firstReason (deliveryTable r f.sender d) with
  | some x => rfl
  | none =>
    cases r.tank? d.tank with
    | none => rfl
    | some t => rfl

/-! ## CLOSE and DELIVERY-CLOSE -/

theorem applyEffect_close {f : Frame} {c : Closing} (r : Replica) (hp : f.payload = .close c) :
    applyEffect r f = closeEffect r f.sender c := by
  have hkind : f.payload.kind? = some .close := by rw [hp]; rfl
  rw [applyEffect_of_not_officeKind r hkind rfl, kindEffect, hp]

theorem applyEffect_deliveryClose {f : Frame} {c : Closing} (r : Replica)
    (hp : f.payload = .deliveryClose c) : applyEffect r f = deliveryCloseEffect r f.sender c := by
  have hkind : f.payload.kind? = some .deliveryClose := by rw [hp]; rfl
  rw [applyEffect_of_not_officeKind r hkind rfl, kindEffect, hp]

theorem Closing.malformed_iff {c : Closing} {reasons : List Reason} :
    c.malformed reasons = true ↔ c.gross < 0 ∨ c.overrun < 0 ∨ c.endReason ∉ reasons := by
  simp only [Closing.malformed, Bool.or_eq_true, Bool.not_eq_true', decide_eq_true_eq,
    ← Bool.not_eq_true, List.contains_iff_mem, or_assoc]

theorem Closing.wellFormed {c : Closing} {reasons : List Reason} (hgross : 0 ≤ c.gross)
    (hoverrun : 0 ≤ c.overrun) (hreason : c.endReason ∈ reasons) : ¬ c.malformed reasons = true := by
  rw [Closing.malformed_iff]
  rintro (h | h | h)
  · omega
  · omega
  · exact h hreason

/-- The activity that a sender's frame names, found. -/
theorem Replica.activityOf_of_open {r : Replica} {n openSeq : Nat} {e : StationEntry} {a : OpenActivity}
    (he : r.station? n = some e) (ha : e.activity = some a) (hseq : a.openSeq = openSeq) :
    r.activityOf n openSeq = some a := by
  simp [Replica.activityOf, he, ha, hseq]

theorem closeEffect_of_open {r : Replica} {n : Nat} {c : Closing} {a : OpenActivity}
    (hform : ¬ c.malformed fillEndReasons = true) (ha : r.activityOf n c.openSeq = some a)
    (hkind : a.kind = .fill) :
    closeEffect r n c = (closeFillOf r n a c, .closed r.site.nextRecord) := by
  simp only [closeEffect, if_neg hform, ha, if_pos hkind]

theorem deliveryCloseEffect_of_open {r : Replica} {n : Nat} {c : Closing} {a : OpenActivity}
    (hform : ¬ c.malformed deliveryEndReasons = true) (ha : r.activityOf n c.openSeq = some a)
    (hkind : a.kind = .delivery) :
    deliveryCloseEffect r n c = (closeDeliveryOf r n a c, .closed r.site.nextRecord) := by
  simp only [deliveryCloseEffect, if_neg hform, ha, if_pos hkind]

/-- What makes a closing frame change nothing: a field of its own, or an activity of another kind, of another open
sequence, or none (R121, R139). -/
abbrev Closing.FindsNone (r : Replica) (n : Nat) (c : Closing) (k : ActivityKind) (reasons : List Reason) : Prop :=
  c.gross < 0 ∨ c.overrun < 0 ∨ c.endReason ∉ reasons
    ∨ ∀ a ∈ (r.station? n).bind StationEntry.activity, a.kind ≠ k ∨ a.openSeq ≠ c.openSeq

theorem Closing.FindsNone.kind_ne {r : Replica} {n : Nat} {c : Closing} {k : ActivityKind}
    {reasons : List Reason} (h : c.FindsNone r n k reasons) (hform : ¬ c.malformed reasons = true) :
    ∀ a ∈ r.activityOf n c.openSeq, a.kind ≠ k := by
  intro a ha
  rw [Closing.malformed_iff] at hform
  rw [Replica.activityOf_eq, Option.mem_def, Option.filter_eq_some_iff, decide_eq_true_eq] at ha
  obtain ⟨hopen, hseq⟩ := ha
  have hnone : ∀ a ∈ (r.station? n).bind StationEntry.activity, a.kind ≠ k ∨ a.openSeq ≠ c.openSeq := by
    rcases h with h | h | h | h
    · exact absurd (.inl h) hform
    · exact absurd (.inr (.inl h)) hform
    · exact absurd (.inr (.inr h)) hform
    · exact h
  exact (hnone a hopen).resolve_right fun hne => hne hseq

theorem closeEffect_of_findsNone {r : Replica} {n : Nat} {c : Closing}
    (h : c.FindsNone r n .fill fillEndReasons) : closeEffect r n c = (r, .noChange) := by
  rw [closeEffect]
  split
  case isTrue => rfl
  case isFalse hform =>
    cases ha : r.activityOf n c.openSeq with
    | none => rfl
    | some a => exact if_neg (h.kind_ne hform a ha)

theorem deliveryCloseEffect_of_findsNone {r : Replica} {n : Nat} {c : Closing}
    (h : c.FindsNone r n .delivery deliveryEndReasons) : deliveryCloseEffect r n c = (r, .noChange) := by
  rw [deliveryCloseEffect]
  split
  case isTrue => rfl
  case isFalse hform =>
    cases ha : r.activityOf n c.openSeq with
    | none => rfl
    | some a => exact if_neg (h.kind_ne hform a ha)

/-! ## The tables after a billing change -/

section Tables

variable (r : Replica) (n : Nat)

@[simp] theorem Replica.append_site (x : Record) :
    (r.append x).site = { r.site with nextRecord := r.site.nextRecord + 1 } := rfl
@[simp] theorem Replica.append_log (x : Record) :
    (r.append x).log = r.log ++ [{ x with number := r.site.nextRecord }] := rfl
@[simp] theorem Replica.append_stations (x : Record) : (r.append x).stations = r.stations := rfl
@[simp] theorem Replica.append_tanks (x : Record) : (r.append x).tanks = r.tanks := rfl
@[simp] theorem Replica.append_costCentres (x : Record) : (r.append x).costCentres = r.costCentres := rfl
@[simp] theorem Replica.append_machines (x : Record) : (r.append x).machines = r.machines := rfl

@[simp] theorem Replica.charge_site (g c k : Int) : (r.charge n g c k).site = r.site := rfl
@[simp] theorem Replica.charge_log (g c k : Int) : (r.charge n g c k).log = r.log := rfl
@[simp] theorem Replica.charge_stations (g c k : Int) : (r.charge n g c k).stations = r.stations := rfl
@[simp] theorem Replica.charge_tanks (g c k : Int) : (r.charge n g c k).tanks = r.tanks := rfl
@[simp] theorem Replica.charge_costCentres (g c k : Int) : (r.charge n g c k).costCentres =
    r.costCentres.map fun e => if e.number = n then e.charge g c k else e := rfl
@[simp] theorem Replica.charge_machines (g c k : Int) : (r.charge n g c k).machines = r.machines := rfl

variable (f : TankEntry → TankEntry)

@[simp] theorem Replica.modTank_site : (r.modTank n f).site = r.site := rfl
@[simp] theorem Replica.modTank_log : (r.modTank n f).log = r.log := rfl
@[simp] theorem Replica.modTank_stations : (r.modTank n f).stations = r.stations := rfl
@[simp] theorem Replica.modTank_tanks :
    (r.modTank n f).tanks = r.tanks.map fun e => if e.number = n then f e else e := rfl
@[simp] theorem Replica.modTank_costCentres : (r.modTank n f).costCentres = r.costCentres := rfl
@[simp] theorem Replica.modTank_machines : (r.modTank n f).machines = r.machines := rfl

variable (g : MachineEntry → MachineEntry)

@[simp] theorem Replica.modMachine_site : (r.modMachine n g).site = r.site := rfl
@[simp] theorem Replica.modMachine_log : (r.modMachine n g).log = r.log := rfl
@[simp] theorem Replica.modMachine_stations : (r.modMachine n g).stations = r.stations := rfl
@[simp] theorem Replica.modMachine_tanks : (r.modMachine n g).tanks = r.tanks := rfl
@[simp] theorem Replica.modMachine_costCentres : (r.modMachine n g).costCentres = r.costCentres := rfl
@[simp] theorem Replica.modMachine_machines :
    (r.modMachine n g).machines = r.machines.map fun e => if e.number = n then g e else e := rfl

@[simp] theorem Replica.dropMachine_site : (r.dropMachine n).site = r.site := rfl
@[simp] theorem Replica.dropMachine_log : (r.dropMachine n).log = r.log := rfl
@[simp] theorem Replica.dropMachine_stations : (r.dropMachine n).stations = r.stations := rfl
@[simp] theorem Replica.dropMachine_tanks : (r.dropMachine n).tanks = r.tanks := rfl
@[simp] theorem Replica.dropMachine_costCentres : (r.dropMachine n).costCentres = r.costCentres := rfl
@[simp] theorem Replica.dropMachine_machines :
    (r.dropMachine n).machines = r.machines.filter fun e => decide (e.number ≠ n) := rfl

variable (h : StationEntry → StationEntry)

@[simp] theorem Replica.modStation_site : (r.modStation n h).site = r.site := rfl
@[simp] theorem Replica.modStation_log : (r.modStation n h).log = r.log := rfl
@[simp] theorem Replica.modStation_stations :
    (r.modStation n h).stations = r.stations.map fun e => if e.number = n then h e else e := rfl
@[simp] theorem Replica.modStation_tanks : (r.modStation n h).tanks = r.tanks := rfl
@[simp] theorem Replica.modStation_costCentres : (r.modStation n h).costCentres = r.costCentres := rfl
@[simp] theorem Replica.modStation_machines : (r.modStation n h).machines = r.machines := rfl

variable (seq : Nat) (k : EndingKind) (v : Int)

@[simp] theorem Replica.endAtStation_site : (r.endAtStation n seq k v).site = r.site := rfl
@[simp] theorem Replica.endAtStation_log : (r.endAtStation n seq k v).log = r.log := rfl
@[simp] theorem Replica.endAtStation_stations : (r.endAtStation n seq k v).stations =
    r.stations.map fun e =>
      if e.number = n then { e with activity := none, last := some { openSeq := seq, kind := k, billed := v } }
      else e := rfl
@[simp] theorem Replica.endAtStation_tanks : (r.endAtStation n seq k v).tanks = r.tanks := rfl
@[simp] theorem Replica.endAtStation_costCentres :
    (r.endAtStation n seq k v).costCentres = r.costCentres := rfl
@[simp] theorem Replica.endAtStation_machines : (r.endAtStation n seq k v).machines = r.machines := rfl

end Tables

/-- A machine entry after a fill of the given volume has ended at it (R71). -/
def MachineEntry.billedFor (billed : Int) (lastFill : Option LastFill) (m : MachineEntry) : MachineEntry :=
  { m with allowance := max (-1000000000) (min 1000000000 (m.allowance - billed)), hold := none,
           lastFill := lastFill.or m.lastFill }

/-- The machine table after a fill has ended at its machine (R71, R80). -/
def Replica.machinesAfterFill (r : Replica) (machine : Nat) (billed : Int) (lastFill : Option LastFill) :
    List MachineEntry :=
  if foundAnd MachineEntry.dropPending (r.machine? machine) then
    r.machines.filter fun x => x.number ≠ machine
  else r.machines.map fun x => if x.number = machine then x.billedFor billed lastFill else x

/-- R71, R80: the ending of a fill changes the machine table alone. -/
theorem Replica.endFillAtMachine_eq (r : Replica) (machine : Nat) (billed : Int)
    (lastFill : Option LastFill) :
    r.endFillAtMachine machine billed lastFill =
      { r with machines := r.machinesAfterFill machine billed lastFill } := by
  have hnot : r.modMachine machine (fun m =>
        { m with allowance := boundVolume (m.allowance - billed), hold := none,
                 lastFill := match lastFill with | some l => some l | none => m.lastFill }) =
      { r with machines :=
          r.machines.map fun x => if x.number = machine then x.billedFor billed lastFill else x } := by
    cases lastFill <;> rfl
  unfold Replica.machinesAfterFill
  cases hm : r.machine? machine with
  | none => simp only [Replica.endFillAtMachine, hm]; exact hnot
  | some m =>
    cases hd : m.dropPending with
    | false => simp only [Replica.endFillAtMachine, hm, hd, foundAnd_some]; exact hnot
    | true => simp only [Replica.endFillAtMachine, hm, hd, foundAnd_some]; rfl

theorem TankEntry.post_neg (t : TankEntry) (v : Int) (n : Nat) :
    t.post (-v) n = TankEntry.evaluate
      { t with book := max (-1000000000) (min 1000000000 (t.book - v)), reserved := t.reserved - n,
               quietSince := none } := rfl

/-- Settles O20. -/
theorem closingFramesBill : Obligations.ClosingFramesBill := by
  unfold Obligations.ClosingFramesBill
  refine ⟨fun x gross comp fills => rfl, ?_, ?_, ?_⟩
  · intro r f c e a m hp he ha hkind hseq hm hgross hoverrun hreason
    have hform := Closing.wellFormed hgross hoverrun hreason
    have hcc : r.costCentreOf a.party = m.costCentre := by rw [Replica.costCentreOf, hm]
    rw [applyEffect_close r hp]
    refine ⟨_, closeEffect_of_open hform (Replica.activityOf_of_open he ha hseq) hkind, ?_⟩
    simp only [closeFillOf, Replica.endFillAtMachine_eq, hcc]
    refine ⟨rfl, rfl, ?_, rfl, rfl, rfl⟩
    have hm' : ∀ x, (r.append x).machine? a.party = some m := fun _ => hm
    simp [Replica.machinesAfterFill, hm', MachineEntry.billedFor]
  · intro r f c e a hp he ha hkind hseq hgross hoverrun hreason
    have hform := Closing.wellFormed hgross hoverrun hreason
    rw [applyEffect_deliveryClose r hp]
    exact ⟨_, deliveryCloseEffect_of_open hform (Replica.activityOf_of_open he ha hseq) hkind,
      rfl, rfl, rfl, rfl, rfl, rfl⟩
  · intro r f c k reasons hframe hbad
    rcases hframe with ⟨hp, rfl, rfl⟩ | ⟨hp, rfl, rfl⟩
    · rw [applyEffect_close r hp]
      exact closeEffect_of_findsNone hbad
    · rw [applyEffect_deliveryClose r hp]
      exact deliveryCloseEffect_of_findsNone hbad

end Sys2Proof.Machine
end

section
/-! Membership and orphaning (R31, R32, R35, R42, R43, R47, R160 to R162): what orphaning, the end of a donation and the
removal of an entry each do to the station table and to the others, and the frames that are made of them. -/

namespace Sys2Proof.Machine

/-! ## Looking up a station -/

theorem map_eq_self {α : Type} {f : α → α} {l : List α} (h : ∀ x ∈ l, f x = x) : l.map f = l :=
  (List.map_congr_left h).trans (List.map_id' l)

/-- No two entries of the station table bear the same number. -/
abbrev Replica.StationsDistinct (r : Replica) : Prop := (r.stations.map StationEntry.number).Nodup

theorem Replica.InOrder.stationsDistinct {r : Replica} (h : r.InOrder) : r.StationsDistinct := by
  obtain ⟨hnumbers, _⟩ := h
  rw [Replica.StationsDistinct, hnumbers]
  exact List.nodup_range'

theorem Replica.station?_number {r : Replica} {n : Nat} {e : StationEntry} (h : r.station? n = some e) :
    e.number = n :=
  beq_iff_eq.mp (List.find?_some (p := fun e : StationEntry => e.number == n) h)

theorem Replica.station?_mem {r : Replica} {n : Nat} {e : StationEntry} (h : r.station? n = some e) :
    e ∈ r.stations := List.mem_of_find?_eq_some h

theorem Replica.station?_eq_none_iff {r : Replica} {n : Nat} :
    r.station? n = none ↔ ∀ e ∈ r.stations, e.number ≠ n := by
  simp [Replica.station?]

/-- In a table of distinct numbers an entry is known by its number. -/
theorem Replica.StationsDistinct.eq {r : Replica} (h : r.StationsDistinct) {x e : StationEntry}
    (hx : x ∈ r.stations) (he : e ∈ r.stations) (hn : x.number = e.number) : x = e :=
  eq_of_key_eq h hx he hn

theorem Replica.StationsDistinct.station?_eq {r : Replica} (h : r.StationsDistinct) {e : StationEntry}
    (he : e ∈ r.stations) : r.station? e.number = some e := by
  cases hfound : r.station? e.number with
  | none => exact absurd rfl (Replica.station?_eq_none_iff.mp hfound e he)
  | some x => rw [h.eq (Replica.station?_mem hfound) he (Replica.station?_number hfound)]

/-- A change of the entries that keeps their numbers, seen by a lookup. -/
theorem Replica.station?_of_stations {r r' : Replica} {n : Nat} {f : StationEntry → StationEntry}
    (h : r'.stations = r.stations.map f) (hf : ∀ e, (f e).number = e.number) :
    r'.station? n = (r.station? n).map f := by
  have hkey : (fun e : StationEntry => e.number == n) ∘ f = fun e => e.number == n :=
    funext fun e => by simp only [Function.comp, hf]
  rw [Replica.station?, h, List.find?_map, hkey, ← Replica.station?]

theorem Replica.stationsDistinct_of_stations {r r' : Replica} {f : StationEntry → StationEntry}
    (hd : r.StationsDistinct) (h : r'.stations = r.stations.map f) (hf : ∀ e, (f e).number = e.number) :
    r'.StationsDistinct := by
  have hkey : StationEntry.number ∘ f = StationEntry.number := funext hf
  rw [Replica.StationsDistinct, h, List.map_map, hkey]
  exact hd

/-! ## Orphaning -/

/-- An entry whose open activity, if it had one, was orphaned (R161, R162). -/
def StationEntry.orphaned (e : StationEntry) : StationEntry :=
  match e.activity with
  | some a => { e with activity := none
                       last := some { openSeq := a.openSeq, kind := .orphaned, billed := a.progress } }
  | none => e

@[simp] theorem StationEntry.orphaned_number (e : StationEntry) : e.orphaned.number = e.number := by
  unfold StationEntry.orphaned
  split <;> rfl

@[simp] theorem StationEntry.orphaned_membership (e : StationEntry) :
    e.orphaned.membership = e.membership := by
  unfold StationEntry.orphaned
  split <;> rfl

@[simp] theorem StationEntry.orphaned_donor (e : StationEntry) : e.orphaned.donor = e.donor := by
  unfold StationEntry.orphaned
  split <;> rfl

@[simp] theorem StationEntry.orphaned_donatingTo (e : StationEntry) :
    e.orphaned.donatingTo = e.donatingTo := by
  unfold StationEntry.orphaned
  split <;> rfl

theorem StationEntry.orphaned_of_idle {e : StationEntry} (h : e.activity = none) : e.orphaned = e := by
  simp only [StationEntry.orphaned, h]

theorem StationEntry.absent_orphaned (e : StationEntry) : e.orphaned.absent = e.gone := by
  unfold StationEntry.orphaned StationEntry.gone
  cases e.activity with
  | none => rfl
  | some a => rfl

@[simp] theorem StationEntry.gone_number (e : StationEntry) : e.gone.number = e.number := rfl
@[simp] theorem StationEntry.absent_number (e : StationEntry) : e.absent.number = e.number := rfl

theorem StationEntry.gone_of_idle {e : StationEntry} (h : e.activity = none) : e.gone = e.absent := by
  rw [← StationEntry.absent_orphaned, StationEntry.orphaned_of_idle h]

/-- Orphaning an entry without an open activity changes nothing. -/
theorem Replica.orphan_of_idle {r : Replica} {n : Nat} {time : Option Nat}
    (h : ∀ e ∈ r.station? n, e.activity = none) : r.orphan n time = r := by
  unfold Replica.orphan
  cases he : r.station? n with
  | none => rfl
  | some e => simp only [h e he]

theorem Replica.orphan_of_fill {r : Replica} {n : Nat} {time : Option Nat} {e : StationEntry}
    {a : OpenActivity} (he : r.station? n = some e) (ha : e.activity = some a) (hk : a.kind = .fill) :
    r.orphan n time = r.orphanFill n a time := by
  simp only [Replica.orphan, he, ha, hk]

theorem Replica.orphan_of_delivery {r : Replica} {n : Nat} {time : Option Nat} {e : StationEntry}
    {a : OpenActivity} (he : r.station? n = some e) (ha : e.activity = some a) (hk : a.kind = .delivery) :
    r.orphan n time = r.orphanDelivery n a time := by
  simp only [Replica.orphan, he, ha, hk]

/-- R161, R162: the tables after an open activity was orphaned. -/
theorem Replica.orphan_orphanedAs {r : Replica} {n : Nat} {time : Option Nat} {e : StationEntry}
    {a : OpenActivity} (he : r.station? n = some e) (ha : e.activity = some a) :
    r.OrphanedAs n a time (r.orphan n time) := by
  cases hk : a.kind with
  | delivery =>
    rw [Replica.orphan_of_delivery he ha hk]
    refine ⟨?_, rfl, ?_, ?_, ?_⟩
    · simp only [orphanRecord, hk]; rfl
    · simp only [hk]; rfl
    · simp only [hk]; rfl
    · simp only [hk]; rfl
  | fill =>
    rw [Replica.orphan_of_fill he ha hk]
    simp only [Replica.orphanFill, Replica.endFillAtMachine_eq]
    refine ⟨?_, rfl, ?_, ?_, ?_⟩
    · simp only [orphanRecord, hk]; rfl
    · simp only [hk]; rfl
    · simp only [hk]; rfl
    · simp only [hk]; rfl

/-- Orphaning sets the last ended of one entry, and changes no other. -/
theorem Replica.orphan_stations {r : Replica} (hd : r.StationsDistinct) (n : Nat) (time : Option Nat) :
    (r.orphan n time).stations =
      r.stations.map fun x => if x.number = n then x.orphaned else x := by
  by_cases hidle : ∀ e ∈ r.station? n, e.activity = none
  · rw [Replica.orphan_of_idle hidle]
    refine (map_eq_self fun x hx => ?_).symm
    by_cases hn : x.number = n
    · rw [if_pos hn, StationEntry.orphaned_of_idle (hidle x (hn ▸ hd.station?_eq hx))]
    · exact if_neg hn
  · obtain ⟨e, he, hopen⟩ := exists_of_not_forall hidle
    obtain ⟨a, ha⟩ := Option.ne_none_iff_exists'.mp hopen
    have hended : (r.orphan n time).stations = r.stations.map fun x =>
        if x.number = n then
          { x with activity := none
                   last := some { openSeq := a.openSeq, kind := .orphaned, billed := a.progress } }
        else x := by
      cases hk : a.kind with
      | delivery => rw [Replica.orphan_of_delivery he ha hk]; rfl
      | fill =>
        rw [Replica.orphan_of_fill he ha hk]
        simp only [Replica.orphanFill, Replica.endFillAtMachine_eq]
        rfl
    rw [hended]
    refine List.map_congr_left fun x hx => ?_
    by_cases hn : x.number = n
    · have hxe : x = e :=
        hd.eq hx (Replica.station?_mem he) (hn.trans (Replica.station?_number he).symm)
      rw [if_pos hn, if_pos hn, hxe]
      simp only [StationEntry.orphaned, ha]
    · rw [if_neg hn, if_neg hn]

/-! ## The end of a donation -/

/-- The entry `x` after a donation in which the entry `e` takes part has ended (R32). -/
def StationEntry.freedFrom (e x : StationEntry) : StationEntry :=
  if e.membership = .joining ∧ e.donor = some x.number then { x with donatingTo := none }
  else if e.membership = .inService ∧ e.donatingTo = some x.number then { x with donor := none }
  else x

@[simp] theorem StationEntry.freedFrom_number (e x : StationEntry) : (e.freedFrom x).number = x.number := by
  unfold StationEntry.freedFrom
  split
  · rfl
  · split <;> rfl

@[simp] theorem StationEntry.absent_freedFrom (e x : StationEntry) : (e.freedFrom x).absent = x.absent := by
  unfold StationEntry.freedFrom
  split
  · rfl
  · split <;> rfl

theorem Replica.endDonation_of_joining {r : Replica} {n d : Nat} {e : StationEntry}
    (he : r.station? n = some e) (hm : e.membership = .joining) (hd : e.donor = some d) :
    r.endDonation n = r.modStation d fun x => { x with donatingTo := none } := by
  simp only [Replica.endDonation, he, hm, hd]

theorem Replica.endDonation_of_inService {r : Replica} {n j : Nat} {e : StationEntry}
    (he : r.station? n = some e) (hm : e.membership = .inService) (hj : e.donatingTo = some j) :
    r.endDonation n = r.modStation j fun x => { x with donor := none } := by
  simp only [Replica.endDonation, he, hm, hj]

/-- An entry takes part in no donation. -/
abbrev StationEntry.Free (e : StationEntry) : Prop :=
  ¬ (e.membership = .joining ∧ e.donor.isSome = true) ∧
    ¬ (e.membership = .inService ∧ e.donatingTo.isSome = true)

theorem Replica.endDonation_of_free {r : Replica} {n : Nat} (h : ∀ e ∈ r.station? n, e.Free) :
    r.endDonation n = r := by
  unfold Replica.endDonation
  cases he : r.station? n with
  | none => rfl
  | some e =>
    obtain ⟨hjoining, hserving⟩ := h e he
    cases hm : e.membership with
    | absent => simp only [hm]
    | joining =>
      have hd : e.donor = none := by simpa [hm] using hjoining
      simp only [hm, hd]
    | inService =>
      have hj : e.donatingTo = none := by simpa [hm] using hserving
      simp only [hm, hj]

/-- R32: the end of a donation changes the partner's entry alone. -/
theorem Replica.endDonation_eq {r : Replica} {n : Nat} {e : StationEntry} (he : r.station? n = some e) :
    r.endDonation n = { r with stations := r.stations.map e.freedFrom } := by
  by_cases hjoining : e.membership = .joining ∧ e.donor.isSome = true
  · obtain ⟨hm, hsome⟩ := hjoining
    obtain ⟨d, hd⟩ := Option.isSome_iff_exists.mp hsome
    rw [Replica.endDonation_of_joining he hm hd, Replica.modStation]
    congr 2
    funext x
    simp [StationEntry.freedFrom, hm, hd, eq_comm]
  · by_cases hserving : e.membership = .inService ∧ e.donatingTo.isSome = true
    · obtain ⟨hm, hsome⟩ := hserving
      obtain ⟨j, hj⟩ := Option.isSome_iff_exists.mp hsome
      rw [Replica.endDonation_of_inService he hm hj, Replica.modStation]
      congr 2
      funext x
      simp [StationEntry.freedFrom, hm, hj, eq_comm]
    · have hself : ∀ x ∈ r.stations, e.freedFrom x = x := by
        intro x _
        rw [StationEntry.freedFrom, if_neg, if_neg]
        · exact fun h => hserving ⟨h.1, by simp [h.2]⟩
        · exact fun h => hjoining ⟨h.1, by simp [h.2]⟩
      rw [map_eq_self hself, Replica.endDonation_of_free fun x hx => ?_]
      obtain rfl : e = x := Option.some.inj (he.symm.trans hx)
      exact ⟨hjoining, hserving⟩

/-! ## Removal -/

/-- The entry `x` after the entry of number `n` was removed from the table (R32). -/
def Replica.removedAt (r : Replica) (n : Nat) (x : StationEntry) : StationEntry :=
  if x.number = n then x.gone
  else match r.station? n with
    | some e => e.freedFrom x
    | none => x

@[simp] theorem Replica.removedAt_number (r : Replica) (n : Nat) (x : StationEntry) :
    (r.removedAt n x).number = x.number := by
  unfold Replica.removedAt
  split
  · rfl
  · split
    · exact StationEntry.freedFrom_number _ _
    · rfl

theorem StationEntry.freedFrom_orphaned (e x : StationEntry) : e.orphaned.freedFrom x = e.freedFrom x := by
  simp only [StationEntry.freedFrom, StationEntry.orphaned_membership, StationEntry.orphaned_donor,
    StationEntry.orphaned_donatingTo]

/-- R32: what a removal does to the station table. -/
theorem Replica.remove_stations {r : Replica} (hd : r.StationsDistinct) (n : Nat) (time : Option Nat) :
    (r.remove time n).stations = r.stations.map (r.removedAt n) := by
  have horphan := Replica.orphan_stations hd n time
  have hfound : (r.orphan n time).station? n = (r.station? n).map StationEntry.orphaned := by
    rw [Replica.station?_of_stations horphan (fun e => by split <;> simp)]
    cases he : r.station? n with
    | none => rfl
    | some e => simp [Replica.station?_number he]
  rw [Replica.remove, Replica.modStation_stations]
  cases he : r.station? n with
  | none =>
    have hnone := Replica.station?_eq_none_iff.mp he
    rw [Replica.endDonation_of_free (by simp [hfound, he]), horphan, List.map_map]
    refine List.map_congr_left fun x hx => ?_
    simp only [Function.comp, Replica.removedAt, if_neg (hnone x hx), he]
  | some e =>
    have hdonation : ((r.orphan n time).endDonation n).stations =
        (r.orphan n time).stations.map e.freedFrom := by
      rw [Replica.endDonation_eq (e := e.orphaned) (by rw [hfound, he]; rfl)]
      exact List.map_congr_left fun x _ => StationEntry.freedFrom_orphaned e x
    rw [hdonation, horphan, List.map_map, List.map_map]
    refine List.map_congr_left fun x hx => ?_
    by_cases hn : x.number = n
    · simp [Replica.removedAt, hn, StationEntry.absent_orphaned]
    · simp [Replica.removedAt, hn, he]

/-- The tables but that of the stations are the same. -/
abbrev Replica.SameButStations (r r' : Replica) : Prop :=
  r'.log = r.log ∧ r'.site = r.site ∧ r'.machines = r.machines ∧ r'.tanks = r.tanks
    ∧ r'.costCentres = r.costCentres

theorem Replica.SameButStations.eq {r r' : Replica} (h : r.SameButStations r') :
    r' = { r with stations := r'.stations } := by
  obtain ⟨site, stations, tanks, costCentres, machines, log⟩ := r
  obtain ⟨site', stations', tanks', costCentres', machines', log'⟩ := r'
  obtain ⟨rfl, rfl, rfl, rfl, rfl⟩ := h
  rfl

theorem Replica.endDonation_same (r : Replica) (n : Nat) : r.SameButStations (r.endDonation n) := by
  cases he : r.station? n with
  | none => rw [Replica.endDonation_of_free (by simp [he])]; exact ⟨rfl, rfl, rfl, rfl, rfl⟩
  | some e => rw [Replica.endDonation_eq he]; exact ⟨rfl, rfl, rfl, rfl, rfl⟩

/-- R32: a removal leaves the other tables as orphaning leaves them. -/
theorem Replica.remove_same (r : Replica) (n : Nat) (time : Option Nat) :
    (r.orphan n time).SameButStations (r.remove time n) :=
  Replica.endDonation_same (r.orphan n time) n

theorem Replica.remove_same_of_idle {r : Replica} {n : Nat} {time : Option Nat}
    (h : ∀ e ∈ r.station? n, e.activity = none) : r.SameButStations (r.remove time n) := by
  have hsame := Replica.remove_same r n time
  rwa [Replica.orphan_of_idle h] at hsame

/-- What orphaning does to the tables but that of the stations is seen in any tables that differ from it there alone. -/
theorem Replica.OrphanedAs.of_same {r r₁ r₂ : Replica} {n : Nat} {a : OpenActivity} {time : Option Nat}
    (h : r.OrphanedAs n a time r₁) (hsame : r₁.SameButStations r₂) : r.OrphanedAs n a time r₂ := by
  obtain ⟨hlog, hsite, hmachines, htanks, hcentres⟩ := hsame
  rw [Replica.OrphanedAs, hlog, hsite, hmachines, htanks, hcentres]
  exact h

/-- R161, R162: the tables after the removal of an entry with an open activity. -/
theorem Replica.remove_orphanedAs {r : Replica} {n : Nat} {time : Option Nat} {e : StationEntry}
    {a : OpenActivity} (he : r.station? n = some e) (ha : e.activity = some a) :
    r.OrphanedAs n a time (r.remove time n) :=
  (Replica.orphan_orphanedAs he ha).of_same (Replica.remove_same r n time)

/-! ## LEAVE -/

theorem applyEffect_leave {f : Frame} (r : Replica) (hp : f.payload = .leave) :
    applyEffect r f = (r.remove none f.sender, .applied) := by
  have hkind : f.payload.kind? = some .leave := by rw [hp]; rfl
  rw [applyEffect_of_not_officeKind r hkind rfl, kindEffect, hp, leaveEffect]

/-- R43: the LEAVE of an entry without an open activity. -/
theorem Replica.remove_of_idle {r : Replica} {n : Nat} {time : Option Nat}
    (h : ∀ e ∈ r.station? n, e.activity = none) :
    r.remove time n = (r.endDonation n).modStation n StationEntry.absent := by
  rw [Replica.remove, Replica.orphan_of_idle h]

/-- The station table after the removal of the entry `e`. -/
theorem Replica.remove_stations_of_found {r : Replica} (hd : r.StationsDistinct) {n : Nat}
    {e : StationEntry} (he : r.station? n = some e) (time : Option Nat) :
    (r.remove time n).stations =
      r.stations.map fun x => if x.number = n then x.gone else e.freedFrom x := by
  rw [Replica.remove_stations hd]
  refine List.map_congr_left fun x _ => ?_
  simp only [Replica.removedAt, he]

/-- An entry that takes part in no donation frees none. -/
theorem StationEntry.freedFrom_of_free {e : StationEntry} (hd : e.donor = none) (hj : e.donatingTo = none)
    (x : StationEntry) : e.freedFrom x = x := by
  simp [StationEntry.freedFrom, hd, hj]

/-- The station table after the removal of an entry with the open activity `a` and no donation. -/
theorem Replica.remove_stations_of_open {r : Replica} (h : r.StationsDistinct) {n : Nat} {e : StationEntry}
    {a : OpenActivity} (he : r.station? n = some e) (ha : e.activity = some a) (hd : e.donor = none)
    (hj : e.donatingTo = none) (time : Option Nat) :
    (r.remove time n).stations = r.stations.map fun x =>
      if x.number = n then
        { number := x.number, membership := .absent, role := none, hose := none, served := none,
          misses := 0, donor := none, donatingTo := none, activity := none,
          last := some { openSeq := a.openSeq, kind := .orphaned, billed := a.progress } }
      else x := by
  rw [Replica.remove_stations_of_found h he]
  refine List.map_congr_left fun x hx => ?_
  by_cases hn : x.number = n
  · have hxe : x = e :=
      h.eq hx (Replica.station?_mem he) (hn.trans (Replica.station?_number he).symm)
    rw [if_pos hn, if_pos hn, hxe, StationEntry.gone]
    simp only [ha]
  · rw [if_neg hn, if_neg hn, StationEntry.freedFrom_of_free hd hj]

/-- Settles O25. -/
theorem leaveOrphansTheFill : Obligations.LeaveOrphansTheFill := by
  unfold Obligations.LeaveOrphansTheFill
  refine ⟨?_, ?_, ?_, ?_, ?_⟩
  · intro r f e hp he hidle hd hj
    have hfree : e.Free := by simp [StationEntry.Free, hd, hj]
    rw [applyEffect_leave r hp, Replica.remove_of_idle (by simp [he, hidle]),
      Replica.endDonation_of_free fun x hx => Option.some.inj (he.symm.trans hx) ▸ hfree]
    rfl
  · intro r f e n hp he hidle gone
    rw [applyEffect_leave r hp, Replica.remove_of_idle (by simp [he, hidle])]
    refine ⟨fun hm hj => ?_, fun hm hd => ?_⟩
    · rw [Replica.endDonation_of_inService he hm hj]
      rfl
    · rw [Replica.endDonation_of_joining he hm hd]
      rfl
  · intro r f e a horder _ hp he ha _
    refine ⟨_, applyEffect_leave r hp, Replica.remove_orphanedAs he ha, ?_⟩
    rw [Replica.remove_stations_of_found horder.stationsDistinct he]
    rfl
  · intro r f e a horder hp he ha hk hd hj
    obtain ⟨hlog, hsite, hmachines, htanks, hcentres⟩ :=
      Replica.remove_orphanedAs (time := none) he ha
    rw [orphanRecord] at hlog
    simp only [hk] at hlog hmachines htanks hcentres
    exact ⟨_, applyEffect_leave r hp, hlog, hsite, hmachines, hcentres, htanks,
      Replica.remove_stations_of_open horder.stationsDistinct he ha hd hj none⟩
  · intro r f e a m horder hp he ha hk hd hj hm
    obtain ⟨hlog, hsite, hmachines, htanks, hcentres⟩ :=
      Replica.remove_orphanedAs (time := none) he ha
    rw [orphanRecord] at hlog
    simp only [hk, hm, foundAnd_some] at hlog hmachines htanks hcentres
    exact ⟨_, applyEffect_leave r hp, hlog, hsite, hmachines, htanks, hcentres,
      Replica.remove_stations_of_open horder.stationsDistinct he ha hd hj none⟩

/-! ## CENSUS(PRESENT) -/

theorem applyEffect_presentCensus {f : Frame} {n : Nat} {time : Option Nat} {map : BitVec 32} (r : Replica)
    (hp : f.payload = .census .present n time) (hmap : f.map = some map) :
    applyEffect r f = presentEffect r map time := by
  have hkind : f.payload.kind? = some .census := by rw [hp]; rfl
  rw [applyEffect_of_not_officeKind r hkind rfl, kindEffect, hp, hmap, Option.getD_some]

/-- R31: the misses of an entry after the census. -/
theorem StationEntry.missesAfter_eq (e : StationEntry) (map : BitVec 32) :
    e.missesAfter map = match e.membership, e.donor with
      | .absent, _ => e.misses
      | .joining, none => e.misses + 1
      | _, _ => if map.getLsbD e.number = true then 0 else e.misses + 1 := by
  obtain ⟨_, membership, _, _, _, _, donor, _⟩ := e
  cases membership with
  | absent => rfl
  | inService => rfl
  | joining => cases donor <;> rfl

/-- The entry after a census has counted its misses. -/
def StationEntry.counted (map : BitVec 32) (e : StationEntry) : StationEntry :=
  { e with misses := e.missesAfter map }

/-- The tables once a census has counted the misses of every entry (R31). -/
def Replica.missesCounted (r : Replica) (map : BitVec 32) : Replica :=
  { r with stations := r.stations.map (StationEntry.counted map) }

/-- The numbers of the entries whose misses have reached 3 (R31). -/
def Replica.gone (r : Replica) : List Nat :=
  (r.stations.filter fun e => decide (3 ≤ e.misses)).map StationEntry.number

theorem presentEffect_eq (r : Replica) (map : BitVec 32) (time : Option Nat) :
    presentEffect r map time =
      ((r.missesCounted map).gone.foldl (fun acc n => acc.remove time n) (r.missesCounted map), .applied) :=
  rfl

theorem Replica.missesCounted_station? (r : Replica) (map : BitVec 32) (n : Nat) :
    (r.missesCounted map).station? n = (r.station? n).map (StationEntry.counted map) :=
  Replica.station?_of_stations rfl fun _ => rfl

theorem Replica.missesCounted_distinct {r : Replica} (h : r.StationsDistinct) (map : BitVec 32) :
    (r.missesCounted map).StationsDistinct :=
  Replica.stationsDistinct_of_stations h rfl fun _ => rfl

theorem Replica.gone_eq_nil {r : Replica} {map : BitVec 32}
    (h : ∀ e ∈ r.stations, e.missesAfter map < 3) : (r.missesCounted map).gone = [] := by
  rw [Replica.gone, List.map_eq_nil_iff, List.filter_eq_nil_iff]
  intro x hx
  obtain ⟨e, he, rfl⟩ := List.mem_map.mp hx
  exact fun hmisses => absurd (of_decide_eq_true hmisses) (Nat.not_le.mpr (h e he))

theorem Replica.mem_gone {r : Replica} {map : BitVec 32} {e : StationEntry} (he : e ∈ r.stations)
    (h : 3 ≤ e.missesAfter map) : e.number ∈ (r.missesCounted map).gone :=
  List.mem_map.mpr ⟨e.counted map, List.mem_filter.mpr ⟨List.mem_map_of_mem he, decide_eq_true h⟩, rfl⟩

/-- The one entry whose misses reach 3 is the one that is removed. -/
theorem Replica.gone_eq_singleton {r : Replica} {map : BitVec 32} {e : StationEntry}
    (hd : r.StationsDistinct) (he : e ∈ r.stations) (h : 3 ≤ e.missesAfter map)
    (hothers : ∀ x ∈ r.stations, x.number ≠ e.number → x.missesAfter map < 3) :
    (r.missesCounted map).gone = [e.number] := by
  have hall : ∀ n ∈ (r.missesCounted map).gone, n = e.number := by
    intro n hn
    obtain ⟨y, hy, rfl⟩ := List.mem_map.mp hn
    obtain ⟨hy, hmisses⟩ := List.mem_filter.mp hy
    obtain ⟨x, hx, rfl⟩ := List.mem_map.mp hy
    refine Classical.byContradiction fun hne => ?_
    exact absurd (of_decide_eq_true hmisses) (Nat.not_le.mpr (hothers x hx hne))
  have hnodup : (r.missesCounted map).gone.Nodup :=
    (Replica.missesCounted_distinct hd map).sublist (List.filter_sublist.map _)
  exact (List.eq_replicate_of_mem hall).trans (by
    have hlength : (r.missesCounted map).gone.length = 1 := by
      have hpos := List.length_pos_of_mem (Replica.mem_gone he h)
      have hle : (r.missesCounted map).gone.length ≤ 1 := by
        rw [List.eq_replicate_of_mem hall] at hnodup
        exact List.nodup_replicate.mp hnodup
      omega
    rw [hlength]
    rfl)

/-- An entry that was removed is not changed by another removal, and what a removal leaves of an entry is the same
before and after the end of another's donation. -/
theorem StationEntry.gone_freedFrom (e x : StationEntry) : (e.freedFrom x).gone = x.gone := by
  unfold StationEntry.freedFrom
  split
  · rfl
  · split <;> rfl

theorem StationEntry.gone_gone (e : StationEntry) : e.gone.gone = e.gone := rfl

theorem StationEntry.freedFrom_gone (e x : StationEntry) : e.freedFrom x.gone = x.gone := by
  unfold StationEntry.freedFrom
  split
  · rfl
  · split <;> rfl

theorem Replica.gone_removedAt (r : Replica) (n : Nat) (x : StationEntry) :
    (r.removedAt n x).gone = x.gone := by
  unfold Replica.removedAt
  split
  · rfl
  · split
    · exact StationEntry.gone_freedFrom _ _
    · rfl

theorem Replica.removedAt_gone (r : Replica) (n : Nat) (x : StationEntry) :
    r.removedAt n x.gone = x.gone := by
  unfold Replica.removedAt
  split
  · rfl
  · split
    · exact StationEntry.freedFrom_gone _ _
    · rfl

/-- However many entries are removed, each of them is gone in the end. -/
theorem Replica.station?_removeAll {time : Option Nat} {n : Nat} (l : List Nat) :
    ∀ {r : Replica} {e : StationEntry}, r.StationsDistinct → r.station? n = some e →
      ∃ x, (l.foldl (fun acc m => acc.remove time m) r).station? n = some x ∧ x.gone = e.gone
        ∧ (n ∈ l ∨ e = e.gone → x = e.gone) := by
  induction l with
  | nil =>
    intro r e _ he
    exact ⟨e, he, rfl, fun h => h.resolve_left List.not_mem_nil⟩
  | cons m l ih =>
    intro r e hd he
    have hstations := Replica.remove_stations hd m time
    have hd' : (r.remove time m).StationsDistinct :=
      Replica.stationsDistinct_of_stations hd hstations (r.removedAt_number m)
    have he' : (r.remove time m).station? n = some (r.removedAt m e) := by
      rw [Replica.station?_of_stations hstations (r.removedAt_number m), he]
      rfl
    obtain ⟨x, hx, hsame, hgone⟩ := ih hd' he'
    rw [Replica.gone_removedAt] at hsame hgone
    refine ⟨x, hx, hsame, fun h => hgone ?_⟩
    rcases h with h | h
    · rcases List.mem_cons.mp h with rfl | h
      · exact .inr (if_pos (Replica.station?_number he))
      · exact .inl h
    · exact .inr (by rw [h, Replica.removedAt_gone, StationEntry.gone_gone])

/-- Settles O23: the misses are counted; an entry that reaches 3 is gone in the end; the one that does so alone is
removed from the tables as R32 says. -/
theorem presentCensusCountsMisses : Obligations.PresentCensusCountsMisses := by
  unfold Obligations.PresentCensusCountsMisses
  refine ⟨?_, ?_, ?_⟩
  · intro r f n time map hp hmap g hall
    have hg : ∀ e, e.missesAfter map = g e := fun e => e.missesAfter_eq map
    have hcounted : StationEntry.counted map = fun e => { e with misses := g e } :=
      funext fun e => by rw [StationEntry.counted, hg]
    rw [applyEffect_presentCensus r hp hmap, presentEffect_eq,
      Replica.gone_eq_nil fun e he => hg e ▸ hall e he, List.foldl_nil, Replica.missesCounted, hcounted]
  · intro r f n time map e horder hp hmap he hm hmisses hslot
    have hd := horder.stationsDistinct
    have hcount : e.missesAfter map = 3 := by simp [StationEntry.missesAfter, hm, hslot, hmisses]
    have hfound : (r.missesCounted map).station? e.number = some (e.counted map) := by
      rw [Replica.missesCounted_station?, hd.station?_eq he]
      rfl
    obtain ⟨x, hx, _, hgone⟩ := Replica.station?_removeAll (time := time)
      (r.missesCounted map).gone (Replica.missesCounted_distinct hd map) hfound
    have hxe : x = e.gone := hgone (.inl (Replica.mem_gone he (Nat.le_of_eq hcount.symm)))
    rw [applyEffect_presentCensus r hp hmap, presentEffect_eq]
    refine ⟨x, hx, ?_⟩
    rw [hxe]
    refine ⟨rfl, rfl, rfl, rfl, rfl, rfl, fun hidle => ?_, fun a ha => ?_⟩
    · simp only [StationEntry.gone, hidle]
    · simp only [StationEntry.gone, ha]
  · intro r f n time map e horder _ hp hmap he _ g hcount hothers
    have hg : ∀ e, e.missesAfter map = g e := fun e => e.missesAfter_eq map
    have hd := horder.stationsDistinct
    have hd' := Replica.missesCounted_distinct hd map
    have hfound : (r.missesCounted map).station? e.number = some (e.counted map) := by
      rw [Replica.missesCounted_station?, hd.station?_eq he]
      rfl
    have heffect : applyEffect r f = ((r.missesCounted map).remove time e.number, .applied) := by
      rw [applyEffect_presentCensus r hp hmap, presentEffect_eq,
        Replica.gone_eq_singleton hd he (hg e ▸ hcount) fun x hx hne => hg x ▸ hothers x hx hne]
      rfl
    refine ⟨_, heffect, ?_, ?_, ?_⟩
    · rw [Replica.remove_stations_of_found hd' hfound, Replica.missesCounted, List.map_map]
      refine List.map_congr_left fun x _ => ?_
      rw [← hg x]
      rfl
    · intro hidle
      exact Replica.remove_same_of_idle (by simp [hfound, StationEntry.counted, hidle])
    · intro a ha
      exact Replica.remove_orphanedAs (r := r.missesCounted map) hfound ha

/-! ## JOIN -/

theorem applyEffect_join {f : Frame} {j : Joining} (r : Replica) (hp : f.payload = .join j) :
    applyEffect r f = joinEffect r f.sender j := by
  have hkind : f.payload.kind? = some .join := by rw [hp]; rfl
  rw [applyEffect_of_not_officeKind r hkind rfl, kindEffect, hp]

/-- An entry that a JOIN does not choose as its donor (R35). -/
abbrev StationEntry.NoDonor (x : StationEntry) : Prop :=
  x.membership ≠ .inService ∨ (x.role ≠ some .dispense ∧ x.role ≠ some .receipt) ∨ x.donatingTo ≠ none

/-- The test by which a JOIN chooses its donor (R35). -/
def StationEntry.canDonate (e : StationEntry) : Bool :=
  e.membership == .inService && (e.role == some .dispense || e.role == some .receipt) && e.donatingTo.isNone

theorem StationEntry.canDonate_iff {e : StationEntry} : e.canDonate = true ↔
    e.membership = .inService ∧ (e.role = some .dispense ∨ e.role = some .receipt) ∧ e.donatingTo = none := by
  simp only [StationEntry.canDonate, Bool.and_eq_true, Bool.or_eq_true, beq_iff_eq,
    Option.isNone_iff_eq_none, and_assoc]

theorem StationEntry.NoDonor.not_canDonate {e : StationEntry} (h : e.NoDonor) : ¬ e.canDonate = true := by
  rw [StationEntry.canDonate_iff]
  rintro ⟨hm, hrole, hj⟩
  rcases h with h | ⟨hdispense, hreceipt⟩ | h
  · exact h hm
  · exact hrole.elim hdispense hreceipt
  · exact h hj

theorem Replica.freeDonor_eq (r : Replica) :
    r.freeDonor = (r.stations.find? StationEntry.canDonate).map StationEntry.number := rfl

theorem Replica.freeDonor_of_none {r : Replica} (h : ∀ x ∈ r.stations, x.NoDonor) : r.freeDonor = none := by
  rw [Replica.freeDonor_eq, List.find?_eq_none.mpr fun x hx => (h x hx).not_canDonate, Option.map_none]

/-- R35: the donor is the first entry that can donate. -/
theorem Replica.freeDonor_of_first {r : Replica} {d : StationEntry}
    (h : ∃ before after, r.stations = before ++ d :: after ∧ ∀ x ∈ before, x.NoDonor)
    (hd : d.canDonate = true) : r.freeDonor = some d.number := by
  obtain ⟨before, after, hstations, hbefore⟩ := h
  have hnone : before.find? StationEntry.canDonate = none :=
    List.find?_eq_none.mpr fun x hx => (hbefore x hx).not_canDonate
  rw [Replica.freeDonor_eq, hstations, List.find?_append, hnone, Option.none_or,
    List.find?_cons_of_pos hd, Option.map_some]

/-- The tables in which a JOIN looks for its donor: an earlier donation of the joiner has ended (R35). -/
def Replica.joinable (r : Replica) (n : Nat) (e : StationEntry) : Replica :=
  match e.membership, e.donor with
  | .joining, some d => r.endJoinersDonation n d
  | _, _ => r

theorem Replica.joinable_of_noDonor {r : Replica} {n : Nat} {e : StationEntry} (h : e.donor = none) :
    r.joinable n e = r := by
  unfold Replica.joinable
  rw [h]
  cases e.membership <;> rfl

theorem Replica.joinable_of_joining {r : Replica} {n d : Nat} {e : StationEntry}
    (hm : e.membership = .joining) (hd : e.donor = some d) :
    r.joinable n e = r.endJoinersDonation n d := by
  simp only [Replica.joinable, hm, hd]

/-- R35: the JOIN of an entry that is not in service, by the donor that is found. -/
theorem joinEffect_eq {r : Replica} {n : Nat} {j : Joining} {e : StationEntry} (hself : j.station = n)
    (he : r.station? n = some e) (hm : e.membership ≠ .inService) :
    joinEffect r n j = match (r.joinable n e).freeDonor with
      | none => (r.joinable n e, .noChange)
      | some d =>
        (((r.joinable n e).modStation n fun x =>
            { x with membership := .joining, role := some j.role, hose := j.hose, served := j.served,
                     misses := 0, donor := some d }).modStation d fun x =>
            { x with donatingTo := some n }, .applied) := by
  rw [joinEffect, if_neg (Classical.not_not.mpr hself), he]
  exact if_neg hm

theorem joinEffect_of_donor {r : Replica} {n d : Nat} {j : Joining} {e : StationEntry}
    (hself : j.station = n) (he : r.station? n = some e) (hm : e.membership ≠ .inService)
    (hd : (r.joinable n e).freeDonor = some d) :
    joinEffect r n j =
      (((r.joinable n e).modStation n fun x =>
          { x with membership := .joining, role := some j.role, hose := j.hose, served := j.served,
                   misses := 0, donor := some d }).modStation d fun x =>
          { x with donatingTo := some n }, .applied) := by
  rw [joinEffect_eq hself he hm, hd]

/-- R35: a JOIN for another station, of an unknown one, or of one in service, changes nothing. -/
theorem joinEffect_of_refused {r : Replica} {n : Nat} {j : Joining}
    (h : j.station ≠ n ∨ ∀ e ∈ r.station? n, e.membership = .inService) :
    joinEffect r n j = (r, .noChange) := by
  rw [joinEffect]
  split
  case isTrue => rfl
  case isFalse hself =>
    cases he : r.station? n with
    | none => rfl
    | some e => exact if_pos (h.resolve_left hself e he)

theorem joinEffect_of_noDonor {r : Replica} {n : Nat} {j : Joining} {e : StationEntry}
    (hself : j.station = n) (he : r.station? n = some e) (hm : e.membership ≠ .inService)
    (hdonor : e.donor = none) (hnone : r.freeDonor = none) :
    joinEffect r n j = (r, .noChange) := by
  rw [joinEffect_eq hself he hm, Replica.joinable_of_noDonor hdonor, hnone]

/-! ## ANNOUNCE -/

theorem applyEffect_announce {f : Frame} {a : Announcing} (r : Replica) (hp : f.payload = .announce a) :
    applyEffect r f =
      if a.founder then founderEffect r f.sender a else announceEffect r f.sender a := by
  have hkind : f.payload.kind? = some .announce := by rw [hp]; rfl
  rw [applyEffect_of_not_officeKind r hkind rfl, kindEffect, hp]

theorem announceEffect_of_donor {r : Replica} {n d : Nat} {a : Announcing} {e : StationEntry}
    (he : r.station? n = some e) (hm : e.membership = .joining) (hd : e.donor = some d) :
    announceEffect r n a =
      ((r.modStation d fun x => { x with donatingTo := none }).modStation n fun x =>
        if a.keyCheck = r.site.keyCheck then
          { x with membership := .inService, role := some a.role, hose := a.hose, served := a.served,
                   misses := 0, donor := none }
        else { x with donor := none }, .applied) := by
  simp only [announceEffect, he, hm, hd]
  by_cases hkey : a.keyCheck = r.site.keyCheck
  · simp only [hkey]; rfl
  · simp only [hkey]; rfl

/-- R42: the ANNOUNCE of an entry that is not joining, or has lost its donor, changes nothing. -/
theorem announceEffect_of_refused {r : Replica} {n : Nat} {a : Announcing}
    (h : (r.station? n).map StationEntry.membership ≠ some .joining
      ∨ (r.station? n).bind StationEntry.donor = none) :
    announceEffect r n a = (r, .noChange) := by
  unfold announceEffect
  cases he : r.station? n with
  | none => rfl
  | some e =>
    rw [he] at h
    by_cases hm : e.membership = .joining
    · have hd : e.donor = none := h.resolve_left (by simp [hm])
      simp [hm, hd]
    · exact if_pos hm

/-! ## The founding sweep -/

/-- R47: the sweep makes one entry after the other ABSENT. -/
theorem Replica.sweepOne_stations {r : Replica} (hd : r.StationsDistinct) (n : Nat) :
    (r.sweepOne n).stations = r.stations.map fun x => if x.number = n then x.gone else x := by
  rw [Replica.sweepOne, Replica.modStation_stations, Replica.orphan_stations hd, List.map_map]
  refine List.map_congr_left fun x _ => ?_
  by_cases hn : x.number = n
  · simp [hn, StationEntry.absent_orphaned]
  · simp [hn]

theorem Replica.sweepOne_same_of_idle {r : Replica} {n : Nat}
    (h : ∀ e ∈ r.station? n, e.activity = none) : r.SameButStations (r.sweepOne n) := by
  rw [Replica.sweepOne, Replica.orphan_of_idle h]
  exact ⟨rfl, rfl, rfl, rfl, rfl⟩

theorem Replica.sweepOne_orphanedAs {r : Replica} {n : Nat} {e : StationEntry} {a : OpenActivity}
    (he : r.station? n = some e) (ha : e.activity = some a) : r.OrphanedAs n a none (r.sweepOne n) :=
  (Replica.orphan_orphanedAs he ha).of_same ⟨rfl, rfl, rfl, rfl, rfl⟩

theorem Replica.sweepOne_distinct {r : Replica} (hd : r.StationsDistinct) (n : Nat) :
    (r.sweepOne n).StationsDistinct :=
  Replica.stationsDistinct_of_stations hd (Replica.sweepOne_stations hd n) fun e => by split <;> rfl

/-- However many entries are swept, each of them is gone in the end and no other has changed. -/
theorem Replica.sweepAll_stations (l : List Nat) : ∀ {r : Replica}, r.StationsDistinct →
    (l.foldl Replica.sweepOne r).StationsDistinct
      ∧ (l.foldl Replica.sweepOne r).stations = r.stations.map fun x => if x.number ∈ l then x.gone else x := by
  induction l with
  | nil => intro r hd; exact ⟨hd, (map_eq_self fun x _ => if_neg List.not_mem_nil).symm⟩
  | cons n l ih =>
    intro r hd
    obtain ⟨hd', hstations⟩ := ih (Replica.sweepOne_distinct hd n)
    refine ⟨hd', ?_⟩
    rw [List.foldl_cons, hstations, Replica.sweepOne_stations hd, List.map_map]
    refine List.map_congr_left fun x _ => ?_
    by_cases hn : x.number = n
    · simp [hn, StationEntry.gone_gone]
    · simp [hn]

/-- A sweep over entries without an open activity changes the station table alone. -/
theorem Replica.sweepAll_same (l : List Nat) : ∀ {r : Replica}, r.StationsDistinct →
    (∀ e ∈ r.stations, e.number ∈ l → e.activity = none) →
    r.SameButStations (l.foldl Replica.sweepOne r) := by
  induction l with
  | nil => intro r _ _; exact ⟨rfl, rfl, rfl, rfl, rfl⟩
  | cons n l ih =>
    intro r hd hidle
    have hone : r.SameButStations (r.sweepOne n) := Replica.sweepOne_same_of_idle fun e he =>
      hidle e (Replica.station?_mem he) (Replica.station?_number he ▸ List.mem_cons_self)
    have hrest : (r.sweepOne n).SameButStations (l.foldl Replica.sweepOne (r.sweepOne n)) := by
      refine ih (Replica.sweepOne_distinct hd n) fun e he hn => ?_
      rw [Replica.sweepOne_stations hd] at he
      obtain ⟨x, hx, rfl⟩ := List.mem_map.mp he
      by_cases hxn : x.number = n
      · rw [if_pos hxn]; rfl
      · rw [if_neg hxn] at hn ⊢
        exact hidle x hx (List.mem_cons_of_mem n hn)
    obtain ⟨h1, h2, h3, h4, h5⟩ := hone
    obtain ⟨g1, g2, g3, g4, g5⟩ := hrest
    exact ⟨g1.trans h1, g2.trans h2, g3.trans h3, g4.trans h4, g5.trans h5⟩

/-- What orphaning does to the other tables does not depend on the station table. -/
theorem Replica.OrphanedAs.of_same_before {r₁ r₂ r : Replica} {n : Nat} {a : OpenActivity}
    {time : Option Nat} (hsame : r₁.SameButStations r₂) (h : r₂.OrphanedAs n a time r) :
    r₁.OrphanedAs n a time r := by
  obtain ⟨site₁, stations₁, tanks₁, costCentres₁, machines₁, log₁⟩ := r₁
  obtain ⟨site₂, stations₂, tanks₂, costCentres₂, machines₂, log₂⟩ := r₂
  obtain ⟨rfl, rfl, rfl, rfl, rfl⟩ := hsame
  exact h

/-- A sweep over entries of which one has an open activity orphans it. -/
theorem Replica.sweepAll_orphanedAs {l : List Nat} {r : Replica} {x : StationEntry} {a : OpenActivity}
    (hd : r.StationsDistinct) (hx : x ∈ r.stations) (ha : x.activity = some a) (hmem : x.number ∈ l)
    (hnodup : l.Nodup)
    (hothers : ∀ e ∈ r.stations, e.number ∈ l → e.number ≠ x.number → e.activity = none) :
    r.OrphanedAs x.number a none (l.foldl Replica.sweepOne r) := by
  obtain ⟨before, after, rfl⟩ := List.append_of_mem hmem
  rw [List.nodup_append, List.nodup_cons] at hnodup
  obtain ⟨_, ⟨hafter, _⟩, hdisjoint⟩ := hnodup
  have hbefore : x.number ∉ before := fun h => hdisjoint _ h _ List.mem_cons_self rfl
  obtain ⟨hd₁, hstations₁⟩ := Replica.sweepAll_stations before hd
  have hsame₁ : r.SameButStations (before.foldl Replica.sweepOne r) :=
    Replica.sweepAll_same before hd fun e he hn =>
      hothers e he (List.mem_append_left _ hn) fun h => hbefore (h ▸ hn)
  have hfound : (before.foldl Replica.sweepOne r).station? x.number = some x := by
    rw [Replica.station?_of_stations hstations₁ (fun e => by split <;> rfl), hd.station?_eq hx,
      Option.map_some, if_neg hbefore]
  have hone := Replica.sweepOne_orphanedAs hfound ha
  have hsame₂ := Replica.sweepAll_same after (Replica.sweepOne_distinct hd₁ x.number) fun e he hn => by
    rw [Replica.sweepOne_stations hd₁, hstations₁, List.map_map] at he
    obtain ⟨y, hy, rfl⟩ := List.mem_map.mp he
    simp only [Function.comp] at hn ⊢
    by_cases hb : y.number ∈ before
    · simp only [if_pos hb]
      split <;> rfl
    · simp only [if_neg hb] at hn ⊢
      by_cases hyx : y.number = x.number
      · rw [if_pos hyx]; rfl
      · rw [if_neg hyx] at hn ⊢
        exact hothers y hy (List.mem_append_right _ (List.mem_cons_of_mem _ hn)) hyx
  rw [List.foldl_append, List.foldl_cons]
  exact (hone.of_same hsame₂).of_same_before hsame₁

/-- The numbers of the entries that the founding sweep of `n` goes through. -/
def Replica.othersThan (r : Replica) (n : Nat) : List Nat :=
  (r.stations.map StationEntry.number).filter fun m => decide (m ≠ n)

theorem Replica.mem_othersThan {r : Replica} {n : Nat} {e : StationEntry} (he : e ∈ r.stations) :
    e.number ∈ r.othersThan n ↔ e.number ≠ n := by
  simp only [Replica.othersThan, List.mem_filter, decide_eq_true_eq, List.mem_map_of_mem he, true_and]

/-- The site record with the key check of a founder (R47). -/
def Replica.keyed (r : Replica) (key : Check) : Replica := { r with site := { r.site with keyCheck := key } }

/-- The entry of the founder after its ANNOUNCE (R47). -/
def StationEntry.founded (a : Announcing) (x : StationEntry) : StationEntry :=
  { x with membership := .inService, role := some a.role, hose := a.hose, served := a.served,
           misses := 0, donor := none, donatingTo := none }

theorem founderEffect_eq (r : Replica) (n : Nat) (a : Announcing) :
    founderEffect r n a =
      ((((r.keyed a.keyCheck).othersThan n).foldl Replica.sweepOne (r.keyed a.keyCheck)).modStation n
        (StationEntry.founded a), .applied) := rfl

/-- R47: the station table after the founding sweep. -/
theorem founderEffect_stations {r : Replica} (hd : r.StationsDistinct) (n : Nat) (a : Announcing) :
    (founderEffect r n a).1.stations =
      r.stations.map fun e => if e.number = n then e.founded a else e.gone := by
  obtain ⟨_, hstations⟩ := Replica.sweepAll_stations ((r.keyed a.keyCheck).othersThan n)
    (r := r.keyed a.keyCheck) hd
  rw [founderEffect_eq]
  dsimp only
  rw [Replica.modStation_stations, hstations, List.map_map]
  refine List.map_congr_left fun e he => ?_
  have hmem := Replica.mem_othersThan (r := r.keyed a.keyCheck) (n := n) he
  by_cases hn : e.number = n
  · have hout : ¬ e.number ∈ (r.keyed a.keyCheck).othersThan n := fun h => hmem.mp h hn
    simp only [Function.comp, if_neg hout, if_pos hn]
  · simp only [Function.comp, if_pos (hmem.mpr hn), StationEntry.gone_number, if_neg hn]

/-- Settles O24. -/
theorem membershipFrames : Obligations.MembershipFrames := by
  unfold Obligations.MembershipFrames
  refine ⟨?_, ?_, ?_, ?_, ?_, ?_, ?_⟩
  · intro r f j e d hp hself he hm hdonor hfirst hdm hdrole hdfree
    have hjoinable := Replica.joinable_of_noDonor (r := r) (n := f.sender) hdonor
    have hfree := Replica.freeDonor_of_first hfirst (StationEntry.canDonate_iff.mpr ⟨hdm, hdrole, hdfree⟩)
    rw [applyEffect_join r hp, joinEffect_of_donor hself he hm (hjoinable ▸ hfree), hjoinable]
  · intro r f j e d n hp hself he hm hdonor ended hfirst hdm hdrole hdfree
    have hjoinable : r.joinable f.sender e = ended := Replica.joinable_of_joining hm hdonor
    have hfree := Replica.freeDonor_of_first hfirst (StationEntry.canDonate_iff.mpr ⟨hdm, hdrole, hdfree⟩)
    rw [applyEffect_join r hp,
      joinEffect_of_donor hself he (by rw [hm]; nofun) (hjoinable ▸ hfree), hjoinable]
  · intro r f j hp h
    rw [applyEffect_join r hp]
    by_cases hrefused : j.station ≠ f.sender ∨ ∀ e ∈ r.station? f.sender, e.membership = .inService
    · exact joinEffect_of_refused hrefused
    · obtain ⟨hself, hnot⟩ := not_or.mp hrefused
      obtain ⟨e, he, hm⟩ := exists_of_not_forall hnot
      have hself := Classical.not_not.mp hself
      rcases h with h | h | ⟨hdonor, hnone⟩
      · exact absurd hself h
      · simp [Option.mem_def.mp he, hm] at h
      · rw [Option.mem_def.mp he] at hdonor
        exact joinEffect_of_noDonor hself he hm hdonor (Replica.freeDonor_of_none hnone)
  · intro r f a e d hp hfounder he hm hd
    rw [applyEffect_announce r hp, hfounder, if_neg Bool.false_ne_true, announceEffect_of_donor he hm hd]
  · intro r f a hp hfounder h
    rw [applyEffect_announce r hp, hfounder, if_neg Bool.false_ne_true, announceEffect_of_refused h]
  · intro r f a horder hp hfounder hidle
    have hd := horder.stationsDistinct
    have hsame : (r.keyed a.keyCheck).SameButStations (founderEffect r f.sender a).1 :=
      Replica.sweepAll_same ((r.keyed a.keyCheck).othersThan f.sender) (r := r.keyed a.keyCheck) hd
        fun e he hn => hidle e he ((Replica.mem_othersThan (r := r.keyed a.keyCheck) he).mp hn)
    have htables : (founderEffect r f.sender a).1 = { r.keyed a.keyCheck with
        stations := r.stations.map fun e => if e.number = f.sender then e.founded a else e.absent } := by
      rw [hsame.eq, founderEffect_stations hd]
      congr 1
      refine List.map_congr_left fun e he => ?_
      by_cases hn : e.number = f.sender
      · rw [if_pos hn, if_pos hn]
      · rw [if_neg hn, if_neg hn, StationEntry.gone_of_idle (hidle e he hn)]
    rw [applyEffect_announce r hp, hfounder, if_pos rfl]
    exact Prod.ext htables rfl
  · intro r f a x o horder _ hp hfounder hx hne ho hothers keyed
    have hd := horder.stationsDistinct
    rw [applyEffect_announce r hp, hfounder, if_pos rfl]
    refine ⟨_, rfl, ?_, founderEffect_stations hd f.sender a⟩
    exact Replica.sweepAll_orphanedAs (r := keyed) hd hx ho
      ((Replica.mem_othersThan (r := keyed) hx).mpr hne) (hd.sublist List.filter_sublist)
      fun e he hn hex => hothers e he ((Replica.mem_othersThan (r := keyed) he).mp hn) hex

end Sys2Proof.Machine
end

section
/-! The machine as a whole: one step, the values of reset, and what forces the outputs off (R113, R181). -/

namespace Sys2Proof.Machine

/-- Settles O1: the definition of `step`, by whether a command waits. -/
theorem stepRunsFrontCommand : Obligations.StepRunsFrontCommand := by
  unfold Obligations.StepRunsFrontCommand
  refine ⟨fun c rest s h => ?_, fun s h => ?_⟩
  · rw [step, h]
  · rw [step, h]

/-- The cells after reset stand at their default settings, each on the level of its own input (R82, R85). -/
theorem Cells.reset_get (inputs : BitVec 8) :
    ∀ x ∈ [(Cell.a, 0, FilterMode.delayed, 2), (.b, 1, .delayed, 2), (.c, 2, .delayed, 2),
        (.noz, 3, .immediate, 200), (.cpl, 4, .delayed, 200), (.estop, 5, .immediate, 50),
        (.svm, 6, .delayed, 50), (.dhs, 7, .immediate, 200)],
      (Cells.reset inputs).get x.1 = FilterCell.reset x.2.2.1 x.2.2.2 (inputs.getLsbD x.2.1) := by
  intro x hx
  simp only [List.mem_cons, List.not_mem_nil, or_false] at hx
  rcases hx with rfl | rfl | rfl | rfl | rfl | rfl | rfl | rfl <;> rfl

/-- Settles O3: block by block. -/
theorem resetValues : Obligations.ResetValues := by
  unfold Obligations.ResetValues
  refine ⟨?link, ?engine, ?inlet, ?meter, ?activity, ?console, ?cells⟩
  case link => exact ⟨rfl, rfl, rfl, rfl, rfl, rfl, rfl, rfl⟩
  case engine => exact ⟨rfl, rfl, rfl, rfl, rfl, rfl, rfl, rfl, rfl, rfl, rfl, rfl, rfl, rfl, rfl⟩
  case inlet => exact ⟨rfl, rfl, rfl, rfl, rfl, rfl, rfl, rfl, rfl⟩
  case meter =>
    exact ⟨rfl, rfl, rfl, rfl, rfl, rfl, rfl, rfl, rfl, rfl, rfl, rfl, rfl, rfl, rfl, rfl, rfl⟩
  case activity =>
    exact ⟨rfl, rfl, rfl, rfl, rfl, rfl, rfl, rfl, rfl, rfl, rfl, rfl, rfl, rfl, rfl, rfl, rfl, rfl,
      rfl, rfl, rfl, rfl, rfl, rfl, rfl, rfl⟩
  case console => exact ⟨rfl, rfl, rfl, rfl, rfl, rfl, rfl, rfl, rfl, rfl, rfl⟩
  case cells =>
    intro inputs replica wiped reached record free pending x hx
    exact Cells.reset_get inputs x hx

/-! ## Outputs (R113) -/

/-- What holds where nothing forces the outputs off. -/
theorem State.forcedOff_eq_false {s : State} (h : s.forcedOff = false) :
    s.link.state = .inService ∧ s.meter.cells.estop.output = false ∧ s.activity.faultPending = false
      ∧ s.stopUnapplied = false ∧ s.replica.site.stop = none ∧ s.supply.state ≠ .powerDown := by
  simp only [State.forcedOff, Bool.or_eq_false_iff, Bool.not_eq_false', State.inService, beq_iff_eq,
    beq_eq_false_iff_ne, Option.isSome_eq_false_iff, Option.isNone_iff_eq_none] at h
  obtain ⟨⟨⟨⟨⟨⟨hlink, hestop⟩, _⟩, hfault⟩, hstop⟩, hsite⟩, hsupply⟩ := h
  exact ⟨hlink, hestop, hfault, hstop, hsite, hsupply⟩

theorem State.forcedOff_of_on {s : State} (h : s.pump = true ∨ s.vmain = true ∨ s.vtrim = true) :
    s.forcedOff = false := by
  simp only [State.pump, State.vmain, State.vtrim, Bool.and_eq_true, Bool.not_eq_true'] at h
  rcases h with h | h | h
  · exact h.2
  · exact h.2
  · exact h.2

/-- No STOP waits among the frames of a queue that holds none. -/
theorem Frame.no_stop_of_any {l : List Frame} (h : l.any Frame.isStop = false) :
    ∀ f ∈ l, f.payload.kind? ≠ some .stop := by
  intro f hf
  have hstop := List.any_eq_false.mp h f hf
  simpa [Frame.isStop] using hstop

theorem ActState.flows_iff {a : ActState} : a.flows = true ↔ a = .flowing ∨ a = .slowing := by
  cases a <;> simp [ActState.flows]

/-- The requests follow the activity, so an output that is on tells its state (R113). -/
theorem State.ValvesFollow.flows_of_on {s : State} (hv : s.ValvesFollow)
    (h : s.pump = true ∨ s.vmain = true ∨ s.vtrim = true) : s.activity.state.flows = true := by
  obtain ⟨hvmain, hpump, hvtrim⟩ := hv
  simp only [State.pump, State.vmain, State.vtrim, Bool.and_eq_true] at h
  rcases h with h | h | h
  · exact hpump h.1
  · rw [hvmain h.1]; rfl
  · exact hvtrim h.1

/-- Settles O8. -/
theorem outputsAreGuarded : Obligations.OutputsAreGuarded := by
  unfold Obligations.OutputsAreGuarded
  intro s hv hon
  obtain ⟨hlink, hestop, hfault, hstop, hsite, hsupply⟩ :=
    State.forcedOff_eq_false (State.forcedOff_of_on hon)
  simp only [State.stopUnapplied, Bool.or_eq_false_iff] at hstop
  obtain ⟨⟨⟨hinbound, hdeferred⟩, _⟩, _⟩ := hstop
  refine ⟨ActState.flows_iff.mp (State.ValvesFollow.flows_of_on hv hon), fun hvmain => ?_, hlink, hestop,
    hfault, hsite, Frame.no_stop_of_any hinbound, Frame.no_stop_of_any hdeferred, ?_⟩
  · exact hv.1 (Bool.and_eq_true_iff.mp hvmain).1
  · cases hs : s.supply.state with
    | normal => rfl
    | powerDown => exact absurd hs hsupply

end Sys2Proof.Machine
end

section
/-! What a command leaves unchanged and what it keeps, as one relation between the state before and after: `Frame` says it
of every operation of a block, `Keeps` adds the invariants that hang on the state of the activity. An operation that takes
part in a command keeps the relation to the state in which the command began; so a command's own frame is read off its
definition, operation by operation. -/

namespace Sys2Proof.Machine

/-! ## The relation -/

/-- The parts of the state that a command may change beyond what every operation may. -/
structure Permits where
  tables : Bool := false
  writing : Bool := false
  wiped : Bool := false
  clock : Bool := false
  config : Bool := false
  supply : Bool := false
  counts : Bool := false
  errors : Bool := false
  cells : Bool := false
  starts : Bool := false

/-- The bounds of the queues, between the notices of one step. -/
abbrev State.Bounded (s : State) : Prop :=
  (s.link.tx.map TxEntry.origin).Nodup ∧ s.link.inbound.length ≤ 8 ∧ s.engine.catchUp.length ≤ 64
    ∧ s.engine.deferred.length ≤ 64 ∧ s.console.notices.length ≤ 16

/-- No output is requested that was not requested before. -/
abbrev Outputs.Within (t s : Outputs) : Prop :=
  (t.pump = true → s.pump = true) ∧ (t.vmain = true → s.vmain = true) ∧ (t.vtrim = true → s.vtrim = true)

/-- No write-back runs, and none waits. -/
abbrev State.NoWriteBack (s : State) : Prop := s.ident.writing = none ∧ s.ident.waiting = none

/-- The counts that a step of the meter moves. -/
def Meter.counts (m : Meter) : Int × Int × Int × Bool × Nat :=
  (m.acc, m.rev, m.comp, m.uncompensated, m.phaseErrors)

/-- What lies between two states of which the second came about by operations of the blocks, with the permits `p`. -/
structure State.Frame (p : Permits) (s t : State) : Prop where
  pending : t.pending = s.pending
  tables : p.tables = false → t.replica = s.replica ∧ t.limitReached = s.limitReached
  writing : p.writing = false → t.engine.writing = s.engine.writing
  wiped : p.wiped = false → t.wiped = s.wiped
  clock : p.clock = false → t.clock = s.clock
  config : p.config = false → t.console.config = s.console.config
  supply : p.supply = false → t.supply.state = s.supply.state
  counts : p.counts = false → t.meter.counts = s.meter.counts
  errors : p.errors = false → t.link.errors = s.link.errors
  cells : p.cells = false → t.meter.cells = s.meter.cells
  outputs : p.starts = false → t.outputs.Within s.outputs
  noWriteBack : p.starts = false → s.NoWriteBack → t.NoWriteBack
  bounded : s.Bounded → t.Bounded
  steady : s.SupplySteady → t.SupplySteady

/-- A frame that also keeps the valve requests and the write-back to the activity. -/
structure State.Keeps (p : Permits) (s t : State) : Prop extends State.Frame p s t where
  valves : s.ValvesFollow → t.ValvesFollow
  writes : s.WritesInWriteback → t.WritesInWriteback

/-- What most operations leave as it is, of all that a frame speaks of. -/
def State.framed (s : State) :=
  (s.pending, s.replica, s.limitReached, s.engine.writing, s.wiped, s.clock, s.console.config, s.supply.state,
    s.meter.counts, s.link.errors, s.meter.cells, s.outputs, s.ident.writing, s.ident.waiting,
    s.link.inbound, s.engine.catchUp, s.engine.deferred, s.console.notices)

/-- What `Keeps` reads of the activity. -/
def State.stage (s : State) : ActState × Bool := (s.activity.state, s.activity.writeBackDone)

namespace State.Frame

variable {p : Permits} {s x t : State}

theorem refl (p : Permits) (s : State) : Frame p s s where
  pending := rfl
  tables _ := ⟨rfl, rfl⟩
  writing _ := rfl
  wiped _ := rfl
  clock _ := rfl
  config _ := rfl
  supply _ := rfl
  counts _ := rfl
  errors _ := rfl
  cells _ := rfl
  outputs _ := ⟨id, id, id⟩
  noWriteBack _ := id
  bounded := id
  steady := id

theorem trans (h : Frame p s x) (h' : Frame p x t) : Frame p s t where
  pending := h'.pending.trans h.pending
  tables hp := ⟨(h'.tables hp).1.trans (h.tables hp).1, (h'.tables hp).2.trans (h.tables hp).2⟩
  writing hp := (h'.writing hp).trans (h.writing hp)
  wiped hp := (h'.wiped hp).trans (h.wiped hp)
  clock hp := (h'.clock hp).trans (h.clock hp)
  config hp := (h'.config hp).trans (h.config hp)
  supply hp := (h'.supply hp).trans (h.supply hp)
  counts hp := (h'.counts hp).trans (h.counts hp)
  errors hp := (h'.errors hp).trans (h.errors hp)
  cells hp := (h'.cells hp).trans (h.cells hp)
  outputs hp :=
    have ⟨a, b, c⟩ := h.outputs hp
    have ⟨a', b', c'⟩ := h'.outputs hp
    ⟨a ∘ a', b ∘ b', c ∘ c'⟩
  noWriteBack hp := h'.noWriteBack hp ∘ h.noWriteBack hp
  bounded := h'.bounded ∘ h.bounded
  steady := h'.steady ∘ h.steady

/-- What holds without a permit holds with any. -/
theorem weaken (h : Frame {} s t) : Frame p s t where
  pending := h.pending
  tables _ := h.tables rfl
  writing _ := h.writing rfl
  wiped _ := h.wiped rfl
  clock _ := h.clock rfl
  config _ := h.config rfl
  supply _ := h.supply rfl
  counts _ := h.counts rfl
  errors _ := h.errors rfl
  cells _ := h.cells rfl
  outputs _ := h.outputs rfl
  noWriteBack _ := h.noWriteBack rfl
  bounded := h.bounded
  steady := h.steady

/-- A step that changes the transmit queue, and nothing else of what a frame speaks of. -/
theorem of_framed (hf : t.framed = s.framed)
    (htx : (s.link.tx.map TxEntry.origin).Nodup → (t.link.tx.map TxEntry.origin).Nodup) : Frame p s t := by
  simp only [State.framed, Prod.mk.injEq] at hf
  obtain ⟨hpending, hreplica, hlimit, hwriting, hwiped, hclock, hconfig, hsupply, hcounts, herrors, hcells,
    houtputs, hbusy, hwaiting, hinbound, hcatchUp, hdeferred, hnotices⟩ := hf
  exact
    { pending := hpending
      tables := fun _ => ⟨hreplica, hlimit⟩
      writing := fun _ => hwriting
      wiped := fun _ => hwiped
      clock := fun _ => hclock
      config := fun _ => hconfig
      supply := fun _ => hsupply
      counts := fun _ => hcounts
      errors := fun _ => herrors
      cells := fun _ => hcells
      outputs := fun _ => houtputs ▸ ⟨id, id, id⟩
      noWriteBack := fun _ h => ⟨hbusy.trans h.1, hwaiting.trans h.2⟩
      bounded := fun ⟨hnodup, hrest⟩ =>
        ⟨htx hnodup, by rw [hinbound, hcatchUp, hdeferred, hnotices]; exact hrest⟩
      steady := fun h hn => by rw [hcells]; exact h (hsupply ▸ hn) }

/-- An operation that changes nothing of what a frame speaks of. -/
theorem quiet (h : Frame p s x) (hf : t.framed = x.framed) (htx : t.link.tx = x.link.tx) : Frame p s t :=
  h.trans (of_framed hf (htx ▸ id))

/-- With all outputs off and no write-back, a frame keeps what hangs on the activity, whatever its state. -/
theorem keeps_of_rest (h : Frame p s t) (hp : p.starts = false) (ho : s.ValvesFollow → s.outputs.Within
      { pump := false, vmain := false, vtrim := false }) (hw : s.WritesInWriteback → s.NoWriteBack) :
    Keeps p s t where
  toFrame := h
  valves hv := by
    obtain ⟨a, b, c⟩ := h.outputs hp
    obtain ⟨a', b', c'⟩ := ho hv
    exact ⟨fun h => absurd (b' (b h)) Bool.false_ne_true, fun h => absurd (a' (a h)) Bool.false_ne_true,
      fun h => absurd (c' (c h)) Bool.false_ne_true⟩
  writes hs := by
    obtain ⟨hbusy, hwaiting⟩ := h.noWriteBack hp (hw hs)
    exact ⟨fun h => by simp [hbusy, hwaiting] at h, .inl hbusy⟩

end State.Frame

/-- In a state that does not flow no output is requested. -/
theorem State.ValvesFollow.off {s : State} (hv : s.ValvesFollow) (h : s.activity.state.flows = false) :
    s.outputs.Within { pump := false, vmain := false, vtrim := false } := by
  obtain ⟨hvmain, hpump, hvtrim⟩ := hv
  rw [h] at hpump hvtrim
  refine ⟨fun hp => hpump hp, fun hm => ?_, fun ht => hvtrim ht⟩
  rw [hvmain hm] at h
  exact absurd h.symm Bool.false_ne_true

/-- Outside WRITEBACK, and in it once the end was heard, no write-back runs or waits. -/
theorem State.WritesInWriteback.none {s : State} (hs : s.WritesInWriteback)
    (h : s.activity.state ≠ .writeback ∨ s.activity.writeBackDone = true) : s.NoWriteBack := by
  obtain ⟨hrun, _⟩ := hs
  have hnot : ¬ (s.ident.writing.isSome = true ∨ s.ident.waiting.isSome = true) := by
    intro hsome
    obtain ⟨hstate, hdone⟩ := hrun hsome
    rcases h with h | h
    · exact h hstate
    · rw [hdone] at h; exact Bool.false_ne_true h
  simpa using hnot

namespace State.Keeps

variable {p : Permits} {s x t : State}

theorem refl (p : Permits) (s : State) : Keeps p s s := ⟨.refl p s, id, id⟩

theorem trans (h : Keeps p s x) (h' : Keeps p x t) : Keeps p s t :=
  ⟨h.toFrame.trans h'.toFrame, h'.valves ∘ h.valves, h'.writes ∘ h.writes⟩

/-- What hangs on the activity is kept where nothing that it speaks of changes. -/
theorem of_frame (h : Frame p s t) (ho : t.outputs = s.outputs) (hb : t.ident.writing = s.ident.writing)
    (hw : t.ident.waiting = s.ident.waiting) (hs : t.stage = s.stage) : Keeps p s t := by
  simp only [State.stage, Prod.mk.injEq] at hs
  obtain ⟨hstate, hdone⟩ := hs
  refine ⟨h, fun hv => ?_, fun hr => ?_⟩
  · rw [State.ValvesFollow, ho, hstate]; exact hv
  · rw [State.WritesInWriteback, hb, hw, hstate, hdone]; exact hr

theorem of_framed (hf : t.framed = s.framed) (hs : t.stage = s.stage)
    (htx : (s.link.tx.map TxEntry.origin).Nodup → (t.link.tx.map TxEntry.origin).Nodup) : Keeps p s t := by
  refine of_frame (.of_framed hf htx) ?_ ?_ ?_ hs
  all_goals
    simp only [State.framed, Prod.mk.injEq] at hf
    simp only [hf]

/-- An operation that changes nothing of what the relation speaks of. -/
theorem quiet (h : Keeps p s x) (hf : t.framed = x.framed) (hs : t.stage = x.stage)
    (htx : t.link.tx = x.link.tx) : Keeps p s t :=
  h.trans (of_framed hf hs (htx ▸ id))

/-- From a state that neither flows nor waits for a write-back a frame keeps all that hangs on the activity. -/
theorem at_rest (h : Keeps p s x) (hf : Frame {} x t) (ha : x.activity.state.flows = false)
    (hw : x.activity.state ≠ .writeback ∨ x.activity.writeBackDone = true) : Keeps p s t := by
  have hk := hf.keeps_of_rest rfl (fun hv => hv.off ha) (fun hs => hs.none hw)
  exact ⟨h.toFrame.trans hf.weaken, hk.valves ∘ h.valves, hk.writes ∘ h.writes⟩

end State.Keeps

end Sys2Proof.Machine
end

section
/-! The frame of the operations that the blocks share: notices, the transmit queue, the identification controller as the
other blocks use it, recovery, the stop path, the gauge unit and the service responder. None of them touches the state of the
activity. -/

namespace Sys2Proof.Machine

theorem Link.offer_errors (l : Link) (o : Origin) (d : Nat) (q : Payload) : (l.offer o d q).errors = l.errors := by
  unfold Link.offer
  split
  · rfl
  · split
    · rfl
    · rfl

namespace State.Keeps

variable {p : Permits} {s x : State}

/-! ## Notices, queue, record -/

theorem raise {b : NoticeBody} (h : Keeps p s x) : Keeps p s (x.raise b) := h.quiet rfl rfl rfl

/-- A change of the transmit queue by an operation that leaves the inbound queue and the error counts. -/
theorem tx {l : Link} (h : Keeps p s x) (hi : l.inbound = x.link.inbound) (he : l.errors = x.link.errors)
    (htx : (x.link.tx.map TxEntry.origin).Nodup → (l.tx.map TxEntry.origin).Nodup) :
    Keeps p s { x with link := l } :=
  h.trans (of_framed (by simp only [State.framed, hi, he]) rfl htx)

theorem offerTo {o : Origin} {d : Nat} {q : Payload} (h : Keeps p s x) : Keeps p s (x.offerTo o d q) :=
  h.tx (Link.offer_inbound _ _ _ _) (Link.offer_errors _ _ _ _) (Link.offer_nodup o d q)

theorem offer {o : Origin} {q : Payload} (h : Keeps p s x) : Keeps p s (x.offer o q) := h.offerTo

theorem remove {o : Origin} (h : Keeps p s x) : Keeps p s { x with link := x.link.remove o } :=
  h.tx rfl rfl (Link.remove_nodup o)

theorem withdraw {o : Origin} {k : Kind} (h : Keeps p s x) : Keeps p s (x.withdraw o k) := by
  unfold State.withdraw
  split
  · exact h.remove
  · exact h

theorem dropKept {o : Origin} (h : Keeps p s x) : Keeps p s { x with link := x.link.dropKept o } :=
  h.quiet rfl rfl rfl

theorem offerKept {o : Origin} (h : Keeps p s x) : Keeps p s { x with link := x.link.offerKept o } := by
  unfold Link.offerKept
  split
  case h_1 k hq _ =>
    refine h.tx rfl rfl fun hn => ?_
    rw [← Link.offer_of_none (l := x.link.dropKept o) k.dest k.payload hq]
    exact Link.offer_nodup o k.dest k.payload hn
  case h_2 => exact h

theorem clearRecord (h : Keeps p s x) : Keeps p s x.clearRecord := h.quiet rfl rfl rfl
theorem modRecord {f : ActRecord → ActRecord} (h : Keeps p s x) : Keeps p s (x.modRecord f) := h.quiet rfl rfl rfl
theorem setPhase {q : RecordPhase} (h : Keeps p s x) : Keeps p s (x.setPhase q) := h.quiet rfl rfl rfl

/-! ## The identification controller, as the other blocks use it -/

theorem sendTag {c : TagCommand} {u : TagPurpose} (h : Keeps p s x) : Keeps p s (x.sendTag c u) :=
  h.quiet rfl rfl rfl
theorem modContext {f : Inlet → Inlet} (h : Keeps p s x) : Keeps p s (x.modContext f) := h.quiet rfl rfl rfl

/-- Ending every write-back, running and waiting. -/
theorem endsWriteBack {t : State} (h : Keeps p s x)
    (ht : t.framed = { x with ident := Ident.reset }.framed) (hs : t.stage = x.stage)
    (htx : t.link.tx = x.link.tx) : Keeps p s t := by
  have hreset : Keeps p x { x with ident := Ident.reset } :=
    ⟨{ State.Frame.refl p x with noWriteBack := fun _ _ => ⟨rfl, rfl⟩ }, id,
      fun _ => ⟨fun h => by simp [Ident.reset] at h, .inl rfl⟩⟩
  exact (h.trans hreset).quiet ht hs htx

theorem discardContext (h : Keeps p s x) : Keeps p s x.discardContext := h.endsWriteBack rfl rfl rfl

theorem relockAndDiscard (h : Keeps p s x) : Keeps p s x.relockAndDiscard := by
  unfold State.relockAndDiscard
  split
  · exact .sendTag (.discardContext h)
  · exact .discardContext h

theorem releaseResult (h : Keeps p s x) : Keeps p s x.releaseResult := by
  unfold State.releaseResult
  split
  · exact .relockAndDiscard h
  · exact h

theorem releaseContext (h : Keeps p s x) : Keeps p s x.releaseContext := by
  unfold State.releaseContext
  split
  · exact .relockAndDiscard h
  · exact h

/-! ## Recovery -/

theorem offerRecovery {q : Payload} (h : Keeps p s x) : Keeps p s (x.offerRecovery q) :=
  .setPhase (.offer h)

theorem recoverByLast {r : ActRecord} {l : Option LastEnded} (h : Keeps p s x) :
    Keeps p s (x.recoverByLast r l) := by
  unfold State.recoverByLast
  split
  · split
    · split
      · exact .clearRecord h
      · split
        · exact .clearRecord h
        · exact .offerRecovery h
    · exact .raise (.clearRecord h)
  · exact .raise (.clearRecord h)

theorem recover {r : ActRecord} (h : Keeps p s x) : Keeps p s (x.recover r) := by
  unfold State.recover
  split
  · split
    · split
      · exact .offerRecovery h
      · exact .recoverByLast h
    · exact .recoverByLast h
  · exact .recoverByLast h

theorem runRecovery (h : Keeps p s x) : Keeps p s x.runRecovery := by
  unfold State.runRecovery
  split
  · split
    · exact .recover h
    · exact h
  · exact h

theorem holdRecord (h : Keeps p s x) : Keeps p s x.holdRecord := .runRecovery (.setPhase h)

theorem createFromEntry (h : Keeps p s x) : Keeps p s x.createFromEntry := by
  unfold State.createFromEntry
  split
  · exact h.quiet rfl rfl rfl
  · exact h

theorem recoverAtAdmission (h : Keeps p s x) : Keeps p s x.recoverAtAdmission :=
  .runRecovery ((createFromEntry h).quiet rfl rfl rfl)

theorem recoveryResult {res : ApplyResult} (h : Keeps p s x) : Keeps p s (x.recoveryResult res) := by
  unfold State.recoveryResult
  split
  · exact .clearRecord h
  · exact .clearRecord h
  · exact .setPhase h
  · exact .holdRecord h

theorem releaseApplied (h : Keeps p s x) : Keeps p s x.releaseApplied := by
  unfold State.releaseApplied
  split
  · exact .holdRecord h
  · exact h

theorem presentApplied (h : Keeps p s x) : Keeps p s x.presentApplied := by
  unfold State.presentApplied
  split
  · exact .runRecovery (h.quiet rfl rfl rfl)
  · exact h

theorem adjustUndelivered (h : Keeps p s x) : Keeps p s x.adjustUndelivered := h.quiet rfl rfl rfl

theorem recordBoundary (h : Keeps p s x) : Keeps p s x.recordBoundary := by
  unfold State.recordBoundary
  split
  · exact .modRecord h
  · exact h

/-! ## The stop path -/

theorem offerStop (h : Keeps p s x) : Keeps p s x.offerStop := by
  unfold State.offerStop
  split
  · exact .offer h
  · exact h

theorem wantStop {b : Bool} (h : Keeps p s x) : Keeps p s (x.wantStop b) :=
  .offerStop (.dropKept (.withdraw (h.quiet rfl rfl rfl)))

theorem stopPathOutcome {q : Payload} {oc : TxOutcome} (h : Keeps p s x) :
    Keeps p s (x.stopPathOutcome q oc) := by
  refine .offerStop ?_
  split
  · exact h.quiet rfl rfl rfl
  · exact h.quiet rfl rfl rfl
  · split
    · exact .offer h
    · exact h
  · exact h

theorem stopAtAdmission (h : Keeps p s x) : Keeps p s x.stopAtAdmission := by
  unfold State.stopAtAdmission
  split
  · exact .wantStop h
  · exact h

theorem finalRecord (h : Keeps p s x) : Keeps p s x.finalRecord := by
  unfold State.finalRecord
  split
  · exact .modRecord h
  · exact h

/-! ## The gauge unit -/

theorem gaugeIdle (h : Keeps p s x) : Keeps p s x.gaugeIdle := h.quiet rfl rfl rfl
theorem gaugeUnstable {r : Reason} (h : Keeps p s x) : Keeps p s (x.gaugeUnstable r) := .raise (.gaugeIdle h)

theorem gaugeStart {n : Nat} (h : Keeps p s x) : Keeps p s (x.gaugeStart n) := by
  unfold State.gaugeStart
  split
  · exact .gaugeUnstable h
  · split
    · exact .gaugeUnstable h
    · exact .offer (h.quiet rfl rfl rfl)

theorem gaugePeriod (h : Keeps p s x) : Keeps p s x.gaugePeriod := by
  dsimp only [State.gaugePeriod]
  split
  · split
    · exact .gaugeStart (h.quiet rfl rfl rfl)
    · exact h.quiet rfl rfl rfl
  · exact h

theorem gaugeCensus {res : ApplyResult} (h : Keeps p s x) : Keeps p s (x.gaugeCensus res) := by
  unfold State.gaugeCensus
  split
  · exact h
  · split
    · exact h.quiet rfl rfl rfl
    · exact .gaugeUnstable h

theorem gaugeDone {l : List Nat} (h : Keeps p s x) : Keeps p s (x.gaugeDone l) := by
  unfold State.gaugeDone
  split
  · exact .gaugeUnstable h
  · exact .offer (h.quiet rfl rfl rfl)

theorem gaugeReading (h : Keeps p s x) : Keeps p s x.gaugeReading := by
  unfold State.gaugeReading
  split
  · exact h
  · split
    · exact .gaugeUnstable h
    · dsimp only
      split
      · exact h.quiet rfl rfl rfl
      · exact .gaugeDone h

theorem gaugeNoReading (h : Keeps p s x) : Keeps p s x.gaugeNoReading := by
  unfold State.gaugeNoReading
  split
  · exact .gaugeUnstable h
  · exact h

theorem gaugeApplied {g : Gauging} {res : ApplyResult} (h : Keeps p s x) : Keeps p s (x.gaugeApplied g res) := by
  unfold State.gaugeApplied
  split
  · exact h
  · split
    · exact .raise (.gaugeIdle h)
    · exact .raise (.gaugeIdle h)

theorem gaugeFrameLost (h : Keeps p s x) : Keeps p s x.gaugeFrameLost := by
  unfold State.gaugeFrameLost
  split
  · exact .gaugeUnstable h
  · exact .gaugeUnstable h
  · exact h

theorem gaugeLinkLost (h : Keeps p s x) : Keeps p s x.gaugeLinkLost := by
  unfold State.gaugeLinkLost
  dsimp only
  split
  · exact h.quiet rfl rfl rfl
  · exact .gaugeUnstable (h.quiet rfl rfl rfl)

theorem gaugeAdmitted (h : Keeps p s x) : Keeps p s x.gaugeAdmitted := by
  unfold State.gaugeAdmitted
  split
  · exact h.quiet rfl rfl rfl
  · exact h

/-! ## The service responder and the donation -/

theorem responderPump (h : Keeps p s x) : Keeps p s x.responderPump := by
  unfold State.responderPump
  split
  · exact h
  · split
    · exact .offerTo (h.quiet rfl rfl rfl)
    · split
      · split
        · exact h
        · exact .offerTo (h.quiet rfl rfl rfl)
      · exact h

theorem offerBusy {n : Nat} (h : Keeps p s x) : Keeps p s (x.offerBusy n) := by
  unfold State.offerBusy
  split
  · exact .offerTo h
  · split
    · exact h.quiet rfl rfl rfl
    · exact h

theorem takeRead {a b c d : Nat} (h : Keeps p s x) : Keeps p s (x.takeRead a b c d) := by
  unfold State.takeRead
  split
  · exact .offerBusy h
  · exact .responderPump (h.quiet rfl rfl rfl)

theorem responderOutcome {q : Payload} {oc : TxOutcome} (h : Keeps p s x) :
    Keeps p s (x.responderOutcome q oc) := by
  unfold State.responderOutcome
  split
  · split
    · exact .responderPump h
    · exact .responderPump (h.quiet rfl rfl rfl)
  · exact .responderPump h

theorem responderFree (h : Keeps p s x) : Keeps p s x.responderFree := h.quiet rfl rfl rfl

theorem donationPump (h : Keeps p s x) : Keeps p s x.donationPump := by
  unfold State.donationPump
  split
  · exact h
  · split
    · exact .offerTo (h.quiet rfl rfl rfl)
    · split
      · split
        · exact h
        · exact .offerTo (h.quiet rfl rfl rfl)
      · exact h

theorem freezeFor {n : Nat} {k : Check} (h : Keeps p s x) : Keeps p s (x.freezeFor n k) :=
  .donationPump (h.quiet rfl rfl rfl)

theorem thaw (h : Keeps p s x) : Keeps p s x.thaw :=
  .responderPump (.runRecovery (h.quiet rfl rfl rfl))

theorem abortDonation {n : Nat} (h : Keeps p s x) : Keeps p s (x.abortDonation n) :=
  .thaw (.donationPump (h.quiet rfl rfl rfl))

theorem streamNext {d : Stream} {n : StreamNext} (h : Keeps p s x) : Keeps p s (x.streamNext d n) :=
  .donationPump (h.quiet rfl rfl rfl)

theorem streamTaken {d : Stream} (h : Keeps p s x) : Keeps p s (x.streamTaken d) := by
  unfold State.streamTaken
  split
  · split
    · exact .streamNext h
    · exact .thaw h
  · split
    · exact .streamNext h
    · exact .streamNext h
  · exact .thaw h

theorem donationOutcome {q : Payload} {oc : TxOutcome} (h : Keeps p s x) :
    Keeps p s (x.donationOutcome q oc) := by
  unfold State.donationOutcome
  split
  · split
    · exact .donationPump h
    · split
      · exact .streamTaken h
      · exact .abortDonation h
  · exact .donationPump h

theorem withdrawStream (h : Keeps p s x) : Keeps p s x.withdrawStream :=
  .withdraw (.withdraw (.withdraw h))

theorem deferOverflow (h : Keeps p s x) : Keeps p s x.deferOverflow := by
  unfold State.deferOverflow
  split
  · exact .abortDonation (.withdrawStream h)
  · exact .thaw h

end State.Keeps

end Sys2Proof.Machine
end

section
/-! The frame of the activity controller. Where an operation leads to another state whatever the state it is met in, its
frame alone holds; where its rule names the state that it is taken in, the valves and the write-back are kept as well. -/

namespace Sys2Proof.Machine

theorem State.Keeps.weaken {p : Permits} {s t : State} (h : State.Keeps {} s t) : State.Keeps p s t :=
  ⟨h.toFrame.weaken, h.valves, h.writes⟩

namespace State.Frame

variable {p : Permits} {s x t : State}

/-- A frame goes on with an operation that keeps all. -/
theorem keep (h : Frame p s x) (hk : Keeps {} x t) : Frame p s t := h.trans hk.toFrame.weaken

end State.Frame

theorem State.Keeps.raiseActivity {p : Permits} {s x : State} (h : State.Keeps p s x) :
    State.Keeps p s x.raiseActivity := by
  unfold State.raiseActivity
  split
  · exact .raise h
  · exact .raise h

namespace State.Frame

variable {p : Permits} {s x t : State}

theorem raise {n : NoticeBody} (h : Frame p s x) : Frame p s (x.raise n) := h.keep (.raise (.refl _ _))

theorem raiseActivity (h : Frame p s x) : Frame p s x.raiseActivity := h.keep (.raiseActivity (.refl _ _))

theorem offer {o : Origin} {q : Payload} (h : Frame p s x) : Frame p s (x.offer o q) := h.keep (.offer (.refl _ _))

theorem withdraw {o : Origin} {k : Kind} (h : Frame p s x) : Frame p s (x.withdraw o k) := h.keep (.withdraw (.refl _ _))

theorem modRecord {f : ActRecord → ActRecord} (h : Frame p s x) : Frame p s (x.modRecord f) :=
  h.keep (.modRecord (.refl _ _))

theorem setPhase {q : RecordPhase} (h : Frame p s x) : Frame p s (x.setPhase q) := h.keep (.setPhase (.refl _ _))

theorem holdRecord (h : Frame p s x) : Frame p s x.holdRecord := h.keep (.holdRecord (.refl _ _))

theorem clearRecord (h : Frame p s x) : Frame p s x.clearRecord := h.keep (.clearRecord (.refl _ _))

theorem releaseResult (h : Frame p s x) : Frame p s x.releaseResult := h.keep (.releaseResult (.refl _ _))

theorem enterAct {st : ActState} (h : Frame p s x) : Frame p s (x.enterAct st) := .raiseActivity (h.quiet rfl rfl)

theorem outputsOff (h : Frame p s x) : Frame p s x.outputsOff :=
  h.trans { refl p x with outputs := fun _ => ⟨nofun, nofun, nofun⟩ }

theorem clearActivity {q : Option Nat} (h : Frame p s x) : Frame p s (x.clearActivity q) := h.quiet rfl rfl

end State.Frame

theorem State.Keeps.releaseAtReceipt {p : Permits} {s x : State} (h : State.Keeps p s x) :
    State.Keeps p s x.releaseAtReceipt := by
  unfold State.releaseAtReceipt
  split
  · exact .releaseContext h
  · exact h

namespace State.Frame

variable {p : Permits} {s x t : State}

theorem releaseAtReceipt (h : Frame p s x) : Frame p s x.releaseAtReceipt := h.keep (.releaseAtReceipt (.refl _ _))

theorem toIdle {q : Option Nat} (h : Frame p s x) : Frame p s (x.toIdle q) :=
  .enterAct (.clearActivity (.releaseAtReceipt h))

theorem refuse {r : Reason} (h : Frame p s x) : Frame p s (x.refuse r) :=
  .enterAct (.releaseResult (.releaseAtReceipt h))

theorem refuseOpening {r : Reason} (h : Frame p s x) : Frame p s (x.refuseOpening r) :=
  .refuse (h.quiet rfl rfl)

theorem enterFaultedValve (h : Frame p s x) : Frame p s x.enterFaultedValve := .enterAct (h.quiet rfl rfl)

end State.Frame

namespace State.Keeps

variable {p : Permits} {s x t : State}

/-- An operation after which no output is requested, in a state without a write-back. -/
theorem off (h : Keeps p s x) (hf : Frame {} x t)
    (ho : t.outputs = { pump := false, vmain := false, vtrim := false })
    (hw : x.activity.state ≠ .writeback ∨ x.activity.writeBackDone = true) : Keeps p s t where
  toFrame := h.toFrame.trans hf.weaken
  valves _ := by rw [State.ValvesFollow, ho]; exact ⟨nofun, nofun, nofun⟩
  writes hs := by
    obtain ⟨hbusy, hwaiting⟩ := hf.noWriteBack rfl ((h.writes hs).none hw)
    exact ⟨fun h => by simp [hbusy, hwaiting] at h, .inl hbusy⟩

/-! ## WRITEBACK -/

theorem checkWriteback (h : Keeps p s x) : Keeps p s x.checkWriteback := by
  unfold State.checkWriteback
  split
  case isTrue hwb =>
    obtain ⟨hstate, hdone⟩ := hwb
    split
    · exact h.at_rest (.enterFaultedValve (.refl _ _)) (by rw [hstate]; rfl) (.inr hdone)
    · split
      · exact h
      · exact h.at_rest (.toIdle (.refl _ _)) (by rw [hstate]; rfl) (.inr hdone)
  case isFalse => exact h

/-- The write-back has ended, and none runs or waits. -/
theorem writeBackEnded (h : Keeps p s x) (hn : s.WritesInWriteback → x.NoWriteBack) :
    Keeps p s x.writeBackEnded := by
  have hdone : Keeps p s { x with activity := { x.activity with writeBackDone := true } } :=
    ⟨h.toFrame.quiet rfl rfl, h.valves, fun hs => by
      obtain ⟨hbusy, hwaiting⟩ := hn hs
      exact ⟨fun h => by simp [hbusy, hwaiting] at h, .inl hbusy⟩⟩
  exact .checkWriteback hdone

end State.Keeps

namespace State.Frame

variable {p : Permits} {s x t : State}

theorem checkWriteback (h : Frame p s x) : Frame p s x.checkWriteback := h.keep (.checkWriteback (.refl _ _))

theorem endWithoutWriteBack (h : Frame p s x) : Frame p s x.endWithoutWriteBack := by
  dsimp only [State.endWithoutWriteBack]
  have hr : Frame p s x.releaseResult := .releaseResult h
  split
  · exact .enterFaultedValve hr
  · split
    · exact .toIdle hr
    · exact .checkWriteback (.enterAct (hr.quiet rfl rfl))

/-! ## Asking for the fill or delivery -/

theorem offerOpen {r : IdResult} (h : Frame p s x) : Frame p s (x.offerOpen r) := by
  dsimp only [State.offerOpen]
  split
  · exact .enterAct (.offer h)
  · exact .enterAct (.offer (h.quiet rfl rfl))

end State.Frame

namespace State.Keeps

variable {p : Permits} {s x t : State}

theorem lookAtResult (h : Keeps p s x) : Keeps p s x.lookAtResult := by
  dsimp only [State.lookAtResult]
  split
  · exact h
  case isFalse hstate =>
    have hwait : x.activity.state = .awaitingId := Classical.not_not.mp hstate
    refine h.at_rest ?_ (by rw [hwait]; rfl) (.inl (by rw [hwait]; nofun))
    split
    · exact .refl _ _
    · split
      · exact .refuse ((State.Frame.refl _ _).quiet rfl rfl)
      · split
        · exact .refuse ((State.Frame.refl _ _).quiet rfl rfl)
        · exact .offerOpen ((State.Frame.refl _ _).quiet rfl rfl)

theorem resultReported (h : Keeps p s x) : Keeps p s x.resultReported := by
  unfold State.resultReported
  split
  · exact .releaseResult h
  · exact .lookAtResult h

/-! ## Stopping -/

end State.Keeps

theorem State.Frame.stopWith {p : Permits} {s x : State} {r : Reason} (h : State.Frame p s x) :
    State.Frame p s (x.stopWith r) :=
  .enterAct (.quiet (.modRecord (.outputsOff h)) rfl rfl)

namespace State.Keeps

variable {p : Permits} {s x t : State}

theorem stopWith {r : Reason} (h : Keeps p s x)
    (hw : x.activity.state ≠ .writeback ∨ x.activity.writeBackDone = true) : Keeps p s (x.stopWith r) :=
  h.off (.stopWith (.refl _ _)) (State.stopWith_outputs r x) hw

end State.Keeps

theorem ActState.ne_writeback_of_flows {a : ActState} (h : a.flows = true) : a ≠ .writeback := by
  rintro rfl
  exact Bool.false_ne_true h

namespace State.Keeps

variable {p : Permits} {s x t : State}

theorem endFlow {r : Reason} (h : Keeps p s x) : Keeps p s (x.endFlow r) := by
  unfold State.endFlow
  split
  case isTrue hf => exact .stopWith h (.inl (ActState.ne_writeback_of_flows hf))
  case isFalse => exact h

end State.Keeps

namespace State.Frame

variable {p : Permits} {s x t : State}

theorem openWithdrawn (h : Frame p s x) : Frame p s x.openWithdrawn := by
  unfold State.openWithdrawn
  split
  · exact .toIdle h
  · exact .toIdle h
  · exact .refuseOpening h
  · exact h

theorem pendEnd {r : Reason} (h : Frame p s x) : Frame p s (x.pendEnd r) := by
  dsimp only [State.pendEnd]
  split
  · exact h
  · split
    · exact .openWithdrawn (.withdraw (h.quiet rfl rfl))
    · exact h.quiet rfl rfl

end State.Frame

namespace State.Keeps

variable {p : Permits} {s x t : State}

theorem endEvent {r : Reason} (h : Keeps p s x) : Keeps p s (x.endEvent r) := by
  unfold State.endEvent
  split
  case h_1 hs => exact h.at_rest (.pendEnd (.refl _ _)) (by rw [hs]; rfl) (.inl (by rw [hs]; nofun))
  case h_2 hs => exact .stopWith h (.inl (by rw [hs]; nofun))
  case h_3 hs => exact .stopWith h (.inl (by rw [hs]; nofun))
  case h_4 => exact h

/-! ## Switches, coupler, CANCEL and STOP -/

theorem nozRise (h : Keeps p s x) : Keeps p s x.nozRise := by
  unfold State.nozRise
  split
  · split
    case isTrue hs =>
      refine h.at_rest (.keep (.enterAct (.refl _ _)) (.lookAtResult (.refl _ _))) (by rw [hs]; rfl)
        (.inl (by rw [hs]; nofun))
    case isFalse => exact h
  · exact h

theorem nozFall (h : Keeps p s x) : Keeps p s x.nozFall := by
  unfold State.nozFall
  split
  · split
    case h_1 hs => exact h.at_rest (.toIdle (.refl _ _)) (by rw [hs]; rfl) (.inl (by rw [hs]; nofun))
    case h_2 hs => exact h.at_rest (.toIdle (.refl _ _)) (by rw [hs]; rfl) (.inl (by rw [hs]; nofun))
    · exact .checkWriteback h
    · exact .endEvent h
  · exact h

theorem dhsFall (h : Keeps p s x) : Keeps p s x.dhsFall := by
  unfold State.dhsFall
  split
  · split
    case h_1 hs => exact h.at_rest (.toIdle (.refl _ _)) (by rw [hs]; rfl) (.inl (by rw [hs]; nofun))
    case h_2 hs => exact h.at_rest (.toIdle (.refl _ _)) (by rw [hs]; rfl) (.inl (by rw [hs]; nofun))
    · exact .endEvent h
  · exact h

theorem couplerLost (h : Keeps p s x) : Keeps p s x.couplerLost := by
  unfold State.couplerLost
  split
  · split
    · exact .endEvent (h.quiet rfl rfl rfl)
    · exact h
  · exact h

theorem stopAccepted (h : Keeps p s x) : Keeps p s x.stopAccepted := by
  unfold State.stopAccepted
  split
  case h_1 hs => exact h.at_rest (.refuse (.refl _ _)) (by rw [hs]; rfl) (.inl (by rw [hs]; nofun))
  case h_2 => exact .endEvent h

theorem cancelActivity (h : Keeps p s x) : Keeps p s x.cancelActivity := by
  unfold State.cancelActivity
  split
  case h_1 hs => exact h.at_rest (.refuse (.refl _ _)) (by rw [hs]; rfl) (.inl (by rw [hs]; nofun))
  case h_2 => exact .endEvent h

/-! ## The end of STOPPING, and the closing -/

theorem activityEnded (h : Keeps p s x) : Keeps p s x.activityEnded := h.quiet rfl rfl rfl

end State.Keeps

namespace State.Frame

variable {p : Permits} {s x t : State}

theorem offerClose (h : Frame p s x) : Frame p s x.offerClose :=
  .enterAct (.setPhase (.offer h))

theorem endLinkLost (h : Frame p s x) : Frame p s x.endLinkLost :=
  .holdRecord (.endWithoutWriteBack (h.quiet rfl rfl))

theorem endStopping (h : Frame p s x) : Frame p s x.endStopping := by
  have he : Frame p s x.activityEnded := h.keep (.activityEnded (.refl _ _))
  dsimp only [State.endStopping]
  split
  · exact .endLinkLost he
  · exact .offerClose he

theorem deliveryApplied (h : Frame p s x) : Frame p s x.deliveryApplied := by
  have hr : Frame p s x.clearRecord.releaseResult := .releaseResult (.clearRecord h)
  dsimp only [State.deliveryApplied]
  split
  · exact .enterFaultedValve hr
  · exact .toIdle hr

theorem closeUnsettled (h : Frame p s x) : Frame p s x.closeUnsettled :=
  .holdRecord (.endWithoutWriteBack h)

theorem overrun (h : Frame p s x) : Frame p s x.overrun :=
  .endStopping (.raise (.quiet (.modRecord h) rfl rfl))

end State.Frame

namespace State.Keeps

variable {p : Permits} {s x t : State}

/-- STOPPING ends in a state that neither flows nor writes back. -/
theorem endStopping (h : Keeps p s x) (hs : x.activity.state = .stopping) : Keeps p s x.endStopping :=
  h.at_rest (.endStopping (.refl _ _)) (by rw [hs]; rfl) (.inl (by rw [hs]; nofun))

theorem settleTimeout (h : Keeps p s x) : Keeps p s x.settleTimeout := by
  unfold State.settleTimeout
  split
  case isTrue hs => exact .endStopping h hs.1
  case isFalse => exact h

theorem stoppingLimit (h : Keeps p s x) : Keeps p s x.stoppingLimit := by
  unfold State.stoppingLimit
  split
  case isTrue hs => exact .endStopping h hs.1
  case isFalse => exact h

theorem noFlowTimeout (h : Keeps p s x) : Keeps p s x.noFlowTimeout := by
  unfold State.noFlowTimeout
  split
  · exact .endFlow h
  · exact h

theorem fullTimeout (h : Keeps p s x) : Keeps p s x.fullTimeout := by
  unfold State.fullTimeout
  split
  · exact .endFlow h
  · exact h

/-! ## Steps and boundaries -/

theorem offerProgress (h : Keeps p s x) : Keeps p s x.offerProgress := .offer h

theorem crossSlowDown {c : ComparePoints} (h : Keeps p s x) : Keeps p s (x.crossSlowDown c) := by
  unfold State.crossSlowDown
  split
  case isTrue hs =>
    have hoff : Keeps p x { x with outputs := { x.outputs with vmain := false } } :=
      ⟨{ State.Frame.refl p x with outputs := fun _ => ⟨id, nofun, id⟩ },
        fun ⟨_, hpump, hvtrim⟩ => ⟨nofun, hpump, hvtrim⟩, id⟩
    have hf : Frame p s _ := .enterAct (st := .slowing) (h.trans hoff).toFrame
    refine ⟨hf, fun _ => ?_, fun hw => ?_⟩
    · rw [State.ValvesFollow, State.enterAct_outputs, State.enterAct_activity]
      exact ⟨nofun, fun _ => rfl, fun _ => rfl⟩
    · obtain ⟨hbusy, hwaiting⟩ := (h.writes hw).none (.inl (by rw [hs.1]; nofun))
      rw [State.WritesInWriteback, State.enterAct_ident]
      exact ⟨fun h => by simp [hbusy, hwaiting] at h, .inl hbusy⟩
  case isFalse => exact h

theorem crossProgress {c : ComparePoints} (h : Keeps p s x) : Keeps p s (x.crossProgress c) := by
  dsimp only [State.crossProgress]
  split
  · exact .raiseActivity (.offerProgress (h.quiet rfl rfl rfl))
  · exact h

theorem crossStop {c : ComparePoints} (h : Keeps p s x) : Keeps p s (x.crossStop c) := by
  unfold State.crossStop
  split
  case isTrue hf => exact .stopWith h (.inl (ActState.ne_writeback_of_flows hf.1))
  case isFalse => exact h

theorem activityBoundary (h : Keeps p s x) : Keeps p s x.activityBoundary := by
  unfold State.activityBoundary
  split
  · exact h
  · split
    case isTrue hs =>
      split
      · exact h.at_rest (.overrun (.refl _ _)) (by rw [hs]; rfl) (.inl (by rw [hs]; nofun))
      · exact h
    case isFalse => exact .crossStop (.crossProgress (.crossSlowDown h))

theorem activityStep {b : Bool} (h : Keeps p s x) : Keeps p s (x.activityStep b) := by
  unfold State.activityStep
  split
  · exact h.quiet rfl rfl rfl
  · split
    · exact h.quiet rfl rfl rfl
    · exact h
  · split
    · exact h.quiet rfl rfl rfl
    · exact h
  · exact h

theorem meterLimits (h : Keeps p s x) : Keeps p s x.meterLimits := by
  unfold State.meterLimits
  split
  · exact .endFlow h
  · split
    · exact .endFlow h
    · exact h

/-! ## Losing the link -/

theorem activityLinkLost (h : Keeps p s x) : Keeps p s x.activityLinkLost := by
  unfold State.activityLinkLost
  split
  case h_1 hs => exact .stopWith (h.quiet rfl rfl rfl) (.inl (by rw [hs]; nofun))
  case h_2 hs => exact .stopWith (h.quiet rfl rfl rfl) (.inl (by rw [hs]; nofun))
  · exact h.quiet rfl rfl rfl
  · exact h

/-- The opening frame is lost in OPENING. -/
theorem refuseOpening {r : Reason} (h : Keeps p s x) (hs : x.activity.state = .opening) :
    Keeps p s (x.refuseOpening r) :=
  h.at_rest (.refuseOpening (.refl _ _)) (by rw [hs]; rfl) (.inl (by rw [hs]; nofun))

/-- The closing frame is left unsettled in CLOSING. -/
theorem closeUnsettled (h : Keeps p s x) (hs : x.activity.state = .closing) : Keeps p s x.closeUnsettled :=
  h.at_rest (.closeUnsettled (.refl _ _)) (by rw [hs]; rfl) (.inl (by rw [hs]; nofun))

theorem activityFrameLost {q : Payload} (h : Keeps p s x) : Keeps p s (x.activityFrameLost q) := by
  unfold State.activityFrameLost
  split
  · split
    case isTrue hs => exact .refuseOpening h hs
    case isFalse => exact h
  · split
    case isTrue hs => exact .refuseOpening h hs
    case isFalse => exact h
  · split
    case isTrue hs => exact .closeUnsettled h hs
    case isFalse => exact .holdRecord h
  · split
    case isTrue hs => exact .closeUnsettled h hs
    case isFalse => exact .holdRecord h
  · exact .holdRecord h
  · exact h

/-! ## What the end of a retained write hands over -/

/-- The outputs are requested as the state says that is entered, at the opening of the valves. -/
theorem flowAs {v : Bool} {st : ActState} (h : Keeps p s x) (hstart : p.starts = true)
    (hs : x.activity.state = .opening) (hfl : st.flows = true) (hv : v = true → st = .flowing) :
    Keeps p s ((x.requestOutputs v).enterAct st) := by
  have ho : State.Frame p x (x.requestOutputs v) :=
    { State.Frame.refl p x with outputs := fun hp => by rw [hstart] at hp; cases hp }
  refine ⟨.enterAct (h.toFrame.trans ho), fun _ => ?_, fun hw => ?_⟩
  · rw [State.ValvesFollow, State.enterAct_outputs, State.enterAct_activity]
    exact ⟨hv, fun _ => hfl, fun _ => hfl⟩
  · obtain ⟨hbusy, hwaiting⟩ := (h.writes hw).none (.inl (by rw [hs]; nofun))
    rw [State.WritesInWriteback, State.enterAct_ident]
    exact ⟨fun h => by simp [State.requestOutputs, hbusy, hwaiting] at h, .inl hbusy⟩

theorem setUpActivity {n v : Nat} (h : Keeps p s x) (hc : p.counts = true) : Keeps p s (x.setUpActivity n v) :=
  h.trans (.of_frame { State.Frame.refl p x with counts := fun hp => by rw [hc] at hp; cases hp } rfl rfl rfl rfl)

theorem startFlow {c : ComparePoints} (h : Keeps p s x) (hstart : p.starts = true)
    (hs : x.activity.state = .opening) : Keeps p s (x.startFlow c) := by
  have hslow : Keeps p s ((x.requestOutputs false).enterAct .slowing) := .flowAs h hstart hs rfl nofun
  have hfull : Keeps p s ((x.requestOutputs true).enterAct .flowing) := .flowAs h hstart hs rfl fun _ => rfl
  have hslowing : ((x.requestOutputs false).enterAct .slowing).activity.state ≠ .writeback := by
    rw [State.enterAct_activity]; nofun
  have hflowing : ((x.requestOutputs true).enterAct .flowing).activity.state ≠ .writeback := by
    rw [State.enterAct_activity]; nofun
  by_cases hc : c.slowDown ≤ 0
  · simp only [State.startFlow, hc, if_true]
    split
    · exact .stopWith hslow (.inl hslowing)
    · exact hslow
  · simp only [State.startFlow, hc, if_false]
    split
    · exact .stopWith hfull (.inl hflowing)
    · exact hfull

/-- A grant, taken in OPENING: it zeroes the counts and requests the outputs. -/
theorem takeGrant {n v : Nat} (h : Keeps p s x) (hc : p.counts = true) (hstart : p.starts = true)
    (hs : x.activity.state = .opening) : Keeps p s (x.takeGrant n v) := by
  have hx : Keeps p s (x.setUpActivity n v) := .setUpActivity h hc
  dsimp only [State.takeGrant]
  split
  · exact .stopWith hx (.inl (by rw [show (x.setUpActivity n v).activity.state = .opening from hs]; nofun))
  · exact .startFlow hx hstart hs

theorem openResult {res : ApplyResult} (h : Keeps p s x) (hc : p.counts = true) (hstart : p.starts = true) :
    Keeps p s (x.openResult res) := by
  unfold State.openResult
  split
  · exact h
  case isFalse hs =>
    have hs : x.activity.state = .opening := Classical.not_not.mp hs
    split
    · exact .takeGrant h hc hstart hs
    · exact .refuseOpening h hs
    · exact .refuseOpening h hs
    · exact h

end State.Keeps

/-! ## Asking for a write-back -/

/-- What asking for a write-back leads to where none ran or waited: it is answered at once, or one of the two begins. -/
def State.AnswersWriteBack (r : State × Bool) : Prop :=
  (r.2 = true → r.1.NoWriteBack) ∧ (r.1.ident.writing = none ∨ r.1.ident.waiting = none)

theorem State.takeWriteBack_answers {q : WriteBackRequest} {x : State} (hn : x.NoWriteBack) :
    State.AnswersWriteBack (x.takeWriteBack q) := by
  obtain ⟨hbusy, hwaiting⟩ := hn
  unfold State.takeWriteBack State.AnswersWriteBack
  split
  · exact ⟨fun _ => ⟨hbusy, hwaiting⟩, .inl hbusy⟩
  · split
    · split
      · exact ⟨nofun, .inr hwaiting⟩
      · exact ⟨fun _ => ⟨rfl, rfl⟩, .inl rfl⟩
      · exact ⟨fun _ => ⟨rfl, rfl⟩, .inl rfl⟩
    · exact ⟨fun _ => ⟨hbusy, hwaiting⟩, .inl hbusy⟩

theorem State.requestWriteBack_answers {q : WriteBackRequest} {x : State} (hn : x.NoWriteBack) :
    State.AnswersWriteBack (x.requestWriteBack q) := by
  unfold State.requestWriteBack
  split
  · exact ⟨nofun, .inl hn.1⟩
  · exact State.takeWriteBack_answers hn

theorem State.requestWriteBack_eq (q : WriteBackRequest) (x : State) :
    (x.requestWriteBack q).1 =
      { x with
        ident := (x.requestWriteBack q).1.ident
        port := (x.requestWriteBack q).1.port
        console := (x.requestWriteBack q).1.console } := by
  unfold State.requestWriteBack
  split
  · rfl
  · exact State.takeWriteBack_eq q x

namespace State.Frame

variable {p : Permits} {s x t : State}

/-- A write-back begins or waits. -/
theorem withIdent {i : Ident} (h : Frame p s x) (hstart : p.starts = true) : Frame p s { x with ident := i } :=
  h.trans { refl p x with noWriteBack := fun hp => by rw [hstart] at hp; cases hp }

theorem takeWriteBack {q : WriteBackRequest} (h : Frame p s x) (hstart : p.starts = true) :
    Frame p s (x.takeWriteBack q).1 := by
  unfold State.takeWriteBack
  split
  · exact .raise h
  · split
    · split
      · exact (h.withIdent hstart).keep (.sendTag (.refl _ _))
      · exact .raise (h.keep (.discardContext (.refl _ _)))
      · exact .raise (h.keep (.discardContext (.refl _ _)))
    · exact .raise h

theorem requestWriteBack {q : WriteBackRequest} (h : Frame p s x) (hstart : p.starts = true) :
    Frame p s (x.requestWriteBack q).1 := by
  unfold State.requestWriteBack
  split
  · exact h.withIdent hstart
  · exact .takeWriteBack h hstart

end State.Frame

namespace State.Keeps

variable {p : Permits} {s x t : State}

/-- The closing frame is applied in CLOSING: a write-back begins, waits, or is answered at once. -/
theorem closeApplied {n : Nat} {c : Closing} (h : Keeps p s x) (hstart : p.starts = true)
    (hs : x.activity.state = .closing) : Keeps p s (x.closeApplied n c) := by
  dsimp only [State.closeApplied]
  refine .checkWriteback ?_
  generalize hr : x.clearRecord.requestWriteBack _ = r
  have hf : State.Frame p s r.1 := hr ▸ .requestWriteBack (.clearRecord h.toFrame) hstart
  have ho : r.1.outputs = x.outputs := by rw [← hr, State.requestWriteBack_eq]; rfl
  have hq : State.Frame p s { r.1 with activity := { r.1.activity with writeBackDone := r.2 } } := hf.quiet rfl rfl
  refine ⟨.enterAct hq, fun hv => ?_, fun hw => ?_⟩
  · have hoff := (h.valves hv).off (by rw [hs]; rfl)
    rw [← ho] at hoff
    obtain ⟨hpump, hvmain, hvtrim⟩ := hoff
    rw [State.ValvesFollow, State.enterAct_outputs]
    exact ⟨fun h => absurd (hvmain h) nofun, fun h => absurd (hpump h) nofun, fun h => absurd (hvtrim h) nofun⟩
  · have hn : x.clearRecord.NoWriteBack := (h.writes hw).none (.inl (by rw [hs]; nofun))
    obtain ⟨hended, hone⟩ := hr ▸ State.requestWriteBack_answers hn
    rw [State.WritesInWriteback, State.enterAct_activity, State.enterAct_ident]
    refine ⟨fun hsome => ⟨rfl, ?_⟩, hone⟩
    cases hb : r.2
    · rfl
    · obtain ⟨hbusy, hwaiting⟩ := hended hb
      simp [hbusy, hwaiting] at hsome

theorem closeResult {c : Closing} {res : ApplyResult} (h : Keeps p s x) (hstart : p.starts = true)
    (hs : x.activity.state = .closing) : Keeps p s (x.closeResult c res) := by
  unfold State.closeResult
  split
  · exact h.at_rest (.deliveryApplied (.refl _ _)) (by rw [hs]; rfl) (.inl (by rw [hs]; nofun))
  · exact .closeApplied h hstart hs
  · exact .closeUnsettled h hs

/-- The result of an own frame of the activity controller's place. -/
theorem activityResult {q : Payload} {res : ApplyResult} (h : Keeps p s x) (hc : p.counts = true)
    (hstart : p.starts = true) : Keeps p s (x.activityResult q res) := by
  unfold State.activityResult
  split
  · exact .openResult h hc hstart
  · exact .openResult h hc hstart
  · split
    · exact .modRecord h
    · exact h
  · split
    case isTrue hs => exact .closeResult h hstart hs
    case isFalse => exact .recoveryResult h
  · split
    case isTrue hs => exact .closeResult h hstart hs
    case isFalse => exact .recoveryResult h
  · exact .recoveryResult h
  · exact h

end State.Keeps

end Sys2Proof.Machine
end

section
/-! The frame of the inlet tag port and of the identification controller. A write-back ends only where none runs or waits
any more. -/

namespace Sys2Proof.Machine

/-- A frame of an operation that may begin a write-back, where it begins none. -/
theorem State.Frame.of_starts {p : Permits} {s t : State} (h : State.Frame { starts := true } s t)
    (ho : t.outputs = s.outputs) (hn : s.NoWriteBack → t.NoWriteBack) : State.Frame p s t where
  pending := h.pending
  tables _ := h.tables rfl
  writing _ := h.writing rfl
  wiped _ := h.wiped rfl
  clock _ := h.clock rfl
  config _ := h.config rfl
  supply _ := h.supply rfl
  counts _ := h.counts rfl
  errors _ := h.errors rfl
  cells _ := h.cells rfl
  outputs _ := ho ▸ ⟨id, id, id⟩
  noWriteBack _ := hn
  bounded := h.bounded
  steady := h.steady

/-- A write-back that waits and is taken belongs to an activity in WRITEBACK that has not heard its end. -/
theorem State.WritesInWriteback.of_waiting {s : State} {q : WriteBackRequest} (h : s.WritesInWriteback)
    (hq : s.ident.waiting = some q) :
    s.activity.state = .writeback ∧ s.activity.writeBackDone = false ∧ s.ident.writing = .none := by
  obtain ⟨hrun, hone⟩ := h
  have hact := hrun (.inr (by rw [hq]; rfl))
  exact ⟨hact.1, hact.2, hone.resolve_right (by rw [hq]; nofun)⟩

namespace State.Keeps

variable {p : Permits} {s x t : State}

/-! ## Runs -/

theorem forgetLate (h : Keeps p s x) : Keeps p s x.forgetLate := h.quiet rfl rfl rfl

theorem startRun (h : Keeps p s x) : Keeps p s x.startRun :=
  .quiet (.forgetLate (.discardContext h)) rfl rfl rfl

theorem cplRise (h : Keeps p s x) : Keeps p s x.cplRise := by
  unfold State.cplRise
  split
  · exact .startRun h
  · exact h

theorem raiseIdent {r : Reason} (h : Keeps p s x) : Keeps p s (x.raiseIdent r) := .raise h

/-- A change of the controller that touches no write-back. -/
theorem modIdent {i : Ident} (h : Keeps p s x) (hbusy : i.writing = x.ident.writing)
    (hwaiting : i.waiting = x.ident.waiting) : Keeps p s { x with ident := i } :=
  h.quiet (by simp only [State.framed, hbusy, hwaiting]) rfl rfl

/-- A change of the port. -/
theorem modPort {q : Port} (h : Keeps p s x) : Keeps p s { x with port := q } := h.quiet rfl rfl rfl

theorem relockIfUnlocked (h : Keeps p s x) : Keeps p s x.relockIfUnlocked := by
  unfold State.relockIfUnlocked
  split
  · exact .sendTag h
  · exact h

theorem identFail {r : Reason} (h : Keeps p s x) : Keeps p s (x.identFail r) :=
  .relockIfUnlocked (.raiseIdent (h.quiet rfl rfl rfl))

theorem identSucceed {r : IdResult} {b : Bool} (h : Keeps p s x) : Keeps p s (x.identSucceed r b) := by
  dsimp only [State.identSucceed]
  split
  · exact .resultReported (.relockIfUnlocked (.raiseIdent (.modIdent (.modContext h) rfl rfl)))
  · exact .resultReported (.raiseIdent (.modIdent (.modContext h) rfl rfl))

theorem checking {b : IdentBlock} {r : TagRecord} (h : Keeps p s x) : Keeps p s (x.checking b r) := by
  unfold State.checking
  split
  · exact .identFail h
  · exact .identSucceed h

theorem nameTank {n : Nat} (h : Keeps p s x) : Keeps p s (x.nameTank n) := by
  dsimp only [State.nameTank]
  split
  · split
    · split
      · exact .modContext (.modContext h)
      · exact .identFail (.modContext h)
    · exact .modContext h
  · exact .modContext h

theorem wakingEnd (h : Keeps p s x) : Keeps p s x.wakingEnd := by
  unfold State.wakingEnd
  split
  · exact .sendTag (h.quiet rfl rfl rfl)
  · exact h

theorem identTimeout (h : Keeps p s x) : Keeps p s x.identTimeout := by
  unfold State.identTimeout
  split
  · exact .raiseIdent (h.quiet rfl rfl rfl)
  · exact h

theorem identRead {b : IdentBlock} (h : Keeps p s x) : Keeps p s (x.identRead b) := by
  have hx : Keeps p s (x.modContext fun c => { c with block := some b }) := .modContext h
  dsimp only [State.identRead]
  split
  · exact .sendTag (hx.quiet rfl rfl rfl)
  · exact .identFail hx

theorem recordRead {bs : List Byte} (h : Keeps p s x) : Keeps p s (x.recordRead bs) := by
  dsimp only [State.recordRead]
  split
  · exact .checking (.modIdent (.modContext h) rfl rfl)
  · exact .modIdent (.modContext h) rfl rfl

theorem readRefused (h : Keeps p s x) : Keeps p s x.readRefused := by
  dsimp only [State.readRefused]
  split
  · split
    · exact .sendTag (.modIdent (.modContext h) rfl rfl)
    · exact .identFail (.modPort (.modContext h))
  · exact .modContext h

theorem keyedIdentify {n : Nat} (h : Keeps p s x) : Keeps p s (x.keyedIdentify n) := by
  dsimp only [State.keyedIdentify]
  split
  · exact .identFail (.quiet (.discardContext h) rfl rfl rfl)
  · exact .identSucceed (.quiet (.discardContext h) rfl rfl rfl)

theorem identOffline (h : Keeps p s x) : Keeps p s x.identOffline := .relockAndDiscard h

/-! ## The end of a write-back -/

theorem writeBackLost {n : Nat} (h : Keeps p s x) (hn : s.WritesInWriteback → x.NoWriteBack) :
    Keeps p s (x.writeBackLost n) := .writeBackEnded (.raise h) hn

theorem endWriting {n : NoticeBody} (h : Keeps p s x) : Keeps p s (x.endWriting n) := by
  dsimp only [State.endWriting]
  refine .writeBackEnded (.raise ?_) fun _ => ?_
  · split
    · exact .sendTag (.discardContext h)
    · exact .discardContext h
  · split <;> exact ⟨rfl, rfl⟩

/-- The next pass goes on with the write-back that runs. -/
theorem nextPass {w w' : WriteBack} (h : Keeps p s x) (hw : x.ident.writing = some w) :
    Keeps p s { x with ident := { x.ident with writing := some w' } } :=
  h.trans
    { State.Frame.refl p x with
      noWriteBack := fun _ hn => by rw [State.NoWriteBack, hw] at hn; cases hn.1
      valves := id
      writes := fun ⟨hrun, hone⟩ =>
        ⟨fun _ => hrun (.inl (by rw [hw]; rfl)), .inr (hone.resolve_left (by rw [hw]; nofun))⟩ }

theorem passFailed {r : Reason} (h : Keeps p s x) : Keeps p s (x.passFailed r) := by
  unfold State.passFailed
  split
  case h_1 hw =>
    split
    · exact .sendTag (h.nextPass hw)
    · exact .endWriting h
  case h_2 => exact h

theorem verify {bs : List Byte} (h : Keeps p s x) : Keeps p s (x.verify bs) := by
  unfold State.verify
  split
  · split
    · exact .endWriting h
    · exact .passFailed h
  · exact h

theorem verifyRefused (h : Keeps p s x) : Keeps p s x.verifyRefused :=
  .endWriting (.modContext (h.quiet rfl rfl rfl))

/-! ## A write-back that waits for the keep-alive -/

/-- A write-back that waited is taken up: the activity is in WRITEBACK and has not heard its end. -/
theorem takenUp {q : WriteBackRequest} (h : Keeps p s x) (hq : x.ident.waiting = some q) :
    Keeps p s ({ x with ident := { x.ident with waiting := none } }.takeWriteBack q).1 := by
  have heq := State.takeWriteBack_eq q { x with ident := { x.ident with waiting := none } }
  have hf : State.Frame { starts := true } x
      ({ x with ident := { x.ident with waiting := none } }.takeWriteBack q).1 :=
    .takeWriteBack ((State.Frame.refl _ x).withIdent rfl) rfl
  have hans (hbusy : x.ident.writing = none) :=
    State.takeWriteBack_answers (q := q) (x := { x with ident := { x.ident with waiting := none } }) ⟨hbusy, rfl⟩
  revert heq hf hans
  generalize State.takeWriteBack q _ = r
  intro heq hf hans
  have ho : r.1.outputs = x.outputs := by rw [heq]
  have ha : r.1.activity = x.activity := by rw [heq]
  refine h.trans ⟨.of_starts hf ho fun hn => ?_, fun hv => ?_, fun hw => ?_⟩
  · rw [State.NoWriteBack, hq] at hn
    cases hn.2
  · rw [State.ValvesFollow, ho, ha]; exact hv
  · obtain ⟨hstate, hdone, hbusy⟩ := hw.of_waiting hq
    rw [State.WritesInWriteback, ha]
    exact ⟨fun _ => ⟨hstate, hdone⟩, (hans hbusy).2⟩

theorem takeWaiting (h : Keeps p s x) : Keeps p s x.takeWaiting := by
  unfold State.takeWaiting
  split
  case h_1 q hq =>
    have hr := h.takenUp hq
    dsimp only
    split
    case isTrue hdone =>
      refine .writeBackEnded hr fun hs => ?_
      obtain ⟨_, _, hbusy⟩ := (h.writes hs).of_waiting hq
      exact (State.takeWriteBack_answers
        (x := { x with ident := { x.ident with waiting := none } }) ⟨hbusy, rfl⟩).1 hdone
    case isFalse => exact hr
  case h_2 => exact h

theorem keepAliveLost {r : Reason} (h : Keeps p s x) : Keeps p s (x.keepAliveLost r) :=
  .takeWaiting (.raiseIdent (.modContext h))

theorem keepAliveRead {b : IdentBlock} (h : Keeps p s x) : Keeps p s (x.keepAliveRead b) := by
  unfold State.keepAliveRead
  split
  · exact .takeWaiting h
  · exact .keepAliveLost h

/-! ## The coupler -/

theorem loseCoupler (h : Keeps p s x) : Keeps p s x.loseCoupler := by
  have hg : Keeps p s x.discardContext.forgetLate := .forgetLate (.discardContext h)
  dsimp only [State.loseCoupler]
  split
  · exact .raise hg
  · exact .raise hg
  · exact .raise hg
  · exact .raise hg
  · exact .raise hg
  · have hl : Keeps p s x.discardContext.forgetLate.couplerLost := .couplerLost hg
    split
    · have hrest : Keeps {} x.discardContext.forgetLate x.discardContext.forgetLate.couplerLost :=
        .couplerLost (.refl _ _)
      exact .writeBackLost hl fun _ => hrest.noWriteBack rfl ⟨rfl, rfl⟩
    · exact hl
  · split
    · exact .writeBackLost hg fun _ => ⟨rfl, rfl⟩
    · exact hg
  · exact hg

theorem cplFall (h : Keeps p s x) : Keeps p s x.cplFall := by
  unfold State.cplFall
  split
  · split
    · exact .loseCoupler h
    · exact h
  · exact h.quiet rfl rfl rfl

/-! ## The port -/

theorem attemptFailed {j : TagJob} {e : Reason} (h : Keeps p s x) : Keeps p s (x.attemptFailed j e) :=
  h.quiet rfl rfl rfl

theorem transactionDone {j : TagJob} {b : Bool} (h : Keeps p s x) : Keeps p s (x.transactionDone j b) :=
  h.quiet rfl rfl rfl

theorem driveCommand {j : TagJob} {l : List TagChar} (h : Keeps p s x) : Keeps p s (x.driveCommand j l) := by
  dsimp only [State.driveCommand]
  split
  · exact .attemptFailed (h.quiet rfl rfl rfl)
  · exact h.quiet rfl rfl rfl

theorem lockFor {c : TagCommand} (h : Keeps p s x) : Keeps p s (x.lockFor c) := by
  unfold State.lockFor
  split
  · exact .modContext h
  · exact h

theorem beginCommand {j : TagJob} (h : Keeps p s x) : Keeps p s (x.beginCommand j) := h.quiet rfl rfl rfl

theorem startCommand {l : List TagChar} (h : Keeps p s x) : Keeps p s (x.startCommand l) := by
  dsimp only [State.startCommand]
  split
  · split
    · exact h
    · split
      · exact .driveCommand h
      · split
        · split
          · exact .attemptFailed (.lockFor h)
          · exact .driveCommand (.beginCommand (.lockFor h))
        · exact h
  · exact h

theorem strayReply {f : TagCommand → Bool} {l : List TagLevel} (h : Keeps p s x) : Keeps p s (x.strayReply f l) := by
  unfold State.strayReply
  split
  · exact h.quiet rfl rfl rfl
  · exact h

theorem hearOn {j : TagJob} {l : List TagLevel} (h : Keeps p s x) : Keeps p s (x.hearOn j l) := by
  unfold State.hearOn
  split
  · exact .attemptFailed h
  · exact h.quiet rfl rfl rfl

theorem tagIdent {l : List TagLevel} (h : Keeps p s x) : Keeps p s (x.tagIdent l) := by
  dsimp only [State.tagIdent]
  split
  · split
    · split
      · exact .hearOn h
      · exact .attemptFailed h
      · split
        · exact .keepAliveRead (.transactionDone h)
        · exact .identRead (.transactionDone h)
    · exact h
  · exact .strayReply h

theorem tagUnlock {b : Bool} (h : Keeps p s x) : Keeps p s (x.tagUnlock b) := by
  dsimp only [State.tagUnlock]
  split
  · split
    · split
      · exact .attemptFailed h
      · exact .sendTag (.quiet (.transactionDone h) rfl rfl rfl)
    · exact h
  · exact h

theorem tagRelock {b : Bool} (h : Keeps p s x) : Keeps p s (x.tagRelock b) := by
  dsimp only [State.tagRelock]
  split
  · split
    · split
      · exact .attemptFailed (.modContext h)
      · exact .transactionDone (.modContext h)
    · exact h
  · exact h

theorem tagStage {l : List TagLevel} (h : Keeps p s x) : Keeps p s (x.tagStage l) := by
  dsimp only [State.tagStage]
  split
  · split
    · split
      · exact .hearOn h
      · exact .attemptFailed h
      · exact .sendTag (.transactionDone h)
    · exact h
  · exact .strayReply h

theorem tagCommit {l : List TagLevel} (h : Keeps p s x) : Keeps p s (x.tagCommit l) := by
  dsimp only [State.tagCommit]
  split
  · split
    · split
      · exact .hearOn h
      · exact .attemptFailed h
      · split
        · exact .sendTag (.transactionDone h)
        · exact .passFailed (.transactionDone h)
    · exact h
  · exact .strayReply h

theorem tagRead {l : List TagLevel} (h : Keeps p s x) : Keeps p s (x.tagRead l) := by
  dsimp only [State.tagRead]
  split
  · split
    · split
      · exact .hearOn h
      · split
        · split
          · exact .verifyRefused (.attemptFailed h)
          · exact .readRefused (.attemptFailed h)
        · exact .attemptFailed h
      · split
        · exact .verify (.transactionDone h)
        · exact .recordRead (.transactionDone h)
    · exact h
  · exact .strayReply h

theorem noReply (h : Keeps p s x) : Keeps p s x.noReply := by
  unfold State.noReply
  split
  · split
    · exact .attemptFailed h
    · exact h
  · exact h

theorem exhausted {j : TagJob} (h : Keeps p s x) : Keeps p s (x.exhausted j) := by
  have hj : Keeps p s { x with port := { x.port with job := none } } := h.quiet rfl rfl rfl
  dsimp only [State.exhausted]
  split
  · exact .identFail hj
  · exact .keepAliveLost hj
  · exact .endWriting hj
  · exact hj

theorem settlingEnd (h : Keeps p s x) : Keeps p s x.settlingEnd := by
  have hi : Keeps p s { x with port := { x.port with state := .idle } } := h.quiet rfl rfl rfl
  dsimp only [State.settlingEnd]
  split
  · split
    · split
      · exact .exhausted hi
      · exact hi
    · exact hi
  · exact h

theorem keepAlive (h : Keeps p s x) : Keeps p s x.keepAlive := by
  unfold State.keepAlive
  split
  · exact .sendTag h
  · exact h

theorem unlockLost (h : Keeps p s x) : Keeps p s x.unlockLost := by
  unfold State.unlockLost
  split
  · exact .quiet (.modContext h) rfl rfl rfl
  · exact h

end State.Keeps

end Sys2Proof.Machine
end

section
/-! The frame of the supply and of the meter front end. -/

namespace Sys2Proof.Machine

namespace State.Keeps

variable {p : Permits} {s x t : State}

/-! ## Supply -/

/-- A change of the meter that leaves its cells. -/
theorem modMeter {m : Meter} (h : Keeps p s x) (hcells : m.cells = x.meter.cells)
    (hcounts : p.counts = true ∨ m.counts = x.meter.counts) : Keeps p s { x with meter := m } :=
  h.trans
    { State.Frame.refl p x with
      counts := fun hp => hcounts.resolve_left (by rw [hp]; nofun)
      cells := fun _ => hcells
      steady := fun hs hn => by simpa only [hcells] using hs hn
      valves := id
      writes := id }

/-- The retained write in progress is settled one way or the other. -/
theorem settleWrite (h : Keeps p s x) (ht : p.tables = true) (hw : p.writing = true) : Keeps p s x.settleWrite := by
  unfold State.settleWrite
  split
  · exact h.trans
      { State.Frame.refl p x with
        tables := fun hp => by rw [ht] at hp; cases hp
        writing := fun hp => by rw [hw] at hp; cases hp
        valves := id
        writes := id }
  · exact h

/-- The supply goes down. -/
theorem powerDown (h : Keeps p s x) (hp : p.supply = true) :
    Keeps p s { x with supply := { x.supply with state := .powerDown } } :=
  h.trans
    { State.Frame.refl p x with
      supply := fun hf => by rw [hp] at hf; cases hf
      steady := fun _ hn => by cases hn
      valves := id
      writes := id }

theorem supplyDrop (h : Keeps p s x) (ht : p.tables = true) (hw : p.writing = true) (hp : p.supply = true) :
    Keeps p s x.supplyDrop :=
  have hd : Keeps p s x.finalRecord.settleWrite := .settleWrite (.finalRecord h) ht hw
  (hd.powerDown hp).quiet rfl rfl rfl

/-! ## Cells -/

/-- A change of a cell. -/
theorem setCell {n : Cell} {y : FilterCell} (h : Keeps p s x) (hc : p.cells = true)
    (hy : x.SupplySteady → (x.setCell n y).SupplySteady) : Keeps p s (x.setCell n y) :=
  h.trans
    { State.Frame.refl p x with
      cells := fun hp => by rw [hc] at hp; cases hp
      steady := hy
      valves := id
      writes := id }

end State.Keeps

theorem Cells.set_svm {c : Cells} {n : Cell} {y : FilterCell} (h : n ≠ .svm) : (c.set n y).svm = c.svm := by
  cases n
  case svm => exact absurd rfl h
  all_goals rfl

/-- A change of a cell that keeps its output and its lockout keeps the supply steady, and so does any change of another
cell than the monitor's. -/
theorem State.SupplySteady.setCell {x : State} {n : Cell} {y : FilterCell} (hs : x.SupplySteady)
    (hy : n = .svm → y.output = (x.meter.cells.get n).output ∧ y.lockout = (x.meter.cells.get n).lockout) :
    (x.setCell n y).SupplySteady := by
  intro hn
  by_cases h : n = .svm
  · obtain ⟨hout, hlock⟩ := hy h
    subst h
    exact ⟨hout.trans (hs hn).1, hlock.trans (hs hn).2⟩
  · have hsvm : (x.setCell n y).meter.cells.svm = x.meter.cells.svm := Cells.set_svm h
    rw [hsvm]
    exact hs hn

theorem FilterCell.glitched_output (x : FilterCell) : x.glitched.output = x.output := by
  unfold FilterCell.glitched
  split <;> rfl

theorem FilterCell.glitched_lockout (x : FilterCell) : x.glitched.lockout = x.lockout := by
  unfold FilterCell.glitched
  split <;> rfl

namespace State.Keeps

variable {p : Permits} {s x t : State}

theorem glitch {n : Cell} (h : Keeps p s x) (hc : p.cells = true) : Keeps p s (x.glitch n) := by
  have hx : Keeps p s (x.setCell n (x.meter.cells.get n).glitched) :=
    .setCell h hc fun hs =>
      hs.setCell fun _ => ⟨FilterCell.glitched_output _, FilterCell.glitched_lockout _⟩
  dsimp only [State.glitch]
  split
  · exact hx
  · exact .raise hx

theorem inputReturns {n : Cell} {c : Nat} (h : Keeps p s x) (hc : p.cells = true) :
    Keeps p s (x.inputReturns n c) := by
  have hx : Keeps p s (x.setCell n { x.meter.cells.get n with input := (x.meter.cells.get n).output, count := c }) :=
    .setCell h hc fun hs => hs.setCell fun _ => ⟨rfl, rfl⟩
  dsimp only [State.inputReturns]
  split
  · exact .glitch hx hc
  · exact hx

theorem inputChange {n : Cell} {k : Nat} (h : Keeps p s x) (hc : p.cells = true) :
    Keeps p s (x.inputChange n k) := by
  dsimp only [State.inputChange]
  split
  · exact h
  · split
    · exact h
    · split
      · exact .glitch (.setCell h hc fun hs => hs.setCell fun _ => ⟨rfl, rfl⟩) hc
      · exact h
    · split
      · exact .setCell h hc fun hs => hs.setCell fun _ => ⟨rfl, rfl⟩
      · split
        · exact .inputReturns h hc
        · exact h

/-! ## Steps -/

theorem flowUnauth (h : Keeps p s x) : Keeps p s x.flowUnauth := by
  unfold State.flowUnauth
  split
  · exact .raise (.modMeter h rfl (.inr rfl))
  · exact h

theorem compensate {b : Bool} (h : Keeps p s x) (hc : p.counts = true) : Keeps p s (x.compensate b) :=
  .modMeter h rfl (.inl hc)

end State.Keeps

theorem Meter.rateAt_cells (m : Meter) (b : Bool) (t : Nat) : (m.rateAt b t).cells = m.cells := by
  unfold Meter.rateAt
  split <;> rfl

theorem Meter.rateAt_counts (m : Meter) (b : Bool) (t : Nat) : (m.rateAt b t).counts = m.counts := by
  unfold Meter.rateAt
  split <;> rfl

theorem Meter.unauthStep_cells (m : Meter) (b : Bool) (n : Nat) : (m.unauthStep b n).cells = m.cells := by
  unfold Meter.unauthStep
  split
  · rfl
  · split
    · rfl
    · split <;> rfl

namespace State.Keeps

variable {p : Permits} {s x t : State}

theorem boundary {b : Bool} {n : Nat} (h : Keeps p s x) (hc : p.counts = true) : Keeps p s (x.boundary b n) := by
  have hx : Keeps p s { x.compensate b with meter := (x.compensate b).meter.rateAt b n }.recordBoundary :=
    .recordBoundary (.modMeter (.compensate h hc) (Meter.rateAt_cells _ _ _) (.inl hc))
  dsimp only [State.boundary]
  split
  · exact .activityBoundary hx
  · exact hx

theorem meterStep {b : Bool} {n : Nat} (h : Keeps p s x) (hc : p.counts = true) : Keeps p s (x.meterStep b n) := by
  have hx : Keeps p s (State.activityStep b
      (State.flowUnauth { x with meter := (x.meter.turn b x.pulse n).unauthStep b x.pulse.toNat })) :=
    .activityStep (.flowUnauth (.modMeter h (Meter.unauthStep_cells _ _ _) (.inl hc)))
  dsimp only [State.meterStep]
  split
  · exact .meterLimits (.boundary hx hc)
  · exact .meterLimits hx

theorem phaseError (h : Keeps p s x) (hc : p.counts = true) : Keeps p s x.phaseError :=
  .meterLimits (.modMeter h rfl (.inl hc))

theorem setPosition {q : Pattern} (h : Keeps p s x) : Keeps p s (x.setPosition q) := .modMeter h rfl (.inr rfl)

theorem patternChanged {n : Nat} (h : Keeps p s x) (hc : p.counts = true) : Keeps p s (x.patternChanged n) := by
  have hr : Keeps p s { x with meter := { x.meter with recentTimer := some 2000000 } } :=
    .modMeter h rfl (.inr rfl)
  dsimp only [State.patternChanged]
  split
  · split
    · exact .meterStep (.setPosition hr) hc
    · exact .meterStep (.setPosition hr) hc
    · exact .phaseError (.setPosition hr) hc
    · exact .phaseError hr hc
    · exact .setPosition hr
    · exact hr
  · exact h

/-! ## Events of the cells -/

/-- The monitor's cell takes a change in with the supply drop. -/
theorem svmDrop {y : FilterCell} (h : Keeps p s x) (hc : p.cells = true) (ht : p.tables = true)
    (hw : p.writing = true) (hp : p.supply = true) : Keeps p s (x.setCell .svm y).supplyDrop := by
  have heq : (x.setCell .svm y).supplyDrop = x.supplyDrop.setCell .svm y := by
    unfold State.supplyDrop State.finalRecord State.settleWrite
    by_cases hphase : x.supply.phase = .running
    · cases hwriting : x.engine.writing <;> simp [hphase, hwriting, State.setCell, State.modRecord] <;> rfl
    · cases hwriting : x.engine.writing <;> simp [hphase, hwriting, State.setCell]
  rw [heq]
  exact .setCell (.supplyDrop h ht hw hp) hc fun _ hn => by cases hn

/-- A cell takes a change in and hands it to its consumers. -/
theorem outputChanged {n : Cell} {level : Bool} {k : Nat} {y : FilterCell} (h : Keeps p s x) (hc : p.cells = true)
    (hcounts : n = .a ∨ n = .b ∨ n = .c → p.counts = true) (hd : n = .svm → p.tables = true ∧ p.writing = true ∧ p.supply = true)
    (hlow : n = .svm → level = false → (x.meter.cells.get n).output = true) :
    Keeps p s ((x.setCell n y).outputChanged n level k) := by
  by_cases hn : n = .svm
  · subst hn
    obtain ⟨ht, hw, hp⟩ := hd rfl
    cases level with
    | false =>
      refine .setCell h hc fun hs hnormal => ?_
      have hout : x.meter.cells.svm.output = true := hlow rfl rfl
      rw [(hs hnormal).1] at hout
      cases hout
    | true => exact .svmDrop h hc ht hw hp
  · have hx : Keeps p s (x.setCell n y) := .setCell h hc fun hs => hs.setCell fun h => absurd h hn
    unfold State.outputChanged
    cases n with
    | a => exact .patternChanged hx (hcounts (.inl rfl))
    | b => exact .patternChanged hx (hcounts (.inr (.inl rfl)))
    | c => exact .patternChanged hx (hcounts (.inr (.inr rfl)))
    | noz => cases level with
      | false => exact .nozFall hx
      | true => exact .nozRise hx
    | cpl => cases level with
      | false => exact .cplFall hx
      | true => exact .cplRise hx
    | estop => cases level with
      | false => exact hx
      | true => exact .wantStop hx
    | svm => exact absurd rfl hn
    | dhs => cases level with
      | false => exact .dhsFall hx
      | true => exact hx

theorem cellPasses {n : Cell} {level : Bool} {k : Nat} (h : Keeps p s x) (hc : p.cells = true)
    (hcounts : n = .a ∨ n = .b ∨ n = .c → p.counts = true) (hd : n = .svm → p.tables = true ∧ p.writing = true ∧ p.supply = true) :
    Keeps p s (x.cellPasses n level k) := by
  dsimp only [State.cellPasses]
  split
  case isTrue hpass =>
    refine .outputChanged h hc hcounts hd fun _ hl => ?_
    subst hl
    simp only [FilterCell.passes, Bool.and_eq_true, bne_iff_ne, ne_eq] at hpass
    obtain ⟨⟨_, hne⟩, _⟩ := hpass
    simpa using hne
  case isFalse => exact h

theorem lockoutEnd {n : Cell} {k : Nat} (h : Keeps p s x) (hc : p.cells = true)
    (hcounts : n = .a ∨ n = .b ∨ n = .c → p.counts = true) (hd : n = .svm → p.tables = true ∧ p.writing = true ∧ p.supply = true) :
    Keeps p s (x.lockoutEnd n k) := by
  dsimp only [State.lockoutEnd]
  split
  · exact h
  case isFalse hlock =>
    split
    · refine .setCell h hc fun hs hnormal => ?_
      by_cases hn : n = .svm
      · subst hn
        exact ⟨(hs hnormal).1, rfl⟩
      · exact hs.setCell (fun h => absurd h hn) hnormal
    case isFalse hne =>
      refine .outputChanged h hc hcounts hd fun _ hl => ?_
      rw [hl] at hne
      simpa using Ne.symm hne

end State.Keeps

/-- The sensor cells alone take a pattern in. -/
theorem Cells.passPattern_svm {c d : Cells} {q : Pattern} {k : Nat} (h : c.passPattern q k = some d) :
    d.svm = c.svm := by
  unfold Cells.passPattern at h
  split at h
  · cases h
  · split at h
    · cases h; rfl
    · cases h

namespace State.Keeps

variable {p : Permits} {s x t : State}

theorem pattern {k j : Nat} {q : Pattern} (h : Keeps p s x) (hc : p.cells = true) (hcounts : p.counts = true) :
    Keeps p s (x.pattern k j q) := by
  unfold State.pattern
  split
  case h_1 d hd =>
    refine .patternChanged (h.trans ?_) hcounts
    exact
      { State.Frame.refl p x with
        cells := fun hp => by rw [hc] at hp; cases hp
        steady := fun hs hn => by
          have hsvm := Cells.passPattern_svm hd
          simpa only [hsvm] using hs hn
        valves := id
        writes := id }
  case h_2 => exact h

theorem reverseFlow {k j : Nat} {q : Pattern} (h : Keeps p s x) (hc : p.cells = true) (hcounts : p.counts = true) :
    Keeps p s (x.reverseFlow k j q) := by
  unfold State.reverseFlow
  split
  · exact .pattern h hc hcounts
  · exact h

theorem meterFault {k j : Nat} {q : Pattern} (h : Keeps p s x) (hc : p.cells = true) (hcounts : p.counts = true) :
    Keeps p s (x.meterFault k j q) := by
  unfold State.meterFault
  split
  · exact .pattern h hc hcounts
  · exact h

/-! ## Timers and duty-cycle inputs -/

theorem flowRateTimeout (h : Keeps p s x) : Keeps p s x.flowRateTimeout := by
  unfold State.flowRateTimeout
  split
  · exact .modMeter h rfl (.inr rfl)
  · exact h

theorem unauthTimeout (h : Keeps p s x) : Keeps p s x.unauthTimeout := by
  unfold State.unauthTimeout
  split
  · exact .modMeter h rfl (.inr rfl)
  · exact h

theorem recentFlowEnd (h : Keeps p s x) : Keeps p s x.recentFlowEnd := .modMeter h rfl (.inr rfl)

theorem setDuty {n : DutyCell} {d : DutyState} (h : Keeps p s x) : Keeps p s (x.setDuty n d) := by
  cases n with
  | tmp => exact .modMeter h rfl (.inr rfl)
  | gau => exact .modMeter h rfl (.inr rfl)

theorem dutyRise {n : DutyCell} {k : Nat} (h : Keeps p s x) : Keeps p s (x.dutyRise n k).1 := by
  dsimp only [State.dutyRise]
  split
  · exact h
  · split
    · exact .setDuty h
    · exact .setDuty h

theorem dutyFall {n : DutyCell} {k : Nat} (h : Keeps p s x) : Keeps p s (x.dutyFall n k) := by
  dsimp only [State.dutyFall]
  split
  · exact .setDuty h
  · exact h

theorem dutyTimeout {n : DutyCell} (h : Keeps p s x) : Keeps p s (x.dutyTimeout n) := by
  dsimp only [State.dutyTimeout]
  split
  · exact .setDuty h
  · exact h

theorem dutyMeasurement {n : DutyCell} {k : Nat} (h : Keeps p s x) : Keeps p s (x.dutyMeasurement n k) := by
  dsimp only [State.dutyMeasurement]
  split
  · exact .gaugeReading (.dutyRise h)
  · exact .dutyRise h

theorem dutyCycleTimeout {n : DutyCell} (h : Keeps p s x) : Keeps p s (x.dutyCycleTimeout n) := by
  unfold State.dutyCycleTimeout
  split
  · exact .gaugeNoReading (.dutyTimeout h)
  · exact .dutyTimeout h

end State.Keeps

end Sys2Proof.Machine
end

section
/-! The frame of the link states: leaving service, faulting, abandoning a join, the founding round, and the outcomes of the
station's own frames. -/

namespace Sys2Proof.Machine

theorem Engine.onLinkState_writing (e : Engine) (st : LinkState) : (e.onLinkState st).writing = e.writing := by
  cases st <;> rfl

theorem Engine.onLinkState_catchUp (e : Engine) (st : LinkState) : (e.onLinkState st).catchUp = e.catchUp := by
  cases st <;> rfl

theorem Engine.onLinkState_deferred (e : Engine) (st : LinkState) : (e.onLinkState st).deferred = e.deferred := by
  cases st <;> rfl

namespace State.Keeps

variable {p : Permits} {s x t : State}

/-- Both branches keep. -/
theorem ite {c : Prop} [Decidable c] {a b : State} (ha : Keeps p s a) (hb : Keeps p s b) :
    Keeps p s (if c then a else b) := by
  split
  · exact ha
  · exact hb

/-- A change of the link and of the engine that keeps the bounds of the queues. -/
theorem modQueues {l : Link} {e : Engine} (h : Keeps p s x)
    (hi : x.link.inbound.length ≤ 8 → l.inbound.length ≤ 8)
    (he : p.errors = true ∨ l.errors = x.link.errors)
    (htx : (x.link.tx.map TxEntry.origin).Nodup → (l.tx.map TxEntry.origin).Nodup)
    (hw : p.writing = true ∨ e.writing = x.engine.writing)
    (hc : x.engine.catchUp.length ≤ 64 → e.catchUp.length ≤ 64)
    (hd : x.engine.deferred.length ≤ 64 → e.deferred.length ≤ 64) :
    Keeps p s { x with link := l, engine := e } :=
  h.trans
    { State.Frame.refl p x with
      errors := fun hp => he.resolve_left (by rw [hp]; nofun)
      writing := fun hp => hw.resolve_left (by rw [hp]; nofun)
      bounded := fun ⟨hnodup, hlen, hcatchUp, hdeferred, hnotices⟩ =>
        ⟨htx hnodup, hi hlen, hc hcatchUp, hd hdeferred, hnotices⟩
      valves := id
      writes := id }

/-- A change of the link that keeps the transmit queue with one frame for each block. -/
theorem modLink {l : Link} (h : Keeps p s x) (hi : x.link.inbound.length ≤ 8 → l.inbound.length ≤ 8)
    (he : p.errors = true ∨ l.errors = x.link.errors)
    (htx : (x.link.tx.map TxEntry.origin).Nodup → (l.tx.map TxEntry.origin).Nodup) :
    Keeps p s { x with link := l } :=
  .modQueues h hi he htx (.inr rfl) id id

/-- A change of the engine that touches no retained write. -/
theorem modEngine {e : Engine} (h : Keeps p s x) (hw : p.writing = true ∨ e.writing = x.engine.writing)
    (hc : x.engine.catchUp.length ≤ 64 → e.catchUp.length ≤ 64)
    (hd : x.engine.deferred.length ≤ 64 → e.deferred.length ≤ 64) : Keeps p s { x with engine := e } :=
  .modQueues h id (.inr rfl) id hw hc hd

theorem setLink {st : LinkState} {r : Reason} (h : Keeps p s x) : Keeps p s (x.setLink st r) :=
  .raise <| .modQueues h id (.inr rfl) id (.inr (Engine.onLinkState_writing _ _))
    (by rw [Engine.onLinkState_catchUp]; exact id) (by rw [Engine.onLinkState_deferred]; exact id)

theorem dropQueues (h : Keeps p s x) : Keeps p s x.dropQueues :=
  .modQueues h (fun _ => Nat.zero_le _) (.inr rfl) (fun _ => List.nodup_nil) (.inr rfl)
    (fun _ => Nat.zero_le _) (fun _ => Nat.zero_le _)

theorem tellLeft {o : Origin} {q : Payload} (h : Keeps p s x) : Keeps p s (x.tellLeft o q) := by
  unfold State.tellLeft
  split
  · exact .activityFrameLost h
  · exact .stopPathOutcome h
  · exact h

theorem tellLost {f : Machine.Frame} (h : Keeps p s x) : Keeps p s (x.tellLost f) := .activityFrameLost h

/-- A step that keeps, taken for each member of a list. -/
theorem foldl {α : Type} {f : State → α → State} (hf : ∀ y a, Keeps p s y → Keeps p s (f y a)) (l : List α) :
    ∀ {x : State}, Keeps p s x → Keeps p s (l.foldl f x) := by
  induction l with
  | nil => exact id
  | cons a l ih => exact fun h => ih (hf _ a h)

theorem tellAllLeft {tx : List TxEntry} {kept : List KeptFrame} {own : List Machine.Frame} (h : Keeps p s x) :
    Keeps p s (x.tellAllLeft tx kept own) :=
  .foldl (fun _ _ => .tellLost) own (.foldl (fun _ _ => .tellLeft) kept (.foldl (fun _ _ => .tellLeft) tx h))

theorem leaveFailed (h : Keeps p s x) : Keeps p s x.leaveFailed := .raise (.modEngine h (.inr rfl) id id)

theorem dropOut {st : LinkState} {r : Reason} (h : Keeps p s x) : Keeps p s (x.dropOut st r) := by
  have hlink : Keeps p s (x.dropQueues.setLink st r) := .setLink (.dropQueues h)
  have hact := Keeps.ite (c := x.inService = true) (.activityLinkLost hlink) hlink
  have htold : Keeps p s _ := hact.tellAllLeft (tx := x.link.tx) (kept := x.link.kept) (own := x.ownFrames)
  have hleft := Keeps.ite (c := (x.engine.leavePending && r != .left && !x.writesLeave) = true)
    (.leaveFailed htold) htold
  exact .ite (.gaugeLinkLost (.responderFree hleft)) (.responderFree hleft)

theorem leaveService {r : Reason} (h : Keeps p s x) : Keeps p s (x.leaveService r) := .dropOut h
theorem enterFaulted {r : Reason} (h : Keeps p s x) : Keeps p s (x.enterFaulted r) := .dropOut h

theorem abandonJoin {r : Reason} (h : Keeps p s x) : Keeps p s (x.abandonJoin r) :=
  .modEngine (.dropOut h) (.inr rfl) id id

/-! ## Membership -/

theorem noteHeard (h : Keeps p s x) : Keeps p s x.noteHeard := by
  dsimp only [State.noteHeard]
  split
  · exact .modEngine h (.inr rfl) id id
  · split
    · exact .modEngine (.withdraw h) (.inr rfl) id id
    · exact .offer (.modEngine (.withdraw h) (.inr rfl) id id)

theorem restartListening (h : Keeps p s x) : Keeps p s x.restartListening := by
  unfold State.restartListening
  split
  · exact .modEngine h (.inr rfl) id id
  · exact h

theorem listenAgain (h : Keeps p s x) : Keeps p s x.listenAgain := by
  unfold State.listenAgain
  split
  · exact .modEngine h (.inr rfl) id id
  · exact h

theorem endRound {st : LinkState} {r : Reason} (h : Keeps p s x) : Keeps p s (x.endRound st r) :=
  .setLink (.modEngine (.dropKept (.withdraw (.withdraw h))) (.inr rfl) id id)

theorem enterJoining (h : Keeps p s x) : Keeps p s x.enterJoining :=
  .setLink (.modEngine h (.inr rfl) (fun _ => Nat.zero_le _) id)

theorem enterService {b : Bool} (h : Keeps p s x) : Keeps p s (x.enterService b) :=
  .offerStop (.offer (.setLink (.modLink h id (.inr rfl) id)))

theorem membershipOutcome {q : Payload} {oc : TxOutcome} (h : Keeps p s x) :
    Keeps p s (x.membershipOutcome q oc) := by
  unfold State.membershipOutcome
  split
  · exact .ite (.enterJoining h) h
  · exact .listenAgain h
  · exact .modEngine h (.inr rfl) id id
  · exact .listenAgain h
  · exact .ite (.endRound h) h
  · exact .leaveService h
  · exact .leaveFailed h
  · exact h

theorem activityUndelivered {q : Payload} (h : Keeps p s x) : Keeps p s (x.activityUndelivered q) := by
  unfold State.activityUndelivered
  split
  · exact .activityFrameLost (.leaveService h)
  · exact .activityFrameLost (.leaveService h)
  · exact .adjustUndelivered h
  · exact .activityFrameLost h

theorem blockOutcome {o : Origin} {q : Payload} {oc : TxOutcome} (h : Keeps p s x) :
    Keeps p s (x.blockOutcome o q oc) := by
  unfold State.blockOutcome
  split
  · exact h
  · exact .membershipOutcome h
  · exact .donationOutcome h
  · exact .responderOutcome h
  · split
    · exact .activityUndelivered h
    · exact h
  · split
    · exact .gaugeFrameLost h
    · exact h
  · exact .stopPathOutcome h

theorem frameLeaves {e : TxEntry} {oc : TxOutcome} (h : Keeps p s x) : Keeps p s (x.frameLeaves e oc) :=
  .offerKept (.blockOutcome (.remove h))

end State.Keeps

/-- Counting voids changes no frame's block. -/
theorem origins_of_counted (tx : List TxEntry) (e : TxEntry) :
    (tx.map fun x => if x.origin = e.origin then { x with voids := e.voids + 1 } else x).map TxEntry.origin
      = tx.map TxEntry.origin := by
  rw [List.map_map]
  refine List.map_congr_left fun x _ => ?_
  rw [Function.comp_apply]
  split <;> rfl

namespace State.Keeps

variable {p : Permits} {s x t : State}

theorem ownVoid {e : TxEntry} (h : Keeps p s x) : Keeps p s (x.ownVoid e) := by
  dsimp only [State.ownVoid]
  split
  · exact .modLink h id (.inr rfl) fun hn => by rw [origins_of_counted]; exact hn
  · exact .frameLeaves (.modLink h id (.inr rfl) id)

end State.Keeps

end Sys2Proof.Machine
end

section
/-! The frame of the replica engine: applying a frame, the end of its retained write, deferring, joining, listening and
founding. -/

namespace Sys2Proof.Machine

theorem State.popInbound_inbound_length (s : State) :
    s.popInbound.link.inbound.length ≤ s.link.inbound.length := by
  rw [State.popInbound]
  exact (List.drop_sublist _ _).length_le

namespace State.Keeps

variable {p : Permits} {s x t : State}

theorem popInbound (h : Keeps p s x) : Keeps p s x.popInbound :=
  .modLink h (fun hlen => Nat.le_trans (State.popInbound_inbound_length x) hlen) (.inr rfl) id

theorem popNext (h : Keeps p s x) : Keeps p s x.popNext := by
  unfold State.popNext
  split
  · exact .popInbound h
  · exact .modEngine h (.inr rfl) id fun hlen => Nat.le_trans (List.drop_sublist _ _).length_le hlen

/-! ## Applying a frame -/

theorem setClock {c : Option Nat} (h : Keeps p s x) (hc : p.clock = true) : Keeps p s { x with clock := c } :=
  h.trans
    { State.Frame.refl p x with
      clock := fun hp => by rw [hc] at hp; cases hp
      valves := id
      writes := id }

theorem localEffects {f : Machine.Frame} {res : ApplyResult} (h : Keeps p s x)
    (hc : p.clock = true ∨ ∀ t, f.payload ≠ .time t) : Keeps p s (x.localEffects f res) := by
  dsimp only [State.localEffects]
  split
  · exact .raise h
  · exact .raise h
  · exact .ite (.wantStop (.raise h)) (.raise h)
  case h_4 htime => exact .setClock h (hc.resolve_right fun hn => hn _ htime)
  · exact h

theorem beginWrite {f : Machine.Frame} (h : Keeps p s x) (hw : p.writing = true)
    (hc : p.clock = true ∨ ∀ t, f.payload ≠ .time t) : Keeps p s (x.beginWrite f) := by
  have hpop : Keeps p s x.popNext := .popNext h
  have hbegun : Keeps p s { x.popNext with
      engine := { x.popNext.engine with writing := some (applyFrame x.replica x.limitReached f x.free) } } :=
    .modEngine hpop (.inl hw) id id
  exact .localEffects (hbegun.quiet rfl rfl rfl) hc

theorem applyRow {sel : Payload → Bool} (h : Keeps p s x) (hw : p.writing = true)
    (hc : p.clock = true ∨ ∀ t, sel (.time t) = false) : Keeps p s (x.applyRow sel) := by
  unfold State.applyRow
  split
  case h_1 f _ =>
    split
    case isTrue hsel =>
      refine .beginWrite h hw (hc.imp_right fun hn t ht => ?_)
      rw [ht, hn] at hsel
      cases hsel
    case isFalse => exact h
  case h_2 => exact h

/-! ## The end of the retained write -/

theorem handResult {q : Payload} {res : ApplyResult} (h : Keeps p s x) (hc : p.counts = true)
    (hs : p.starts = true) : Keeps p s (x.handResult q res) := by
  unfold State.handResult
  split
  · exact .gaugeApplied h
  · exact .gaugeCensus h
  · exact .activityResult h hc hs

theorem leaveApplied (h : Keeps p s x) : Keeps p s x.leaveApplied := .identOffline (.dropOut h)

theorem becomeAdmitted (h : Keeps p s x) : Keeps p s x.becomeAdmitted :=
  .recoverAtAdmission (.stopAtAdmission (.raise (.gaugeAdmitted (.modEngine h (.inr rfl) id id))))

theorem standing {b : Bool} {f : Machine.Frame} (h : Keeps p s x) : Keeps p s (x.standing b f) := by
  dsimp only [State.standing]
  split
  · exact h
  · split
    · exact .ite (.becomeAdmitted h) h
    · exact .ite (.leaveService h) h

theorem becomeDonor {f : Machine.Frame} {res : ApplyResult} (h : Keeps p s x) :
    Keeps p s (x.becomeDonor f res) := by
  unfold State.becomeDonor
  split
  · exact .ite (.freezeFor h) h
  · exact h

theorem tellRecovery {f : Machine.Frame} (h : Keeps p s x) : Keeps p s (x.tellRecovery f) := by
  unfold State.tellRecovery
  split
  · exact .releaseApplied h
  · exact .releaseApplied h
  · exact .presentApplied h
  · exact h

theorem ownApplied {f : Machine.Frame} {res : ApplyResult} (h : Keeps p s x) (hc : p.counts = true)
    (hs : p.starts = true) : Keeps p s (x.ownApplied f res) := by
  unfold State.ownApplied
  split
  · exact .ite (.leaveApplied h) (.handResult h hc hs)
  · exact h

theorem resumeStream (h : Keeps p s x) : Keeps p s x.resumeStream := by
  dsimp only [State.resumeStream]
  split
  · split
    · exact .responderPump (h.quiet rfl rfl rfl)
    · exact h
  · exact h

/-- The tables, and the mark of their sequence limit, are changed. -/
theorem setTables {r : Replica} {l : Bool} {e : Engine} (h : Keeps p s x) (ht : p.tables = true)
    (hw : p.writing = true ∨ e.writing = x.engine.writing)
    (hc : e.catchUp = x.engine.catchUp) (hd : e.deferred = x.engine.deferred) :
    Keeps p s { x with replica := r, limitReached := l, engine := e } :=
  h.trans
    { State.Frame.refl p x with
      tables := fun hp => by rw [ht] at hp; cases hp
      writing := fun hp => hw.resolve_left (by rw [hp]; nofun)
      bounded := fun hb => by
        obtain ⟨hnodup, hlen, hcatchUp, hdeferred, hnotices⟩ := hb
        exact ⟨hnodup, hlen, by rw [hc]; exact hcatchUp, by rw [hd]; exact hdeferred, hnotices⟩
      valves := id
      writes := id }

/-- What follows the end of a retained write changes no table any more. -/
theorem writeDone_after {w : Writing} (h : Keeps p s { x with
      replica := w.replica
      limitReached := x.limitReached || w.limit
      engine := { x.engine with writing := none } })
    (hc : p.counts = true) (hs : p.starts = true) : Keeps p s (x.writeDone w) := by
  have hdone : Keeps p s _ :=
    .resumeStream (.tellRecovery (f := w.frame) (.becomeDonor (f := w.frame) (res := w.result)
      (.standing (b := x.replica.admits x.me) (f := w.frame)
        (.ownApplied (f := w.frame) (res := w.result) h hc hs))))
  exact .ite (.enterFaulted hdone) hdone

theorem writeDone {w : Writing} (h : Keeps p s x) (ht : p.tables = true) (hw : p.writing = true)
    (hc : p.counts = true) (hs : p.starts = true) : Keeps p s (x.writeDone w) :=
  .writeDone_after (.setTables h ht (.inl hw) rfl rfl) hc hs

theorem completeWrite (h : Keeps p s x) (ht : p.tables = true) (hw : p.writing = true)
    (hc : p.counts = true) (hs : p.starts = true) : Keeps p s x.completeWrite := by
  unfold State.completeWrite
  split
  · exact .writeDone h ht hw hc hs
  · exact h

theorem completeAtLimit (h : Keeps p s x) (ht : p.tables = true) (hw : p.writing = true)
    (hc : p.counts = true) (hs : p.starts = true) : Keeps p s x.completeAtLimit := by
  unfold State.completeAtLimit
  split
  · exact .ite (.writeDone h ht hw hc hs) h
  · exact h

/-! ## Deferring and catching up -/

theorem deferFrame (h : Keeps p s x) : Keeps p s x.deferFrame := by
  dsimp only [State.deferFrame]
  split
  · split
    · split
      case isTrue hlen =>
        exact .modEngine (.popInbound h) (.inr rfl) id fun _ => by rw [List.length_append]; exact hlen
      case isFalse => exact .deferOverflow h
    · exact h
  · exact h

theorem holdForCatchUp (h : Keeps p s x) : Keeps p s x.holdForCatchUp := by
  dsimp only [State.holdForCatchUp]
  split
  · split
    · split
      case isTrue hlen =>
        exact .modEngine (.popInbound h) (.inr rfl) (fun _ => by rw [List.length_append]; exact hlen) id
      case isFalse => exact .abandonJoin h
    · exact h
  · exact h

/-! ## Joining -/

theorem takeKind {k : Kind} {f : Machine.Frame → State → State} (h : Keeps p s x)
    (hf : ∀ g y, Keeps p s y → Keeps p s (f g y)) : Keeps p s (x.takeKind k f) := by
  unfold State.takeKind
  split
  · exact .ite (hf _ _ (.popInbound h)) h
  · exact h

theorem engineTakes {k : Kind} {f : Machine.Frame → State → State} (h : Keeps p s x)
    (hf : ∀ g y, Keeps p s y → Keeps p s (f g y)) : Keeps p s (x.engineTakes k f) := by
  unfold State.engineTakes
  split
  · exact .takeKind h hf
  · exact h

theorem snapHead {f : Machine.Frame} (h : Keeps p s x) : Keeps p s (x.snapHead f) := by
  dsimp only [State.snapHead]
  split
  · exact h
  · split
    · split
      · exact .enterFaulted h
      · exact .modEngine h (.inr rfl) id id
    · exact h

theorem snap {f : Machine.Frame} (h : Keeps p s x) : Keeps p s (x.snap f) := by
  dsimp only [State.snap]
  split
  · exact h
  · split
    · exact h
    · split
      · split
        · exact .modEngine h (.inr rfl) id id
        · exact .abandonJoin h
      · exact .abandonJoin h

theorem snapAbort {f : Machine.Frame} (h : Keeps p s x) : Keeps p s (x.snapAbort f) := by
  unfold State.snapAbort
  split
  · exact h
  · exact .ite (.abandonJoin h) h

/-- The frames that waited are applied one after another. -/
theorem catchUpWith (ht : p.tables = true) (hc : p.clock = true) (fs : List Machine.Frame) :
    ∀ {x : State}, Keeps p s x → Keeps p s (State.catchUpWith fs x).1 := by
  induction fs with
  | nil => exact id
  | cons f fs ih =>
    intro x h
    have hlocal : Keeps p s (State.localEffects f (applyFrame x.replica x.limitReached f x.free).result
        { x with free := freeAfterSeq x.replica x.free }) := .localEffects (h.quiet rfl rfl rfl) (.inl hc)
    have hstore (y : State) (r : Replica) (l : Bool) (hy : Keeps p s y) :
        Keeps p s (State.tellRecovery f { y with replica := r, limitReached := l }) :=
      .tellRecovery (.setTables (e := y.engine) hy ht (.inr rfl) rfl rfl)
    dsimp only [State.catchUpWith]
    split
    · split
      · exact hstore _ _ _ hlocal
      · exact ih (hstore _ _ _ hlocal)
    · exact h

theorem joinDone {n m : Nat} (h : Keeps p s x) : Keeps p s (x.joinDone n m) := by
  have hservice : Keeps p s _ := .enterService (b := false) (.modQueues
    (l := { x.link with inbound := [] })
    (e := { x.engine with catchUp := [], join := none, headTimer := none, joinTimer := none })
    h (fun _ => Nat.zero_le _) (.inr rfl) id (.inr rfl) (fun _ => Nat.zero_le _) id)
  exact .ite (.raise hservice) hservice

theorem install {r : Replica} (h : Keeps p s x) (ht : p.tables = true) (hc : p.clock = true) :
    Keeps p s (x.install r) := by
  have hr : Keeps p s { x with replica := r } := .setTables (l := x.limitReached) (e := x.engine) h ht (.inr rfl) rfl rfl
  have hcaught : Keeps p s (State.catchUpWith x.waitingFrames { x with replica := r }).1 :=
    .catchUpWith ht hc _ hr
  dsimp only [State.install]
  split
  · exact .joinDone hcaught
  · exact .abandonJoin (.setTables hcaught ht (.inr rfl) rfl rfl)
  · exact .enterFaulted hcaught

theorem snapEnd {f : Machine.Frame} (h : Keeps p s x) (ht : p.tables = true) (hc : p.clock = true) :
    Keeps p s (x.snapEnd f) := by
  unfold State.snapEnd
  split
  · exact h
  · split
    · exact h
    · split
      · exact .install h ht hc
      · exact .abandonJoin h

theorem takeSnapEnd (h : Keeps p s x) (ht : p.tables = true) (hc : p.clock = true) : Keeps p s x.takeSnapEnd := by
  unfold State.takeSnapEnd
  split
  · exact h
  · exact .engineTakes h fun _ _ hy => .snapEnd hy ht hc

theorem noSnapHead (h : Keeps p s x) : Keeps p s x.noSnapHead := .ite (.abandonJoin h) h
theorem joinTimeout (h : Keeps p s x) : Keeps p s x.joinTimeout := .ite (.abandonJoin h) h

/-! ## Listening and founding -/

theorem listeningTimeout (h : Keeps p s x) : Keeps p s x.listeningTimeout :=
  .ite (.offer (.modEngine h (.inr rfl) id id)) h

theorem holdOffEnd (h : Keeps p s x) : Keeps p s x.holdOffEnd := by
  dsimp only [State.holdOffEnd]
  split
  · split
    · exact .noteHeard (.modEngine h (.inr rfl) id id)
    · exact .modEngine h (.inr rfl) id id
  · exact h

theorem openRound {c : Candidate} (h : Keeps p s x) : Keeps p s (x.openRound c) := by
  have hr : Keeps p s _ := .modEngine
    (e := { (x.setLink .founding .noReason).engine with
      round := some { sealer := c.station, candidates := [c] }, roundTimer := some 5000000
      foundSent := x.engine.foundSent || c.station == x.me
      sealTimer := if (c.station == x.me) = true then some 2000000 else none })
    (.setLink (st := .founding) (r := .noReason) h) (.inr rfl) id id
  exact .ite hr (.offer hr)

theorem addCandidate {c : Candidate} {r : Round} (h : Keeps p s x) : Keeps p s (x.addCandidate c r) :=
  .modEngine h (.inr rfl) id id

theorem takeFound {f : Machine.Frame} (h : Keeps p s x) : Keeps p s (x.takeFound f) := by
  unfold State.takeFound
  split
  · exact .openRound h
  · exact .addCandidate h
  · exact h

theorem sealDue (h : Keeps p s x) : Keeps p s x.sealDue := by
  have hd : Keeps p s { x with engine := { x.engine with sealTimer := none } } := .modEngine h (.inr rfl) id id
  dsimp only [State.sealDue]
  split
  · exact h
  · split
    · exact .ite (.offer hd) hd
    · exact hd

theorem takeSeal {f : Machine.Frame} (h : Keeps p s x) : Keeps p s (x.takeSeal f) := by
  dsimp only [State.takeSeal]
  split
  · exact h
  · split
    · split
      · exact .enterService (.modEngine (.dropKept (.withdraw h)) (.inr rfl) id id)
      · exact .ite (.endRound h) (.enterFaulted h)
    · exact h

theorem roundTimeout (h : Keeps p s x) : Keeps p s x.roundTimeout := by
  unfold State.roundTimeout
  split
  · exact .ite (.modEngine h (.inr rfl) id id) (.endRound h)
  · exact h

theorem roundHeard (h : Keeps p s x) : Keeps p s x.roundHeard := .noteHeard (.endRound h)

theorem serviceRead {f : Machine.Frame} (h : Keeps p s x) : Keeps p s (x.serviceRead f) := by
  unfold State.serviceRead
  split
  · split
    · exact .takeRead h
    · exact .takeRead h
  · exact h

end State.Keeps

end Sys2Proof.Machine
end

section
/-! The frame of the acknowledge windows and of the console port. -/

namespace Sys2Proof.Machine

/-! ## Windows -/

theorem Link.countError_inbound (l : Link) (e : RxError) : (l.countError e).inbound = l.inbound := by
  unfold Link.countError
  split <;> rfl

theorem Link.countError_tx (l : Link) (e : RxError) : (l.countError e).tx = l.tx := by
  unfold Link.countError
  split <;> rfl

theorem Link.enqueue_errors (l : Link) (f : Frame) : (l.enqueue f).errors = l.errors := by
  unfold Link.enqueue
  split <;> rfl

theorem Link.enqueue_tx (l : Link) (f : Frame) : (l.enqueue f).tx = l.tx := by
  unfold Link.enqueue
  split <;> rfl

namespace State.Keeps

variable {p : Permits} {s x t : State}

theorem enqueue {f : Machine.Frame} (h : Keeps p s x) : Keeps p s { x with link := x.link.enqueue f } :=
  .modLink h (Link.enqueue_length f) (.inr (Link.enqueue_errors _ f)) (by rw [Link.enqueue_tx]; exact id)

theorem frameStart {n : Nat} {r : List Byte} {b : Bool} (h : Keeps p s x) : Keeps p s (x.frameStart n r b) := by
  dsimp only [State.frameStart]
  split
  · split
    · split
      · exact .modLink h id (.inr rfl) id
      · exact .modLink h id (.inr rfl) id
    · exact h
  · exact h

/-- A receive error is counted. -/
theorem countError {e : RxError} (h : Keeps p s x) (he : p.errors = true) :
    Keeps p s { x with link := x.link.countError e } :=
  .modLink h (by rw [Link.countError_inbound]; exact id) (.inl he) (by rw [Link.countError_tx]; exact id)

theorem numberClash {r : List Bit} (h : Keeps p s x) (he : p.errors = true) : Keeps p s (x.numberClash r) := by
  unfold State.numberClash
  split
  · exact .ite (.enterFaulted (.countError h he)) h
  · exact h

theorem losePlace {e : RxError} (h : Keeps p s x) (he : p.errors = true) : Keeps p s (x.losePlace e) :=
  .modLink h (by rw [Link.countError_inbound]; exact id) (.inl he) (by rw [Link.countError_tx]; exact id)

theorem frameAbandoned {r : List Bit} (h : Keeps p s x) (he : p.errors = true) :
    Keeps p s (x.frameAbandoned r) := by
  unfold State.frameAbandoned
  split
  · split
    · exact .losePlace h he
    · exact h
  · exact h

theorem truncatedFrame {r : List Bit} (h : Keeps p s x) (he : p.errors = true) :
    Keeps p s (x.truncatedFrame r) := by
  unfold State.truncatedFrame
  split
  · split
    · exact .losePlace h he
    · exact h
  · exact h

theorem countVoids {d : Drive} (h : Keeps p s x) : Keeps p s (x.countVoids d) := by
  unfold State.countVoids
  split
  · split
    · exact .modLink h id (.inr rfl) id
    · exact .ite (.leaveService h) (.modLink h id (.inr rfl) id)
  · exact h
  · exact .modLink h id (.inr rfl) id

theorem presentAccepted (h : Keeps p s x) : Keeps p s x.presentAccepted :=
  .withdraw (.modLink h id (.inr rfl) id)

theorem censusAccepted {f : Machine.Frame} {b : Bool} (h : Keeps p s x) : Keeps p s (x.censusAccepted f b) :=
  .modLink h id (.inr rfl) id

theorem slotsFollow {f : Machine.Frame} (h : Keeps p s x) : Keeps p s (x.slotsFollow f) := .ite (.censusAccepted h) h

theorem acceptReplica {f : Machine.Frame} (h : Keeps p s x) : Keeps p s (x.acceptReplica f) := by
  have ha : Keeps p s { x with link := { x.link with acceptedSeq := x.link.acceptedSeq + 1 } } :=
    .modLink h id (.inr rfl) id
  dsimp only [State.acceptReplica]
  split
  · exact .ite (.presentAccepted (.censusAccepted ha)) (.censusAccepted ha)
  · split
    · exact .stopAccepted (.enqueue ha)
    · exact .enqueue ha

theorem joiningReplica {r : RxFrame} (h : Keeps p s x) : Keeps p s (x.joiningReplica r) := by
  unfold State.joiningReplica
  split
  · exact .slotsFollow (.abandonJoin h)
  · split
    · exact .censusAccepted h
    · exact .ite h (.enqueue h)

theorem listeningReplica {r : RxFrame} {w : Slots} (h : Keeps p s x) : Keeps p s (x.listeningReplica r w) :=
  .ite h (.ite (.slotsFollow h) (.noteHeard (.slotsFollow h)))

theorem foundingReplica {r : RxFrame} {w : Slots} (h : Keeps p s x) : Keeps p s (x.foundingReplica r w) :=
  .ite h (.ite (.slotsFollow h) (.roundHeard (.slotsFollow h)))

theorem receiverReplica {r : RxFrame} {d : Drive} {w : Slots} (h : Keeps p s x) :
    Keeps p s (x.receiverReplica r d w) := by
  unfold State.receiverReplica
  split
  · split
    · exact .acceptReplica h
    · exact .slotsFollow (.leaveService h)
    · exact h
  · exact .ite (.joiningReplica h) h
  · exact .listeningReplica h
  · exact .foundingReplica h
  · exact h

theorem receiverFounding {r : RxFrame} {w : Slots} (h : Keeps p s x) : Keeps p s (x.receiverFounding r w) := by
  unfold State.receiverFounding
  split
  · exact .ite h (.enqueue h)
  · exact .ite h (.enqueue h)
  · exact h

theorem receiverService {r : RxFrame} {d : Drive} (h : Keeps p s x) : Keeps p s (x.receiverService r d) := by
  unfold State.receiverService
  split
  · exact .enqueue h
  · exact h

theorem followed {r : RxFrame} (h : Keeps p s x) (he : p.errors = true) : Keeps p s (x.followed r) := by
  dsimp only [State.followed]
  refine .restartListening (.modLink h ?_ (.inl he) ?_)
  · split
    · rw [Link.countError_inbound]; exact id
    · exact id
  · split
    · rw [Link.countError_tx]; exact id
    · exact id

theorem receiverWindow {r : RxFrame} {w : Slots} (h : Keeps p s x) (he : p.errors = true) :
    Keeps p s (x.receiverWindow r w) := by
  have hv : Keeps p s ((x.followed r).countVoids ((x.followed r).drive r)) := .countVoids (.followed h he)
  dsimp only [State.receiverWindow]
  split
  · exact hv
  · split
    · exact .receiverReplica hv
    · exact .receiverFounding hv
    · exact .receiverService hv

theorem ownAccepted {e : TxEntry} {f : Machine.Frame} (h : Keeps p s x) : Keeps p s (x.ownAccepted e f) :=
  .frameLeaves (.ite (.acceptReplica h) h)

theorem ownReplica {e : TxEntry} {f : Machine.Frame} {w : Slots} (h : Keeps p s x) :
    Keeps p s (x.ownReplica e f w) := by
  unfold State.ownReplica
  split
  · exact .ownAccepted h
  · exact .ownVoid h
  · exact .ite (.leaveService h) (.listenAgain (.frameLeaves h))

theorem ownFounding {e : TxEntry} {f : Machine.Frame} {w : Slots} (h : Keeps p s x) :
    Keeps p s (x.ownFounding e f w) :=
  .ite (.ownVoid h) (.frameLeaves (.ite (.enqueue h) h))

theorem ownService {e : TxEntry} {w : Slots} (h : Keeps p s x) : Keeps p s (x.ownService e w) :=
  .ite (.ownVoid h) (.ite (.frameLeaves h) (.frameLeaves h))

theorem ownWindow {o : OnWire} {w : Slots} (h : Keeps p s x) : Keeps p s (x.ownWindow o w) := by
  unfold State.ownWindow
  split
  · split
    · exact .ownReplica h
    · exact .ownFounding h
    · exact .ownService h
  · exact h

theorem window {k : Category} {r : List Bit} {w : Slots} (h : Keeps p s x) (he : p.errors = true) :
    Keeps p s (x.window k r w) := by
  unfold State.window
  split
  · exact .ite (.ownWindow h) h
  · split
    · split
      · exact .ite (.receiverWindow h he) h
      · exact h
    · exact h

theorem undelivered {w : Slots} (h : Keeps p s x) : Keeps p s (x.undelivered w) := by
  unfold State.undelivered
  split
  · split
    · exact .ite (.ownWindow h) h
    · exact h
  · exact h

theorem receiveFailure {r : List Bit} {w : Slots} (h : Keeps p s x) (he : p.errors = true) :
    Keeps p s (x.receiveFailure r w) := by
  unfold State.receiveFailure
  split
  · split
    · exact .ite (.receiverWindow h he) h
    · exact h
  · exact h

theorem slotsEnd {m : BitVec 32} (h : Keeps p s x) : Keeps p s (x.slotsEnd m) := by
  have hd : Keeps p s { x with link := { x.link with slots := none } } := .modLink h id (.inr rfl) id
  dsimp only [State.slotsEnd]
  split
  · split
    · exact .enterFaulted hd
    · exact .ite (.enqueue hd) hd
  · exact h

theorem censusTimeout (h : Keeps p s x) : Keeps p s x.censusTimeout := by
  have hd : Keeps p s { x with link := { x.link with censusTimer := some x.censusPeriod } } :=
    .modLink h id (.inr rfl) id
  dsimp only [State.censusTimeout]
  split
  · exact .ite hd (.offer hd)
  · exact h

/-! ## Console -/

/-- A change of the console's part of the state that enters no notice. -/
theorem modConsole {c : Console} (h : Keeps p s x) (hn : c.notices.length ≤ x.console.notices.length)
    (hc : p.config = true ∨ c.config = x.console.config) : Keeps p s { x with console := c } :=
  h.trans
    { State.Frame.refl p x with
      config := fun hp => hc.resolve_left (by rw [hp]; nofun)
      bounded := fun ⟨hnodup, hlen, hcatchUp, hdeferred, hnotices⟩ =>
        ⟨hnodup, hlen, hcatchUp, hdeferred, Nat.le_trans hn hnotices⟩
      valves := id
      writes := id }

theorem reply {bs : List Byte} {b : Bool} (h : Keeps p s x) : Keeps p s (x.reply bs b) := h.quiet rfl rfl rfl
theorem clockBytes {n : Nat} (h : Keeps p s x) : Keeps p s (x.clockBytes n) := h.quiet rfl rfl rfl

/-- A complete request keeps what its answer keeps. -/
theorem request {c : Byte} {body : List Byte} {b : Bool} {f : State → State × List Byte} (h : Keeps p s x)
    (hf : ∀ y, Keeps p s y → Keeps p s (f y).1) : Keeps p s (x.request c body b f) := by
  have hy : Keeps p s { x with console := { x.console with
      request := c :: leBytes 2 body.length ++ body, selected := true } } := h.quiet rfl rfl rfl
  dsimp only [State.request]
  split
  · exact h
  · split
    · exact .reply hy
    · split
      · exact .reply (hf _ hy)
      · exact .reply hy

theorem requestWith {α : Type} {c : Byte} {body : List Byte} {q : Parse α} {f : α → State → State × List Byte}
    (h : Keeps p s x) (hf : ∀ a y, Keeps p s y → Keeps p s (f a y).1) : Keeps p s (x.requestWith c body q f) := by
  unfold State.requestWith
  split
  · exact .request h (hf _)
  · exact .request h fun _ hy => hy

theorem notOffline {f : State → State × List Byte} (h : Keeps p s x)
    (hf : ∀ y, Keeps p s y → Keeps p s (f y).1) : Keeps p s (Machine.notOffline f x).1 := by
  unfold Machine.notOffline
  split
  · exact h
  · exact hf _ h

theorem unknownRequest {c : Byte} {body : List Byte} (h : Keeps p s x) : Keeps p s (x.unknownRequest c body) :=
  .ite h (.request h fun _ hy => hy)

theorem noRequest {n : Nat} (h : Keeps p s x) : Keeps p s (x.noRequest n) := by
  unfold State.noRequest
  split
  · exact .clockBytes (h.quiet rfl rfl rfl)
  · exact h

theorem attnReleaseEnd (h : Keeps p s x) : Keeps p s x.attnReleaseEnd := h.quiet rfl rfl rfl

theorem configure {c : RawConfig} (h : Keeps p s x) (hc : p.config = true) : Keeps p s (x.configure c).1 := by
  unfold State.configure
  split
  · exact h
  · split
    · exact h
    · exact .modConsole h (Nat.le_refl _) (.inl hc)

end State.Keeps

/-- START keeps the supply steady: the monitor is never idle, and START clears a lockout. -/
theorem Meter.configure_svm (m : Meter) (k : Settings) :
    (m.configure k).cells.svm.output = m.cells.svm.output ∧ (m.configure k).cells.svm.lockout = none := by
  simp [Meter.configure, Cells.configure, FilterCell.configure]

namespace State.Keeps

variable {p : Permits} {s x t : State}

theorem startWith {c : Settings} (h : Keeps p s x) (hc : p.cells = true) : Keeps p s (x.startWith c) := by
  refine .setLink (h.trans ?_)
  exact
    { State.Frame.refl p x with
      cells := fun hp => by rw [hc] at hp; cases hp
      steady := fun hs hn => by
        obtain ⟨hout, hlock⟩ := Meter.configure_svm x.meter c
        exact ⟨hout.trans (hs hn).1, hlock⟩
      valves := id
      writes := id }

theorem startRequest (h : Keeps p s x) (hc : p.cells = true) : Keeps p s x.startRequest.1 := by
  unfold State.startRequest
  split
  · exact h
  · split
    · exact h
    · split
      · exact .startWith h hc
      · exact h

theorem wipe {n : Nat} (h : Keeps p s x) (ht : p.tables = true) (hw : p.wiped = true) :
    Keeps p s (x.wipe n).1 := by
  unfold State.wipe
  split
  · exact h
  · refine .clearRecord (h.trans ?_)
    exact
      { State.Frame.refl p x with
        tables := fun hp => by rw [ht] at hp; cases hp
        wiped := fun hp => by rw [hw] at hp; cases hp
        valves := id
        writes := id }

theorem resetRequest (h : Keeps p s x) : Keeps p s x.resetRequest.1 := h.quiet rfl rfl rfl

theorem statusRequest (h : Keeps p s x) (hc : p.cells = true) : Keeps p s x.statusRequest.1 := by
  refine .ite h (h.trans ?_)
  exact
    { State.Frame.refl p x with
      cells := fun hp => by rw [hc] at hp; cases hp
      valves := id
      writes := id }

theorem noticeRequest (h : Keeps p s x) : Keeps p s x.noticeRequest.1 := by
  unfold State.noticeRequest
  split
  · exact h.quiet rfl rfl rfl
  case h_2 hn => exact .modConsole h (by rw [hn]; exact Nat.le_succ _) (.inr rfl)

theorem readRequest {b : Byte} {n : Nat} (h : Keeps p s x) : Keeps p s (x.readRequest b n).1 := by
  unfold State.readRequest
  split
  · exact h
  · exact h

theorem presetRequest {v : Nat} (h : Keeps p s x) : Keeps p s (x.presetRequest v).1 := by
  unfold State.presetRequest
  split
  · exact h
  · split
    · exact h
    · split
      · exact h
      · split
        · exact h.quiet rfl rfl rfl
        · split
          · exact h
          · exact h.quiet rfl rfl rfl

theorem keyedRequest {n : Nat} (h : Keeps p s x) : Keeps p s (x.keyedRequest n).1 := by
  unfold State.keyedRequest
  split
  · exact h
  · split
    · exact h
    · split
      · exact h
      · split
        · exact h
        · exact .keyedIdentify h

theorem cancelRequest (h : Keeps p s x) : Keeps p s x.cancelRequest.1 := by
  unfold State.cancelRequest
  split
  · exact h
  · split
    · exact .cancelActivity h
    · exact h

theorem estopRequest (h : Keeps p s x) : Keeps p s x.estopRequest.1 := by
  unfold State.estopRequest
  split
  · exact .wantStop h
  · exact h

theorem resumeRequest (h : Keeps p s x) : Keeps p s x.resumeRequest.1 := by
  unfold State.resumeRequest
  split
  · exact h
  · split
    · exact h
    · split
      · exact h
      · split
        · exact .offer h
        · exact h

end State.Keeps

/-- A DELIVERY taken in IDLE. -/
theorem State.Frame.startDelivery {p : Permits} {s x : State} {n d : Nat} (h : State.Frame p s x) :
    State.Frame p s (x.startDelivery n d) := by
  have hq : State.Frame p s { x with activity :=
      { x.activity with namedTank := some n, declared := some d } } := h.quiet rfl rfl
  have ha : State.Frame p s _ := .enterAct (st := .awaitingId) (hq.keep (.nameTank (n := n) (.refl _ _)))
  exact ha.keep (.lookAtResult (.refl _ _))

namespace State.Keeps

variable {p : Permits} {s x t : State}

theorem deliveryAnswer {n d : Nat} (h : Keeps p s x) : Keeps p s (x.deliveryAnswer n d).1 := by
  unfold State.deliveryAnswer
  split
  · exact h
  · split
    · exact h
    · split
      · exact h
      · split
        · exact h
        case isFalse hs =>
          have hidle : x.activity.state = .idle := Classical.not_not.mp fun hne => hs (.inl hne)
          exact h.at_rest (.startDelivery (.refl _ _)) (by rw [hidle]; rfl) (.inl (by rw [hidle]; nofun))

theorem gaugeNowRequest (h : Keeps p s x) : Keeps p s x.gaugeNowRequest.1 := by
  unfold State.gaugeNowRequest
  split
  · exact h
  · split
    · exact h
    · split
      · exact h
      · exact .gaugeStart h

theorem clearValveFault (h : Keeps p s x) : Keeps p s x.clearValveFault.1 := by
  unfold State.clearValveFault
  split
  case isTrue hs =>
    split
    · exact h
    · exact h.at_rest (.toIdle (.refl _ _)) (by rw [hs]; rfl) (.inl (by rw [hs]; nofun))
  case isFalse => exact h

theorem clearFaultRequest (h : Keeps p s x) : Keeps p s x.clearFaultRequest.1 := by
  unfold State.clearFaultRequest
  split
  · exact .clearValveFault (.setLink h)
  · split
    · exact .clearValveFault h
    · exact h

theorem leaveRequest (h : Keeps p s x) : Keeps p s x.leaveRequest.1 := by
  unfold State.leaveRequest
  split
  · exact h
  · split
    · exact h
    · split
      · exact h
      · split
        · exact h
        · exact .offer (.modEngine h (.inr rfl) id id)

theorem tick (h : Keeps p s x) (hc : p.clock = true) : Keeps p s x.tick := by
  unfold State.tick
  split
  · exact .setClock h hc
  · exact h

end State.Keeps

end Sys2Proof.Machine
end

section
/-! The frame of every command, and what follows from it for the invariants of a step: `exec_completes` goes through the commands
once, and the obligations are read off it. -/

namespace Sys2Proof.Machine

/-! ## Reset, and the notices of a step -/

theorem Console.enter_config (c : Console) (n : Notice) : (c.enter n).config = c.config := by
  unfold Console.enter
  split <;> rfl

theorem Console.foldl_enter_config (ns : List Notice) (c : Console) :
    (ns.foldl Console.enter c).config = c.config := by
  induction ns generalizing c with
  | nil => rfl
  | cons n ns ih => exact (ih _).trans (Console.enter_config c n)

namespace State.Keeps

variable {p : Permits} {s x t : State}

theorem commitNotices (h : Keeps p s x) : Keeps p s x.commitNotices :=
  h.trans
    { State.Frame.refl p x with
      config := fun _ => Console.foldl_enter_config _ _
      bounded := fun ⟨hnodup, hlen, hcatchUp, hdeferred, hnotices⟩ =>
        ⟨hnodup, hlen, hcatchUp, hdeferred, State.commitNotices_length hnotices⟩
      valves := id
      writes := id }

/-- A cell that is no sensor's takes a change in. -/
theorem switchPasses {n : Cell} {level : Bool} {k : Nat} (h : Keeps p s x) (hc : p.cells = true)
    (hn : n ≠ .a ∧ n ≠ .b ∧ n ≠ .c) (hd : n = .svm → p.tables = true ∧ p.writing = true ∧ p.supply = true) :
    Keeps p s (x.cellPasses n level k) :=
  .cellPasses h hc
    (fun hsensor => absurd hsensor (by simpa only [not_or] using hn)) hd

end State.Keeps

/-- What a reset may change. -/
def resetPermits : Permits :=
  { tables := true, writing := true, clock := true, config := true, supply := true, counts := true, errors := true,
    cells := true }

theorem State.settleWrite_pending (s : State) : s.settleWrite.pending = s.pending := by
  unfold State.settleWrite
  split <;> rfl

theorem State.settleWrite_wiped (s : State) : s.settleWrite.wiped = s.wiped := by
  unfold State.settleWrite
  split <;> rfl

/-- A state fresh from a reset, or one that drops at once, keeps everything that the relation speaks of. -/
theorem State.Keeps.of_reset {s t : State} (hpending : t.pending = s.pending) (hwiped : t.wiped = s.wiped)
    (hlink : t.link.tx = [] ∧ t.link.inbound = []) (hengine : t.engine = .reset) (hident : t.ident = .reset)
    (houtputs : t.outputs = { pump := false, vmain := false, vtrim := false }) (hconsole : t.console = .reset)
    (hsteady : t.SupplySteady) : State.Keeps resetPermits s t where
  pending := hpending
  tables := nofun
  writing := nofun
  wiped _ := hwiped
  clock := nofun
  config := nofun
  supply := nofun
  counts := nofun
  errors := nofun
  cells := nofun
  outputs _ := by rw [houtputs]; exact ⟨nofun, nofun, nofun⟩
  noWriteBack _ _ := by rw [State.NoWriteBack, hident]; exact ⟨rfl, rfl⟩
  bounded _ := by
    rw [State.Bounded, hlink.1, hlink.2, hengine, hconsole]
    exact ⟨List.nodup_nil, Nat.zero_le _, Nat.zero_le _, Nat.zero_le _, Nat.zero_le _⟩
  steady _ := hsteady
  valves _ := by rw [State.ValvesFollow, houtputs]; exact ⟨nofun, nofun, nofun⟩
  writes _ := by rw [State.WritesInWriteback, hident]; exact ⟨by simp [Ident.reset], .inl rfl⟩

theorem State.Keeps.resetNow (s : State) (inputs : BitVec 8) : State.Keeps resetPermits s (s.resetNow inputs) := by
  dsimp only [State.resetNow]
  split
  · exact .of_reset s.settleWrite_pending s.settleWrite_wiped ⟨rfl, rfl⟩ rfl rfl rfl rfl nofun
  case isFalse hsvm =>
    exact .of_reset s.settleWrite_pending s.settleWrite_wiped ⟨rfl, rfl⟩ rfl rfl rfl rfl
      fun _ => ⟨Bool.eq_false_iff.mpr hsvm, rfl⟩

theorem State.Keeps.selRise {s : State} {n : Nat} {q : List Byte} {inputs : BitVec 8} :
    State.Keeps resetPermits s (s.selRise n q inputs) := by
  have hpartial : State.Keeps resetPermits s ((s.clockBytes n).discardPartial q) := by
    unfold State.discardPartial
    split
    · exact .ite (.clockBytes (.refl _ _)) (.reply (.clockBytes (.refl _ _)))
    · exact .clockBytes (.refl _ _)
  have hend : State.Keeps resetPermits s ((s.clockBytes n).discardPartial q).endTransaction :=
    hpartial.quiet rfl rfl rfl
  exact .ite (hend.trans (.resetNow _ _)) hend

/-! ## Every command -/

/-- A command is complete: it keeps the relation, and no notice waits to be entered. -/
structure State.Completes (p : Permits) (s t : State) : Prop extends State.Keeps p s t where
  raised : s.console.raised = [] → t.console.raised = []

namespace State.Completes

variable {p : Permits} {s x : State}

theorem commitNotices (h : Keeps p s x) : Completes p s x.commitNotices := ⟨.commitNotices h, fun _ => rfl⟩

theorem act {f : State → State} (h : Keeps p s (f s)) : Completes p s (s.act f) := by
  unfold State.act
  split
  · exact ⟨.refl _ _, id⟩
  · exact .commitNotices h

theorem resetNow (s : State) (inputs : BitVec 8) : Completes resetPermits s (s.resetNow inputs) := by
  refine ⟨.resetNow s inputs, fun _ => ?_⟩
  dsimp only [State.resetNow]
  split <;> rfl

end State.Completes

/-- The commands that begin or end a retained write. -/
def movesWrite : Instr → Bool
  | .retainedWriteComplete | .sequenceLimit | .supplyDrop _ => true
  | .unknownKind | .siteSet | .censusPresent | .join | .announce | .founderAnnounce | .leave | .openFill | .progress
  | .closeFill | .grant | .bar | .unbar | .drop | .tankSet | .order | .deliveryOpen | .deliveryClose | .censusFlow
  | .gauge | .release | .ccClear | .time | .stop | .resume | .adjust => true
  | _ => false

/-- What a command may change beyond what every operation may. The end of the monitor's lockout is a supply drop where it
passes a change. -/
def permits (c : Instr) : Permits :=
  match c with
  | .selRise _ _ _ | .powerOnReset _ => resetPermits
  | .filterLockoutEnd n _ =>
    { tables := n = .svm, writing := n = .svm, supply := n = .svm, counts := true, cells := true }
  | _ =>
    { tables := writesTables c
      writing := movesWrite c
      wiped := match c with | .wipe _ => true | _ => false
      clock := setsClock c
      config := setsConfig c
      supply := movesSupply c
      counts := countsVolume c
      errors := countsErrors c
      cells := true
      starts := match c with | .retainedWriteComplete | .sequenceLimit => true | _ => false }

theorem exec_completes (c : Instr) (s : State) : ∃ t, exec c s = .next t ∧ State.Completes (permits c) s t := by
  cases c with
  | frameStart _ _ _ => exact ⟨_, rfl, .act (.frameStart (.refl _ _))⟩
  | numberClash _ => exact ⟨_, rfl, .act (.numberClash (.refl _ _) rfl)⟩
  | frameAbandoned _ => exact ⟨_, rfl, .act (.frameAbandoned (.refl _ _) rfl)⟩
  | truncated _ => exact ⟨_, rfl, .act (.truncatedFrame (.refl _ _) rfl)⟩
  | replicaWindow _ _ => exact ⟨_, rfl, .act (.window (.refl _ _) rfl)⟩
  | foundingWindow _ _ => exact ⟨_, rfl, .act (.window (.refl _ _) rfl)⟩
  | serviceWindow _ _ => exact ⟨_, rfl, .act (.window (.refl _ _) rfl)⟩
  | censusSlotsEnd _ => exact ⟨_, rfl, .act (.slotsEnd (.refl _ _))⟩
  | undelivered _ => exact ⟨_, rfl, .act (.undelivered (.refl _ _))⟩
  | receiveFailure _ _ => exact ⟨_, rfl, .act (.receiveFailure (.refl _ _) rfl)⟩
  | censusTimer => exact ⟨_, rfl, .act (.censusTimeout (.refl _ _))⟩
  | frameDeferred => exact ⟨_, rfl, .act (.deferFrame (.refl _ _))⟩
  | frameHeldForCatchUp => exact ⟨_, rfl, .act (.holdForCatchUp (.refl _ _))⟩
  | retainedWriteComplete => exact ⟨_, rfl, .act (.completeWrite (.refl _ _) rfl rfl rfl rfl)⟩
  | sequenceLimit => exact ⟨_, rfl, .act (.completeAtLimit (.refl _ _) rfl rfl rfl rfl)⟩
  | unknownKind => exact ⟨_, rfl, .act (.applyRow (.refl _ _) rfl (.inr fun _ => rfl))⟩
  | siteSet => exact ⟨_, rfl, .act (.applyRow (.refl _ _) rfl (.inr fun _ => rfl))⟩
  | censusPresent => exact ⟨_, rfl, .act (.applyRow (.refl _ _) rfl (.inr fun _ => rfl))⟩
  | join => exact ⟨_, rfl, .act (.applyRow (.refl _ _) rfl (.inr fun _ => rfl))⟩
  | announce => exact ⟨_, rfl, .act (.applyRow (.refl _ _) rfl (.inr fun _ => rfl))⟩
  | founderAnnounce => exact ⟨_, rfl, .act (.applyRow (.refl _ _) rfl (.inr fun _ => rfl))⟩
  | leave => exact ⟨_, rfl, .act (.applyRow (.refl _ _) rfl (.inr fun _ => rfl))⟩
  | snapHead => exact ⟨_, rfl, .act (.engineTakes (.refl _ _) fun _ _ h => .snapHead h)⟩
  | snap => exact ⟨_, rfl, .act (.engineTakes (.refl _ _) fun _ _ h => .snap h)⟩
  | snapEnd => exact ⟨_, rfl, .act (.takeSnapEnd (.refl _ _) rfl rfl)⟩
  | snapAbort => exact ⟨_, rfl, .act (.engineTakes (.refl _ _) fun _ _ h => .snapAbort h)⟩
  | noSnapHead => exact ⟨_, rfl, .act (.noSnapHead (.refl _ _))⟩
  | joinTimeout => exact ⟨_, rfl, .act (.joinTimeout (.refl _ _))⟩
  | listeningTimeout => exact ⟨_, rfl, .act (.listeningTimeout (.refl _ _))⟩
  | joinHoldOffEnd => exact ⟨_, rfl, .act (.holdOffEnd (.refl _ _))⟩
  | found => exact ⟨_, rfl, .act (.engineTakes (.refl _ _) fun _ _ h => .takeFound h)⟩
  | sealDue => exact ⟨_, rfl, .act (.sealDue (.refl _ _))⟩
  | sealRound => exact ⟨_, rfl, .act (.engineTakes (.refl _ _) fun _ _ h => .takeSeal h)⟩
  | roundTimeout => exact ⟨_, rfl, .act (.roundTimeout (.refl _ _))⟩
  | tagCommandStart _ => exact ⟨_, rfl, .act (.startCommand (.refl _ _))⟩
  | tagIdent _ => exact ⟨_, rfl, .act (.tagIdent (.refl _ _))⟩
  | tagUnlock _ => exact ⟨_, rfl, .act (.tagUnlock (.refl _ _))⟩
  | tagRead _ => exact ⟨_, rfl, .act (.tagRead (.refl _ _))⟩
  | tagStage _ => exact ⟨_, rfl, .act (.tagStage (.refl _ _))⟩
  | tagCommit _ => exact ⟨_, rfl, .act (.tagCommit (.refl _ _))⟩
  | tagRelock _ => exact ⟨_, rfl, .act (.tagRelock (.refl _ _))⟩
  | noReply => exact ⟨_, rfl, .act (.noReply (.refl _ _))⟩
  | settlingEnd => exact ⟨_, rfl, .act (.settlingEnd (.refl _ _))⟩
  | keepAlive => exact ⟨_, rfl, .act (.keepAlive (.refl _ _))⟩
  | unlockLost => exact ⟨_, rfl, .act (.unlockLost (.refl _ _))⟩
  | cplRise _ => exact ⟨_, rfl, .act (.switchPasses (.refl _ _) rfl (by decide) nofun)⟩
  | cplFall _ => exact ⟨_, rfl, .act (.switchPasses (.refl _ _) rfl (by decide) nofun)⟩
  | wakingEnd => exact ⟨_, rfl, .act (.wakingEnd (.refl _ _))⟩
  | identTimeout => exact ⟨_, rfl, .act (.identTimeout (.refl _ _))⟩
  | keyedId _ =>
    exact ⟨_, rfl, .commitNotices (.requestWith (.refl _ _) fun _ _ h => .notOffline h fun _ h => .keyedRequest h)⟩
  | filterLockoutEnd _ _ =>
    exact ⟨_, rfl, .act (.lockoutEnd (.refl _ _) rfl (fun _ => rfl) fun h => by subst h; exact ⟨rfl, rfl, rfl⟩)⟩
  | meterStep _ _ _ => exact ⟨_, rfl, .act (.pattern (.refl _ _) rfl rfl)⟩
  | reverseFlow _ _ _ => exact ⟨_, rfl, .act (.reverseFlow (.refl _ _) rfl rfl)⟩
  | meterFault _ _ _ => exact ⟨_, rfl, .act (.meterFault (.refl _ _) rfl rfl)⟩
  | unauthFlowTimeout => exact ⟨_, rfl, .act (.unauthTimeout (.refl _ _))⟩
  | flowRateTimeout => exact ⟨_, rfl, .act (.flowRateTimeout (.refl _ _))⟩
  | recentFlowEnd => exact ⟨_, rfl, .act (.recentFlowEnd (.refl _ _))⟩
  | dutyMeasurement _ _ => exact ⟨_, rfl, .act (.dutyMeasurement (.refl _ _))⟩
  | dutyCycleTimeout _ => exact ⟨_, rfl, .act (.dutyCycleTimeout (.refl _ _))⟩
  | nozRise _ => exact ⟨_, rfl, .act (.switchPasses (.refl _ _) rfl (by decide) nofun)⟩
  | nozFall _ => exact ⟨_, rfl, .act (.switchPasses (.refl _ _) rfl (by decide) nofun)⟩
  | dhsFall _ => exact ⟨_, rfl, .act (.switchPasses (.refl _ _) rfl (by decide) nofun)⟩
  | estopRise _ => exact ⟨_, rfl, .act (.switchPasses (.refl _ _) rfl (by decide) nofun)⟩
  | estopFall _ => exact ⟨_, rfl, .act (.switchPasses (.refl _ _) rfl (by decide) nofun)⟩
  | noFlowTimeout => exact ⟨_, rfl, .act (.noFlowTimeout (.refl _ _))⟩
  | fullTimeout => exact ⟨_, rfl, .act (.fullTimeout (.refl _ _))⟩
  | settleTimeout => exact ⟨_, rfl, .act (.settleTimeout (.refl _ _))⟩
  | stoppingLimit => exact ⟨_, rfl, .act (.stoppingLimit (.refl _ _))⟩
  | openFill => exact ⟨_, rfl, .act (.applyRow (.refl _ _) rfl (.inr fun _ => rfl))⟩
  | progress => exact ⟨_, rfl, .act (.applyRow (.refl _ _) rfl (.inr fun _ => rfl))⟩
  | closeFill => exact ⟨_, rfl, .act (.applyRow (.refl _ _) rfl (.inr fun _ => rfl))⟩
  | grant => exact ⟨_, rfl, .act (.applyRow (.refl _ _) rfl (.inr fun _ => rfl))⟩
  | bar => exact ⟨_, rfl, .act (.applyRow (.refl _ _) rfl (.inr fun _ => rfl))⟩
  | unbar => exact ⟨_, rfl, .act (.applyRow (.refl _ _) rfl (.inr fun _ => rfl))⟩
  | drop => exact ⟨_, rfl, .act (.applyRow (.refl _ _) rfl (.inr fun _ => rfl))⟩
  | tankSet => exact ⟨_, rfl, .act (.applyRow (.refl _ _) rfl (.inr fun _ => rfl))⟩
  | order => exact ⟨_, rfl, .act (.applyRow (.refl _ _) rfl (.inr fun _ => rfl))⟩
  | deliveryOpen => exact ⟨_, rfl, .act (.applyRow (.refl _ _) rfl (.inr fun _ => rfl))⟩
  | deliveryClose => exact ⟨_, rfl, .act (.applyRow (.refl _ _) rfl (.inr fun _ => rfl))⟩
  | censusFlow => exact ⟨_, rfl, .act (.applyRow (.refl _ _) rfl (.inr fun _ => rfl))⟩
  | gauge => exact ⟨_, rfl, .act (.applyRow (.refl _ _) rfl (.inr fun _ => rfl))⟩
  | release => exact ⟨_, rfl, .act (.applyRow (.refl _ _) rfl (.inr fun _ => rfl))⟩
  | ccClear => exact ⟨_, rfl, .act (.applyRow (.refl _ _) rfl (.inr fun _ => rfl))⟩
  | time => exact ⟨_, rfl, .act (.applyRow (.refl _ _) rfl (.inl rfl))⟩
  | stop => exact ⟨_, rfl, .act (.applyRow (.refl _ _) rfl (.inr fun _ => rfl))⟩
  | resume => exact ⟨_, rfl, .act (.applyRow (.refl _ _) rfl (.inr fun _ => rfl))⟩
  | adjust => exact ⟨_, rfl, .act (.applyRow (.refl _ _) rfl (.inr fun _ => rfl))⟩
  | gaugePeriod => exact ⟨_, rfl, .act (.gaugePeriod (.refl _ _))⟩
  | serviceRead => exact ⟨_, rfl, .act (.takeKind (.refl _ _) fun _ _ h => .serviceRead h)⟩
  | supplyDrop _ => exact ⟨_, rfl, .act (.switchPasses (.refl _ _) rfl (by decide) fun _ => ⟨rfl, rfl, rfl⟩)⟩
  | powerOnReset _ => exact ⟨_, rfl, .resetNow _ _⟩
  | clockTick => exact ⟨_, rfl, .act (.tick (.refl _ _) rfl)⟩
  | configure _ => exact ⟨_, rfl, .commitNotices (.requestWith (.refl _ _) fun _ _ h => .configure h rfl)⟩
  | start _ => exact ⟨_, rfl, .commitNotices (.requestWith (.refl _ _) fun _ _ h => .startRequest h rfl)⟩
  | reset _ => exact ⟨_, rfl, .commitNotices (.requestWith (.refl _ _) fun _ _ h => .resetRequest h)⟩
  | wipe _ => exact ⟨_, rfl, .commitNotices (.requestWith (.refl _ _) fun _ _ h => .wipe h rfl rfl)⟩
  | status _ => exact ⟨_, rfl, .commitNotices (.requestWith (.refl _ _) fun _ _ h => .statusRequest h rfl)⟩
  | notice _ => exact ⟨_, rfl, .commitNotices (.requestWith (.refl _ _) fun _ _ h => .noticeRequest h)⟩
  | consoleRead _ => exact ⟨_, rfl, .commitNotices (.requestWith (.refl _ _) fun _ _ h => .readRequest h)⟩
  | preset _ =>
    exact ⟨_, rfl, .commitNotices (.requestWith (.refl _ _) fun _ _ h => .notOffline h fun _ h => .presetRequest h)⟩
  | cancel _ =>
    exact ⟨_, rfl, .commitNotices (.requestWith (.refl _ _) fun _ _ h => .notOffline h fun _ h => .cancelRequest h)⟩
  | estop _ => exact ⟨_, rfl, .commitNotices (.requestWith (.refl _ _) fun _ _ h => .estopRequest h)⟩
  | consoleResume _ => exact ⟨_, rfl, .commitNotices (.requestWith (.refl _ _) fun _ _ h => .resumeRequest h)⟩
  | delivery _ =>
    exact ⟨_, rfl, .commitNotices (.requestWith (.refl _ _) fun _ _ h => .notOffline h fun _ h => .deliveryAnswer h)⟩
  | gaugeNow _ => exact ⟨_, rfl, .commitNotices (.requestWith (.refl _ _) fun _ _ h => .gaugeNowRequest h)⟩
  | clearFault _ => exact ⟨_, rfl, .commitNotices (.requestWith (.refl _ _) fun _ _ h => .clearFaultRequest h)⟩
  | consoleLeave _ => exact ⟨_, rfl, .commitNotices (.requestWith (.refl _ _) fun _ _ h => .leaveRequest h)⟩
  | noRequest _ => exact ⟨_, rfl, .commitNotices (.noRequest (.refl _ _))⟩
  | selRise _ _ _ => exact ⟨_, rfl, .commitNotices (.selRise)⟩
  | attnReleaseEnd => exact ⟨_, rfl, .act (.attnReleaseEnd (.refl _ _))⟩
  | dhsRise _ => exact ⟨_, rfl, .act (.switchPasses (.refl _ _) rfl (by decide) nofun)⟩
  | filterInputChange _ _ => exact ⟨_, rfl, .act (.inputChange (.refl _ _) rfl)⟩
  | dutyCycleFallingEdge _ _ => exact ⟨_, rfl, .act (.dutyFall (.refl _ _))⟩
  | unknownRequestCode _ _ => exact ⟨_, rfl, .commitNotices (.unknownRequest (.refl _ _))⟩

theorem State.Completes.of_exec {c : Instr} {s t : State} (h : exec c s = .next t) :
    State.Completes (permits c) s t := by
  obtain ⟨t', ht, hk⟩ := exec_completes c s
  rw [ht] at h
  cases h
  exact hk

/-- A step keeps what every command keeps. -/
theorem State.Completes.of_step {s t : State} (h : step s = .next t) :
    ∃ (p : Permits) (rest : List Instr), State.Completes p { s with pending := rest } t := by
  unfold step at h
  split at h
  · cases h
    exact ⟨{}, s.pending, .refl _ _, id⟩
  case h_2 c rest _ => exact ⟨permits c, rest, .of_exec h⟩

/-! ## The invariants of a step -/

/-- Settles O6: every command keeps the bounds, and enters the notices that it raised. -/
theorem stepKeepsQueuesBounded : Obligations.StepKeepsQueuesBounded := by
  intro s t hs h
  obtain ⟨hnodup, hinbound, hcatchUp, hdeferred, hnotices, hraised⟩ := hs
  obtain ⟨_, _, hk⟩ := State.Completes.of_step h
  obtain ⟨hnodup', hinbound', hcatchUp', hdeferred', hnotices'⟩ :=
    hk.bounded ⟨hnodup, hinbound, hcatchUp, hdeferred, hnotices⟩
  exact ⟨hnodup', hinbound', hcatchUp', hdeferred', hnotices', hk.raised hraised⟩

/-- Settles O7: every operation keeps the valves, the supply and the write-back to the states that they belong to. -/
theorem stepKeepsValvesFollowing : Obligations.StepKeepsValvesFollowing := by
  refine ⟨fun s t hs h => ?_, fun s t hs h => ?_, fun s t hs h => ?_⟩
  all_goals obtain ⟨_, _, hk⟩ := State.Completes.of_step h
  · exact hk.valves hs
  · exact hk.steady hs
  · exact hk.writes hs

/-- While the supply is steady, no lockout of the monitor ends. -/
theorem lockoutEnd_of_steady {s : State} (n : Nat) (hs : s.SupplySteady) :
    State.Keeps {} s (s.act (State.lockoutEnd .svm n)) := by
  unfold State.act
  split
  · exact .refl _ _
  case isFalse hstate =>
    have hnormal : s.supply.state = .normal := by
      cases h : s.supply.state
      · rfl
      · exact absurd h hstate
    have hlock : (s.meter.cells.get .svm).lockout.isNone = true := by
      rw [show s.meter.cells.get .svm = s.meter.cells.svm from rfl, (hs hnormal).2]
      rfl
    rw [show s.lockoutEnd .svm n = s from if_pos hlock]
    exact .commitNotices (.refl _ _)

/-- The permits are those that the safety layer grants. -/
structure Permits.For (p : Permits) (c : Instr) : Prop where
  tables : writesTables c = false → p.tables = false
  wiped : (∀ body, c ≠ .wipe body) → p.wiped = false
  clock : setsClock c = false → p.clock = false
  config : setsConfig c = false → p.config = false
  supply : movesSupply c = false → p.supply = false
  counts : countsVolume c = false → p.counts = false
  errors : countsErrors c = false → p.errors = false
  starts : c ≠ .retainedWriteComplete → c ≠ .sequenceLimit → p.starts = false

theorem Permits.For.none (c : Instr) : Permits.For {} c :=
  ⟨fun _ => rfl, fun _ => rfl, fun _ => rfl, fun _ => rfl, fun _ => rfl, fun _ => rfl, fun _ => rfl,
    fun _ _ => rfl⟩

theorem Permits.For.reset {c : Instr} (ht : writesTables c = true) (hclock : setsClock c = true)
    (hconfig : setsConfig c = true) (hsupply : movesSupply c = true) (hcounts : countsVolume c = true)
    (herrors : countsErrors c = true) : Permits.For resetPermits c := by
  constructor <;> simp_all [resetPermits]

theorem permits_for {c : Instr} (hc : ∀ n, c ≠ .filterLockoutEnd .svm n) : Permits.For (permits c) c := by
  cases c
  case selRise => exact .reset rfl rfl rfl rfl rfl rfl
  case powerOnReset => exact .reset rfl rfl rfl rfl rfl rfl
  case filterLockoutEnd cell n =>
    have hcell : cell ≠ .svm := fun h => hc n (by rw [h])
    exact ⟨fun _ => decide_eq_false hcell, fun _ => rfl, fun _ => rfl, fun _ => rfl, fun _ => decide_eq_false hcell,
      nofun, fun _ => rfl, fun _ _ => rfl⟩
  case wipe body => exact ⟨id, fun h => absurd rfl (h body), id, id, id, id, id, fun _ _ => rfl⟩
  case retainedWriteComplete => exact ⟨id, fun _ => rfl, id, id, id, id, id, fun h _ => absurd rfl h⟩
  case sequenceLimit => exact ⟨id, fun _ => rfl, id, id, id, id, id, fun _ h => absurd rfl h⟩
  all_goals exact ⟨id, fun _ => rfl, id, id, id, id, id, fun _ _ => rfl⟩

/-- Every command keeps the relation with the permits of the safety layer, while the supply is steady. -/
theorem keeps_of_steady {c : Instr} {s t : State} (hs : s.SupplySteady) (h : exec c s = .next t) :
    ∃ p : Permits, p.For c ∧ State.Keeps p s t := by
  by_cases hc : ∃ n, c = .filterLockoutEnd .svm n
  · obtain ⟨n, rfl⟩ := hc
    cases h
    exact ⟨{}, .none _, lockoutEnd_of_steady n hs⟩
  · exact ⟨permits c, permits_for fun n hn => hc ⟨n, hn⟩, (State.Completes.of_exec h).toKeeps⟩

/-- Settles O9. -/
theorem commandsKeepOtherState : Obligations.CommandsKeepOtherState := by
  intro c s t hs h
  obtain ⟨p, hp, hk⟩ := keeps_of_steady hs h
  refine ⟨hk.pending, hk.tables ∘ hp.tables, hk.wiped ∘ hp.wiped, hk.clock ∘ hp.clock, hk.config ∘ hp.config,
    hk.supply ∘ hp.supply, fun hc => ?_, hk.errors ∘ hp.errors, fun hd hl => hk.outputs (hp.starts hd hl)⟩
  have hcounts := hk.counts (hp.counts hc)
  simpa only [Meter.counts, Prod.mk.injEq] using hcounts

end Sys2Proof.Machine
end

section
/-! The shape of the tables: what each change of an entry keeps of `Replica.Legal`. That machines and fills match (R72) is
stated as an equivalence of two relations, `Replica.Fills` and `Replica.Holds`, so that an opening and an ending change both
in the same way. -/

namespace Sys2Proof.Machine

/-! ## Lists of entries with distinct numbers -/

section Lists

variable {α : Type} {key : α → Nat} {l : List α} {f : α → α} {x₀ : α}

/-- An entry of a table in which the entry of one number was changed. -/
theorem mem_update_iff (hl : (l.map key).Nodup) (hx : x₀ ∈ l) {y : α} :
    (y ∈ l.map fun x => if key x = key x₀ then f x else x) ↔ y = f x₀ ∨ (y ∈ l ∧ key y ≠ key x₀) := by
  rw [List.mem_map]
  constructor
  · rintro ⟨x, hmem, rfl⟩
    split
    case isTrue h => exact .inl (by rw [eq_of_key_eq hl hmem hx h])
    case isFalse h => exact .inr ⟨hmem, h⟩
  · rintro (rfl | ⟨hy, hne⟩)
    · exact ⟨x₀, hx, if_pos rfl⟩
    · exact ⟨y, hy, if_neg hne⟩

/-- A change of one entry changes a sum over the table by that entry's part. -/
theorem sum_update (hl : (l.map key).Nodup) (hx : x₀ ∈ l) (w : α → Nat) :
    ((l.map fun x => if key x = key x₀ then f x else x).map w).sum + w x₀ = (l.map w).sum + w (f x₀) := by
  induction l with
  | nil => cases hx
  | cons x l ih =>
    rw [List.map_cons, List.nodup_cons] at hl
    obtain ⟨hnotin, hl⟩ := hl
    simp only [List.map_cons, List.sum_cons]
    rcases List.mem_cons.mp hx with rfl | hx
    · have hrest : (l.map fun x => if key x = key x₀ then f x else x) = l :=
        map_eq_self fun y hy => if_neg fun h => hnotin (List.mem_map.mpr ⟨y, hy, h⟩)
      rw [hrest, if_pos rfl]
      omega
    · have hne : key x ≠ key x₀ := fun h => hnotin (List.mem_map.mpr ⟨x₀, hx, h.symm⟩)
      have := ih hl hx
      rw [if_neg hne]
      omega

theorem map_key_update (n : Nat) (hf : ∀ x, key (f x) = key x) :
    (l.map fun x => if key x = n then f x else x).map key = l.map key := by
  rw [List.map_map]
  refine List.map_congr_left fun x _ => ?_
  rw [Function.comp_apply]
  split
  · exact hf x
  · rfl

theorem map_key_map {g : α → α} (hg : ∀ x ∈ l, key (g x) = key x) : (l.map g).map key = l.map key := by
  rw [List.map_map]
  exact List.map_congr_left hg

end Lists

theorem length_filter_eq_sum {α : Type} (p : α → Bool) (l : List α) :
    (l.filter p).length = (l.map fun x => if p x then 1 else 0).sum := by
  induction l with
  | nil => rfl
  | cons x l ih => cases h : p x <;> simp [h, ih, Nat.add_comm]

/-! ## Fills and holds (R72) -/

/-- Station `n` has an open fill for the machine `party` with the open sequence `q`. -/
def Replica.Fills (r : Replica) (n party q : Nat) : Prop :=
  ∃ e ∈ r.stations, e.number = n ∧ ∃ a ∈ e.fill?, a.party = party ∧ a.openSeq = q

/-- The machine `party` is held by station `n` for the open sequence `q`. -/
def Replica.Holds (r : Replica) (n party q : Nat) : Prop :=
  ∃ m ∈ r.machines, m.number = party ∧ m.hold = some { station := n, openSeq := q }

theorem Replica.holdsMatch_iff (r : Replica) : r.HoldsMatch ↔ ∀ n party q, r.Fills n party q ↔ r.Holds n party q := by
  constructor
  · rintro ⟨hfills, hholds⟩ n party q
    constructor
    · rintro ⟨e, he, rfl, a, ha, rfl, rfl⟩
      exact hfills e he a ha
    · rintro ⟨m, hm, rfl, hhold⟩
      obtain ⟨e, he, hn, a, ha, hparty, hq⟩ := hholds m hm _ hhold
      exact ⟨e, he, hn, a, ha, hparty, hq⟩
  · intro h
    refine ⟨fun e he a ha => (h e.number a.party a.openSeq).mp ⟨e, he, rfl, a, ha, rfl, rfl⟩, fun m hm x hx => ?_⟩
    obtain ⟨e, he, hn, a, ha, hparty, hq⟩ := (h x.station m.number x.openSeq).mpr ⟨m, hm, rfl, hx⟩
    exact ⟨e, he, hn, a, ha, hparty, hq⟩

/-! ## What the tables say of the open activities -/

/-- The part of an open activity that machines, tanks and the log answer to. -/
def OpenActivity.claim (a : OpenActivity) : ActivityKind × Nat × Nat × Nat × Nat :=
  (a.kind, a.openSeq, a.party, a.tank, a.volume)

/-- Two entries of one station with the same claim. -/
def StationEntry.SameClaim (e' e : StationEntry) : Prop :=
  e'.number = e.number ∧ e'.activity.map OpenActivity.claim = e.activity.map OpenActivity.claim

namespace StationEntry.SameClaim

variable {e e' : StationEntry}

theorem refl (e : StationEntry) : SameClaim e e := ⟨rfl, rfl⟩

theorem isSome (h : SameClaim e' e) : e'.activity.isSome = e.activity.isSome := by
  rw [← Option.isSome_map, h.2, Option.isSome_map]

/-- The same claim is that of no activity, or of two activities that agree in it. -/
theorem cases (h : SameClaim e' e) : (e'.activity = none ∧ e.activity = none) ∨
    ∃ a' a, e'.activity = some a' ∧ e.activity = some a ∧ a'.kind = a.kind ∧ a'.openSeq = a.openSeq
      ∧ a'.party = a.party ∧ a'.tank = a.tank ∧ a'.volume = a.volume := by
  obtain ⟨_, hclaim⟩ := h
  cases ha' : e'.activity with
  | none =>
    rw [ha'] at hclaim
    exact .inl ⟨rfl, Option.map_eq_none_iff.mp hclaim.symm⟩
  | some a' =>
    rw [ha', Option.map_some] at hclaim
    obtain ⟨a, ha, hsame⟩ := Option.map_eq_some_iff.mp hclaim.symm
    simp only [OpenActivity.claim, Prod.mk.injEq] at hsame
    obtain ⟨hkind, hseq, hparty, htank, hvolume⟩ := hsame
    exact .inr ⟨a', a, rfl, ha, hkind.symm, hseq.symm, hparty.symm, htank.symm, hvolume.symm⟩

theorem fills (h : SameClaim e' e) (party q : Nat) :
    (∃ a ∈ e'.fill?, a.party = party ∧ a.openSeq = q) ↔ ∃ a ∈ e.fill?, a.party = party ∧ a.openSeq = q := by
  rcases h.cases with ⟨h', h⟩ | ⟨a', a, h', h, hkind, hseq, hparty, _, _⟩
  · simp [StationEntry.fill?, h', h]
  · by_cases hfill : a.kind = .fill <;> simp [StationEntry.fill?, h', h, hkind, hfill, hparty, hseq]

theorem reserves (h : SameClaim e' e) (k : Nat) : e'.reserves k = e.reserves k := by
  rcases h.cases with ⟨h', h⟩ | ⟨a', a, h', h, hkind, _, _, htank, hvolume⟩
  · simp [StationEntry.reserves, StationEntry.fill?, h', h]
  · by_cases hfill : a.kind = .fill <;>
      simp [StationEntry.reserves, StationEntry.fill?, h', h, hkind, hfill, htank, hvolume]

theorem tanks (h : SameClaim e' e) (k : Nat) : (∃ a ∈ e'.activity, a.tank = k) ↔ ∃ a ∈ e.activity, a.tank = k := by
  rcases h.cases with ⟨h', h⟩ | ⟨a', a, h', h, _, _, _, htank, _⟩
  · simp [h', h]
  · simp [h', h, htank]

end StationEntry.SameClaim

/-- The volume that the open fills reserve in a tank (R127). -/
def Replica.reservedIn (r : Replica) (k : Nat) : Nat := (r.stations.map fun e => e.reserves k).sum

theorem Replica.openCount_eq_sum (r : Replica) :
    r.openCount = (r.stations.map fun e => if e.activity.isSome then 1 else 0).sum := by
  rw [Replica.openCount, length_filter_eq_sum]

/-! ## Changes that leave the claims -/

namespace Replica.Legal

variable {r : Replica}

/-- The station table changes, and no entry's number or claim does. -/
theorem mapStations {g : StationEntry → StationEntry} (h : r.Legal)
    (hg : ∀ e ∈ r.stations, (g e).SameClaim e) :
    Replica.Legal { r with stations := r.stations.map g } := by
  obtain ⟨⟨hstations, hrest⟩, hholds, ⟨hreserved, htanks⟩, ⟨hroom, hsorted, hbelow, hfirst, hlast⟩, hdrops,
    hvolumes⟩ := h
  have hcount : Replica.openCount { r with stations := r.stations.map g } = r.openCount := by
    rw [Replica.openCount_eq_sum, Replica.openCount_eq_sum, List.map_map]
    exact congrArg List.sum (List.map_congr_left fun e he => by simp only [Function.comp_apply, (hg e he).isSome])
  refine ⟨⟨?_, hrest⟩, ?_, ⟨fun t ht => ?_, fun e he a ha => ?_⟩, ⟨?_, hsorted, hbelow, hfirst, ?_⟩, hdrops, hvolumes⟩
  · exact (map_key_map fun e he => (hg e he).1).trans hstations
  · rw [Replica.holdsMatch_iff] at hholds ⊢
    intro n party q
    refine Iff.trans ?_ (hholds n party q)
    simp only [Replica.Fills, List.mem_map, exists_image_and]
    exact exists_congr fun e => and_congr_right fun he => by rw [(hg e he).1, (hg e he).fills]
  · rw [hreserved t ht, List.map_map]
    exact congrArg List.sum (List.map_congr_left fun e he => ((hg e he).reserves t.number).symm)
  · obtain ⟨x, hx, rfl⟩ := List.mem_map.mp he
    obtain ⟨b, hb, hbtank⟩ := ((hg x hx).tanks a.tank).mp ⟨a, ha, rfl⟩
    obtain ⟨t, ht, htank⟩ := htanks x hx b hb
    exact ⟨t, ht, htank.trans hbtank⟩
  · rw [hcount]; exact hroom
  · rw [hcount]; exact hlast

/-- One entry of the station table changes, and neither its number nor its claim does. -/
theorem modStation {n : Nat} {f : StationEntry → StationEntry} (h : r.Legal)
    (hf : ∀ e ∈ r.stations, e.number = n → (f e).SameClaim e) : (r.modStation n f).Legal :=
  h.mapStations fun e he => by
    split
    case isTrue hn => exact hf e he hn
    case isFalse => exact .refl e

/-- The machine table changes: entries may go that have no hold, and no hold comes or goes. -/
theorem ofMachines {l : List MachineEntry} (h : r.Legal) (hsub : (l.map MachineEntry.number).Sublist
      (r.machines.map MachineEntry.number))
    (hold : ∀ n party q, Replica.Holds { r with machines := l } n party q ↔ r.Holds n party q)
    (hdrop : ∀ m ∈ l, m.dropPending = true → m.hold.isSome = true)
    (hrange : ∀ m ∈ l, inVolumeRange m.allowance = true) : Replica.Legal { r with machines := l } := by
  obtain ⟨⟨hstations, hcentres, hsorted, hlength, hnumbers, htanks⟩, hholds, hreserved, hlog, _, _, hbooks⟩ := h
  refine ⟨⟨hstations, hcentres, hsorted.sublist hsub, ?_, fun m hm => ?_, htanks⟩, ?_, hreserved, hlog, hdrop, hrange,
    hbooks⟩
  · have := hsub.length_le
    rw [List.length_map, List.length_map] at this
    exact Nat.le_trans this hlength
  · obtain ⟨x, hx, hnumber⟩ := List.mem_map.mp (hsub.subset (List.mem_map_of_mem hm))
    rw [← hnumber]
    exact hnumbers x hx
  · rw [Replica.holdsMatch_iff] at hholds ⊢
    exact fun n party q => (hholds n party q).trans (hold n party q).symm

theorem mapMachines {g : MachineEntry → MachineEntry} (h : r.Legal)
    (hnumber : ∀ m ∈ r.machines, (g m).number = m.number) (hhold : ∀ m ∈ r.machines, (g m).hold = m.hold)
    (hdrop : ∀ m ∈ r.machines, (g m).dropPending = true → m.hold.isSome = true)
    (hrange : ∀ m ∈ r.machines, inVolumeRange (g m).allowance = true) :
    Replica.Legal { r with machines := r.machines.map g } := by
  refine h.ofMachines ((map_key_map hnumber).symm ▸ List.Sublist.refl _) (fun n party q => ?_) (fun m hm => ?_)
    (fun m hm => ?_)
  · simp only [Replica.Holds, List.mem_map, exists_image_and]
    exact exists_congr fun m => and_congr_right fun hm => by rw [hnumber m hm, hhold m hm]
  · obtain ⟨x, hx, rfl⟩ := List.mem_map.mp hm
    rw [hhold x hx]
    exact hdrop x hx
  · obtain ⟨x, hx, rfl⟩ := List.mem_map.mp hm
    exact hrange x hx

theorem modMachine {n : Nat} {f : MachineEntry → MachineEntry} (h : r.Legal)
    (hnumber : ∀ m ∈ r.machines, m.number = n → (f m).number = m.number)
    (hhold : ∀ m ∈ r.machines, m.number = n → (f m).hold = m.hold)
    (hdrop : ∀ m ∈ r.machines, m.number = n → (f m).dropPending = true → m.hold.isSome = true)
    (hrange : ∀ m ∈ r.machines, m.number = n → inVolumeRange (f m).allowance = true) : (r.modMachine n f).Legal := by
  obtain ⟨_, _, _, _, hdrops, hallowances, _⟩ := id h
  refine h.mapMachines ?_ ?_ ?_ ?_ <;> intro m hm <;> split
  case refine_1.isTrue hn => exact hnumber m hm hn
  case refine_2.isTrue hn => exact hhold m hm hn
  case refine_3.isTrue hn => exact hdrop m hm hn
  case refine_4.isTrue hn => exact hrange m hm hn
  case refine_1.isFalse => rfl
  case refine_2.isFalse => rfl
  case refine_3.isFalse => exact hdrops m hm
  case refine_4.isFalse => exact hallowances m hm

/-- A machine without a hold is removed. -/
theorem dropMachine {n : Nat} (h : r.Legal) (hn : ∀ m ∈ r.machines, m.number = n → m.hold = none) :
    (r.dropMachine n).Legal := by
  obtain ⟨_, _, _, _, hdrops, hallowances, _⟩ := id h
  refine h.ofMachines (List.Sublist.map _ List.filter_sublist) (fun k party q => ?_)
    (fun m hm => hdrops m (List.mem_filter.mp hm).1) (fun m hm => hallowances m (List.mem_filter.mp hm).1)
  simp only [Replica.Holds, List.mem_filter, decide_eq_true_eq]
  refine exists_congr fun m => ⟨fun ⟨⟨hm, _⟩, hrest⟩ => ⟨hm, hrest⟩, fun ⟨hm, hparty, hhold⟩ => ?_⟩
  refine ⟨⟨hm, fun heq => ?_⟩, hparty, hhold⟩
  rw [hn m hm heq] at hhold
  cases hhold

/-- The tank table changes, and no entry's number or reservation does. -/
theorem mapTanks {g : TankEntry → TankEntry} (h : r.Legal)
    (hnumber : ∀ t ∈ r.tanks, (g t).number = t.number) (hreserved : ∀ t ∈ r.tanks, (g t).reserved = t.reserved)
    (hrange : ∀ t ∈ r.tanks, inVolumeRange (g t).book = true) :
    Replica.Legal { r with tanks := r.tanks.map g } := by
  obtain ⟨⟨hstations, hcentres, hsorted, hlength, hnumbers, htanks, hlimits⟩, hholds, ⟨hsums, hpresent⟩, hlog, hdrops,
    hallowances, hbooks⟩ := h
  refine ⟨⟨hstations, hcentres, hsorted, hlength, hnumbers, by rw [map_key_map hnumber]; exact htanks, fun t ht => ?_⟩,
    hholds, ⟨fun t ht => ?_, fun e he a ha => ?_⟩, hlog, hdrops, hallowances, fun t ht => ?_⟩
  · obtain ⟨x, hx, rfl⟩ := List.mem_map.mp ht
    rw [hnumber x hx]
    exact hlimits x hx
  · obtain ⟨x, hx, rfl⟩ := List.mem_map.mp ht
    rw [hreserved x hx, hnumber x hx]
    exact hsums x hx
  · obtain ⟨t, ht, htank⟩ := hpresent e he a ha
    exact ⟨g t, List.mem_map_of_mem ht, (hnumber t ht).trans htank⟩
  · obtain ⟨x, hx, rfl⟩ := List.mem_map.mp ht
    exact hrange x hx

theorem modTank {n : Nat} {f : TankEntry → TankEntry} (h : r.Legal)
    (hnumber : ∀ t, (f t).number = t.number) (hreserved : ∀ t, (f t).reserved = t.reserved)
    (hrange : ∀ t ∈ r.tanks, inVolumeRange (f t).book = true) : (r.modTank n f).Legal := by
  obtain ⟨_, _, _, _, _, _, hbooks⟩ := id h
  refine h.mapTanks ?_ ?_ ?_ <;> intro t ht <;> split
  case refine_1.isTrue => exact hnumber t
  case refine_2.isTrue => exact hreserved t
  case refine_3.isTrue => exact hrange t ht
  case refine_1.isFalse => rfl
  case refine_2.isFalse => rfl
  case refine_3.isFalse => exact hbooks t ht

/-- The cost centres change, and no number does. -/
theorem mapCostCentres {g : CostCentre → CostCentre} (h : r.Legal)
    (hg : ∀ e ∈ r.costCentres, (g e).number = e.number) :
    Replica.Legal { r with costCentres := r.costCentres.map g } := by
  obtain ⟨⟨hstations, hcentres, horder⟩, hrest⟩ := h
  exact ⟨⟨hstations, (map_key_map hg).trans hcentres, horder⟩, hrest⟩

theorem charge {n : Nat} {g c k : Int} (h : r.Legal) : (r.charge n g c k).Legal :=
  h.mapCostCentres fun e _ => by split <;> rfl

/-- The site record changes, and the next record number does not. -/
theorem setSite {x : SiteRecord} (h : r.Legal) (hx : x.nextRecord = r.site.nextRecord) :
    Replica.Legal { r with site := x } := by
  obtain ⟨horder, hholds, hreserved, ⟨hroom, hsorted, hbelow, hfirst, hlast⟩, hrest⟩ := h
  exact ⟨horder, hholds, hreserved, ⟨hroom, hsorted, by rw [hx]; exact hbelow, by rw [hx]; exact hfirst,
    by rw [hx]; exact hlast⟩, hrest⟩

end Replica.Legal

end Sys2Proof.Machine
end

section
/-! Openings and endings of an activity keep the shape of the tables. -/

namespace Sys2Proof.Machine

/-! ## Entries by their numbers -/

namespace Replica

variable {r : Replica}

theorem machine?_mem {n : Nat} {m : MachineEntry} (h : r.machine? n = some m) : m ∈ r.machines :=
  List.mem_of_find?_eq_some h

theorem machine?_number {n : Nat} {m : MachineEntry} (h : r.machine? n = some m) : m.number = n :=
  beq_iff_eq.mp (List.find?_some (p := fun m : MachineEntry => m.number == n) h)

theorem tank?_mem {n : Nat} {t : TankEntry} (h : r.tank? n = some t) : t ∈ r.tanks := List.mem_of_find?_eq_some h

theorem tank?_number {n : Nat} {t : TankEntry} (h : r.tank? n = some t) : t.number = n :=
  beq_iff_eq.mp (List.find?_some (p := fun t : TankEntry => t.number == n) h)

theorem machine?_eq_none_iff {n : Nat} : r.machine? n = none ↔ ∀ m ∈ r.machines, m.number ≠ n := by
  simp [Replica.machine?]

theorem tank?_eq_none_iff {n : Nat} : r.tank? n = none ↔ ∀ t ∈ r.tanks, t.number ≠ n := by
  simp [Replica.tank?]

theorem InOrder.machinesDistinct (h : r.InOrder) : (r.machines.map MachineEntry.number).Nodup := by
  obtain ⟨_, _, hsorted, _⟩ := h
  exact hsorted.imp Nat.ne_of_lt

theorem InOrder.tanksDistinct (h : r.InOrder) : (r.tanks.map TankEntry.number).Nodup := by
  obtain ⟨_, _, _, _, _, hsorted, _⟩ := h
  exact hsorted.imp Nat.ne_of_lt

/-- An entry found by its number is the entry of that number. -/
theorem InOrder.machine_eq (h : r.InOrder) {n : Nat} {m x : MachineEntry} (hm : r.machine? n = some m)
    (hx : x ∈ r.machines) (hn : x.number = n) : x = m :=
  eq_of_key_eq h.machinesDistinct hx (machine?_mem hm) (hn.trans (machine?_number hm).symm)

theorem InOrder.machine?_eq (h : r.InOrder) {m : MachineEntry} (hm : m ∈ r.machines) :
    r.machine? m.number = some m := by
  cases hfound : r.machine? m.number with
  | none => exact absurd rfl (machine?_eq_none_iff.mp hfound m hm)
  | some x => rw [h.machine_eq hfound hm rfl]

end Replica

/-! ## One station entry changes -/

section Station

variable {r : Replica} {e₀ : StationEntry} {f : StationEntry → StationEntry} (hd : r.StationsDistinct)
  (he : e₀ ∈ r.stations)

include hd he

theorem Replica.mem_modStation {y : StationEntry} :
    y ∈ (r.modStation e₀.number f).stations ↔ y = f e₀ ∨ (y ∈ r.stations ∧ y.number ≠ e₀.number) :=
  mem_update_iff hd he

theorem Replica.fills_modStation (hf : ∀ e, (f e).number = e.number) {n party q : Nat} :
    (r.modStation e₀.number f).Fills n party q ↔
      (n = e₀.number ∧ ∃ a ∈ (f e₀).fill?, a.party = party ∧ a.openSeq = q)
        ∨ (n ≠ e₀.number ∧ r.Fills n party q) := by
  constructor
  · rintro ⟨e, hmem, rfl, hfill⟩
    rcases (Replica.mem_modStation hd he).mp hmem with rfl | ⟨hmem, hne⟩
    · exact .inl ⟨hf e₀, hfill⟩
    · exact .inr ⟨hne, e, hmem, rfl, hfill⟩
  · rintro (⟨rfl, hfill⟩ | ⟨hne, e, hmem, rfl, hfill⟩)
    · exact ⟨f e₀, (Replica.mem_modStation hd he).mpr (.inl rfl), hf e₀, hfill⟩
    · exact ⟨e, (Replica.mem_modStation hd he).mpr (.inr ⟨hmem, hne⟩), rfl, hfill⟩

theorem Replica.reservedIn_modStation (k : Nat) :
    (r.modStation e₀.number f).reservedIn k + e₀.reserves k = r.reservedIn k + (f e₀).reserves k :=
  sum_update hd he fun e => e.reserves k

theorem Replica.openCount_modStation :
    (r.modStation e₀.number f).openCount + (if e₀.activity.isSome then 1 else 0)
      = r.openCount + (if (f e₀).activity.isSome then 1 else 0) := by
  rw [Replica.openCount_eq_sum, Replica.openCount_eq_sum]
  exact sum_update hd he fun e => if e.activity.isSome then 1 else 0

/-- The activity at `e₀` answers to a tank that is present, and so do the others. -/
theorem Replica.present_modStation {tanks : List TankEntry}
    (h : ∀ e ∈ r.stations, ∀ a ∈ e.activity, ∃ t ∈ tanks, t.number = a.tank)
    (hnew : ∀ a ∈ (f e₀).activity, ∃ t ∈ tanks, t.number = a.tank) :
    ∀ e ∈ (r.modStation e₀.number f).stations, ∀ a ∈ e.activity, ∃ t ∈ tanks, t.number = a.tank := by
  intro e hmem a ha
  rcases (Replica.mem_modStation hd he).mp hmem with rfl | ⟨hmem, _⟩
  · exact hnew a ha
  · exact h e hmem a ha

end Station

/-- A change that keeps the numbers of the entries; what else is legal about the tables is shown of the changed ones. -/
theorem Replica.Legal.change {r r' : Replica} (h : r.Legal)
    (hstations : r'.stations.map StationEntry.number = r.stations.map StationEntry.number)
    (hcentres : r'.costCentres.map CostCentre.number = r.costCentres.map CostCentre.number)
    (hmachines : (r'.machines.map MachineEntry.number).Sublist (r.machines.map MachineEntry.number))
    (htanks : r'.tanks.map TankEntry.number = r.tanks.map TankEntry.number)
    (hholds : ∀ n party q, r'.Fills n party q ↔ r'.Holds n party q) (hreserved : r'.ReservationsMatch)
    (hlog : r'.LogKept) (hdrops : r'.DropsHeld) (hvolumes : r'.VolumesBounded) : r'.Legal := by
  obtain ⟨⟨hs, hc, hsorted, hlength, hnumbers, ht, hlimits⟩, _⟩ := h
  refine ⟨⟨hstations.trans hs, hcentres.trans hc, hsorted.sublist hmachines, ?_, fun m hm => ?_, htanks ▸ ht,
    fun t ht' => ?_⟩, (Replica.holdsMatch_iff r').mpr hholds, hreserved, hlog, hdrops, hvolumes⟩
  · have := hmachines.length_le
    rw [List.length_map, List.length_map] at this
    exact Nat.le_trans this hlength
  · obtain ⟨x, hx, hnumber⟩ := List.mem_map.mp (hmachines.subset (List.mem_map_of_mem hm))
    rw [← hnumber]
    exact hnumbers x hx
  · obtain ⟨x, hx, hnumber⟩ := List.mem_map.mp (htanks ▸ List.mem_map_of_mem (f := TankEntry.number) ht')
    rw [← hnumber]
    exact hlimits x hx

/-! ## Tanks -/

@[simp] theorem TankEntry.evaluate_number (t : TankEntry) : t.evaluate.number = t.number := by
  rw [TankEntry.evaluate_eq]
@[simp] theorem TankEntry.evaluate_reserved (t : TankEntry) : t.evaluate.reserved = t.reserved := by
  rw [TankEntry.evaluate_eq]
@[simp] theorem TankEntry.evaluate_book (t : TankEntry) : t.evaluate.book = t.book := by
  rw [TankEntry.evaluate_eq]

@[simp] theorem TankEntry.post_number (t : TankEntry) (v : Int) (n : Nat) : (t.post v n).number = t.number := by
  simp [TankEntry.post]
@[simp] theorem TankEntry.post_reserved (t : TankEntry) (v : Int) (n : Nat) :
    (t.post v n).reserved = t.reserved - n := by
  simp [TankEntry.post]
@[simp] theorem TankEntry.endDelivery_number (t : TankEntry) (v : Int) : (t.endDelivery v).number = t.number := by
  simp [TankEntry.endDelivery]
@[simp] theorem TankEntry.endDelivery_reserved (t : TankEntry) (v : Int) :
    (t.endDelivery v).reserved = t.reserved := by
  simp [TankEntry.endDelivery]

theorem inVolumeRange_boundVolume (v : Int) : inVolumeRange (boundVolume v) = true := by
  rw [inVolumeRange_iff, boundVolume]
  omega

theorem TankEntry.post_inRange (t : TankEntry) (v : Int) (n : Nat) : inVolumeRange (t.post v n).book = true := by
  simp [TankEntry.post, inVolumeRange_boundVolume]

theorem TankEntry.endDelivery_inRange (t : TankEntry) (v : Int) : inVolumeRange (t.endDelivery v).book = true := by
  simp [TankEntry.endDelivery, inVolumeRange_boundVolume]

theorem StationEntry.reserves_of_idle {e : StationEntry} (h : e.activity = none) (k : Nat) : e.reserves k = 0 := by
  simp [StationEntry.reserves, StationEntry.fill?, h]

theorem StationEntry.fill?_of_fill {e : StationEntry} {a : OpenActivity} (h : e.activity = some a)
    (hk : a.kind = .fill) : e.fill? = some a := by
  simp [StationEntry.fill?, h, hk]

theorem StationEntry.reserves_of_fill {e : StationEntry} {a : OpenActivity} (h : e.activity = some a)
    (hk : a.kind = .fill) (k : Nat) : e.reserves k = if a.tank = k then a.volume else 0 := by
  simp [StationEntry.reserves, StationEntry.fill?_of_fill h hk]

theorem StationEntry.fill?_of_delivery {e : StationEntry} {a : OpenActivity} (h : e.activity = some a)
    (hk : a.kind = .delivery) : e.fill? = none := by
  simp [StationEntry.fill?, h, hk]

theorem StationEntry.reserves_of_delivery {e : StationEntry} {a : OpenActivity} (h : e.activity = some a)
    (hk : a.kind = .delivery) (k : Nat) : e.reserves k = 0 := by
  simp [StationEntry.reserves, StationEntry.fill?_of_delivery h hk]

/-! ## The log -/

theorem Replica.logFull_eq_false {r : Replica} :
    r.logFull = false ↔ r.log.length + r.openCount < 512 ∧ r.site.nextRecord + (r.openCount + 1) ≤ 2 ^ 32 - 1 := by
  simp only [Replica.logFull, Bool.or_eq_false_iff, decide_eq_false_iff_not, Nat.not_le, Nat.not_lt]

/-- One more activity opens while there is room. -/
theorem Replica.LogKept.opens {r r' : Replica} (h : r.LogKept) (hroom : r.logFull = false)
    (hcount : r'.openCount = r.openCount + 1) (hlog : r'.log = r.log)
    (hnext : r'.site.nextRecord = r.site.nextRecord) : r'.LogKept := by
  obtain ⟨_, hsorted, hbelow, hfirst, _⟩ := h
  obtain ⟨hlength, hlast⟩ := Replica.logFull_eq_false.mp hroom
  rw [Replica.LogKept, hlog, hnext, hcount]
  exact ⟨by omega, hsorted, hbelow, hfirst, hlast⟩

/-- A record is appended; it takes a place of the log and a number that were in hand. -/
theorem Replica.LogKept.appends {r r' : Replica} {x : Record} (h : r.LogKept)
    (hlength : r.log.length + 1 + r'.openCount ≤ 512)
    (hlast : r.site.nextRecord + 1 + r'.openCount ≤ 2 ^ 32 - 1) (hlog : r'.log = (r.append x).log)
    (hnext : r'.site.nextRecord = (r.append x).site.nextRecord) : r'.LogKept := by
  obtain ⟨_, hsorted, hbelow, hfirst, _⟩ := h
  rw [Replica.LogKept, hlog, hnext, Replica.append_log, Replica.append_site]
  refine ⟨by simpa using hlength, ?_, fun y hy => ?_, Nat.le_add_left .., hlast⟩
  · rw [List.map_append, List.pairwise_append]
    refine ⟨hsorted, List.pairwise_singleton _ _, fun n hn k hk => ?_⟩
    obtain ⟨y, hy, rfl⟩ := List.mem_map.mp hn
    rw [List.map_singleton, List.mem_singleton] at hk
    rw [hk]
    exact hbelow y hy
  · rcases List.mem_append.mp hy with hy | hy
    · exact Nat.lt_succ_of_lt (hbelow y hy)
    · rw [List.mem_singleton.mp hy]
      exact Nat.lt_succ_self _

/-- The reservations match where the tank table was changed entry by entry. -/
theorem Replica.ReservationsMatch.of_map {r r' : Replica} {g : TankEntry → TankEntry}
    (htanks : r'.tanks = r.tanks.map g) (hnumber : ∀ t, (g t).number = t.number)
    (hreserved : ∀ t ∈ r.tanks, (g t).reserved = r'.reservedIn t.number)
    (hpresent : ∀ e ∈ r'.stations, ∀ a ∈ e.activity, ∃ t ∈ r.tanks, t.number = a.tank) : r'.ReservationsMatch := by
  refine ⟨fun t ht => ?_, fun e he a ha => ?_⟩
  · rw [htanks] at ht
    obtain ⟨x, hx, rfl⟩ := List.mem_map.mp ht
    rw [hnumber]
    exact hreserved x hx
  · obtain ⟨t, ht, htank⟩ := hpresent e he a ha
    rw [htanks]
    exact ⟨g t, List.mem_map_of_mem ht, (hnumber t).trans htank⟩

theorem sublist_of_eq {α : Type} {l l' : List α} (h : l = l') : l.Sublist l' := h ▸ List.Sublist.refl l

/-! ## An activity opens -/

/-- A fill opens at an idle station (R108): machine, tank and station take it in together. -/
theorem Replica.Legal.opensFill {r : Replica} {e₀ : StationEntry} {m₀ : MachineEntry} {t₀ : TankEntry}
    {a : OpenActivity} (h : r.Legal) (he : e₀ ∈ r.stations) (hidle : e₀.activity = none) (hk : a.kind = .fill)
    (hm : r.machine? a.party = some m₀) (hfree : m₀.hold = none) (ht : r.tank? a.tank = some t₀)
    (hroom : r.logFull = false) :
    Replica.Legal (((r.modStation e₀.number fun e => { e with activity := some a }).modMachine a.party fun m =>
      { m with hold := some { station := e₀.number, openSeq := a.openSeq } }).modTank a.tank fun t =>
        TankEntry.evaluate { t with reserved := t.reserved + a.volume, quietSince := none }) := by
  have hd : r.StationsDistinct := h.1.stationsDistinct
  obtain ⟨horder, hmatch, ⟨hsums, hpresent⟩, hlog, hdrops, hallowances, hbooks⟩ := id h
  rw [Replica.holdsMatch_iff] at hmatch
  have hparty : m₀.number = a.party := Replica.machine?_number hm
  have hmem (y : MachineEntry) := mem_update_iff (f := fun m : MachineEntry =>
    { m with hold := some { station := e₀.number, openSeq := a.openSeq } }) (y := y)
    horder.machinesDistinct (Replica.machine?_mem hm)
  rw [hparty] at hmem
  refine h.change (map_key_update _ fun _ => rfl) rfl (sublist_of_eq (map_key_update _ fun _ => rfl))
    (map_key_update _ fun _ => by simp) (fun n party q => ?_)
    (.of_map (r := r) rfl (fun t => by split <;> simp) (fun t ht' => ?_) ?_) (hlog.opens hroom ?_ rfl rfl)
    (fun m hm' hdrop => ?_) ⟨fun m hm' => ?_, fun t ht' => ?_⟩
  · refine (Replica.fills_modStation (f := fun e => { e with activity := some a }) hd he fun _ => rfl).trans ?_
    rw [StationEntry.fill?_of_fill rfl hk, hmatch]
    constructor
    · rintro (⟨rfl, b, hb, rfl, rfl⟩ | ⟨hne, m, hmem', rfl, hhold⟩)
      · cases hb
        exact ⟨_, (hmem _).mpr (.inl rfl), rfl, rfl⟩
      · refine ⟨m, (hmem _).mpr (.inr ⟨hmem', fun heq => ?_⟩), rfl, hhold⟩
        rw [horder.machine_eq hm hmem' heq, hfree] at hhold
        cases hhold
    · rintro ⟨m, hmem', rfl, hhold⟩
      rcases (hmem _).mp hmem' with rfl | ⟨hmem', hne⟩
      · cases hhold
        exact .inl ⟨rfl, a, rfl, rfl, rfl⟩
      · refine .inr ⟨fun heq => ?_, m, hmem', rfl, hhold⟩
        obtain ⟨e, hemem, hn, b, hb, _⟩ := (hmatch n m.number q).mpr ⟨m, hmem', rfl, hhold⟩
        rw [hd.eq hemem he (hn.trans heq)] at hb
        simp [StationEntry.fill?, hidle] at hb
  · have hsum := Replica.reservedIn_modStation (f := fun e => { e with activity := some a }) hd he t.number
    rw [StationEntry.reserves_of_idle hidle, StationEntry.reserves_of_fill rfl hk] at hsum
    rw [Nat.add_zero] at hsum
    refine Eq.trans ?_ hsum.symm
    rw [← show t.reserved = r.reservedIn t.number from hsums t ht']
    by_cases htank : t.number = a.tank
    · simp [htank]
    · simp [htank, Ne.symm htank]
  · refine Replica.present_modStation hd he hpresent fun b hb => ?_
    cases hb
    exact ⟨t₀, Replica.tank?_mem ht, Replica.tank?_number ht⟩
  · have hcount : (r.modStation e₀.number fun e => { e with activity := some a }).openCount = r.openCount + 1 := by
      simpa [hidle] using Replica.openCount_modStation (f := fun e => { e with activity := some a }) hd he
    exact hcount
  · rcases (hmem _).mp hm' with rfl | ⟨hm', _⟩
    · rfl
    · exact hdrops m hm' hdrop
  · rcases (hmem _).mp hm' with rfl | ⟨hm', _⟩
    · exact hallowances m₀ (Replica.machine?_mem hm)
    · exact hallowances m hm'
  · obtain ⟨x, hx, rfl⟩ := List.mem_map.mp ht'
    have := hbooks x hx
    split <;> simpa using this

/-- Fills do not change where an entry without a fill keeps being one. -/
theorem Replica.fills_modStation_of_none {r : Replica} {e₀ : StationEntry} {f : StationEntry → StationEntry}
    (hd : r.StationsDistinct) (he : e₀ ∈ r.stations) (hf : ∀ e, (f e).number = e.number) (hold : e₀.fill? = none)
    (hnew : (f e₀).fill? = none) {n party q : Nat} :
    (r.modStation e₀.number f).Fills n party q ↔ r.Fills n party q := by
  rw [Replica.fills_modStation hd he hf, hnew]
  constructor
  · rintro (⟨_, _, h, _⟩ | ⟨_, h⟩)
    · cases h
    · exact h
  · intro h
    refine .inr ⟨fun heq => ?_, h⟩
    obtain ⟨e, hmem, hn, a, ha, _⟩ := h
    rw [hd.eq hmem he (hn.trans heq), hold] at ha
    cases ha

/-- A delivery opens at an idle station (R135). -/
theorem Replica.Legal.opensDelivery {r : Replica} {e₀ : StationEntry} {t₀ : TankEntry} {a : OpenActivity}
    (h : r.Legal) (he : e₀ ∈ r.stations) (hidle : e₀.activity = none) (hk : a.kind = .delivery)
    (ht : r.tank? a.tank = some t₀) (hroom : r.logFull = false) :
    Replica.Legal ((r.modStation e₀.number fun e => { e with activity := some a }).modTank a.tank fun t =>
      { t with restock := .delivery, deliveryStation := some e₀.number, quietSince := none }) := by
  have hd : r.StationsDistinct := h.1.stationsDistinct
  obtain ⟨_, hmatch, ⟨hsums, hpresent⟩, hlog, hdrops, hvolumes⟩ := id h
  have hopen : Replica.Legal (r.modStation e₀.number fun e => { e with activity := some a }) := by
    refine h.change (map_key_update _ fun _ => rfl) rfl (.refl _) rfl (fun n party q => ?_)
      (.of_map (r := r) (g := id) (List.map_id _).symm (fun _ => rfl) (fun t ht' => ?_) ?_) (hlog.opens hroom ?_ rfl rfl) hdrops
      hvolumes
    · exact (Replica.fills_modStation_of_none (f := fun e => { e with activity := some a }) hd he (fun _ => rfl)
        (by simp [StationEntry.fill?, hidle]) (StationEntry.fill?_of_delivery rfl hk)).trans
        ((Replica.holdsMatch_iff r).mp hmatch n party q)
    · have hsum := Replica.reservedIn_modStation (f := fun e => { e with activity := some a }) hd he t.number
      rw [StationEntry.reserves_of_idle hidle, StationEntry.reserves_of_delivery rfl hk] at hsum
      exact (hsums t ht').trans hsum.symm
    · refine Replica.present_modStation hd he hpresent fun b hb => ?_
      cases hb
      exact ⟨t₀, Replica.tank?_mem ht, Replica.tank?_number ht⟩
    · simpa [hidle] using Replica.openCount_modStation (f := fun e => { e with activity := some a }) hd he
  exact hopen.modTank (fun _ => rfl) (fun _ => rfl) hvolumes.2

/-! ## An activity ends -/

/-- A machine table after the fill for `party` has ended at it: its hold is cleared, or the entry is removed (R71,
R80). -/
theorem Replica.holds_machinesAfterFill {r : Replica} {party : Nat} {v : Int}
    {lf : Option LastFill} {n p q : Nat} :
    Replica.Holds { r with machines := r.machinesAfterFill party v lf } n p q ↔ r.Holds n p q ∧ p ≠ party := by
  unfold Replica.Holds Replica.machinesAfterFill
  dsimp only
  split
  · simp only [List.mem_filter, decide_eq_true_eq]
    constructor
    · rintro ⟨m, ⟨hm, hne⟩, rfl, hhold⟩
      exact ⟨⟨m, hm, rfl, hhold⟩, hne⟩
    · rintro ⟨⟨m, hm, rfl, hhold⟩, hne⟩
      exact ⟨m, ⟨hm, hne⟩, rfl, hhold⟩
  · simp only [List.mem_map, exists_image_and]
    constructor
    · rintro ⟨m, hm, hnumber, hhold⟩
      split at hhold
      · cases hhold
      case isFalse hne =>
        rw [if_neg hne] at hnumber
        exact ⟨⟨m, hm, hnumber, hhold⟩, hnumber ▸ hne⟩
    · rintro ⟨⟨m, hm, rfl, hhold⟩, hne⟩
      exact ⟨m, hm, by rw [if_neg hne], by rw [if_neg hne]; exact hhold⟩

theorem Replica.machinesAfterFill_sublist (r : Replica) (party : Nat) (v : Int) (lf : Option LastFill) :
    ((r.machinesAfterFill party v lf).map MachineEntry.number).Sublist (r.machines.map MachineEntry.number) := by
  unfold Replica.machinesAfterFill
  split
  · exact List.filter_sublist.map _
  · exact sublist_of_eq (map_key_update _ fun _ => rfl)

theorem Replica.machinesAfterFill_dropsHeld {r : Replica} (horder : r.InOrder) (h : r.DropsHeld) (party : Nat)
    (v : Int) (lf : Option LastFill) :
    ∀ m ∈ r.machinesAfterFill party v lf, m.dropPending = true → m.hold.isSome = true := by
  unfold Replica.machinesAfterFill
  split
  · exact fun m hm => h m (List.mem_filter.mp hm).1
  case isFalse hpending =>
    intro m hm hdrop
    obtain ⟨x, hx, rfl⟩ := List.mem_map.mp hm
    split at hdrop
    case isTrue hn =>
      refine absurd ?_ hpending
      rw [← hn, horder.machine?_eq hx]
      exact hdrop
    case isFalse hn =>
      rw [if_neg hn]
      exact h x hx hdrop

theorem Replica.machinesAfterFill_inRange {r : Replica} (h : r.VolumesBounded) (party : Nat) (v : Int)
    (lf : Option LastFill) : ∀ m ∈ r.machinesAfterFill party v lf, inVolumeRange m.allowance = true := by
  unfold Replica.machinesAfterFill
  split
  · exact fun m hm => h.1 m (List.mem_filter.mp hm).1
  · intro m hm
    obtain ⟨x, hx, rfl⟩ := List.mem_map.mp hm
    split
    · exact inVolumeRange_boundVolume _
    · exact h.1 x hx

/-- The entry of a station whose activity has ended (R122, R139, R161, R162). -/
def StationEntry.endedAs (l : LastEnded) (e : StationEntry) : StationEntry := { e with activity := none, last := some l }

theorem Replica.openCount_endedAs {r : Replica} {e₀ : StationEntry} {a : OpenActivity} {l : LastEnded}
    (hd : r.StationsDistinct) (he : e₀ ∈ r.stations) (ha : e₀.activity = some a) :
    (r.modStation e₀.number (StationEntry.endedAs l)).openCount + 1 = r.openCount := by
  simpa [ha, StationEntry.endedAs] using Replica.openCount_modStation (f := StationEntry.endedAs l) hd he

/-- An ended activity gives its place in the log and its number to its record. -/
theorem Replica.LogKept.ends {r r' : Replica} {e₀ : StationEntry} {a : OpenActivity} {l : LastEnded} {x : Record}
    (h : r.LogKept) (hd : r.StationsDistinct) (he : e₀ ∈ r.stations) (ha : e₀.activity = some a)
    (hstations : r'.stations = (r.modStation e₀.number (StationEntry.endedAs l)).stations)
    (hlog : r'.log = (r.append x).log) (hnext : r'.site.nextRecord = (r.append x).site.nextRecord) : r'.LogKept := by
  obtain ⟨hlength, _, _, _, hlast⟩ := id h
  have hcount := Replica.openCount_endedAs (l := l) hd he ha
  have hsame : r'.openCount = (r.modStation e₀.number (StationEntry.endedAs l)).openCount := by
    rw [Replica.openCount, Replica.openCount, hstations]
  exact h.appends (by omega) (by omega) hlog hnext

/-- A fill ends (R122, R161). -/
theorem Replica.Legal.endsFill {r : Replica} {e₀ : StationEntry} {a : OpenActivity} {x : Record} {v w : Int}
    {lf : Option LastFill} {cc : Nat} {g c k : Int} {kind : EndingKind} {billed : Int} (h : r.Legal)
    (he : e₀ ∈ r.stations) (ha : e₀.activity = some a) (hk : a.kind = .fill) :
    Replica.Legal ((((((r.append x).endFillAtMachine a.party v lf).modTank a.tank fun t => t.post w a.volume).charge
      cc g c k).endAtStation e₀.number a.openSeq kind billed)) := by
  have hd : r.StationsDistinct := h.1.stationsDistinct
  obtain ⟨horder, hmatch, ⟨hsums, hpresent⟩, hlog, hdrops, hvolumes⟩ := id h
  rw [Replica.holdsMatch_iff] at hmatch
  have hfill := StationEntry.fill?_of_fill ha hk
  have hheld : r.Holds e₀.number a.party a.openSeq := (hmatch _ _ _).mp ⟨e₀, he, rfl, a, hfill, rfl, rfl⟩
  let l : LastEnded := { openSeq := a.openSeq, kind, billed }
  rw [Replica.endFillAtMachine_eq]
  refine h.change (map_key_update _ fun _ => rfl) (map_key_update _ fun _ => rfl)
    (Replica.machinesAfterFill_sublist r a.party v lf) (map_key_update _ fun _ => TankEntry.post_number _ _ _)
    (fun n party q => ?_) (.of_map (r := r) rfl (fun t => by split <;> simp) (fun t ht => ?_) ?_)
    (hlog.ends (l := l) (x := x) hd he ha rfl rfl rfl)
    (Replica.machinesAfterFill_dropsHeld horder hdrops a.party v lf)
    ⟨Replica.machinesAfterFill_inRange hvolumes a.party v lf, fun t ht => ?_⟩
  · refine Iff.trans ?_ (Replica.holds_machinesAfterFill (r := r) (v := v) (lf := lf)).symm
    refine (Replica.fills_modStation (f := StationEntry.endedAs l) hd he fun _ => rfl).trans ?_
    rw [← hmatch]
    constructor
    · rintro (⟨_, b, hb, _⟩ | ⟨hne, hfills⟩)
      · cases hb
      · refine ⟨hfills, fun hparty => hne ?_⟩
        obtain ⟨m, hm, hnumber, hhold⟩ := (hmatch _ _ _).mp hfills
        obtain ⟨m', hm', hnumber', hhold'⟩ := hheld
        rw [eq_of_key_eq horder.machinesDistinct hm hm' (hnumber.trans (hparty.trans hnumber'.symm)),
          hhold'] at hhold
        cases hhold
        rfl
    · rintro ⟨hfills, hne⟩
      refine .inr ⟨fun hn => hne ?_, hfills⟩
      obtain ⟨e, hemem, hnumber, b, hb, hparty, _⟩ := hfills
      rw [hd.eq hemem he (hnumber.trans hn), hfill] at hb
      cases hb
      exact hparty.symm
  · have hsum := Replica.reservedIn_modStation (f := StationEntry.endedAs l) hd he t.number
    rw [StationEntry.reserves_of_fill ha hk, StationEntry.reserves_of_idle rfl, Nat.add_zero] at hsum
    have hbefore : t.reserved = r.reservedIn t.number := hsums t ht
    have hafter : Replica.reservedIn (r.modStation e₀.number (StationEntry.endedAs l)) t.number =
        t.reserved - if a.tank = t.number then a.volume else 0 := by omega
    refine Eq.trans ?_ hafter.symm
    by_cases htank : t.number = a.tank
    · simp [htank]
    · simp [htank, Ne.symm htank]
  · exact Replica.present_modStation (f := StationEntry.endedAs l) hd he hpresent nofun
  · obtain ⟨y, hy, rfl⟩ := List.mem_map.mp ht
    split
    · exact TankEntry.post_inRange _ _ _
    · exact hvolumes.2 y hy

/-- A delivery ends (R139, R162). -/
theorem Replica.Legal.endsDelivery {r : Replica} {e₀ : StationEntry} {a : OpenActivity} {x : Record} {w : Int}
    {kind : EndingKind} {billed : Int} (h : r.Legal) (he : e₀ ∈ r.stations) (ha : e₀.activity = some a)
    (hk : a.kind = .delivery) :
    Replica.Legal (((r.append x).modTank a.tank fun t => t.endDelivery w).endAtStation e₀.number a.openSeq kind
      billed) := by
  have hd : r.StationsDistinct := h.1.stationsDistinct
  obtain ⟨_, hmatch, ⟨hsums, hpresent⟩, hlog, hdrops, hvolumes⟩ := id h
  let l : LastEnded := { openSeq := a.openSeq, kind, billed }
  refine h.change (map_key_update _ fun _ => rfl) rfl (.refl _)
    (map_key_update _ fun _ => TankEntry.endDelivery_number _ _) (fun n party q => ?_)
    (.of_map (r := r) rfl (fun t => by split <;> simp) (fun t ht => ?_) ?_)
    (hlog.ends (l := l) (x := x) hd he ha rfl rfl rfl) hdrops ⟨hvolumes.1, fun t ht => ?_⟩
  · exact (Replica.fills_modStation_of_none (f := StationEntry.endedAs l) hd he (fun _ => rfl)
      (StationEntry.fill?_of_delivery ha hk) rfl).trans ((Replica.holdsMatch_iff r).mp hmatch n party q)
  · have hsum := Replica.reservedIn_modStation (f := StationEntry.endedAs l) hd he t.number
    rw [StationEntry.reserves_of_delivery ha hk, StationEntry.reserves_of_idle rfl] at hsum
    refine Eq.trans ?_ ((hsums t ht).trans hsum.symm)
    split <;> simp
  · exact Replica.present_modStation (f := StationEntry.endedAs l) hd he hpresent nofun
  · obtain ⟨y, hy, rfl⟩ := List.mem_map.mp ht
    split
    · exact TankEntry.endDelivery_inRange _ _
    · exact hvolumes.2 y hy

end Sys2Proof.Machine
end

section
/-! Every replica frame keeps the shape of the tables. -/

namespace Sys2Proof.Machine

/-! ## New entries -/

theorem mem_insertMachine {m x : MachineEntry} {l : List MachineEntry} :
    x ∈ insertMachine m l ↔ x = m ∨ x ∈ l := by
  induction l with
  | nil => simp [insertMachine]
  | cons y l ih =>
    unfold insertMachine
    split
    · simp
    · simp only [List.mem_cons, ih]
      exact or_left_comm

theorem length_insertMachine (m : MachineEntry) (l : List MachineEntry) :
    (insertMachine m l).length = l.length + 1 := by
  induction l with
  | nil => rfl
  | cons y l ih =>
    unfold insertMachine
    split
    · rfl
    · simp [ih]

theorem sorted_insertMachine {m : MachineEntry} {l : List MachineEntry}
    (h : (l.map MachineEntry.number).Pairwise (· < ·)) (hnew : ∀ x ∈ l, x.number ≠ m.number) :
    ((insertMachine m l).map MachineEntry.number).Pairwise (· < ·) := by
  rw [List.pairwise_map] at h ⊢
  induction l with
  | nil => exact List.pairwise_singleton _ _
  | cons y l ih =>
    obtain ⟨hy, hl⟩ := List.pairwise_cons.mp h
    unfold insertMachine
    split
    case isTrue hlt =>
      refine List.pairwise_cons.mpr ⟨fun x hx => ?_, h⟩
      rcases List.mem_cons.mp hx with rfl | hx
      · exact hlt
      · exact Nat.lt_trans hlt (hy x hx)
    case isFalse hlt =>
      refine List.pairwise_cons.mpr ⟨fun x hx => ?_, ih hl fun x hx => hnew x (List.mem_cons_of_mem y hx)⟩
      have hne := hnew y (List.mem_cons_self ..)
      rcases mem_insertMachine.mp hx with rfl | hx
      · omega
      · exact hy x hx

theorem mem_insertTank {t x : TankEntry} {l : List TankEntry} : x ∈ insertTank t l ↔ x = t ∨ x ∈ l := by
  induction l with
  | nil => simp [insertTank]
  | cons y l ih =>
    unfold insertTank
    split
    · simp
    · simp only [List.mem_cons, ih]
      exact or_left_comm

theorem sorted_insertTank {t : TankEntry} {l : List TankEntry}
    (h : (l.map TankEntry.number).Pairwise (· < ·)) (hnew : ∀ x ∈ l, x.number ≠ t.number) :
    ((insertTank t l).map TankEntry.number).Pairwise (· < ·) := by
  rw [List.pairwise_map] at h ⊢
  induction l with
  | nil => exact List.pairwise_singleton _ _
  | cons y l ih =>
    obtain ⟨hy, hl⟩ := List.pairwise_cons.mp h
    unfold insertTank
    split
    case isTrue hlt =>
      refine List.pairwise_cons.mpr ⟨fun x hx => ?_, h⟩
      rcases List.mem_cons.mp hx with rfl | hx
      · exact hlt
      · exact Nat.lt_trans hlt (hy x hx)
    case isFalse hlt =>
      refine List.pairwise_cons.mpr ⟨fun x hx => ?_, ih hl fun x hx => hnew x (List.mem_cons_of_mem y hx)⟩
      have hne := hnew y (List.mem_cons_self ..)
      rcases mem_insertTank.mp hx with rfl | hx
      · omega
      · exact hy x hx

namespace Replica.Legal

variable {r : Replica}

/-- A machine without a hold is entered. -/
theorem insertMachine {m : MachineEntry} (h : r.Legal) (hnew : r.machine? m.number = none)
    (hroom : r.machines.length < 256) (hnumber : 1 ≤ m.number ∧ m.number ≤ 65534) (hhold : m.hold = none)
    (hdrop : m.dropPending = false) (hrange : inVolumeRange m.allowance = true) :
    Replica.Legal { r with machines := Machine.insertMachine m r.machines } := by
  obtain ⟨⟨hstations, hcentres, hsorted, _, hnumbers, htanks⟩, hmatch, hreserved, hlog, hdrops, hallowances, hbooks⟩ := h
  refine ⟨⟨hstations, hcentres, sorted_insertMachine hsorted (Replica.machine?_eq_none_iff.mp hnew), ?_, fun x hx => ?_,
    htanks⟩, ?_, hreserved, hlog, fun x hx hd => ?_, fun x hx => ?_, hbooks⟩
  · rw [length_insertMachine]
    exact hroom
  · rcases mem_insertMachine.mp hx with rfl | hx
    · exact hnumber
    · exact hnumbers x hx
  · rw [Replica.holdsMatch_iff] at hmatch ⊢
    refine fun n party q => (hmatch n party q).trans ⟨?_, ?_⟩
    · rintro ⟨x, hx, hx'⟩
      exact ⟨x, mem_insertMachine.mpr (.inr hx), hx'⟩
    · rintro ⟨x, hx, rfl, hheld⟩
      rcases mem_insertMachine.mp hx with rfl | hx
      · rw [hhold] at hheld
        cases hheld
      · exact ⟨x, hx, rfl, hheld⟩
  · rcases mem_insertMachine.mp hx with rfl | hx
    · rw [hdrop] at hd
      cases hd
    · exact hdrops x hx hd
  · rcases mem_insertMachine.mp hx with rfl | hx
    · exact hrange
    · exact hallowances x hx

/-- A tank that no activity draws from is entered. -/
theorem insertTank {t : TankEntry} (h : r.Legal) (hnew : r.tank? t.number = none)
    (hnumber : 1 ≤ t.number ∧ t.number ≤ 8) (hempty : t.reserved = 0) (hrange : inVolumeRange t.book = true) :
    Replica.Legal { r with tanks := Machine.insertTank t r.tanks } := by
  obtain ⟨⟨hstations, hcentres, hsorted, hlength, hnumbers, htanks, hlimits⟩, hmatch, ⟨hsums, hpresent⟩, hlog, hdrops,
    hallowances, hbooks⟩ := h
  have habsent := Replica.tank?_eq_none_iff.mp hnew
  refine ⟨⟨hstations, hcentres, hsorted, hlength, hnumbers, sorted_insertTank htanks habsent, fun x hx => ?_⟩, hmatch,
    ⟨fun x hx => ?_, fun e he a ha => ?_⟩, hlog, hdrops, hallowances, fun x hx => ?_⟩
  · rcases mem_insertTank.mp hx with rfl | hx
    · exact hnumber
    · exact hlimits x hx
  · rcases mem_insertTank.mp hx with rfl | hx
    · rw [hempty, eq_comm, List.sum_eq_zero_iff_forall_eq_nat]
      intro n hn
      obtain ⟨e, he, rfl⟩ := List.mem_map.mp hn
      cases ha : e.activity with
      | none => exact StationEntry.reserves_of_idle ha _
      | some a =>
        obtain ⟨y, hy, hnumber⟩ := hpresent e he a ha
        cases hk : a.kind with
        | delivery => exact StationEntry.reserves_of_delivery ha hk _
        | fill =>
          rw [StationEntry.reserves_of_fill ha hk]
          exact if_neg fun htank => habsent y hy (hnumber.trans htank)
    · exact hsums x hx
  · obtain ⟨y, hy, hnumber⟩ := hpresent e he a ha
    exact ⟨y, mem_insertTank.mpr (.inr hy), hnumber⟩
  · rcases mem_insertTank.mp hx with rfl | hx
    · exact hrange
    · exact hbooks x hx

/-- Records leave the log from its front. -/
theorem dropRecords {p : Record → Bool} (h : r.Legal) : Replica.Legal { r with log := r.log.dropWhile p } := by
  obtain ⟨horder, hmatch, hreserved, ⟨hroom, hsorted, hbelow, hfirst, hlast⟩, hrest⟩ := h
  have hsub := List.dropWhile_sublist (l := r.log) p
  refine ⟨horder, hmatch, hreserved, ⟨?_, hsorted.sublist (hsub.map _), fun x hx => hbelow x (hsub.subset hx), hfirst,
    hlast⟩, hrest⟩
  exact Nat.le_trans (Nat.add_le_add_right hsub.length_le _) hroom

/-- A record that ends no activity is appended while there is room. -/
theorem append {x : Record} (h : r.Legal) (hroom : r.hasRoom = true) : (r.append x).Legal := by
  obtain ⟨horder, hmatch, hreserved, hlog, hrest⟩ := h
  obtain ⟨hlength, hlast⟩ := Replica.hasRoom_iff.mp hroom
  have hcount : (r.append x).openCount = r.openCount := rfl
  exact ⟨horder, hmatch, hreserved, hlog.appends (by omega) (by omega) rfl rfl, hrest⟩

/-! ## Membership -/

/-- The claim of an entry stays where its activity does. -/
theorem modMembership {n : Nat} {f : StationEntry → StationEntry} (h : r.Legal)
    (hnumber : ∀ e, (f e).number = e.number) (hactivity : ∀ e, (f e).activity = e.activity) :
    (r.modStation n f).Legal :=
  h.modStation fun e _ _ => ⟨hnumber e, by rw [hactivity]⟩

theorem orphan {n : Nat} {time : Option Nat} (h : r.Legal) : (r.orphan n time).Legal := by
  by_cases hidle : ∀ e ∈ r.station? n, e.activity = none
  · rw [Replica.orphan_of_idle hidle]
    exact h
  · obtain ⟨e, he, hopen⟩ := exists_of_not_forall hidle
    obtain ⟨a, ha⟩ := Option.ne_none_iff_exists'.mp hopen
    obtain rfl := Replica.station?_number he
    cases hk : a.kind with
    | fill =>
      rw [Replica.orphan_of_fill he ha hk]
      exact h.endsFill (Replica.station?_mem he) ha hk
    | delivery =>
      rw [Replica.orphan_of_delivery he ha hk]
      exact h.endsDelivery (Replica.station?_mem he) ha hk

theorem endDonation {n : Nat} (h : r.Legal) : (r.endDonation n).Legal := by
  cases he : r.station? n with
  | none =>
    rw [Replica.endDonation_of_free (by simp [he])]
    exact h
  | some e =>
    rw [Replica.endDonation_eq he]
    refine h.mapStations fun x _ => ⟨StationEntry.freedFrom_number e x, ?_⟩
    unfold StationEntry.freedFrom
    split
    · rfl
    · split <;> rfl

end Replica.Legal

theorem Replica.endDonation_activity {r : Replica} {n k : Nat}
    (h : ∀ e ∈ r.stations, e.number = k → e.activity = none) :
    ∀ e ∈ (r.endDonation n).stations, e.number = k → e.activity = none := by
  cases he : r.station? n with
  | none =>
    rw [Replica.endDonation_of_free (by simp [he])]
    exact h
  | some e =>
    rw [Replica.endDonation_eq he]
    intro x hx hn
    obtain ⟨y, hy, rfl⟩ := List.mem_map.mp hx
    rw [StationEntry.freedFrom_number] at hn
    have hidle := h y hy hn
    unfold StationEntry.freedFrom
    split
    · exact hidle
    · split <;> exact hidle

theorem Replica.orphan_activity {r : Replica} (hd : r.StationsDistinct) (n : Nat) (time : Option Nat) :
    ∀ e ∈ (r.orphan n time).stations, e.number = n → e.activity = none := by
  rw [Replica.orphan_stations hd]
  intro x hx hn
  obtain ⟨y, _, rfl⟩ := List.mem_map.mp hx
  split
  · unfold StationEntry.orphaned
    split
    · rfl
    case h_2 hidle => exact hidle
  case isFalse hne =>
    rw [if_neg hne] at hn
    exact absurd hn hne

namespace Replica.Legal

variable {r : Replica}

/-- An idle entry is made ABSENT. -/
theorem makeAbsent {n : Nat} (h : r.Legal) (hidle : ∀ e ∈ r.stations, e.number = n → e.activity = none) :
    (r.modStation n StationEntry.absent).Legal :=
  h.modStation fun e he hn => ⟨rfl, by rw [hidle e he hn]; rfl⟩

theorem remove {n : Nat} {time : Option Nat} (h : r.Legal) : (r.remove time n).Legal :=
  h.orphan.endDonation.makeAbsent (Replica.endDonation_activity (Replica.orphan_activity h.1.stationsDistinct n time))

theorem sweepOne {n : Nat} (h : r.Legal) : (r.sweepOne n).Legal :=
  h.orphan.makeAbsent (Replica.orphan_activity h.1.stationsDistinct n none)

/-- A change that keeps the tables legal, made for each number of a list. -/
theorem foldl {f : Replica → Nat → Replica} (hf : ∀ x n, x.Legal → (f x n).Legal) (l : List Nat) :
    ∀ {x : Replica}, x.Legal → (l.foldl f x).Legal := by
  induction l with
  | nil => exact id
  | cons n l ih => exact fun h => ih (hf _ n h)

theorem presentEffect {map : BitVec 32} {time : Option Nat} (h : r.Legal) : (presentEffect r map time).1.Legal :=
  foldl (fun _ _ hx => hx.remove) _ (h.mapStations fun _ _ => ⟨rfl, rfl⟩)

theorem joinEffect {n : Nat} {j : Joining} (h : r.Legal) : (joinEffect r n j).1.Legal := by
  dsimp only [Machine.joinEffect]
  split
  · exact h
  · split
    · exact h
    case h_2 e _ =>
      split
      · exact h
      · have hfreed (m : Membership) (d : Option Nat) : Replica.Legal (match m, d with
            | .joining, some d => r.endJoinersDonation n d
            | _, _ => r) := by
          split
          · unfold Replica.endJoinersDonation
            exact (h.modMembership (fun _ => by rfl) fun _ => by rfl).modMembership (fun _ => by rfl) fun _ => by rfl
          · exact h
        split
        · exact hfreed _ _
        · dsimp only
          exact ((hfreed _ _).modMembership (fun _ => by rfl) fun _ => by rfl).modMembership (fun _ => by rfl) fun _ => by rfl

theorem announceEffect {n : Nat} {a : Announcing} (h : r.Legal) : (announceEffect r n a).1.Legal := by
  dsimp only [Machine.announceEffect]
  split
  · exact h
  · split
    · exact h
    · split
      · exact h
      · have hdonor (d : Nat) : (r.modStation d fun x => { x with donatingTo := none }).Legal :=
          h.modMembership (fun _ => by rfl) fun _ => by rfl
        split
        · exact (hdonor _).modMembership (fun _ => by rfl) fun _ => by rfl
        · exact (hdonor _).modMembership (fun _ => by rfl) fun _ => by rfl

theorem founderEffect {n : Nat} {a : Announcing} (h : r.Legal) : (founderEffect r n a).1.Legal := by
  dsimp only [Machine.founderEffect]
  exact (foldl (fun _ _ hx => hx.sweepOne) _ (h.setSite (by rfl))).modMembership (fun _ => by rfl) fun _ => by rfl

/-! ## Site, stop and resume -/

theorem siteSetEffect {a b : Option Nat} {c : Option Bool} (h : r.Legal) : (siteSetEffect r a b c).1.Legal := by
  unfold Machine.siteSetEffect
  split
  · exact h.setSite rfl
  · exact h

theorem resumeEffect {n : Nat} (h : r.Legal) : (resumeEffect r n).1.Legal := by
  unfold Machine.resumeEffect
  split
  · exact h
  · split
    · exact h.setSite rfl
    · exact h

end Replica.Legal

/-! ## Opening, progress and closing -/

/-- What a fill that may open finds (R106). -/
theorem openRefusal_none {r : Replica} {n : Nat} {o : OpenRequest} (h : openRefusal r n o = none) :
    ∃ e m t, r.station? n = some e ∧ e.activity = none ∧ r.machine? o.machine = some m ∧ m.hold = none
      ∧ r.tank? o.tank = some t ∧ r.logFull = false := by
  rw [openRefusal_eq] at h
  simp only [openTable, firstReason_cons, ite_eq_cases, reduceCtorEq, and_false, false_or] at h
  obtain ⟨_, hserves, hbusy, hknown, _, hheld, hgrade, _, _, hfull, _⟩ := h
  cases he : r.station? n with
  | none => simp [he] at hserves
  | some e =>
    cases hm : r.machine? o.machine with
    | none => simp [hm] at hknown
    | some m =>
      cases ht : r.tank? o.tank with
      | none => simp [hm, ht] at hgrade
      | some t =>
        refine ⟨e, m, t, rfl, ?_, rfl, ?_, rfl, ?_⟩
        · simpa [he] using hbusy
        · simpa [hm] using hheld
        · simpa [logFullTest_eq] using hfull

/-- What a delivery that may open finds (R135). -/
theorem deliveryRefusal_none {r : Replica} {n : Nat} {d : DeliveryRequest} (h : deliveryRefusal r n d = none) :
    ∃ e t, r.station? n = some e ∧ e.activity = none ∧ r.tank? d.tank = some t ∧ r.logFull = false := by
  rw [deliveryRefusal_eq] at h
  simp only [deliveryTable, firstReason_cons, ite_eq_cases, reduceCtorEq, and_false, false_or] at h
  obtain ⟨_, hserves, hbusy, _, _, hgrade, hfull, _⟩ := h
  cases he : r.station? n with
  | none => simp [he] at hserves
  | some e =>
    cases ht : r.tank? d.tank with
    | none => simp [ht] at hgrade
    | some t =>
      refine ⟨e, t, rfl, ?_, rfl, ?_⟩
      · simpa [he] using hbusy
      · simpa [logFullTest_eq] using hfull

/-- The open activity that a frame speaks of is that of its sender's entry. -/
theorem Replica.activityOf_some {r : Replica} {n q : Nat} {a : OpenActivity} (h : r.activityOf n q = some a) :
    ∃ e ∈ r.stations, e.number = n ∧ r.station? n = some e ∧ e.activity = some a := by
  rw [Replica.activityOf_eq] at h
  obtain ⟨ha, _⟩ := Option.filter_eq_some_iff.mp h
  obtain ⟨e, he, ha⟩ := Option.bind_eq_some_iff.mp ha
  exact ⟨e, Replica.station?_mem he, Replica.station?_number he, he, ha⟩

namespace Replica.Legal

variable {r : Replica}

theorem openEffect {n : Nat} {o : OpenRequest} (h : r.Legal) : (openEffect r n o).1.Legal := by
  dsimp only [Machine.openEffect]
  split
  · exact h
  · split
    · exact h
    case h_2 hnone =>
      obtain ⟨e, m, t, he, hidle, hm, hfree, ht, hroom⟩ := openRefusal_none hnone
      obtain rfl := Replica.station?_number he
      rw [hm, ht]
      dsimp only
      split
      · exact h
      · exact h.opensFill (a := { kind := .fill, openSeq := r.site.seq, party := o.machine, tank := o.tank
                                  volume := (openGrant o m t).toNat, progress := 0, mode := o.mode.getD .tag
                                  openTime := o.openTime })
          (Replica.station?_mem he) hidle rfl hm hfree ht hroom

theorem deliveryOpenEffect {n : Nat} {d : DeliveryRequest} (h : r.Legal) : (deliveryOpenEffect r n d).1.Legal := by
  dsimp only [Machine.deliveryOpenEffect]
  split
  · exact h
  · split
    · exact h
    case h_2 hnone =>
      obtain ⟨e, t, he, hidle, ht, hroom⟩ := deliveryRefusal_none hnone
      obtain rfl := Replica.station?_number he
      rw [ht]
      exact h.opensDelivery (a := { kind := .delivery, openSeq := r.site.seq, party := d.tanker, tank := d.tank
                                    volume := (deliveryLimit d t).toNat, progress := 0, mode := d.mode
                                    openTime := d.openTime })
        (Replica.station?_mem he) hidle rfl ht hroom

theorem progressEffect {n q v : Nat} (h : r.Legal) : (progressEffect r n q v).1.Legal := by
  unfold Machine.progressEffect
  split
  case h_1 a ha =>
    obtain ⟨e, he, hn, _, hact⟩ := Replica.activityOf_some ha
    refine h.modStation fun x hx hxn => ⟨rfl, ?_⟩
    rw [h.1.stationsDistinct.eq hx he (hxn.trans hn.symm), hact]
    rfl
  case h_2 => exact h

theorem closeEffect {n : Nat} {c : Closing} (h : r.Legal) : (closeEffect r n c).1.Legal := by
  unfold Machine.closeEffect
  split
  · exact h
  · split
    case h_1 a ha =>
      split
      case isTrue hk =>
        obtain ⟨e, he, rfl, _, hact⟩ := Replica.activityOf_some ha
        exact h.endsFill he hact hk
      case isFalse => exact h
    case h_2 => exact h

theorem deliveryCloseEffect {n : Nat} {c : Closing} (h : r.Legal) : (deliveryCloseEffect r n c).1.Legal := by
  unfold Machine.deliveryCloseEffect
  split
  · exact h
  · split
    case h_1 a ha =>
      split
      case isTrue hk =>
        obtain ⟨e, he, rfl, _, hact⟩ := Replica.activityOf_some ha
        exact h.endsDelivery he hact hk
      case isFalse => exact h
    case h_2 => exact h

/-! ## The machine table -/

theorem grantEffect {g : Granting} (h : r.Legal) : (grantEffect r g).1.Legal := by
  unfold Machine.grantEffect
  split
  · exact h
  case isFalse hform =>
    rw [Granting.malformed_iff] at hform
    split
    case h_1 m _ =>
      unfold grantExisting
      extract_lets value
      split
      case isTrue hrange => exact h.modMachine (fun _ _ _ => rfl) (fun _ _ _ => rfl) (fun _ _ _ => nofun) fun _ _ _ => hrange
      case isFalse => exact h
    case h_2 hnew =>
      dsimp only [grantNew]
      split
      case isTrue hroom =>
        exact h.insertMachine hnew hroom ⟨by dsimp only; omega, by dsimp only; omega⟩ rfl rfl
          (inVolumeRange_iff.mpr (by dsimp only; omega))
      case isFalse => exact h

/-- A change of a machine's entry that touches neither its hold, its drop-pending mark nor its allowance. -/
theorem modMachine_plain {n : Nat} {f : MachineEntry → MachineEntry} (h : r.Legal)
    (hnumber : ∀ m, (f m).number = m.number) (hhold : ∀ m, (f m).hold = m.hold)
    (hdrop : ∀ m, (f m).dropPending = m.dropPending) (hrange : ∀ m, (f m).allowance = m.allowance) :
    (r.modMachine n f).Legal := by
  obtain ⟨_, _, _, _, hdrops, hallowances, _⟩ := id h
  exact h.modMachine (fun m _ _ => hnumber m) (fun m _ _ => hhold m)
    (fun m hm _ hd => hdrops m hm (hdrop m ▸ hd)) fun m hm _ => by rw [hrange]; exact hallowances m hm

theorem barEffect {n : Nat} {b : Bool} (h : r.Legal) : (barEffect r n b).1.Legal := by
  unfold Machine.barEffect
  split
  · split
    · split
      · exact h
      · exact h.modMachine_plain (fun _ => rfl) (fun _ => rfl) (fun _ => rfl) fun _ => rfl
    · exact h
  · exact h

theorem dropEffect {n : Nat} (h : r.Legal) : (dropEffect r n).1.Legal := by
  obtain ⟨_, _, _, _, _, hallowances, _⟩ := id h
  unfold Machine.dropEffect
  split
  · split
    case h_1 m hm =>
      split
      case h_1 hfree =>
        exact h.dropMachine fun x hx hn => by rw [h.1.machine_eq hm hx hn]; exact hfree
      case h_2 k hheld =>
        split
        · exact h
        · refine h.modMachine (fun _ _ _ => rfl) (fun _ _ _ => rfl) (fun x hx hn _ => ?_) fun x hx _ => hallowances x hx
          rw [h.1.machine_eq hm hx hn, hheld]
          rfl
    case h_2 => exact h
  · exact h

/-! ## Tanks, gauge and census -/

/-- A change of a tank's entry that touches neither its reservation nor its book. -/
theorem modTank_plain {n : Nat} {f : TankEntry → TankEntry} (h : r.Legal) (hnumber : ∀ t, (f t).number = t.number)
    (hreserved : ∀ t, (f t).reserved = t.reserved) (hbook : ∀ t, (f t).book = t.book) : (r.modTank n f).Legal := by
  obtain ⟨_, _, _, _, _, _, hbooks⟩ := id h
  exact h.modTank hnumber hreserved fun t ht => by rw [hbook]; exact hbooks t ht

theorem tankSetEffect {x : TankSetting} (h : r.Legal) : (tankSetEffect r x).1.Legal := by
  obtain ⟨_, _, _, _, _, _, hbooks⟩ := id h
  unfold Machine.tankSetEffect
  split
  · exact h
  case isFalse hform =>
    rw [TankSetting.malformed_iff] at hform
    simp only [not_or, Nat.not_lt, not_exists, not_and] at hform
    obtain ⟨hlow, hhigh, _, _, _, _, _, hbook⟩ := hform
    have hgiven : ∀ b ∈ x.book, inVolumeRange b = true := fun b hb => inVolumeRange_iff.mpr (by
      have := hbook b hb
      omega)
    split
    case h_1 hnew =>
      refine h.insertTank ?_ ?_ ?_ ?_
      · rw [TankEntry.evaluate_number]
        exact hnew
      · rw [TankEntry.evaluate_number]
        exact ⟨hlow, hhigh⟩
      · rw [TankEntry.evaluate_reserved]
        rfl
      · rw [TankEntry.evaluate_book]
        cases hb : x.book with
        | none => rw [newTank, hb]; rfl
        | some b => rw [newTank, hb]; exact hgiven b hb
    case h_2 =>
      split
      · exact h
      · refine h.modTank (fun t => by rw [TankEntry.evaluate_number]; rfl)
          (fun t => by rw [TankEntry.evaluate_reserved]; rfl) fun t ht => ?_
        rw [TankEntry.evaluate_book]
        cases hb : x.book with
        | none => rw [TankEntry.setBy, hb]; exact hbooks t ht
        | some b => rw [TankEntry.setBy, hb]; exact hgiven b hb

theorem orderEffect {n : Nat} (h : r.Legal) : (orderEffect r n).1.Legal := by
  unfold Machine.orderEffect
  split
  · split
    · exact h.modTank_plain (fun _ => rfl) (fun _ => rfl) fun _ => rfl
    · exact h
  · exact h

theorem flowEffect {n : Nat} {map : BitVec 32} (h : r.Legal) : (flowEffect r n map).1.Legal := by
  unfold Machine.flowEffect
  split
  · exact h.modTank_plain (fun _ => rfl) (fun _ => rfl) fun _ => rfl
  · exact h

theorem gaugeEffect {n : Nat} {g : Gauging} (h : r.Legal) : (gaugeEffect r n g).1.Legal := by
  dsimp only [Machine.gaugeEffect]
  split
  · exact h
  · split
    · exact h
    · exact h.modTank_plain (fun _ => rfl) (fun _ => rfl) fun _ => rfl

/-! ## Cost centres and ADJUST -/

theorem ccClearEffect {n : Nat} (h : r.Legal) : (ccClearEffect r n).1.Legal := by
  unfold Machine.ccClearEffect
  split
  · refine h.mapCostCentres fun e _ => ?_
    split
    case isTrue hn => exact hn.symm
    case isFalse => rfl
  · exact h

theorem post {n : Nat} {v : Int} (h : r.Legal) : (r.modTank n fun t => t.post v 0).Legal :=
  h.modTank (fun t => TankEntry.post_number t v 0) (fun t => TankEntry.post_reserved t v 0)
    fun t _ => TankEntry.post_inRange t v 0

theorem adjustFill {n cc : Nat} {d : Int} (h : r.Legal) : (r.adjustFill n cc d).Legal := by
  obtain ⟨_, _, _, _, hdrops, _⟩ := id h
  have hmachine : (r.modMachine n fun m => { m with allowance := boundVolume (m.allowance - d) }).Legal :=
    h.modMachine (fun _ _ _ => rfl) (fun _ _ _ => rfl) (fun m hm _ => hdrops m hm)
      fun _ _ _ => inVolumeRange_boundVolume _
  exact hmachine.charge

theorem adjustBy {n : Nat} {a : Adjusting} (h : r.Legal) (hroom : r.hasRoom = true) : (adjustBy r n a).Legal := by
  dsimp only [Machine.adjustBy]
  refine modMembership (post ?_) (fun _ => rfl) fun _ => rfl
  split
  · exact (h.append hroom).adjustFill
  · exact h.append hroom

theorem adjustEffect {n : Nat} {a : Adjusting} (h : r.Legal) : (adjustEffect r n a).1.Legal := by
  unfold Machine.adjustEffect
  split
  · split
    case isTrue hroom => exact h.adjustBy hroom
    case isFalse => exact h
  · exact h

/-! ## Any frame -/

theorem kindEffect {f : Frame} (h : r.Legal) : (kindEffect r f).1.Legal := by
  unfold Machine.kindEffect
  split
  · exact h.setSite rfl
  · exact h.resumeEffect
  · exact h.closeEffect
  · exact h.deliveryCloseEffect
  · exact h.adjustEffect
  · exact h.openEffect
  · exact h.deliveryOpenEffect
  · exact h.progressEffect
  · exact h.gaugeEffect
  · exact h.presentEffect
  · exact h.flowEffect
  · exact h.grantEffect
  · exact h.barEffect
  · exact h.barEffect
  · exact h.dropEffect
  · exact h.dropRecords
  · exact h.tankSetEffect
  · exact h.orderEffect
  · exact h.ccClearEffect
  · exact h.siteSetEffect
  · exact h
  · exact h.joinEffect
  · split
    · exact h.founderEffect
    · exact h.announceEffect
  · exact h.remove
  · exact h

theorem applyEffect {f : Frame} (h : r.Legal) : (applyEffect r f).1.Legal := by
  unfold Machine.applyEffect
  split
  · exact h
  · exact h.kindEffect

theorem applyFrame {b : Bool} {f : Frame} {n : Nat} (h : r.Legal) : (applyFrame r b f n).replica.Legal := by
  dsimp only [Machine.applyFrame]
  exact (h.setSite (by rfl)).applyEffect

end Replica.Legal

end Sys2Proof.Machine
end

section
/-! Every step keeps the tables legal, and they are legal after WIPE. -/

namespace Sys2Proof.Machine

/-! ## The wiped tables -/

/-- Tables without machines, tanks, records and activities are legal. -/
theorem Replica.legal_of_empty {r : Replica} (hstations : r.stations.map StationEntry.number = List.range' 1 31)
    (hcentres : r.costCentres.map CostCentre.number = List.range 64)
    (hidle : ∀ e ∈ r.stations, e.activity = none) (hmachines : r.machines = []) (htanks : r.tanks = [])
    (hlog : r.log = []) (hnext : r.site.nextRecord = 1) : r.Legal := by
  have hcount : r.openCount = 0 := by
    rw [Replica.openCount, List.length_eq_zero_iff, List.filter_eq_nil_iff]
    intro e he
    rw [hidle e he]
    exact Bool.false_ne_true
  have hfill : ∀ e ∈ r.stations, e.fill? = none := fun e he => by rw [StationEntry.fill?, hidle e he]
  simp only [Replica.Legal, Replica.InOrder, Replica.HoldsMatch, Replica.ReservationsMatch, Replica.LogKept,
    Replica.DropsHeld, Replica.VolumesBounded, hmachines, htanks, hlog, hnext, hcount, hstations, hcentres]
  refine ⟨by simp, ⟨fun e he a ha => ?_, by simp⟩, ⟨by simp, fun e he a ha => ?_⟩, by simp, by simp, by simp⟩
  · rw [hfill e he] at ha
    cases ha
  · rw [hidle e he] at ha
    cases ha

theorem Replica.wiped_legal (k : Check) : (Replica.wiped k).Legal := by
  refine Replica.legal_of_empty ((List.map_map ..).trans (List.map_id' _)) ((List.map_map ..).trans (List.map_id' _))
    (fun e he => ?_) rfl rfl rfl rfl
  obtain ⟨n, _, rfl⟩ := List.mem_map.mp he
  rfl

/-! ## Operations -/

/-- The tables that a donor streams are legal (R40). -/
abbrev State.JoinLegal (s : State) : Prop := ∀ a ∈ s.engine.join, ∀ r ∈ a.replica?, r.Legal

namespace State.TablesLegal

variable {s t : State}

/-- Tables and retained write are as they were. -/
theorem of_keeps {p : Permits} (h : s.TablesLegal) (hk : State.Keeps p s t) (ht : p.tables = false)
    (hw : p.writing = false) : t.TablesLegal := by
  rw [State.TablesLegal, (hk.tables ht).1, hk.writing hw]
  exact h

theorem act {f : State → State} (h : s.TablesLegal) (hf : (f s).TablesLegal) : (s.act f).TablesLegal := by
  unfold State.act
  split
  · exact h
  · exact hf

/-- The retained write of a frame begins. -/
theorem beginWrite {f : Machine.Frame} (h : s.TablesLegal) : (s.beginWrite f).TablesLegal := by
  have hpop : s.popNext.replica = s.replica := State.popNext_replica s
  have hlocal : State.Keeps { clock := true } _ (s.beginWrite f) := .localEffects (.refl _ _) (.inl rfl)
  refine of_keeps ⟨?_, fun w hw => ?_⟩ hlocal rfl rfl
  · rw [hpop]
    exact h.1
  · obtain rfl := Option.mem_some_iff.mp hw
    exact h.1.applyFrame

theorem applyRow {sel : Payload → Bool} (h : s.TablesLegal) : (s.applyRow sel).TablesLegal := by
  unfold State.applyRow
  split
  · split
    · exact h.beginWrite
    · exact h
  · exact h

theorem writeDone {w : Writing} (hw : w.replica.Legal) : (s.writeDone w).TablesLegal := by
  have hk : State.Keeps { counts := true, starts := true } _ (s.writeDone w) := .writeDone_after (.refl _ _) rfl rfl
  exact of_keeps ⟨hw, fun _ hx => absurd hx (Option.not_mem_none _)⟩ hk rfl rfl

theorem completeWrite (h : s.TablesLegal) : s.completeWrite.TablesLegal := by
  unfold State.completeWrite
  split
  case h_1 w hw => exact writeDone (h.2 w hw)
  case h_2 => exact h

theorem completeAtLimit (h : s.TablesLegal) : s.completeAtLimit.TablesLegal := by
  unfold State.completeAtLimit
  split
  case h_1 w hw =>
    split
    · exact writeDone (h.2 w hw)
    · exact h
  case h_2 => exact h

/-- The frames that waited are applied to legal tables. -/
theorem catchUpWith (fs : List Machine.Frame) :
    ∀ {s : State}, s.TablesLegal → (State.catchUpWith fs s).1.TablesLegal := by
  induction fs with
  | nil => exact id
  | cons f fs ih =>
    intro s h
    have hlocal : State.TablesLegal (State.localEffects f (Machine.applyFrame s.replica s.limitReached f s.free).result
        { s with free := freeAfterSeq s.replica s.free }) :=
      of_keeps (s := { s with free := freeAfterSeq s.replica s.free }) h
        (.localEffects (p := { clock := true }) (.refl _ _) (.inl rfl)) rfl rfl
    have hstore (y : State) (l : Bool) (hy : y.TablesLegal) : State.TablesLegal (State.tellRecovery f
        { y with replica := (Machine.applyFrame s.replica s.limitReached f s.free).replica, limitReached := l }) :=
      of_keeps (s := { y with
          replica := (Machine.applyFrame s.replica s.limitReached f s.free).replica, limitReached := l })
        ⟨h.1.applyFrame (b := s.limitReached), hy.2⟩ (.tellRecovery (p := {}) (.refl _ _)) rfl rfl
    dsimp only [State.catchUpWith]
    split
    · split
      · exact hstore _ _ hlocal
      · exact ih (hstore _ _ hlocal)
    · exact h

theorem install {r : Replica} (h : s.TablesLegal) (hr : r.Legal) : (s.install r).TablesLegal := by
  have hcaught : (State.catchUpWith s.waitingFrames { s with replica := r }).1.TablesLegal :=
    catchUpWith _ (s := { s with replica := r }) ⟨hr, h.2⟩
  have hgap (y : State) (hy : y.TablesLegal) :
      State.TablesLegal ({ y with replica := s.replica }.abandonJoin .catchUpGap) :=
    of_keeps (s := { y with replica := s.replica }) ⟨h.1, hy.2⟩ (.abandonJoin (p := {}) (.refl _ _)) rfl rfl
  dsimp only [State.install]
  split
  · exact of_keeps hcaught (.joinDone (p := {}) (.refl _ _)) rfl rfl
  · exact hgap _ hcaught
  · exact of_keeps hcaught (.enterFaulted (p := {}) (.refl _ _)) rfl rfl

theorem snapEnd {f : Machine.Frame} (h : s.TablesLegal) (hj : s.JoinLegal) : (s.snapEnd f).TablesLegal := by
  unfold State.snapEnd
  split
  · exact h
  case h_2 a ha =>
    split
    · exact h
    · split
      case h_1 r hr => exact h.install (hj a ha r hr)
      case h_2 => exact h.of_keeps (.abandonJoin (p := {}) (.refl _ _)) rfl rfl

theorem takeSnapEnd (h : s.TablesLegal) (hj : s.JoinLegal) : s.takeSnapEnd.TablesLegal := by
  unfold State.takeSnapEnd
  split
  · exact h
  · unfold State.engineTakes
    split
    · unfold State.takeKind
      split
      · split
        · exact snapEnd (s := s.popInbound) h hj
        · exact h
      · exact h
    · exact h

theorem wipe {n : Nat} (h : s.TablesLegal) : (s.wipe n).1.TablesLegal := by
  unfold State.wipe
  split
  · exact h
  · exact ⟨Replica.wiped_legal _, h.2⟩

/-- A request keeps the tables legal where its answer does. -/
theorem request {c : Byte} {body : List Byte} {b : Bool} {f : State → State × List Byte} (h : s.TablesLegal)
    (hf : ∀ y : State, y.TablesLegal → (f y).1.TablesLegal) : (s.request c body b f).TablesLegal := by
  dsimp only [State.request]
  split
  · exact h
  · split
    · exact h
    · split
      · exact hf _ h
      · exact h

theorem requestWith {α : Type} {c : Byte} {body : List Byte} {q : Parse α} {f : α → State → State × List Byte}
    (h : s.TablesLegal) (hf : ∀ (a : α) (y : State), y.TablesLegal → (f a y).1.TablesLegal) :
    (s.requestWith c body q f).TablesLegal := by
  unfold State.requestWith
  split
  · exact h.request (hf _)
  · exact h.request fun _ hy => hy

/-! ## Supply drop and reset -/

theorem settleWrite (h : s.TablesLegal) : s.settleWrite.TablesLegal := by
  unfold State.settleWrite
  split
  case h_1 w hw =>
    refine ⟨?_, fun _ hx => absurd hx (Option.not_mem_none _)⟩
    dsimp only
    split
    · exact h.2 w hw
    · exact h.1
  case h_2 => exact h

theorem supplyDrop (h : s.TablesLegal) : s.supplyDrop.TablesLegal := by
  have hfinal : s.finalRecord.TablesLegal := h.of_keeps (.finalRecord (p := {}) (.refl _ _)) rfl rfl
  exact hfinal.settleWrite

theorem outputChanged_svm {y : FilterCell} {b : Bool} {n : Nat} (h : s.TablesLegal) :
    ((s.setCell .svm y).outputChanged .svm b n).TablesLegal := by
  cases b with
  | false => exact h
  | true => exact supplyDrop (s := s.setCell .svm y) h

theorem cellPasses_svm {b : Bool} {n : Nat} (h : s.TablesLegal) : (s.cellPasses .svm b n).TablesLegal := by
  dsimp only [State.cellPasses]
  split
  · exact h.outputChanged_svm
  · exact h

theorem lockoutEnd_svm {n : Nat} (h : s.TablesLegal) : (s.lockoutEnd .svm n).TablesLegal := by
  dsimp only [State.lockoutEnd]
  split
  · exact h
  · split
    · exact h
    · exact h.outputChanged_svm

theorem resetNow {inputs : BitVec 8} (h : s.TablesLegal) : (s.resetNow inputs).TablesLegal := by
  have hreset : State.TablesLegal (State.resetWith inputs s.settleWrite.replica s.settleWrite.wiped
      s.settleWrite.limitReached s.settleWrite.supply.record s.settleWrite.free s.settleWrite.pending) :=
    ⟨h.settleWrite.1, fun _ hx => absurd hx (Option.not_mem_none _)⟩
  dsimp only [State.resetNow]
  split
  · exact hreset.supplyDrop
  · exact hreset

theorem selRise {n : Nat} {q : List Byte} {inputs : BitVec 8} (h : s.TablesLegal) :
    (s.selRise n q inputs).TablesLegal := by
  have hpartial : State.Keeps {} s ((s.clockBytes n).discardPartial q) := by
    unfold State.discardPartial
    split
    · exact .ite (.clockBytes (.refl _ _)) (.reply (.clockBytes (.refl _ _)))
    · exact .clockBytes (.refl _ _)
  have hend : ((s.clockBytes n).discardPartial q).endTransaction.TablesLegal :=
    h.of_keeps (hpartial.quiet rfl rfl rfl) rfl rfl
  dsimp only [State.selRise]
  split
  · exact hend.resetNow
  · exact hend

end State.TablesLegal

/-! ## Every step -/

theorem exec_tablesLegal {c : Instr} {s t : State} (hs : s.TablesLegal) (hj : s.JoinLegal)
    (h : exec c s = .next t) : t.TablesLegal := by
  have hk := (State.Completes.of_exec h).toKeeps
  cases c with
  | unknownKind | siteSet | censusPresent | join | announce | founderAnnounce | leave | openFill | progress
  | closeFill | grant | bar | unbar | drop | tankSet | order | deliveryOpen | deliveryClose | censusFlow | gauge
  | release | ccClear | time | stop | resume | adjust =>
    cases h
    exact hs.act hs.applyRow
  | retainedWriteComplete =>
    cases h
    exact hs.act hs.completeWrite
  | sequenceLimit =>
    cases h
    exact hs.act hs.completeAtLimit
  | snapEnd =>
    cases h
    exact hs.act (hs.takeSnapEnd hj)
  | wipe body =>
    cases h
    exact hs.requestWith fun _ _ hy => hy.wipe
  | supplyDrop held =>
    cases h
    exact hs.act hs.cellPasses_svm
  | powerOnReset inputs =>
    cases h
    exact hs.resetNow
  | selRise clocked q inputs =>
    cases h
    exact hs.selRise
  | filterLockoutEnd cell n =>
    by_cases hcell : cell = .svm
    · subst hcell
      cases h
      exact hs.act hs.lockoutEnd_svm
    · exact hs.of_keeps hk (decide_eq_false hcell) (decide_eq_false hcell)
  | _ => exact hs.of_keeps hk rfl rfl

/-- Settles O5. -/
theorem stepKeepsTablesLegal : Obligations.StepKeepsTablesLegal := by
  intro s t hs hj h
  unfold step at h
  split at h
  · cases h
    exact hs
  case h_2 c rest _ => exact exec_tablesLegal (s := { s with pending := rest }) hs hj h

/-- Settles O4. -/
theorem invariantsHoldAtReset : Obligations.InvariantsHoldAtReset :=
  ⟨⟨Replica.wiped_legal _, fun _ hx => absurd hx (Option.not_mem_none _)⟩,
    ⟨List.nodup_nil, Nat.zero_le _, Nat.zero_le _, Nat.zero_le _, Nat.zero_le _, rfl⟩,
    ⟨nofun, nofun, nofun⟩, fun _ => ⟨rfl, rfl⟩, fun h => by simp [State.reset, State.resetWith, Ident.reset] at h,
    .inl rfl⟩

end Sys2Proof.Machine
end

section
/-! POWER_DOWN (R164), and the console port as its requests see it (R175, R176). -/

namespace Sys2Proof.Machine

/-! ## Requests -/

/-- A request behind no other and with no reply left is answered WRONG_STATE in POWER_DOWN, but for STATUS and RESET
(R164, R176). -/
theorem request_of_powerDown {s : State} {code : Byte} (body : List Byte) (fits : Bool)
    (f : State → State × List Byte) (hq : s.console.request = []) (hr : s.console.replies = [])
    (hs : s.supply.state = .powerDown) (hcode : answeredInPowerDown code = false) :
    s.request code body fits f = s.answered code body wrongStateReply false := by
  simp [State.request, State.answered, State.reply, hq, hr, hs, hcode]

/-- A request that is answered in POWER_DOWN too, behind no other and with no reply left. -/
theorem request_of_answered {s : State} {code : Byte} (body : List Byte) (f : State → State × List Byte)
    (hq : s.console.request = []) (hr : s.console.replies = []) (hcode : answeredInPowerDown code = true) :
    s.request code body true f =
      let r := f { s with console := { s.console with
        request := code :: leBytes 2 body.length ++ body, selected := true } }
      r.1.reply r.2 (code == 0x06) := by
  simp [State.request, hq, hr, hcode]

theorem request_of_answered_unfit {s : State} {code : Byte} (body : List Byte) (f : State → State × List Byte)
    (hq : s.console.request = []) (hr : s.console.replies = []) (hcode : answeredInPowerDown code = true) :
    s.request code body false f = s.answered code body badRequestReply false := by
  simp [State.request, State.answered, State.reply, hq, hr, hcode]

/-- Whatever its body reads as, `requestWith` is a request. -/
theorem requestWith_is_request {α : Type} (code : Byte) (body : List Byte) (p : Parse α)
    (f : α → State → State × List Byte) (s : State) :
    ∃ fits g, s.requestWith code body p f = s.request code body fits g := by
  unfold State.requestWith
  split
  · exact ⟨_, _, rfl⟩
  · exact ⟨_, _, rfl⟩

/-- A request code that 11.8 does not list is a request as well (R175). -/
theorem unknownRequest_eq {code : Byte} (body : List Byte) (s : State) (h : 0x10 < code.toNat) :
    s.unknownRequest code body = s.request code body false fun s => (s, badRequestReply) := by
  have hzero : (code == 0) = false := by
    rw [beq_eq_false_iff_ne]
    rintro rfl
    exact absurd h (by decide)
  have hknown : knownRequest code = false := by
    simp only [knownRequest, Bool.and_eq_false_iff, decide_eq_false_iff_not]
    omega
  rw [State.unknownRequest, hzero, hknown]
  rfl

/-- Every console command is a request of its code and body. -/
theorem exec_of_requestOf {c : Instr} {code : Byte} {body : List Byte} (s : State)
    (h : requestOf c = some (code, body)) :
    ∃ fits f, exec c s = .next (s.request code body fits f).commitNotices := by
  have hrow {α : Type} (p : Parse α) (f : α → State → State × List Byte) :
      ∃ fits g, (Host.Outcome.next (s.requestWith code body p f).commitNotices : Answer) =
        .next (s.request code body fits g).commitNotices := by
    obtain ⟨fits, g, heq⟩ := requestWith_is_request code body p f s
    exact ⟨fits, g, by rw [heq]⟩
  cases c
  case unknownRequestCode code' body' =>
    simp only [requestOf, Option.ite_none_right_eq_some, Option.some.injEq, Prod.mk.injEq] at h
    obtain ⟨hlarge, rfl, rfl⟩ := h
    exact ⟨_, _, congrArg (fun x : State => Host.Outcome.next x.commitNotices) (unknownRequest_eq _ s hlarge)⟩
  all_goals cases h
  all_goals exact hrow _ _

theorem parseAll_nothing_of_ne {body : List Byte} (h : body ≠ []) : parseAll parseNothing body = none := by
  cases body with
  | nil => exact absurd rfl h
  | cons b bs => rfl

/-- A command that comes to a state in which no notice waits. -/
theorem next_commitNotices_of_eq {x y : State} (h : x = y) (hy : y.console.raised = []) :
    (Host.Outcome.next x.commitNotices : Answer) = .next y := by
  rw [h, commitNotices_of_no_notice hy]

/-! ## POWER_DOWN -/

/-- An event at a block is met with nothing in POWER_DOWN. -/
theorem exec_blockEvent_of_powerDown {c : Instr} {s : State} (hc : isBlockEvent c = true)
    (hs : s.supply.state = .powerDown) : exec c s = .next s := by
  have hact (f : State → State) : (Host.Outcome.next (s.act f) : Answer) = .next s := by
    rw [act_of_powerDown f hs]
  cases c
  case unknownRequestCode | noRequest | selRise | powerOnReset => cases hc
  case keyedId | configure | start | reset | wipe | status | notice | consoleRead | preset | cancel | estop
    | consoleResume | delivery | gaugeNow | clearFault | consoleLeave => cases hc
  all_goals exact hact _

/-- Settles O2. -/
theorem powerDownTakesNoEvent : Obligations.PowerDownTakesNoEvent := by
  refine ⟨fun c s => exec_blockEvent_of_powerDown, fun c code body s hc hreset hstatus hs hraised hq hr => ?_,
    fun s hs hraised hq hr => ⟨?_, ?_, fun body hbody => ⟨?_, ?_⟩⟩⟩
  · obtain ⟨fits, f, hexec⟩ := exec_of_requestOf s hc
    have hcode : answeredInPowerDown code = false := by simpa [answeredInPowerDown] using ⟨hreset, hstatus⟩
    exact hexec.trans (next_commitNotices_of_eq (request_of_powerDown body fits f hq hr hs hcode) hraised)
  · have hstatus : s.requestWith 0x05 [] parseNothing (fun _ => State.statusRequest) =
        s.answered 0x05 [] (doneReply s.statusBody) false := by
      refine (request_of_answered [] _ hq hr rfl).trans ?_
      simp only [State.statusRequest, hs, if_true]
      rfl
    exact next_commitNotices_of_eq hstatus hraised
  · have hreset : s.requestWith 0x03 [] parseNothing (fun _ => State.resetRequest) =
        State.answered 0x03 [] [0x80, 0x00, 0x00] false
          { s with console := { s.console with resetPending := true } } :=
      request_of_answered [] _ hq hr rfl
    exact next_commitNotices_of_eq hreset hraised
  · have hbad : s.requestWith 0x05 body parseNothing (fun _ => State.statusRequest) =
        s.answered 0x05 body [0x82, 0x00, 0x00] false := by
      rw [State.requestWith, parseAll_nothing_of_ne hbody]
      exact request_of_answered_unfit body _ hq hr rfl
    exact next_commitNotices_of_eq hbad hraised
  · have hbad : s.requestWith 0x03 body parseNothing (fun _ => State.resetRequest) =
        s.answered 0x03 body [0x82, 0x00, 0x00] false := by
      rw [State.requestWith, parseAll_nothing_of_ne hbody]
      exact request_of_answered_unfit body _ hq hr rfl
    exact next_commitNotices_of_eq hbad hraised

end Sys2Proof.Machine
end

section
/-! Applying a frame (R25, R27): the retained write begins, and the station itself heeds some kinds. -/

namespace Sys2Proof.Machine

/-! ## The write of an applied frame -/

/-- Below the sequence limit a frame that a row selects begins its write; what the station takes from it follows. -/
theorem applyRow_eq {s : State} {f : Frame} {sel : Payload → Bool} (h : s.AppliesNext f)
    (hs : sel f.payload = true) :
    s.applyRow sel = State.localEffects f (applyEffect s.replica.counted f).2
      (s.writes f (applyEffect s.replica.counted f)) := by
  obtain ⟨_, hf, hq⟩ := h
  simp only [State.applyRow, hf, hs, if_true, State.beginWrite]
  simp only [State.writes, applyFrame, nextSeq, freeAfterSeq, hq, if_true, Replica.counted,
    State.popNext_replica, State.popNext_free]

/-- A row of the table, and the frames that it takes. -/
structure IsTableRow (row : Instr × (Payload → Bool)) : Prop where
  exec_eq : ∀ s, exec row.1 s = .next (s.act (State.applyRow row.2))
  no_unknown : ∀ cls kind bytes, row.2 (.unknown cls kind bytes) = false
  no_stop : ∀ reason, row.2 (.stop reason) = false
  no_resume : row.2 .resume = false
  no_time : ∀ t, row.2 (.time t) = false

theorem tableRows_are_rows : ∀ row ∈ tableRows, IsTableRow row := by
  simp only [tableRows, List.forall_mem_cons]
  refine ⟨?_, ?_, ?_, ?_, ?_, ?_, ?_, ?_, ?_, ?_, ?_, ?_, ?_, ?_, ?_, ?_, ?_, ?_, ?_, ?_, ?_, ?_, nofun⟩
  all_goals exact ⟨fun _ => rfl, fun _ _ _ => rfl, fun _ => rfl, rfl, fun _ => rfl⟩

/-- The station takes nothing itself from a frame of a table row. -/
theorem IsTableRow.localEffects {row : Instr × (Payload → Bool)} (h : IsTableRow row) {f : Frame}
    (hf : row.2 f.payload = true) (res : ApplyResult) (x : State) : State.localEffects f res x = x := by
  unfold State.localEffects
  split
  case h_1 hp => rw [hp, h.no_unknown] at hf; cases hf
  case h_2 hp => rw [hp, h.no_stop] at hf; cases hf
  case h_3 hp => rw [hp, h.no_resume] at hf; cases hf
  case h_4 hp => rw [hp, h.no_time] at hf; cases hf
  case h_5 => rfl

theorem State.popNext_console (s : State) : s.popNext.console = s.console := by
  unfold State.popNext
  split <;> rfl

theorem State.writes_raised {s : State} {f : Machine.Frame} {x : Replica × ApplyResult} (h : s.Live) :
    (s.writes f x).console.raised = [] := by
  rw [State.writes, State.popNext_console]
  exact h.2

/-- Settles O27. -/
theorem appliedFrameBeginsItsWrite : Obligations.AppliedFrameBeginsItsWrite := by
  refine ⟨fun row hrow s f h hsel => ?_, fun row hrow s f hlive hf hsel hlimit => ?_⟩
  · have hr := tableRows_are_rows row hrow
    have heq := applyRow_of_applies h hsel (hr.localEffects hsel)
    rw [hr.exec_eq, act_of_no_notice _ h.1 (by rw [heq]; exact State.writes_raised h.1), heq]
  · have hr := tableRows_are_rows row hrow
    refine ⟨_, applyFrame s.replica s.limitReached f s.free, hr.exec_eq s, ?_⟩
    rw [act_of_live _ hlive]
    simp only [State.applyRow, hf, hsel, if_true, State.beginWrite, hr.localEffects hsel, State.commitNotices_replica,
      State.commitNotices_engine, State.popNext_replica]
    refine ⟨trivial, trivial, rfl, ?_⟩
    rw [applyFrame, Bool.or_eq_true, decide_eq_true_eq]
    exact .inr (Nat.le_succ_of_le hlimit)

/-! ## Frames that the station heeds -/

theorem applyEffect_stop {f : Frame} {reason : Byte} (r : Replica) (hp : f.payload = .stop reason) :
    applyEffect r f = stopEffect r f.sender reason := by
  have hkind : f.payload.kind? = some .stop := by rw [hp]; rfl
  rw [applyEffect_of_not_officeKind r hkind rfl, kindEffect, hp]

theorem applyEffect_resume {f : Frame} (r : Replica) (hp : f.payload = .resume) :
    applyEffect r f = resumeEffect r f.sender := by
  have hkind : f.payload.kind? = some .resume := by rw [hp]; rfl
  rw [applyEffect_of_not_officeKind r hkind rfl, kindEffect, hp]

/-- The replica with the site stop taken back. -/
def Replica.withoutStop (r : Replica) : Replica := { r with site := { r.site with stop := none } }

theorem resumeEffect_of_stopped {r : Replica} {n : Nat} {x : StopInfo} (h : r.site.stop = some x)
    (hn : x.origin = n ∨ r.isOffice n = true) : resumeEffect r n = (r.withoutStop, .applied) := by
  simp only [resumeEffect, h, if_pos hn, Replica.withoutStop]

theorem resumeEffect_of_none {r : Replica} {n : Nat}
    (h : ∀ x ∈ r.site.stop, x.origin ≠ n ∧ r.isOffice n = false) : resumeEffect r n = (r, .noChange) := by
  unfold resumeEffect
  split
  · rfl
  case h_2 x hx =>
    obtain ⟨horigin, hoffice⟩ := h x hx
    exact if_neg (by rw [hoffice]; simp [horigin])

/-- A command whose row comes to `y` with one notice raised. -/
theorem next_act_of_notice {s y : State} {f : State → State} {b : NoticeBody} (h : s.Live) (hf : f s = y.raise b)
    (hy : y.console.raised = []) : (Host.Outcome.next (s.act f) : Answer) = .next (y.noticed b) := by
  rw [act_of_live f h, hf, commitNotices_raise b hy]

/-- A command whose row comes to `y` with no notice raised. -/
theorem next_act_of_quiet {s y : State} {f : State → State} (h : s.Live) (hf : f s = y)
    (hy : y.console.raised = []) : (Host.Outcome.next (s.act f) : Answer) = .next y := by
  rw [act_of_no_notice f h (by rw [hf]; exact hy), hf]

theorem State.popNext_stop (s : State) : s.popNext.stop = s.stop := by
  unfold State.popNext
  split <;> rfl

theorem State.popNext_meter (s : State) : s.popNext.meter = s.meter := by
  unfold State.popNext
  split <;> rfl

/-- Taking a frame from where it waits leaves the transmit side of the link as it is. -/
theorem State.popNext_link (s : State) : ∃ q, s.popNext.link = { s.link with inbound := q } := by
  unfold State.popNext
  split
  · exact ⟨_, rfl⟩
  · exact ⟨_, rfl⟩

/-- Making the stop wanted reads the stop path and the transmit side of the link. -/
theorem State.WantsStop.of_writes {s t u : State} {f : Machine.Frame} {x : Replica × ApplyResult} {b : Bool}
    (h : (s.writes f x).WantsStop b t) (hstop : u.stop = t.stop) (hlink : u.link = t.link) : s.WantsStop b u := by
  obtain ⟨q, hq⟩ := s.popNext_link
  rw [State.WantsStop, hstop, hlink]
  have hlink' : (s.writes f x).link = { s.link with inbound := q } := hq
  have hstop' : (s.writes f x).stop = s.stop := s.popNext_stop
  simp only [State.WantsStop, State.newEntry, hlink', hstop'] at h
  exact h

/-- Settles O28. -/
theorem heededFramesAreApplied : Obligations.HeededFramesAreApplied := by
  refine ⟨fun s f cls kind bytes h hp => ?_, fun s f reason h hp => ?_, fun s f n h hp => ?_,
    fun s f x h hp hx hn => ?_, fun s f h hp hn => ?_⟩
  · have heffect : applyEffect s.replica.counted f = (s.replica.counted, .noChange) :=
      applyEffect_of_unknownKind (by rw [hp]; rfl)
    refine next_act_of_notice h.1 ?_ (State.writes_raised h.1)
    rw [applyRow_eq h (by rw [hp]; rfl), heffect]
    simp only [State.localEffects, hp, unknownNotice]
  · refine next_act_of_notice h.1 ?_ (State.writes_raised h.1)
    rw [applyRow_eq h (by rw [hp]; rfl), applyEffect_stop _ hp]
    simp only [State.localEffects, hp]
    rfl
  · have hkind : f.payload.kind? = some .time := by rw [hp]; rfl
    have hrow : s.applyRow (isKind .time) = _ := applyRow_eq h (by rw [hp]; rfl)
    by_cases hoffice : s.replica.isOffice f.sender = true
    · have heffect : applyEffect s.replica.counted f = (s.replica.counted, .applied) := by
        rw [applyEffect_of_isOffice (r := s.replica.counted) hoffice, kindEffect, hp]
      rw [heffect] at hrow
      rw [if_pos hoffice]
      refine next_act_of_quiet h.1 ?_ (State.writes_raised (f := f) (x := (s.replica.counted, .applied)) h.1)
      rw [hrow]
      simp only [State.localEffects, hp]
    · have heffect : applyEffect s.replica.counted f = (s.replica.counted, .noChange) :=
        applyEffect_of_officeKind_of_not_isOffice hkind rfl hoffice
      rw [heffect] at hrow
      rw [if_neg hoffice]
      refine next_act_of_quiet h.1 ?_ (State.writes_raised h.1)
      rw [hrow]
      simp only [State.localEffects, hp]
  · have heffect : applyEffect s.replica.counted f = (s.replica.counted.withoutStop, .applied) := by
      rw [applyEffect_resume _ hp]
      exact resumeEffect_of_stopped hx hn
    have hrow : s.applyRow (isKind .resume) = _ := applyRow_eq h (by rw [hp]; rfl)
    have hmeter : ((s.writes f (s.replica.counted.withoutStop, .applied)).raise .siteResume).meter = s.meter :=
      s.popNext_meter
    simp only [heffect, State.localEffects, hp, hmeter] at hrow
    refine ⟨fun hestop => next_act_of_notice h.1 ?_ (State.writes_raised h.1), fun hestop => ?_⟩
    · rw [hrow, if_neg (by rw [hestop]; exact Bool.false_ne_true)]
      rfl
    · rw [if_pos hestop] at hrow
      generalize hy : (s.writes f (s.replica.counted.withoutStop, .applied)).raise .siteResume = y at hrow
      have hwants := (State.wantStop_wants false y).1
      have heq := State.wantStop_eq false y
      refine ⟨(State.wantStop false y).commitNotices, congrArg Host.Outcome.next ?_, ?_, ?_, ?_, ?_⟩
      · rw [act_of_live _ h.1, hrow]
      · rw [State.commitNotices_stop, hwants.1]
      · subst hy
        exact .of_writes (f := f) (x := (s.replica.counted.withoutStop, .applied)) hwants rfl rfl
      · rw [State.commitNotices_engine, heq]
        subst hy
        rfl
      · subst hy
        have hraised := commitNotices_raise .siteResume
          (State.writes_raised (f := f) (x := (s.replica.counted.withoutStop, .applied)) h.1)
        rw [heq]
        exact (congrArg State.console hraised :)
  · have heffect : applyEffect s.replica.counted f = (s.replica.counted, .noChange) := by
      rw [applyEffect_resume _ hp]
      exact resumeEffect_of_none hn
    refine next_act_of_quiet h.1 ?_ (State.writes_raised h.1)
    rw [applyRow_eq h (by rw [hp]; rfl), heffect]
    simp only [State.localEffects, hp]

end Sys2Proof.Machine
end

section
/-! Starting a frame (R5, R14): the queue's order, the choice of a SEAL (R46), and contention. -/

namespace Sys2Proof.Machine

/-! ## The order of the queue (R14) -/

/-- The order of the queue: a lower class first, in a class the earlier entry. -/
abbrev TxEntry.Leads (e x : TxEntry) : Prop :=
  e.payload.cls < x.payload.cls ∨ (e.payload.cls = x.payload.cls ∧ e.entered ≤ x.entered)

theorem TxEntry.Leads.trans {a b c : TxEntry} (h : a.Leads b) (h' : b.Leads c) : a.Leads c := by
  unfold TxEntry.Leads at *
  omega

theorem TxEntry.before_iff {a b : TxEntry} : a.before b = true ↔
    a.payload.cls < b.payload.cls ∨ (a.payload.cls = b.payload.cls ∧ a.entered < b.entered) := by
  simp [TxEntry.before]

/-- An entry that is not before another is led by it. -/
theorem TxEntry.leads_of_not_before {a b : TxEntry} (h : ¬ a.before b = true) : b.Leads a := by
  rw [TxEntry.before_iff] at h
  unfold TxEntry.Leads
  omega

theorem TxEntry.leads_of_before {a b : TxEntry} (h : a.before b = true) : a.Leads b := by
  rw [TxEntry.before_iff] at h
  unfold TxEntry.Leads
  omega

theorem firstInOrder_eq_none {l : List TxEntry} (h : firstInOrder l = none) : l = [] := by
  cases l with
  | nil => rfl
  | cons a as =>
    unfold firstInOrder at h
    split at h
    · cases h
    · split at h <;> cases h

/-- The first entry leads every entry. -/
theorem firstInOrder_leads {l : List TxEntry} {e : TxEntry} (h : firstInOrder l = some e) : ∀ x ∈ l, e.Leads x := by
  induction l generalizing e with
  | nil => cases h
  | cons a as ih =>
    unfold firstInOrder at h
    have hrefl : ∀ y : TxEntry, y.Leads y := fun y => .inr ⟨rfl, (Nat.le_refl _)⟩
    cases hm : firstInOrder as with
    | none =>
      simp only [hm, Option.some.injEq] at h
      subst h
      simp only [firstInOrder_eq_none hm, List.mem_singleton, forall_eq]
      exact hrefl a
    | some m =>
      simp only [hm] at h
      have hlead := ih hm
      rw [List.forall_mem_cons]
      by_cases hb : m.before a = true
      · simp only [hb, if_true, Option.some.injEq] at h
        subst h
        exact ⟨TxEntry.leads_of_before hb, hlead⟩
      · simp only [hb, Bool.false_eq_true, if_false, Option.some.injEq] at h
        subst h
        exact ⟨hrefl a, fun x hx => (TxEntry.leads_of_not_before hb).trans (hlead x hx)⟩

/-! ## The winner of a round (R46) -/

/-- The better candidate: a higher retained sequence, among equals a lower station. -/
abbrev Candidate.Beats (w y : Candidate) : Prop :=
  y.retained < w.retained ∨ y.retained = w.retained ∧ w.station ≤ y.station

theorem Candidate.Beats.trans {a b c : Candidate} (h : a.Beats b) (h' : b.Beats c) : a.Beats c := by
  unfold Candidate.Beats at *
  omega

/-- The better of two candidates is one of them, and beats both. -/
theorem Candidate.better_spec (a b : Candidate) :
    (a.better b = a ∨ a.better b = b) ∧ (a.better b).Beats a ∧ (a.better b).Beats b := by
  unfold Candidate.better Candidate.Beats
  split
  · exact ⟨.inr rfl, by omega, by omega⟩
  · exact ⟨.inl rfl, by omega, by omega⟩

theorem foldl_better_spec (cs : List Candidate) (c : Candidate) :
    cs.foldl Candidate.better c ∈ c :: cs ∧ ∀ y ∈ c :: cs, (cs.foldl Candidate.better c).Beats y := by
  induction cs generalizing c with
  | nil => exact ⟨List.mem_cons_self, List.forall_mem_singleton.mpr (.inr ⟨rfl, (Nat.le_refl _)⟩)⟩
  | cons d cs ih =>
    obtain ⟨hfrom, hc, hd⟩ := Candidate.better_spec c d
    obtain ⟨hmem, hbeats⟩ := ih (c.better d)
    have hbest := hbeats _ List.mem_cons_self
    refine ⟨?_, ?_⟩
    · rcases List.mem_cons.mp hmem with h | h
      · rw [List.foldl_cons, h]
        rcases hfrom with h' | h' <;> simp [h']
      · exact List.mem_cons_of_mem _ (List.mem_cons_of_mem _ h)
    · simp only [List.forall_mem_cons]
      exact ⟨hbest.trans hc, hbest.trans hd, fun y hy => hbeats y (List.mem_cons_of_mem _ hy)⟩

/-- A round with a candidate has its SEAL, of the candidate that beats them all. -/
theorem Round.sealFrame_spec {r : Round} (h : r.candidates ≠ []) :
    ∃ w ∈ r.candidates, (∀ y ∈ r.candidates, w.Beats y) ∧ r.sealFrame = some (.sealRound
      { winner := w.station, retained := w.retained, keyCheck := w.keyCheck, candidates := r.candidates.length }) := by
  unfold Round.sealFrame
  cases hc : r.candidates with
  | nil => exact absurd hc h
  | cons c cs =>
    obtain ⟨hmem, hbeats⟩ := foldl_better_spec cs c
    exact ⟨_, hmem, hbeats, rfl⟩

/-! ## Contention (R5, R14) -/

/-- A command that comes to `y` and raises no notice. -/
theorem exec_of_quiet {c : Instr} {f : State → State} {s y : State} (hc : exec c s = .next (s.act f)) (h : s.Live)
    (hf : f s = y) (hy : y.console = s.console) : exec c s = .next y := by
  rw [hc, act_of_no_notice _ h (by rw [hf, hy]; exact h.2), hf]

theorem losesContention_iff {own : Byte} {rivals : List Byte} {early : Bool} :
    losesContention own rivals early = true ↔ early = true ∨ ∃ r ∈ rivals, r.toNat < own.toNat := by
  simp [losesContention]

theorem State.wirePayload_of_ne_seal {p : Payload} (s : State) (h : p.kind? ≠ some .sealRound) :
    s.wirePayload p = p := by
  unfold State.wirePayload
  split
  · exact absurd rfl h
  · rfl

/-- The start of a frame at a station whose bus is free. -/
theorem State.frameStart_of_free {s : State} {e : TxEntry} (idle : Nat) (rivals : List Byte) (early : Bool)
    (he : s.link.nextToSend = some e) (hwire : s.link.wire = none) (hslots : s.link.slots = none) :
    s.frameStart idle rivals early =
      if s.link.startGap ≤ idle then
        if losesContention (contentionByte (s.wireFrame e).payload.cls (s.wireFrame e).sender) rivals early = true then
          { s with link := { s.link with voidHold := false } }
        else { s with link := { s.link with
          wire := some { origin := e.origin, frame := s.wireFrame e }, voidHold := false, lostPlace := false } }
      else s := by
  simp [State.frameStart, he, hwire, hslots]

/-- Settles O29. -/
theorem frameStartContends : Obligations.FrameStartContends := by
  refine ⟨fun l e he => ?_, fun idle rivals early s e hlive he hwire hslots => ?_⟩
  · obtain ⟨hmem, hsend⟩ := Link.nextToSend_mem he
    exact ⟨hmem, hsend, fun x hx hxs => firstInOrder_leads he x (List.mem_filter.mpr ⟨hx, hxs⟩)⟩
  · have hstart := State.frameStart_of_free idle rivals early he hwire hslots
    have hnext : ∀ y : State, s.frameStart idle rivals early = y → y.console = s.console →
        exec (.frameStart idle rivals early) s = .next y := fun y => exec_of_quiet rfl hlive
    refine ⟨fun hidle => ?_, fun hidle hearly hrivals => ?_, fun hidle hlost => ?_, rfl, rfl, ?_, fun hkind => ?_,
      fun x r hx hr hcands => ?_⟩
    · have hgap : ¬ s.link.startGap ≤ idle := Nat.not_le.mpr hidle
      exact hnext s (by rw [hstart, if_neg hgap]) rfl
    · have hgap : s.link.startGap ≤ idle := hidle
      have hwins : ¬ losesContention (contentionByte (s.wireFrame e).payload.cls (s.wireFrame e).sender) rivals early
          = true := by
        rw [losesContention_iff, hearly]
        rintro (h | ⟨r, hr, hlt⟩)
        · cases h
        · exact absurd hlt (Nat.not_lt.mpr (hrivals r hr))
      exact hnext _ (by rw [hstart, if_pos hgap, if_neg hwins]) rfl
    · have hgap : s.link.startGap ≤ idle := hidle
      exact hnext _ (by rw [hstart, if_pos hgap, if_pos (losesContention_iff.mpr hlost)]) rfl
    · rfl
    · exact State.wirePayload_of_ne_seal s hkind
    · obtain ⟨w, hw, hbeats, hseal⟩ := Round.sealFrame_spec hcands
      refine ⟨w, hw, hbeats, ?_⟩
      simp only [State.wireFrame, State.wirePayload, hx, hr, Option.bind_some, hseal]

/-! ## The course of a census (R22, R23) -/

/-- The end of the slots of a census. -/
theorem State.slotsEnd_of_slots {s : State} {w : SlotWait} (map : BitVec 32) (hw : s.link.slots = some w) :
    s.slotsEnd map =
      if (w.answered && w.frame.payload.callsPresent && !map.getLsbD s.me) = true then
        State.enterFaulted .ownSlotSilent { s with link := { s.link with slots := none } }
      else if w.queue = true then
        { s with link := ({ s.link with slots := none } : Link).enqueue { w.frame with map := some map } }
      else { s with link := { s.link with slots := none } } := by
  rw [State.slotsEnd, hw]
  rfl

/-- Settles O35. -/
theorem censusRunsItsCourse : Obligations.CensusRunsItsCourse := by
  refine ⟨fun s w map hlive hw hroom hanswer => ?_, fun s hlive htimer hq => ?_, fun s e hlive htimer hq => ?_⟩
  · have hheard : ¬ (w.answered && w.frame.payload.callsPresent && !map.getLsbD s.me) = true := by
      rw [Bool.and_eq_true, Bool.and_eq_true]
      rintro ⟨⟨ha, hp⟩, hm⟩
      rcases hanswer ha with h | ⟨n, time, h⟩
      · rw [h] at hm
        cases hm
      · rw [h] at hp
        cases hp
    cases hqueue : w.queue with
    | true =>
      refine exec_of_quiet (f := State.slotsEnd map) rfl hlive ?_ rfl
      rw [State.slotsEnd_of_slots map hw, if_neg hheard, if_pos hqueue]
      simp [Link.enqueue, hroom]
    | false =>
      refine exec_of_quiet (f := State.slotsEnd map) rfl hlive ?_ rfl
      rw [State.slotsEnd_of_slots map hw, if_neg hheard, if_neg (by rw [hqueue]; exact Bool.false_ne_true)]
      simp
  · refine exec_of_quiet (f := State.censusTimeout) rfl hlive ?_ rfl
    simp only [State.censusTimeout, htimer, if_true, State.offer]
    have hq' : ({ s.link with censusTimer := some s.censusPeriod } : Link).queued .census = none := hq
    rw [hq', Link.offer_of_none _ _ hq']
    rfl
  · refine exec_of_quiet (f := State.censusTimeout) rfl hlive ?_ rfl
    simp only [State.censusTimeout, htimer, if_true]
    have hq' : ({ s.link with censusTimer := some s.censusPeriod } : Link).queued .census = some e := hq
    rw [hq']
    rfl

end Sys2Proof.Machine
end

section
/-! What the activity controller and the identification controller can change among themselves: all the rest of the
state stands (R101 to R112, R123, R134). -/

namespace Sys2Proof.Machine

/-! ## The state apart from the two controllers -/

/-- The state with the activity controller, the identification controller, its port and the notices raised taken out. -/
def State.core (s : State) : State :=
  { s with
    activity := Activity.reset, ident := Ident.reset, port := Port.reset, console := { s.console with raised := [] } }

section
variable {s t : State}

theorem State.link_of_core (h : t.core = s.core) : t.link = s.link := (congrArg State.link h :)
theorem State.engine_of_core (h : t.core = s.core) : t.engine = s.engine := (congrArg State.engine h :)
theorem State.replica_of_core (h : t.core = s.core) : t.replica = s.replica := (congrArg State.replica h :)
theorem State.meter_of_core (h : t.core = s.core) : t.meter = s.meter := (congrArg State.meter h :)
theorem State.outputs_of_core (h : t.core = s.core) : t.outputs = s.outputs := (congrArg State.outputs h :)
theorem State.gauge_of_core (h : t.core = s.core) : t.gauge = s.gauge := (congrArg State.gauge h :)
theorem State.supply_of_core (h : t.core = s.core) : t.supply = s.supply := (congrArg State.supply h :)
theorem State.stop_of_core (h : t.core = s.core) : t.stop = s.stop := (congrArg State.stop h :)
theorem State.responder_of_core (h : t.core = s.core) : t.responder = s.responder := (congrArg State.responder h :)
theorem State.clock_of_core (h : t.core = s.core) : t.clock = s.clock := (congrArg State.clock h :)
theorem State.role_of_core (h : t.core = s.core) : t.role = s.role := (congrArg State.role h :)
theorem State.me_of_core (h : t.core = s.core) : t.me = s.me := (congrArg State.me h :)
theorem State.settings_of_core (h : t.core = s.core) : t.settings = s.settings := (congrArg State.settings h :)

end

@[simp] theorem State.raise_core (b : NoticeBody) (s : State) : (s.raise b).core = s.core := rfl

@[simp] theorem State.raiseActivity_core (s : State) : s.raiseActivity.core = s.core := by
  unfold State.raiseActivity
  split <;> rfl

@[simp] theorem State.enterAct_core (st : ActState) (s : State) : (s.enterAct st).core = s.core :=
  State.raiseActivity_core _

@[simp] theorem State.discardContext_core (s : State) : s.discardContext.core = s.core := rfl
@[simp] theorem State.sendTag_core (c : TagCommand) (u : TagPurpose) (s : State) : (s.sendTag c u).core = s.core := rfl

@[simp] theorem State.clearActivity_core (q : Option Nat) (s : State) : (s.clearActivity q).core = s.core := rfl

/-! ## Releasing the identification (R64, R134) -/

/-- Discarding a context, with RELOCK or not, changes the identification controller and its port alone. -/
theorem State.relockAndDiscard_eq (s : State) :
    s.relockAndDiscard = { s with ident := Ident.reset, port := s.relockAndDiscard.port } := by
  unfold State.relockAndDiscard
  split <;> rfl

theorem State.releaseResult_eq (s : State) :
    s.releaseResult = { s with ident := s.releaseResult.ident, port := s.releaseResult.port } := by
  unfold State.releaseResult
  split
  · rw [State.relockAndDiscard_eq]
  · rfl

theorem State.releaseContext_eq (s : State) :
    s.releaseContext = { s with ident := s.releaseContext.ident, port := s.releaseContext.port } := by
  unfold State.releaseContext
  split
  · rw [State.relockAndDiscard_eq]
  · rfl

theorem State.releaseAtReceipt_eq (s : State) :
    s.releaseAtReceipt = { s with ident := s.releaseAtReceipt.ident, port := s.releaseAtReceipt.port } := by
  unfold State.releaseAtReceipt
  split
  · exact State.releaseContext_eq s
  · rfl

@[simp] theorem State.relockAndDiscard_core (s : State) : s.relockAndDiscard.core = s.core := by
  rw [State.relockAndDiscard_eq]; rfl
@[simp] theorem State.relockAndDiscard_ident (s : State) : s.relockAndDiscard.ident = Ident.reset := by
  rw [State.relockAndDiscard_eq]
@[simp] theorem State.releaseResult_core (s : State) : s.releaseResult.core = s.core := by
  rw [State.releaseResult_eq]; rfl
@[simp] theorem State.releaseResult_activity (s : State) : s.releaseResult.activity = s.activity := by
  rw [State.releaseResult_eq]
@[simp] theorem State.releaseContext_core (s : State) : s.releaseContext.core = s.core := by
  rw [State.releaseContext_eq]; rfl
@[simp] theorem State.releaseContext_activity (s : State) : s.releaseContext.activity = s.activity := by
  rw [State.releaseContext_eq]
@[simp] theorem State.releaseAtReceipt_core (s : State) : s.releaseAtReceipt.core = s.core := by
  rw [State.releaseAtReceipt_eq]; rfl
@[simp] theorem State.releaseAtReceipt_activity (s : State) : s.releaseAtReceipt.activity = s.activity := by
  rw [State.releaseAtReceipt_eq]

/-- A context that is released is gone. -/
theorem State.releaseContext_context (s : State) : s.releaseContext.ident.context = none := by
  unfold State.releaseContext
  split
  · rw [State.relockAndDiscard_ident]
    rfl
  case isFalse h => simpa using h

theorem State.releaseResult_context {s : State} (h : s.ident.context = none) :
    s.releaseResult.ident.context = none := by
  unfold State.releaseResult
  split
  · rw [State.relockAndDiscard_ident]
    rfl
  · exact h

theorem State.releaseAtReceipt_context {s : State} (h : s.role = some .receipt) :
    s.releaseAtReceipt.ident.context = none := by
  rw [State.releaseAtReceipt, h]
  exact s.releaseContext_context

/-! ## IDLE, REFUSED and FAULTED (R100, R104, R109, R112, R123) -/

@[simp] theorem State.toIdle_core (q : Option Nat) (s : State) : (s.toIdle q).core = s.core := by
  simp [State.toIdle]
@[simp] theorem State.toIdle_activity (q : Option Nat) (s : State) :
    (s.toIdle q).activity = { Activity.reset with preset := q, lastTank := s.activity.lastTank } := by
  simp [State.toIdle, State.clearActivity, Activity.reset]

@[simp] theorem State.refuse_core (r : Reason) (s : State) : (s.refuse r).core = s.core := by
  simp [State.refuse]
@[simp] theorem State.refuse_activity (r : Reason) (s : State) :
    (s.refuse r).activity = { s.activity with state := .refused r } := by
  simp [State.refuse]

@[simp] theorem State.refuseOpening_core (r : Reason) (s : State) : (s.refuseOpening r).core = s.core := by
  simp only [State.refuseOpening, State.refuse_core]
  rfl
@[simp] theorem State.refuseOpening_activity (r : Reason) (s : State) :
    (s.refuseOpening r).activity =
      { s.activity with state := .refused r, preset := none, pendingEnd := none } := by
  simp [State.refuseOpening]

@[simp] theorem State.enterFaultedValve_core (s : State) : s.enterFaultedValve.core = s.core := by
  simp only [State.enterFaultedValve, State.enterAct_core]
  rfl
@[simp] theorem State.enterFaultedValve_activity (s : State) :
    s.enterFaultedValve.activity = { s.activity with state := .faulted, faultPending := false } := by
  simp [State.enterFaultedValve]

/-! ## WRITEBACK and the end without it (R123, R138, R165, R166) -/

/-- The state that a write-back which has ended leads to. -/
def State.afterWriteback (s : State) : ActState :=
  if s.activity.faultPending then .faulted else if s.nozzle then .writeback else .idle

theorem State.checkWriteback_of_done {s : State} (hs : s.activity.state = .writeback)
    (hd : s.activity.writeBackDone = true) :
    s.checkWriteback =
      if s.activity.faultPending then s.enterFaultedValve else if s.nozzle then s else s.toIdle none := by
  simp [State.checkWriteback, hs, hd]

@[simp] theorem State.checkWriteback_core (s : State) : s.checkWriteback.core = s.core := by
  unfold State.checkWriteback
  split
  · split
    · simp
    · split
      · rfl
      · simp
  · rfl

theorem State.checkWriteback_state {s : State} (hs : s.activity.state = .writeback)
    (hd : s.activity.writeBackDone = true) : s.checkWriteback.activity.state = s.afterWriteback := by
  rw [State.checkWriteback_of_done hs hd, State.afterWriteback]
  by_cases hf : s.activity.faultPending = true
  · simp [hf]
  · by_cases hn : s.nozzle = true
    · simp [hf, hn, hs]
    · simp [hf, hn, Activity.reset]

/-- The state that a closing without a write-back leads to (R123, R138, R165, R166). -/
def State.afterClosing (s : State) : ActState :=
  if s.activity.faultPending = true then .faulted
  else if s.role ≠ some .receipt ∧ s.meter.cells.noz.output = true then .writeback else .idle

@[simp] theorem State.endWithoutWriteBack_core (s : State) : s.endWithoutWriteBack.core = s.core := by
  unfold State.endWithoutWriteBack
  dsimp only
  split
  · simp
  · split
    · simp
    · rw [State.checkWriteback_core, State.enterAct_core]
      exact State.releaseResult_core s

theorem State.endWithoutWriteBack_state (s : State) :
    s.endWithoutWriteBack.activity.state = s.afterClosing := by
  unfold State.endWithoutWriteBack State.afterClosing
  dsimp only
  rw [State.releaseResult_activity, State.role_of_core s.releaseResult_core]
  by_cases hf : s.activity.faultPending = true
  · simp [hf]
  · rw [if_neg hf, if_neg hf]
    split
    case h_1 hr => simp [hr, Activity.reset]
    case h_2 hr =>
      rw [State.checkWriteback_state (by simp) (by simp), State.afterWriteback]
      simp only [State.enterAct_activity, if_neg hf]
      refine ite_congr_of_iff ?_ rfl rfl
      rw [State.nozzle, State.enterAct_meter]
      show s.releaseResult.meter.cells.noz.output = true ↔ _
      rw [State.meter_of_core s.releaseResult_core]
      exact ⟨fun h => ⟨hr, h⟩, fun h => h.2⟩

end Sys2Proof.Machine
end

section
/-! Dropping out of service (R17, R20, R21, R28, R165, R166): what the blocks lose with the queues, and what is left. -/

namespace Sys2Proof.Machine

/-! ## What a block does as its frame is lost -/

/-- The stop path with no stop wanted. -/
def StopPath.off : StopPath := { wanted := false, byConsole := false }

/-- The state with what a block can change as its frame is lost taken out. -/
def State.shell (s : State) : State :=
  { s.core with supply := { s.supply with phase := .held }, stop := StopPath.off }

/-- The station is out of service: it is not admitted, and offers no STOP. -/
abbrev State.Out (s : State) : Prop := s.engine.admitted = false ∧ s.link.state ≠ .inService

/-- The activity's opening frame is lost (R109, R136). -/
abbrev State.LinkRefused (t : State) : Prop := t.activity.state = .refused .link ∧ t.activity.preset = none

/-- The activity's closing frame is lost: the record is held, and no write-back follows (R165, R166). -/
abbrev State.ClosingLost (s t : State) : Prop := t.activity.state = s.afterClosing ∧ t.supply.phase = .held

/-- What the blocks do, out of service, as they are told that frames of theirs are lost (R28). -/
structure State.Loses (s t : State) : Prop where
  rest : t.shell = s.shell
  held : s.supply.phase = .held → t.supply.phase = .held
  unwanted : s.stop = StopPath.off → t.stop = StopPath.off
  other : s.activity.state ≠ .opening → s.activity.state ≠ .closing → t.activity = s.activity
  opening : s.activity.state = .opening → t.activity = s.activity ∨ t.LinkRefused
  closing : s.activity.state = .closing → t.activity = s.activity ∨ s.ClosingLost t

theorem State.shell_of_core {s t : State} (h : t.core = s.core) : t.shell = s.shell := by
  unfold State.shell
  rw [h, State.supply_of_core h]

theorem State.afterClosing_ne_opening (s : State) : s.afterClosing ≠ .opening := by
  unfold State.afterClosing
  split
  · simp
  · split <;> simp

theorem State.afterClosing_ne_closing (s : State) : s.afterClosing ≠ .closing := by
  unfold State.afterClosing
  split
  · simp
  · split <;> simp

namespace State.Loses
variable {s x t : State}

theorem refl (s : State) : s.Loses s := ⟨rfl, id, id, fun _ _ => rfl, fun _ => .inl rfl, fun _ => .inl rfl⟩

theorem link (h : s.Loses t) : t.link = s.link := (congrArg State.link h.rest :)
theorem engine (h : s.Loses t) : t.engine = s.engine := (congrArg State.engine h.rest :)
theorem replica (h : s.Loses t) : t.replica = s.replica := (congrArg State.replica h.rest :)
theorem meter (h : s.Loses t) : t.meter = s.meter := (congrArg State.meter h.rest :)
theorem outputs (h : s.Loses t) : t.outputs = s.outputs := (congrArg State.outputs h.rest :)
theorem gauge (h : s.Loses t) : t.gauge = s.gauge := (congrArg State.gauge h.rest :)
theorem responder (h : s.Loses t) : t.responder = s.responder := (congrArg State.responder h.rest :)
theorem role (h : s.Loses t) : t.role = s.role := (congrArg State.role h.rest :)
theorem me (h : s.Loses t) : t.me = s.me := (congrArg State.me h.rest :)
theorem record (h : s.Loses t) : t.supply.record = s.supply.record :=
  (congrArg (fun u => u.supply.record) h.rest :)

theorem out (h : s.Loses t) (hs : s.Out) : t.Out := by
  obtain ⟨ha, hl⟩ := hs
  exact ⟨by rw [h.engine, ha], by rw [h.link]; exact hl⟩

theorem afterClosing (h : s.Loses x) (ha : x.activity = s.activity) : x.afterClosing = s.afterClosing := by
  unfold State.afterClosing
  rw [ha, h.role, h.meter]

/-- The opening frame is lost once. -/
theorem linkRefused (h : s.Loses t) (hs : s.LinkRefused) : t.LinkRefused := by
  obtain ⟨hstate, hpreset⟩ := hs
  have hother := h.other (by rw [hstate]; simp) (by rw [hstate]; simp)
  exact ⟨by rw [hother, hstate], by rw [hother, hpreset]⟩

/-- The closing frame is lost once. -/
theorem closingLost {u : State} (h : s.Loses t) (hs : u.ClosingLost s) : u.ClosingLost t := by
  obtain ⟨hstate, hphase⟩ := hs
  have hother := h.other (by rw [hstate]; exact u.afterClosing_ne_opening)
    (by rw [hstate]; exact u.afterClosing_ne_closing)
  exact ⟨by rw [hother, hstate], h.held hphase⟩

theorem trans (h : s.Loses x) (h' : x.Loses t) : s.Loses t where
  rest := h'.rest.trans h.rest
  held hs := h'.held (h.held hs)
  unwanted hs := h'.unwanted (h.unwanted hs)
  other ho hc := by
    have ha := h.other ho hc
    rw [h'.other (by rw [ha]; exact ho) (by rw [ha]; exact hc), ha]
  opening ho := by
    rcases h.opening ho with ha | hr
    · rw [← ha]
      exact h'.opening (by rw [ha]; exact ho)
    · exact .inr (h'.linkRefused hr)
  closing hc := by
    rcases h.closing hc with ha | hl
    · rw [← ha]
      rcases h'.closing (by rw [ha]; exact hc) with h1 | h1
      · exact .inl h1
      · exact .inr ⟨by rw [h1.1, h.afterClosing ha], h1.2⟩
    · exact .inr (h'.closingLost hl)

end State.Loses

/-- Out of service a record that becomes held stays held. -/
theorem State.holdRecord_of_out {s : State} (h : s.Out) : s.holdRecord = s.setPhase .held :=
  State.runRecovery_of_not (s := s.setPhase .held) (.inl h.1)

theorem State.setPhase_loses (s : State) : s.Loses (s.setPhase .held) where
  rest := rfl
  held _ := rfl
  unwanted h := h
  other _ _ := rfl
  opening _ := .inl rfl
  closing _ := .inl rfl

theorem State.refuseOpening_loses {s : State} (h : s.activity.state = .opening) :
    s.Loses (s.refuseOpening .link) where
  rest := State.shell_of_core (s.refuseOpening_core .link)
  held hs := by rw [State.supply_of_core (s.refuseOpening_core .link)]; exact hs
  unwanted hs := by rw [State.stop_of_core (s.refuseOpening_core .link)]; exact hs
  other ho _ := absurd h ho
  opening _ := .inr ⟨by simp, by simp⟩
  closing hc := by rw [h] at hc; cases hc

theorem State.closeUnsettled_of_out {s : State} (h : s.Out) :
    s.closeUnsettled = s.endWithoutWriteBack.setPhase .held := by
  refine State.holdRecord_of_out ⟨?_, ?_⟩
  · rw [State.engine_of_core s.endWithoutWriteBack_core]
    exact h.1
  · rw [State.link_of_core s.endWithoutWriteBack_core]
    exact h.2

theorem State.closeUnsettled_loses {s : State} (h : s.Out) (hc : s.activity.state = .closing) :
    s.Loses s.closeUnsettled := by
  rw [State.closeUnsettled_of_out h]
  exact {
    rest := ((s.endWithoutWriteBack.setPhase_loses).rest).trans (State.shell_of_core s.endWithoutWriteBack_core)
    held := fun _ => rfl
    unwanted := fun hs => by
      rw [State.setPhase_stop, State.stop_of_core s.endWithoutWriteBack_core]; exact hs
    other := fun _ h' => absurd hc h'
    opening := fun ho => by rw [hc] at ho; cases ho
    closing := fun _ => .inr ⟨s.endWithoutWriteBack_state, rfl⟩ }

/-! ## The frames that are lost -/

theorem State.activityFrameLost_open {s : State} {p : Payload}
    (hp : p.kind? = some .openFill ∨ p.kind? = some .deliveryOpen) :
    s.activityFrameLost p = if s.activity.state = .opening then s.refuseOpening .link else s := by
  rcases hp with hp | hp <;> rw [State.activityFrameLost, hp]

theorem State.activityFrameLost_close {s : State} {p : Payload}
    (hp : p.kind? = some .close ∨ p.kind? = some .deliveryClose) :
    s.activityFrameLost p = if s.activity.state = .closing then s.closeUnsettled else s.holdRecord := by
  rcases hp with hp | hp <;> rw [State.activityFrameLost, hp]

theorem State.activityFrameLost_loses {s : State} (h : s.Out) (p : Payload) : s.Loses (s.activityFrameLost p) := by
  have hopen : s.Loses (if s.activity.state = .opening then s.refuseOpening .link else s) := by
    split
    case isTrue ho => exact State.refuseOpening_loses ho
    · exact .refl s
  have hclose : s.Loses (if s.activity.state = .closing then s.closeUnsettled else s.holdRecord) := by
    split
    case isTrue hc => exact State.closeUnsettled_loses h hc
    · rw [State.holdRecord_of_out h]
      exact s.setPhase_loses
  unfold State.activityFrameLost
  split
  · exact hopen
  · exact hopen
  · exact hclose
  · exact hclose
  · rw [State.holdRecord_of_out h]
    exact s.setPhase_loses
  · exact .refl s

theorem State.offerStop_of_out {s : State} (h : s.link.state ≠ .inService) : s.offerStop = s := by
  simp [State.offerStop, State.inService, h]

theorem State.stopPathOutcome_stop_left {s : State} (h : s.link.state ≠ .inService) (r : Byte) :
    s.stopPathOutcome (.stop r) .leftService = { s with stop := StopPath.off } :=
  State.offerStop_of_out h

theorem State.stopPathOutcome_loses {s : State} (h : s.link.state ≠ .inService) (p : Payload) :
    s.Loses (s.stopPathOutcome p .leftService) := by
  cases p with
  | stop r =>
    rw [State.stopPathOutcome_stop_left h]
    exact ⟨rfl, id, fun _ => rfl, fun _ _ => rfl, fun _ => .inl rfl, fun _ => .inl rfl⟩
  | _ =>
    have heq : s.offerStop = s := State.offerStop_of_out h
    simp only [State.stopPathOutcome, heq]
    exact .refl s

theorem State.tellLeft_loses {s : State} (h : s.Out) (o : Origin) (p : Payload) : s.Loses (s.tellLeft o p) := by
  unfold State.tellLeft
  split
  · exact State.activityFrameLost_loses h p
  · exact State.stopPathOutcome_loses h.2 p
  · exact .refl s

/-- Telling blocks one after another. -/
theorem foldl_loses {α : Type} {f : State → α → State}
    (hf : ∀ (s : State) a, s.Out → s.Loses (f s a)) (l : List α)
    {s : State} (h : s.Out) : s.Loses (l.foldl f s) := by
  induction l generalizing s with
  | nil => exact .refl s
  | cons a l ih => exact (hf s a h).trans (ih ((hf s a h).out h))

/-- Among the blocks told one after another, one is told in between. -/
theorem foldl_loses_mem {α : Type} {f : State → α → State}
    (hf : ∀ (s : State) a, s.Out → s.Loses (f s a)) {l : List α}
    {a : α} (ha : a ∈ l) {s : State} (h : s.Out) :
    ∃ x, x.Out ∧ s.Loses x ∧ (f x a).Loses (l.foldl f s) := by
  obtain ⟨l₁, l₂, rfl⟩ := List.append_of_mem ha
  rw [List.foldl_append, List.foldl_cons]
  have hx := foldl_loses hf l₁ h
  exact ⟨_, hx.out h, hx, foldl_loses hf l₂ ((hf _ a (hx.out h)).out (hx.out h))⟩

/-- What is told in between, at a station that is out of service. -/
def State.TellsOf (s t : State) (f : State → State) : Prop := ∃ x, x.Out ∧ s.Loses x ∧ (f x).Loses t

/-- The blocks of two lists of frames are told of them. -/
def State.tellQueues (tx : List TxEntry) (kept : List KeptFrame) (s : State) : State :=
  kept.foldl (fun s e => s.tellLeft e.origin e.payload) (tx.foldl (fun s e => s.tellLeft e.origin e.payload) s)

theorem State.tellAllLeft_eq (tx : List TxEntry) (kept : List KeptFrame) (own : List Machine.Frame) (s : State) :
    s.tellAllLeft tx kept own = own.foldl (fun s f => s.tellLost f) (s.tellQueues tx kept) := rfl

theorem tellEntry_loses (s : State) (e : TxEntry) (h : s.Out) : s.Loses (s.tellLeft e.origin e.payload) :=
  State.tellLeft_loses h e.origin e.payload

theorem tellKept_loses (s : State) (e : KeptFrame) (h : s.Out) : s.Loses (s.tellLeft e.origin e.payload) :=
  State.tellLeft_loses h e.origin e.payload

theorem tellLost_loses (s : State) (f : Machine.Frame) (h : s.Out) : s.Loses (s.tellLost f) :=
  State.activityFrameLost_loses h f.payload

section
variable {s : State} (h : s.Out) (tx : List TxEntry) (kept : List KeptFrame) (own : List Machine.Frame)
include h

theorem State.tellQueues_loses : s.Loses (s.tellQueues tx kept) := by
  have htx := foldl_loses tellEntry_loses tx h
  exact htx.trans (foldl_loses tellKept_loses kept (htx.out h))

theorem State.tellAllLeft_loses : s.Loses (s.tellAllLeft tx kept own) := by
  have hq := State.tellQueues_loses h tx kept
  exact hq.trans (foldl_loses tellLost_loses own (hq.out h))

/-- The block of a queued frame is told of it. -/
theorem State.tellAllLeft_tx {e : TxEntry} (he : e ∈ tx) :
    s.TellsOf (s.tellAllLeft tx kept own) (State.tellLeft e.origin e.payload) := by
  have htx := foldl_loses tellEntry_loses tx h
  obtain ⟨x, hx, hsx, hxt⟩ := foldl_loses_mem tellEntry_loses he h
  have hkept := foldl_loses tellKept_loses kept (htx.out h)
  exact ⟨x, hx, hsx, (hxt.trans hkept).trans (foldl_loses tellLost_loses own ((htx.trans hkept).out h))⟩

/-- The activity controller is told of an own frame that waited to be applied. -/
theorem State.tellAllLeft_own {f : Machine.Frame} (hf : f ∈ own) :
    s.TellsOf (s.tellAllLeft tx kept own) (State.activityFrameLost f.payload) := by
  have hq := State.tellQueues_loses h tx kept
  obtain ⟨x, hx, hsx, hxt⟩ := foldl_loses_mem tellLost_loses hf (hq.out h)
  exact ⟨x, hx, hq.trans hsx, hxt⟩

end

namespace State.TellsOf
variable {s t : State}

/-- The opening frame is lost in OPENING. -/
theorem linkRefused {p : Payload} (h : s.TellsOf t (State.activityFrameLost p))
    (hp : p.kind? = some .openFill ∨ p.kind? = some .deliveryOpen) (ho : s.activity.state = .opening) :
    t.LinkRefused := by
  obtain ⟨x, hx, hsx, hxt⟩ := h
  refine hxt.linkRefused ?_
  rcases hsx.opening ho with ha | hr
  · rw [State.activityFrameLost_open hp, if_pos (by rw [ha]; exact ho)]
    exact ⟨by simp, by simp⟩
  · exact (State.activityFrameLost_loses hx p).linkRefused hr

/-- The closing frame is lost in CLOSING. -/
theorem closingLost {p : Payload} (h : s.TellsOf t (State.activityFrameLost p))
    (hp : p.kind? = some .close ∨ p.kind? = some .deliveryClose) (hc : s.activity.state = .closing) :
    s.ClosingLost t := by
  obtain ⟨x, hx, hsx, hxt⟩ := h
  refine hxt.closingLost ?_
  rcases hsx.closing hc with ha | hl
  · have hcx : x.activity.state = .closing := by rw [ha]; exact hc
    rw [State.activityFrameLost_close hp, if_pos hcx, State.closeUnsettled_of_out hx]
    exact ⟨by rw [← hsx.afterClosing ha]; exact x.endWithoutWriteBack_state, rfl⟩
  · exact (State.activityFrameLost_loses hx p).closingLost hl

theorem unwanted {r : Byte} (h : s.TellsOf t (State.stopPathOutcome (.stop r) .leftService)) :
    t.stop = StopPath.off := by
  obtain ⟨x, hx, _, hxt⟩ := h
  refine hxt.unwanted ?_
  rw [State.stopPathOutcome_stop_left hx.2]

end State.TellsOf

/-! ## Dropping out -/

/-- The queues are empty and the link state is changed; a metered activity is cut off. -/
def State.dropped (st : LinkState) (r : Reason) (s : State) : State :=
  let s' := s.dropQueues.setLink st r
  if s.inService then s'.activityLinkLost else s'

theorem State.activityLinkLost_link (s : State) : s.activityLinkLost.link = s.link := by
  unfold State.activityLinkLost
  split <;> simp [State.stopWith, State.outputsOff, State.modRecord]

theorem State.activityLinkLost_engine (s : State) : s.activityLinkLost.engine = s.engine := by
  unfold State.activityLinkLost
  split <;> (try rfl) <;> exact (congrArg State.engine (State.enterAct_core _ _) :)

end Sys2Proof.Machine
end

section
/-! The station drops out of service (R17, R20, R21, R165, R166): the link engine and the replica engine as it leaves
them, and what the blocks have lost. -/

namespace Sys2Proof.Machine

/-! ## The link engine and the replica engine -/

/-- The link engine out of service: nothing waits, and the slots of a census are read on, not answered. -/
def Link.dropped (st : LinkState) (r : Reason) (l : Link) : Link :=
  { l with
    state := st, reason := r, voidRun := 0, tx := [], kept := [], wire := none, inbound := [], censusTimer := none
    slots := l.slots.map fun w => { w with answered := false, queue := false } }

/-- The replica engine out of service. -/
def Engine.dropped (st : LinkState) (e : Engine) : Engine :=
  Engine.onLinkState
    { e with
      freeze := false, catchUp := [], deferred := [], admitted := false, leavePending := false, headTimer := none,
      joinTimer := none, roundTimer := none, sealTimer := none, join := none, round := none, stream := none,
      abortTo := none } st

theorem State.dropped_link (st : LinkState) (r : Reason) (s : State) : (s.dropped st r).link = s.link.dropped st r := by
  unfold State.dropped
  split
  · exact State.activityLinkLost_link _
  · rfl

theorem State.dropped_engine (st : LinkState) (r : Reason) (s : State) :
    (s.dropped st r).engine = s.engine.dropped st := by
  unfold State.dropped
  split
  · exact State.activityLinkLost_engine _
  · rfl

theorem State.activityLinkLost_replica (s : State) : s.activityLinkLost.replica = s.replica := by
  unfold State.activityLinkLost
  split <;> (try rfl) <;> exact (congrArg State.replica (State.enterAct_core _ _) :)

theorem State.dropped_replica (st : LinkState) (r : Reason) (s : State) : (s.dropped st r).replica = s.replica := by
  unfold State.dropped
  split
  · exact State.activityLinkLost_replica _
  · rfl

theorem Engine.dropped_admitted (st : LinkState) (e : Engine) : (e.dropped st).admitted = false := by
  cases st <;> rfl

theorem Engine.dropped_leavePending (st : LinkState) (e : Engine) : (e.dropped st).leavePending = false := by
  cases st <;> rfl

theorem State.dropped_out {st : LinkState} (r : Reason) (s : State) (hst : st ≠ .inService) : (s.dropped st r).Out := by
  refine ⟨?_, ?_⟩
  · rw [State.dropped_engine]
    exact Engine.dropped_admitted st _
  · rw [State.dropped_link]
    exact hst

theorem State.activityLinkLost_settings (s : State) : s.activityLinkLost.settings = s.settings := by
  unfold State.activityLinkLost
  split <;> (try rfl) <;> exact (congrArg State.settings (State.enterAct_core _ _) :)

theorem State.dropped_settings (st : LinkState) (r : Reason) (s : State) :
    (s.dropped st r).settings = s.settings := by
  unfold State.dropped
  split
  · exact State.activityLinkLost_settings _
  · rfl

theorem State.activityLinkLost_meter (s : State) : s.activityLinkLost.meter = s.meter := by
  unfold State.activityLinkLost
  split <;> simp

theorem State.dropped_meter (st : LinkState) (r : Reason) (s : State) : (s.dropped st r).meter = s.meter := by
  unfold State.dropped
  split
  · exact State.activityLinkLost_meter _
  · rfl

theorem State.activityLinkLost_supply {s : State} (hf : s.activity.state.flows = false) :
    s.activityLinkLost.supply = s.supply := by
  unfold State.activityLinkLost
  split
  case h_1 h => rw [h] at hf; cases hf
  case h_2 h => rw [h] at hf; cases hf
  · rfl
  · rfl

theorem State.dropped_supply {st : LinkState} {r : Reason} {s : State} (hf : s.activity.state.flows = false) :
    (s.dropped st r).supply = s.supply := by
  unfold State.dropped
  split
  · exact State.activityLinkLost_supply hf
  · rfl

/-- A state that does not flow meets the loss of the link as it is (R165, R166). -/
theorem State.activityLinkLost_of_rest {s : State} (hf : s.activity.state.flows = false)
    (hs : s.activity.state ≠ .stopping) : s.activityLinkLost = s := by
  unfold State.activityLinkLost
  split
  case h_1 h => rw [h] at hf; cases hf
  case h_2 h => rw [h] at hf; cases hf
  case h_3 h => exact absurd h hs
  · rfl

theorem State.dropped_of_rest {st : LinkState} {r : Reason} {s : State} (hf : s.activity.state.flows = false)
    (hs : s.activity.state ≠ .stopping) : s.dropped st r = s.dropQueues.setLink st r := by
  unfold State.dropped
  split
  · exact State.activityLinkLost_of_rest hf hs
  · rfl

/-! ## What is left -/

/-- The blocks have been told of what they lose. -/
def State.told (st : LinkState) (r : Reason) (s : State) : State :=
  (s.dropped st r).tellAllLeft s.link.tx s.link.kept s.ownFrames

section
variable {st : LinkState} (r : Reason) (s : State) (hst : st ≠ .inService)
include hst

theorem State.told_loses : (s.dropped st r).Loses (s.told st r) :=
  State.tellAllLeft_loses (s.dropped_out r hst) _ _ _

theorem State.told_engine : (s.told st r).engine = s.engine.dropped st := by
  rw [(s.told_loses r hst).engine, State.dropped_engine]

theorem State.told_settings : (s.told st r).settings = s.settings :=
  (congrArg State.settings (s.told_loses r hst).rest :).trans (s.dropped_settings st r)

omit hst in
theorem State.dropOut_def : s.dropOut st r =
    let u := if (s.engine.leavePending && r != .left && !s.writesLeave) = true then (s.told st r).leaveFailed
      else s.told st r
    if s.inService = true then u.responderFree.gaugeLinkLost else u.responderFree := rfl

/-- With the blocks told, the responder and the gauge unit fall idle, and the notices follow. -/
theorem State.dropOut_eq :
    s.dropOut st r = { s.told st r with
      responder := { context := none, waitingBusy := none }
      gauge := (s.dropOut st r).gauge
      console := { (s.told st r).console with raised := (s.dropOut st r).console.raised } } := by
  have hpending : (s.told st r).engine.leavePending = false := by
    rw [s.told_engine r hst]
    exact Engine.dropped_leavePending st _
  have hfailed : (s.told st r).leaveFailed = { s.told st r with console :=
      { (s.told st r).console with raised := (s.told st r).leaveFailed.console.raised } } := by
    unfold State.leaveFailed State.raise
    rw [← hpending]
  have hu : ∀ b : Bool, (if b = true then (s.told st r).leaveFailed else s.told st r) = { s.told st r with
      console := { (s.told st r).console with
        raised := (if b = true then (s.told st r).leaveFailed else s.told st r).console.raised } } := by
    intro b
    cases b
    · rfl
    · exact hfailed
  have hg : ∀ x : State, x.gaugeLinkLost = { x with
      gauge := x.gaugeLinkLost.gauge
      console := { x.console with raised := x.gaugeLinkLost.console.raised } } := by
    intro x
    unfold State.gaugeLinkLost
    dsimp only
    split <;> rfl
  rw [State.dropOut_def]
  dsimp only
  split
  · rw [hg, hu]
    rfl
  · rw [hu]
    rfl

theorem State.dropOut_link : (s.dropOut st r).link = s.link.dropped st r := by
  rw [s.dropOut_eq r hst]
  exact (s.told_loses r hst).link.trans (s.dropped_link st r)

theorem State.dropOut_engine : (s.dropOut st r).engine = s.engine.dropped st := by
  rw [s.dropOut_eq r hst]
  exact s.told_engine r hst

theorem State.dropOut_replica : (s.dropOut st r).replica = s.replica := by
  rw [s.dropOut_eq r hst]
  exact (s.told_loses r hst).replica.trans (s.dropped_replica st r)

theorem State.dropOut_responder : (s.dropOut st r).responder = { context := none, waitingBusy := none } := by
  rw [s.dropOut_eq r hst]

theorem State.dropOut_activity : (s.dropOut st r).activity = (s.told st r).activity := by
  rw [s.dropOut_eq r hst]

theorem State.dropOut_supply : (s.dropOut st r).supply = (s.told st r).supply := by
  rw [s.dropOut_eq r hst]

theorem State.dropOut_settings : (s.dropOut st r).settings = s.settings := by
  have hsettings := s.told_settings r hst
  rw [s.dropOut_eq r hst, ← hsettings]
  rfl

theorem State.dropOut_me : (s.dropOut st r).me = s.me := by
  rw [State.me, s.dropOut_settings r hst, State.me]

theorem State.dropOut_role : (s.dropOut st r).role = s.role := by
  rw [State.role, s.dropOut_settings r hst, State.role]

theorem State.dropOut_meter : (s.dropOut st r).meter = s.meter := by
  rw [s.dropOut_eq r hst]
  exact (s.told_loses r hst).meter.trans (s.dropped_meter st r)

/-- The record of an activity that does not flow stands. -/
theorem State.dropOut_record (hf : s.activity.state.flows = false) :
    (s.dropOut st r).supply.record = s.supply.record := by
  rw [s.dropOut_eq r hst]
  exact (s.told_loses r hst).record.trans (congrArg Supply.record (State.dropped_supply hf))

/-- An activity in CLOSING waits on, or has lost its closing frame. -/
theorem State.dropOut_closing (hc : s.activity.state = .closing) :
    (s.dropOut st r).activity = s.activity ∨ s.ClosingLost (s.dropOut st r) := by
  have hdropped := State.dropped_of_rest (st := st) (r := r) (s := s) (by rw [hc]; rfl) (by rw [hc]; simp)
  have hclosing := (s.told_loses r hst).closing (by rw [hdropped]; exact hc)
  rw [hdropped] at hclosing
  unfold State.ClosingLost at hclosing ⊢
  rw [s.dropOut_activity r hst, s.dropOut_supply r hst]
  exact hclosing

theorem State.dropOut_outputs : (s.dropOut st r).outputs = (s.dropped st r).outputs := by
  rw [s.dropOut_eq r hst]
  exact (s.told_loses r hst).outputs

theorem State.dropOut_stop : (s.dropOut st r).stop = (s.told st r).stop := by
  rw [s.dropOut_eq r hst]

/-- Nothing of what the station took part in is left. -/
theorem State.dropOut_outWith : (s.dropOut st r).OutWith st r := by
  unfold State.OutWith
  rw [s.dropOut_link r hst, s.dropOut_engine r hst, s.dropOut_responder r hst]
  refine ⟨⟨rfl, rfl, rfl, rfl, rfl, rfl, rfl, rfl⟩, ?_, rfl⟩
  cases st <;> simp [Engine.dropped, Engine.onLinkState]

omit hst in
/-- The gauge unit falls idle where the station was in service. -/
theorem State.dropOut_gauge (hs : s.link.state = .inService) :
    (s.dropOut st r).gauge.state = .idle ∧ (s.dropOut st r).gauge.periodTimer = none := by
  have hin : s.inService = true := by rw [State.inService, hs]; rfl
  have hg : ∀ x : State, x.gaugeLinkLost.gauge.state = .idle ∧ x.gaugeLinkLost.gauge.periodTimer = none := by
    intro x
    unfold State.gaugeLinkLost
    dsimp only
    split
    case isTrue h => exact ⟨h, rfl⟩
    · exact ⟨rfl, rfl⟩
  rw [State.dropOut_def]
  dsimp only
  rw [if_pos hin]
  exact hg _

/-- A metered activity is cut off, and the gauge unit falls idle (R143, R165). -/
theorem State.dropOut_cutOff (hs : s.link.state = .inService) : s.CutOff (s.dropOut st r) := by
  have hin : s.inService = true := by rw [State.inService, hs]; rfl
  refine ⟨fun hf => ?_, s.dropOut_gauge r hs⟩
  have hdropped : s.dropped st r =
      State.stopWith .linkLost { s.dropQueues.setLink st r with
        activity := { s.activity with linkLost := true } } := by
    unfold State.dropped
    rw [if_pos hin]
    rcases hf with h | h <;> simp [State.activityLinkLost, h]
  have hact : (s.told st r).activity = (s.dropped st r).activity := by
    refine (s.told_loses r hst).other ?_ ?_ <;> rw [hdropped, State.stopWith_activity] <;> simp
  rw [s.dropOut_activity r hst, s.dropOut_outputs r hst, hact, hdropped]
  simp

/-- A frame that the block of the activity has queued, or has accepted and not yet applied, is told of. -/
theorem State.told_activity {k : Kind} (h : (∃ e ∈ s.link.tx, e.origin = .activity ∧ e.payload.kind? = some k)
      ∨ ∃ f ∈ s.link.inbound ++ s.engine.catchUp ++ s.engine.deferred, f.sender = s.me ∧ f.payload.kind? = some k) :
    ∃ p : Payload, p.kind? = some k ∧ (s.dropped st r).TellsOf (s.told st r) (State.activityFrameLost p) := by
  have hout := s.dropped_out r hst
  rcases h with ⟨e, he, horigin, hkind⟩ | ⟨f, hf, hsender, hkind⟩
  · have := State.tellAllLeft_tx hout s.link.tx s.link.kept s.ownFrames he
    rw [horigin] at this
    exact ⟨e.payload, hkind, this⟩
  · have hown : f ∈ s.ownFrames := List.mem_filter.mpr ⟨hf, by simp [hsender]⟩
    exact ⟨f.payload, hkind, State.tellAllLeft_own hout s.link.tx s.link.kept s.ownFrames hown⟩

/-- What the activity controller and the stop path lose with the queues (R109, R136, R165, R166, R171). -/
theorem State.dropOut_losesFrames : s.LosesFrames (s.dropOut st r) := by
  refine ⟨fun ho hw => ?_, fun hc hw => ?_, fun ⟨e, he, horigin, n, hp⟩ => ?_⟩
  · have hdropped := State.dropped_of_rest (st := st) (r := r) (s := s) (by rw [ho]; rfl) (by rw [ho]; simp)
    have hopening : (s.dropped st r).activity.state = .opening := by rw [hdropped]; exact ho
    rw [s.dropOut_activity r hst]
    rcases hw with hw | hw
    all_goals obtain ⟨p, hkind, htold⟩ := s.told_activity r hst hw
    · exact htold.linkRefused (.inl hkind) hopening
    · exact htold.linkRefused (.inr hkind) hopening
  · have hdropped := State.dropped_of_rest (st := st) (r := r) (s := s) (by rw [hc]; rfl) (by rw [hc]; simp)
    have hclosing : (s.dropped st r).activity.state = .closing := by rw [hdropped]; exact hc
    have hafter : (s.dropped st r).afterClosing = s.afterClosing := by rw [hdropped]; rfl
    have hrecord : (s.told st r).supply.record = s.supply.record := by
      rw [(s.told_loses r hst).record, hdropped]
      rfl
    have hlost : (s.dropped st r).ClosingLost (s.told st r) := by
      rcases hw with hw | hw
      all_goals obtain ⟨p, hkind, htold⟩ := s.told_activity r hst hw
      · exact htold.closingLost (.inl hkind) hclosing
      · exact htold.closingLost (.inr hkind) hclosing
    obtain ⟨hstate, hphase⟩ := hlost
    rw [s.dropOut_activity r hst, s.dropOut_supply r hst]
    exact ⟨hrecord, hphase, by rw [hstate, hafter]; rfl⟩
  · rw [s.dropOut_stop r hst]
    have := State.tellAllLeft_tx (s.dropped_out r hst) s.link.tx s.link.kept s.ownFrames he
    rw [horigin, hp] at this
    exact State.TellsOf.unwanted (r := n) this

end

/-! ## Abandoning a join (R41) -/

theorem State.abandonJoin_outWith (r : Reason) (s : State) : (s.abandonJoin r).OutWith .listening r :=
  s.dropOut_outWith r (by simp)

theorem State.abandonJoin_replica (r : Reason) (s : State) : (s.abandonJoin r).replica = s.replica :=
  s.dropOut_replica r (by simp)

theorem State.abandonJoin_holdOff (r : Reason) (s : State) :
    (s.abandonJoin r).engine.holdOff = some (1000000 + 50000 * s.me) := by
  have := s.dropOut_me (st := .listening) r (by simp)
  simp only [State.abandonJoin, State.holdOffPeriod, this]

end Sys2Proof.Machine
end

section
/-! Receiving (R3, R7, R8, R13): the end of a frame's window at a station that follows it; what faults a station (R6,
R22, R25), and what takes it out of service (R8, R9, R13). -/

namespace Sys2Proof.Machine

/-! ## Commands -/

/-- At a station that lives a command comes to its effect, its notices entered. -/
theorem exec_of_live {c : Instr} {f : State → State} {s : State} (hc : exec c s = .next (s.act f)) (h : s.Live) :
    exec c s = .next (f s).commitNotices := by
  rw [hc, act_of_live _ h]

/-- A command that comes to `y`, its notices entered. -/
theorem exec_of_eq {c : Instr} {f : State → State} {s y : State} (hc : exec c s = .next (s.act f)) (h : s.Live)
    (hf : f s = y) : exec c s = .next y.commitNotices := by
  rw [exec_of_live hc h, hf]

/-! ## Faults and receive errors (R2, R6, R7, R19, R22, R25) -/

theorem State.enterFaulted_outWith (r : Reason) (s : State) : (s.enterFaulted r).OutWith .faulted r :=
  s.dropOut_outWith r (by simp)

theorem State.enterFaulted_replica (r : Reason) (s : State) : (s.enterFaulted r).replica = s.replica :=
  s.dropOut_replica r (by simp)

theorem State.enterFaulted_link (r : Reason) (s : State) : (s.enterFaulted r).link = s.link.dropped .faulted r :=
  s.dropOut_link r (by simp)

theorem Link.countError_of_online {l : Link} (e : RxError) (h : l.state ≠ .offline) :
    l.countError e = { l with errors := l.errors.add e } := if_neg h

theorem State.follows_of_receives {s : State} (h : s.Receives) : s.follows = true := by
  obtain ⟨_, hoffline, hwire, hslots⟩ := h
  simp [State.follows, hoffline, hwire, hslots]

theorem State.losePlace_of_online {s : State} (e : RxError) (h : s.link.state ≠ .offline) :
    s.losePlace e = { s with link := { s.link with errors := s.link.errors.add e, lostPlace := true } } := by
  rw [State.losePlace, Link.countError_of_online e h]

/-- The write that reaches the sequence limit ends with the fault (R25). -/
theorem State.writeDone_of_limit {w : Writing} (s : State) (h : w.limit = true) :
    (s.writeDone w).OutWith .faulted .sequenceLimit ∧ (s.writeDone w).engine.writing = none
      ∧ (s.writeDone w).replica = w.replica ∧ (s.writeDone w).limitReached = true := by
  have hafter : State.Keeps { counts := true, starts := true } _ (s.writeDone w) :=
    .writeDone_after (.refl _ _) rfl rfl
  obtain ⟨htables, hlimit⟩ := hafter.tables rfl
  refine ⟨?_, hafter.writing rfl, htables, by rw [hlimit, h, Bool.or_true]⟩
  rw [State.writeDone]
  dsimp only
  rw [if_pos h]
  exact State.enterFaulted_outWith _ _

/-- Settles O30. -/
theorem linkFaultsAndErrors : Obligations.LinkFaultsAndErrors := by
  refine ⟨⟨fun s w rival hlive hw hread => ?_, fun s w map n time hlive hw hanswered hp hmap => ?_,
    fun c hc s w hlive hw hlimit => ?_⟩, fun s rx e hrec hrx => ?_, fun s rx e hrec hrx => ?_⟩
  · have heq : s.numberClash rival = State.enterFaulted .numberClash { s with link := s.link.countError .clash } := by
      simp only [State.numberClash, hw, hread, if_true]
    refine ⟨_, exec_of_eq (f := State.numberClash rival) rfl hlive heq, State.enterFaulted_outWith _ _, ?_,
      State.enterFaulted_replica _ _⟩
    rw [State.commitNotices_link, State.enterFaulted_link]
    rfl
  · have hsilent : (w.answered && w.frame.payload.callsPresent && !map.getLsbD s.me) = true := by
      rw [hanswered, hp, hmap]
      rfl
    have heq : s.slotsEnd map = State.enterFaulted .ownSlotSilent { s with link := { s.link with slots := none } } := by
      rw [State.slotsEnd_of_slots map hw, if_pos hsilent]
    refine ⟨_, exec_of_eq (f := State.slotsEnd map) rfl hlive heq, State.enterFaulted_outWith _ _, ?_,
      State.enterFaulted_replica _ _⟩
    rw [State.commitNotices_link, State.enterFaulted_link]
    rfl
  · have hdone := s.writeDone_of_limit hlimit
    simp only [List.mem_cons, List.not_mem_nil, or_false] at hc
    rcases hc with rfl | rfl
    · exact ⟨_, exec_of_eq (f := State.completeWrite) rfl hlive (by rw [State.completeWrite, hw]), hdone⟩
    · exact ⟨_, exec_of_eq (f := State.completeAtLimit) rfl hlive
        (by rw [State.completeAtLimit, hw]; exact if_pos hlimit), hdone⟩
  · refine exec_of_quiet (f := State.frameAbandoned rx) rfl hrec.1 ?_ rfl
    rw [State.frameAbandoned, if_pos (State.follows_of_receives hrec), hrx]
    exact State.losePlace_of_online e hrec.2.1
  · refine exec_of_quiet (f := State.truncatedFrame rx) rfl hrec.1 ?_ rfl
    rw [State.truncatedFrame, if_pos (State.follows_of_receives hrec), hrx]
    exact State.losePlace_of_online e hrec.2.1

/-! ## A frame followed to its window (R3, R7, R34) -/

/-- The listening timer after a frame was followed to its end. -/
def Engine.heardTimer (e : Engine) : Timer := if e.listenTimer.isSome then some 4000000 else e.listenTimer

theorem State.restartListening_eq (s : State) :
    s.restartListening = { s with engine := { s.engine with listenTimer := s.engine.heardTimer } } := by
  unfold State.restartListening Engine.heardTimer
  split <;> rfl

theorem State.followed_eq {s : State} (r : RxFrame) (h : s.link.state ≠ .offline) :
    s.followed r = { s with
      engine := { s.engine with listenTimer := s.engine.heardTimer }, link := s.followedLink r } := by
  unfold State.followed State.followedLink
  rw [State.restartListening_eq]
  cases r.error with
  | none => rfl
  | some e => simp only [Link.countError_of_online e h]

/-- What the station drives in the window of a frame does not turn on how the frame ended. -/
theorem State.followed_drive {s : State} (r : RxFrame) (h : s.link.state ≠ .offline) :
    (s.followed r).drive r = s.drive r := by
  rw [State.followed_eq r h]
  rfl

theorem State.window_of_receives {s : State} {rx : List Bit} {r : RxFrame} {k : Category} (x : Slots)
    (h : s.Receives) (hr : receive rx = .window r) (hk : r.frame.payload.category = k) :
    s.window k rx x = s.receiverWindow r x := by
  rw [State.window, h.2.2.1]
  dsimp only
  rw [if_pos (State.follows_of_receives h), hr]
  exact if_pos hk

/-- At the window of a frame that the station voids, its void is counted. -/
theorem State.receiverWindow_of_void {s : State} {r : RxFrame} (x : Slots) (h : (s.followed r).drive r = .void) :
    s.receiverWindow r x = (s.followed r).countVoids .void := by
  rw [State.receiverWindow]
  simp only [h, if_true]

/-- At the window of a replica frame that the station does not void. -/
theorem State.receiverWindow_of_replica {s : State} {r : RxFrame} {d : Drive} (x : Slots)
    (hd : (s.followed r).drive r = d) (hv : d ≠ .void) (hk : r.frame.payload.category = .replica) :
    s.receiverWindow r x = ((s.followed r).countVoids d).receiverReplica r d (busSlots x d) := by
  rw [State.receiverWindow]
  simp only [hd, if_neg hv, hk]

theorem State.drive_of_inService {s : State} {r : RxFrame} (hk : r.frame.payload.category = .replica)
    (hs : s.link.state = .inService) : s.drive r = s.link.replicaDrive r := by
  rw [State.drive, hk, hs]

theorem Link.mustVoid_iff {l : Link} {r : RxFrame} :
    l.mustVoid r = true ↔ r.error.isSome = true ∨ 8 ≤ l.inbound.length := by
  simp [Link.mustVoid]

theorem Link.replicaDrive_of_mustVoid {l : Link} {r : RxFrame} (h : l.mustVoid r = true) : l.replicaDrive r = .void :=
  if_pos h

/-- The eighth void in a row takes a station out of service (R13). -/
theorem State.countVoids_eighth {s : State} (h : s.link.voidRun = 7) (hs : s.link.state = .inService) :
    s.countVoids .void = s.leaveService .receiveFailure := by
  have hin : s.inService = true := by rw [State.inService, hs]; rfl
  simp only [State.countVoids, h, hin]
  rfl

/-! ## Leaving service (R8, R9, R13, R21, R22) -/

/-- What the station comes to as it leaves service from a state that is as `s` but for the timer of LISTENING, the error
counts and its place on the bus. -/
theorem State.leaveService_spec {s y : State} {l : Link} {tm : Timer} (r : Reason)
    (hy : y = { s with engine := { s.engine with listenTimer := tm }, link := l }) (hstate : l.state = .inService)
    (htx : l.tx = s.link.tx) (hinbound : l.inbound = s.link.inbound) :
    (y.leaveService r).OutWith .listening r ∧ s.CutOff (y.leaveService r) ∧ s.LosesFrames (y.leaveService r)
      ∧ (y.leaveService r).replica = s.replica := by
  have hout := y.dropOut_outWith (st := .listening) r (by simp)
  have hcut := y.dropOut_cutOff (st := .listening) r (by simp) (by rw [hy]; exact hstate)
  have hloses := y.dropOut_losesFrames (st := .listening) r (by simp)
  have hreplica := y.dropOut_replica (st := .listening) r (by simp)
  subst hy
  refine ⟨hout, hcut, ?_, hreplica⟩
  simp only [State.LosesFrames, htx, hinbound] at hloses ⊢
  exact hloses

/-- Settles O33. -/
theorem leavingService : Obligations.LeavingService := by
  refine ⟨fun s rx x r hrec hs hrun hr hk hbad c hc => ?_, fun s rx x f hrec hs hr hk hroom hjoin hseq hv ha => ?_,
    fun s rx x w e hsends hs hk hv hstep ha => ?_⟩
  · have hfollowed := State.followed_eq r hrec.2.1
    have hdrive : (s.followed r).drive r = .void := by
      rw [State.followed_drive r hrec.2.1, State.drive_of_inService hk hs]
      exact Link.replicaDrive_of_mustVoid (Link.mustVoid_iff.mpr hbad)
    have hwindow : s.receiverWindow r x = (s.followed r).leaveService .receiveFailure := by
      rw [State.receiverWindow_of_void x hdrive]
      exact State.countVoids_eighth (by rw [hfollowed]; exact hrun) (by rw [hfollowed]; exact hs)
    have hspec := State.leaveService_spec .receiveFailure hfollowed (l := s.followedLink r) hs rfl rfl
    rw [← hwindow] at hspec
    simp only [List.mem_cons, List.not_mem_nil, or_false] at hc
    rcases hc with rfl | rfl
    · refine ⟨_, exec_of_eq (f := State.receiveFailure rx x) rfl hrec.1 ?_, hspec⟩
      have hdrive' : s.drive r = .void := by
        rw [State.drive_of_inService hk hs]
        exact Link.replicaDrive_of_mustVoid (Link.mustVoid_iff.mpr hbad)
      rw [State.receiveFailure, if_pos ⟨State.follows_of_receives hrec, hrun⟩, hr]
      exact if_pos hdrive'
    · exact ⟨_, exec_of_eq (f := State.window .replica rx x) rfl hrec.1 (State.window_of_receives x hrec hr hk), hspec⟩
  · generalize hrx : ({ frame := f, error := none } : RxFrame) = r at hr
    have hframe : r.frame = f := by rw [← hrx]
    have hfollowed := State.followed_eq r hrec.2.1
    have hkr : r.frame.payload.category = .replica := by rw [hframe]; exact hk
    have hdrive : (s.followed r).drive r = .step := by
      rw [State.followed_drive r hrec.2.1, State.drive_of_inService hkr hs]
      have hgood : ¬ s.link.mustVoid r = true := by
        rw [Link.mustVoid_iff, ← hrx]
        simp [hroom]
      have hnojoin : ¬ isKind .join r.frame.payload = true := by rw [hframe]; simpa [isKind] using hjoin
      simp only [Link.replicaDrive, hgood, hnojoin]
      rw [hframe]
      exact if_neg hseq
    have hcount : (s.followed r).countVoids .step = { s with
        engine := { s.engine with listenTimer := s.engine.heardTimer }
        link := { s.followedLink r with voidRun := 0 } } := by
      rw [hfollowed]
      rfl
    obtain ⟨hout, hcut, hloses, hreplica⟩ := State.leaveService_spec .outOfStep hcount hs rfl rfl
    have hwindow : s.receiverWindow r x =
        (((s.followed r).countVoids .step).leaveService .outOfStep).slotsFollow f := by
      rw [State.receiverWindow_of_replica x hdrive (by simp) hkr]
      have hstate : ((s.followed r).countVoids .step).link.state = .inService := by rw [hcount]; exact hs
      have houtcome : windowOutcome (busSlots x .step) = .accepted := by
        simp [windowOutcome, busSlots, hv, ha]
      simp only [State.receiverReplica, hstate, houtcome, hframe]
    have hslots : (((s.followed r).countVoids .step).leaveService .outOfStep).link.slots = none := by
      rw [State.leaveService, State.dropOut_link _ _ (by simp), hcount]
      simp [Link.dropped, State.followedLink, hrec.2.2.2]
    have hlistening := hout.1.1
    rw [State.slotsFollow_out f (by rw [hlistening]; simp) (by rw [hlistening]; simp) hslots] at hwindow
    exact ⟨_, exec_of_eq (f := State.window .replica rx x) rfl hrec.1
      ((State.window_of_receives x hrec hr hkr).trans hwindow), hout, hcut, hloses, hreplica, rfl⟩
  · obtain ⟨hlive, hw, hq⟩ := hsends
    have hin : s.inService = true := by rw [State.inService, hs]; rfl
    have heq : s.window .replica rx x = s.leaveService .outOfStep := by
      rw [State.window, hw]
      dsimp only
      rw [if_pos hk, State.ownWindow, hq]
      dsimp only
      rw [hk]
      have houtcome : windowOutcome x = .voidByStep := by simp [windowOutcome, hv, hstep, ha]
      simp only [State.ownReplica, houtcome]
      exact if_pos hin
    have hspec := State.leaveService_spec (s := s) .outOfStep (y := s) (l := s.link) rfl hs rfl rfl
    exact ⟨_, exec_of_eq (f := State.window .replica rx x) rfl hlive heq, hspec⟩

end Sys2Proof.Machine
end

section
/-! The own frame void in its window (R12): it goes on up to the sixteenth time, and then leaves UNDELIVERED (R17, R34,
R109, R136, R166, R170, R171, R173). -/

namespace Sys2Proof.Machine

/-! ## The window of the own frame -/

theorem State.Sends.origin {s : State} {w : OnWire} {e : TxEntry} (h : s.Sends w e) : e.origin = w.origin :=
  (Link.queued_some h.2.2).2

theorem State.window_of_sends {s : State} {w : OnWire} {e : TxEntry} {k : Category} (rx : List Bit) (x : Slots)
    (h : s.Sends w e) (hk : w.frame.payload.category = k) : s.window k rx x = s.ownWindow w x := by
  rw [State.window, h.2.1]
  exact if_pos hk

/-- A void in the window of the own frame, whatever its category. -/
theorem State.ownWindow_of_void {s : State} {w : OnWire} {e : TxEntry} {x : Slots} (h : s.Sends w e)
    (hv : x.void = true) : s.ownWindow w x = s.ownVoid e := by
  rw [State.ownWindow, h.2.2]
  dsimp only
  split
  · have houtcome : windowOutcome x = .voidByVoid := by simp [windowOutcome, hv]
    simp only [State.ownReplica, houtcome]
  · simp only [State.ownFounding, hv, if_true]
  · simp only [State.ownService, hv, if_true]

/-- The own frame is off the wire, its next start held. -/
def State.voidHeld (s : State) : State := { s with link := { s.link with wire := none, voidHold := true } }

theorem State.undelivered_of_sends {s : State} {w : OnWire} {e : TxEntry} {x : Slots} (h : s.Sends w e)
    (hv : x.void = true) (he : e.voids = 15) : s.undelivered x = s.voidHeld.frameLeaves e .undelivered := by
  rw [State.undelivered, h.2.1]
  dsimp only
  rw [h.2.2]
  dsimp only
  rw [if_pos ⟨hv, he⟩, State.ownWindow_of_void h hv, State.ownVoid]
  exact if_neg (by rw [he]; decide)

/-! ## Leaving the queue -/

/-- The queue left by a frame that is off the wire. -/
theorem Link.afterLeaving_voidHeld (l : Link) (o : Origin) :
    ({ l with wire := none, voidHold := true } : Link).afterLeaving o = { l.afterLeaving o with voidHold := true } := by
  unfold Link.afterLeaving
  dsimp only
  split <;> rfl

/-- A frame leaves whose block, told of it, leaves the queue as it is. -/
theorem State.frameLeaves_of_link {s y : State} {e : TxEntry} {oc : TxOutcome}
    (hw : s.link.onWire e.origin = true ∨ s.link.wire = none)
    (hy : State.blockOutcome e.origin e.payload oc { s with link := s.link.remove e.origin } = y)
    (hl : y.link = s.link.remove e.origin) :
    s.frameLeaves e oc = { y with link := s.link.afterLeaving e.origin } := by
  rw [State.frameLeaves, hy, hl, Link.remove_offerKept hw]

/-- The same, of a frame left UNDELIVERED. -/
theorem State.undelivered_of_link {s y : State} {w : OnWire} {e : TxEntry} {x : Slots} (h : s.Sends w e)
    (hv : x.void = true) (he : e.voids = 15)
    (hy : State.blockOutcome w.origin e.payload .undelivered
      { s with link := s.voidHeld.link.remove w.origin } = y) (hl : y.link = s.voidHeld.link.remove w.origin) :
    s.undelivered x = { y with link := { s.link.afterLeaving w.origin with voidHold := true } } := by
  rw [State.undelivered_of_sends h hv he, ← Link.afterLeaving_voidHeld, ← h.origin]
  rw [← h.origin] at hy hl
  exact State.frameLeaves_of_link (s := s.voidHeld) (.inr rfl) hy hl

/-- At a queue in which nothing waits and nothing is kept there is nothing to offer. -/
theorem Link.offerKept_of_none_kept {l : Link} (o : Origin) (h : l.kept = []) : l.offerKept o = l := by
  unfold Link.offerKept
  split
  case h_1 hk => rw [h] at hk; cases hk
  · rfl

theorem Link.offerKept_of_queued {l : Link} {o : Origin} {e : TxEntry} (h : l.queued o = some e) :
    l.offerKept o = l := by
  unfold Link.offerKept
  rw [h]

/-! ## The outcome at the blocks -/

theorem State.activityUndelivered_of_closing {s : State} {p : Payload}
    (hp : p.kind? = some .close ∨ p.kind? = some .deliveryClose) :
    s.activityUndelivered p = (s.leaveService .closeUndelivered).activityFrameLost p := by
  rcases hp with hp | hp <;> rw [State.activityUndelivered, hp]

theorem State.activityUndelivered_of_opening {s : State} {p : Payload}
    (hp : p.kind? = some .openFill ∨ p.kind? = some .deliveryOpen) :
    s.activityUndelivered p = s.activityFrameLost p := by
  rcases hp with hp | hp <;> rw [State.activityUndelivered, hp]

/-- Out of service a closing frame that is lost leaves the record held. -/
theorem State.activityFrameLost_held {s : State} {p : Payload} (h : s.Out)
    (hp : p.kind? = some .close ∨ p.kind? = some .deliveryClose) : (s.activityFrameLost p).supply.phase = .held := by
  rw [State.activityFrameLost_close hp]
  split
  · rw [State.closeUnsettled_of_out h]
    rfl
  · rw [State.holdRecord_of_out h]
    rfl

/-- A stop path that wants the stop offers STOP as its place in the queue is free (R171). -/
theorem State.offerStop_of_wanted {s : State} (hw : s.stop.wanted = true) (hs : s.link.state = .inService)
    (hq : s.link.queued .stopPath = none) :
    s.offerStop = { s with link := s.link.enter .stopPath 0 (.stop s.stop.reason) } := by
  have hin : s.inService = true := by rw [State.inService, hs]; rfl
  rw [State.offerStop, if_pos ⟨hw, hin, by rw [hq]; rfl⟩, State.offer, Link.offer_of_none _ _ hq]

theorem State.offerStop_of_unwanted {s : State} (hw : s.stop.wanted = false) : s.offerStop = s := by
  rw [State.offerStop, hw]
  exact if_neg (fun h => by cases h.1)

theorem State.stopPathOutcome_undelivered {s : State} {p : Payload} (hs : s.link.state = .inService)
    (hq : s.link.queued .stopPath = none) :
    (s.stop.wanted = true → (p = .resume ∨ ∃ r, p = .stop r) → s.stopPathOutcome p .undelivered =
      { s with link := s.link.enter .stopPath 0 (.stop s.stop.reason) })
    ∧ (s.stop.wanted = false → p = .resume → s.stopPathOutcome p .undelivered =
      { s with link := s.link.enter .stopPath 0 .resume }) := by
  have hin : s.inService = true := by rw [State.inService, hs]; rfl
  refine ⟨fun hw hp => ?_, fun hw hp => ?_⟩
  · rw [← State.offerStop_of_wanted hw hs hq]
    rcases hp with rfl | ⟨r, rfl⟩
    · simp only [State.stopPathOutcome, hin, hw]
      rfl
    · rfl
  · subst hp
    simp only [State.stopPathOutcome, hin, hw, State.offer, Link.offer_of_none _ _ hq]
    exact State.offerStop_of_unwanted hw

/-- A frame of the stop path is offered again in its place. -/
theorem State.undelivered_of_stopPath {s : State} {w : OnWire} {e : TxEntry} {x : Slots} {p : Payload}
    (h : s.Sends w e) (hv : x.void = true) (he : e.voids = 15) (ho : w.origin = .stopPath)
    (hp : State.stopPathOutcome e.payload .undelivered { s with link := s.voidHeld.link.remove .stopPath } =
      { s with link := (s.voidHeld.link.remove .stopPath).enter .stopPath 0 p }) :
    s.undelivered x = { s with link := { s.link with
      wire := none, voidHold := true, entered := s.link.entered + 1,
      tx := (s.link.tx.filter fun y => decide (y.origin ≠ .stopPath)) ++ [s.newEntry .stopPath p] } } := by
  have horigin : e.origin = .stopPath := h.origin.trans ho
  have hq := Link.enter_queued 0 p (Link.remove_queued s.voidHeld.link .stopPath)
  rw [State.undelivered_of_sends h hv he, State.frameLeaves]
  dsimp only
  rw [horigin]
  have hout : State.blockOutcome .stopPath e.payload .undelivered
      { s.voidHeld with link := s.voidHeld.link.remove .stopPath } =
        { s with link := (s.voidHeld.link.remove .stopPath).enter .stopPath 0 p } := hp
  rw [hout]
  dsimp only
  rw [Link.offerKept_of_queued hq]
  rfl

/-- A closing frame left UNDELIVERED takes the station out of service, and the record is held (R166). -/
theorem State.closeUndelivered_spec {s : State} {p : Payload}
    (hp : p.kind? = some .close ∨ p.kind? = some .deliveryClose) (hf : s.activity.state.flows = false) :
    let t := (s.leaveService .closeUndelivered).activityFrameLost p
    t.OutWith .listening .closeUndelivered ∧ t.replica = s.replica ∧ t.supply.record = s.supply.record
      ∧ t.supply.phase = .held ∧ (s.activity.state = .closing → t.activity.state = s.afterClosing) := by
  have hst : LinkState.listening ≠ .inService := by simp
  have hleft := s.dropOut_outWith .closeUndelivered hst
  have hout : (s.leaveService .closeUndelivered).Out := ⟨hleft.2.1.1, by rw [State.leaveService, hleft.1.1]; simp⟩
  have hloses := State.activityFrameLost_loses hout p
  refine ⟨?_, hloses.replica.trans (s.dropOut_replica _ hst), hloses.record.trans (s.dropOut_record _ hst hf),
    State.activityFrameLost_held hout hp, fun hc => ?_⟩
  · unfold State.OutWith at hleft ⊢
    rw [hloses.link, hloses.engine, hloses.responder]
    exact hleft
  · rcases s.dropOut_closing .closeUndelivered hst hc with ha | hl
    · have hafter : (s.leaveService .closeUndelivered).afterClosing = s.afterClosing := by
        unfold State.afterClosing State.leaveService
        rw [ha, s.dropOut_role _ hst, s.dropOut_meter _ hst]
      rw [State.activityFrameLost_close hp, if_pos (by rw [State.leaveService, ha]; exact hc),
        State.closeUnsettled_of_out hout, ← hafter]
      exact State.endWithoutWriteBack_state _
    · exact (hloses.closingLost hl).1

theorem State.undelivered_of_closing {s : State} {w : OnWire} {e : TxEntry} {x : Slots} (h : s.Sends w e)
    (hv : x.void = true) (he : e.voids = 15) (hw : w.origin = .activity)
    (hp : e.payload.kind? = some .close ∨ e.payload.kind? = some .deliveryClose) :
    s.undelivered x = (State.leaveService .closeUndelivered
      { s with link := s.voidHeld.link.remove .activity }).activityFrameLost e.payload := by
  have horigin : e.origin = .activity := h.origin.trans hw
  rw [State.undelivered_of_sends h hv he, State.frameLeaves, horigin]
  have hout : State.blockOutcome .activity e.payload .undelivered
      { s.voidHeld with link := s.voidHeld.link.remove .activity } = (State.leaveService .closeUndelivered
        { s with link := s.voidHeld.link.remove .activity }).activityFrameLost e.payload :=
    State.activityUndelivered_of_closing hp
  rw [hout]
  generalize hy : ({ s with link := s.voidHeld.link.remove .activity } : State) = y
  have hleft := y.dropOut_outWith (st := .listening) .closeUndelivered (by simp)
  have hlost : (y.leaveService .closeUndelivered).Out :=
    ⟨hleft.2.1.1, by rw [State.leaveService, hleft.1.1]; simp⟩
  have hlink := (State.activityFrameLost_loses hlost e.payload).link
  rw [Link.offerKept_of_none_kept .activity (by rw [hlink]; exact hleft.1.2.2.2.1)]

/-! ## The statement -/

/-- Settles O34. -/
theorem voidedFramesAreRepeated : Obligations.VoidedFramesAreRepeated := by
  refine ⟨fun s rx x w e h hv he c hc => ?_, fun s x w e h hv he hw => ?_, fun s x w e j h hv he hw hp hs => ?_,
    fun s x w e a h hv he hw hp => ?_, fun s x w e c h hv he hw hp hs hflow hslow => ?_,
    fun s x w e h hv he hw hp ho => ?_, fun s x w e h hv he hw hs => ⟨fun hp hwanted => ?_, fun hp hwanted => ?_⟩⟩
  · have heq : s.ownWindow w x = { s with link := { s.link with
        wire := none, voidHold := true,
        tx := s.link.tx.map fun y => if y.origin = w.origin then { y with voids := e.voids + 1 } else y } } := by
      rw [State.ownWindow_of_void h hv, State.ownVoid, ← h.origin]
      exact if_pos (by omega)
    rcases hc with ⟨rfl, hk⟩ | ⟨rfl, hk⟩ | ⟨rfl, hk⟩
    · exact exec_of_quiet (f := State.window .replica rx x) rfl h.1 ((State.window_of_sends rx x h hk).trans heq) rfl
    · exact exec_of_quiet (f := State.window .founding rx x) rfl h.1 ((State.window_of_sends rx x h hk).trans heq) rfl
    · exact exec_of_quiet (f := State.window .service rx x) rfl h.1 ((State.window_of_sends rx x h hk).trans heq) rfl
  · refine exec_of_quiet (f := State.undelivered x) rfl h.1
      (State.undelivered_of_link (y := { s with link := s.voidHeld.link.remove w.origin }) h hv he ?_ rfl) rfl
    rcases hw with hw | ⟨hw, hp⟩
    · rw [hw]
      rfl
    · rw [hw]
      simp only [State.blockOutcome, State.activityUndelivered, hp, State.activityFrameLost]
  · have hout : State.blockOutcome w.origin e.payload .undelivered
        { s with link := s.voidHeld.link.remove w.origin } =
          { s with link := s.voidHeld.link.remove w.origin, engine := s.engine.onLinkState .listening } := by
      rw [hw, hp]
      exact if_pos hs
    rw [← hw]
    exact exec_of_quiet (f := State.undelivered x) rfl h.1 (State.undelivered_of_link h hv he hout rfl) rfl
  · have hout : State.blockOutcome w.origin e.payload .undelivered
        { s with link := s.voidHeld.link.remove w.origin } = { s with
          link := s.voidHeld.link.remove w.origin, supply := { s.supply with phase := .held, waitCensus := true } } := by
      rw [hw, hp]
      rfl
    rw [← hw]
    exact exec_of_quiet (f := State.undelivered x) rfl h.1 (State.undelivered_of_link h hv he hout rfl) rfl
  · have hkind : e.payload.kind? = some .close ∨ e.payload.kind? = some .deliveryClose := by
      rcases hp with hp | hp
      · exact .inl (by rw [hp]; rfl)
      · exact .inr (by rw [hp]; rfl)
    have hflows : s.activity.state.flows = false := by
      cases ha : s.activity.state <;> simp_all [ActState.flows]
    have heq : s.undelivered x = _ := State.undelivered_of_closing h hv he hw hkind
    obtain ⟨hout, hreplica, hrecord, hphase, hclosing⟩ := State.closeUndelivered_spec
      (s := { s with link := s.voidHeld.link.remove .activity }) hkind hflows
    exact ⟨_, exec_of_eq (f := State.undelivered x) rfl h.1 heq, hout, hreplica, hrecord, hphase, hclosing⟩
  · have hout : State.blockOutcome w.origin e.payload .undelivered
        { s with link := s.voidHeld.link.remove w.origin } =
          State.refuseOpening .link { s with link := s.voidHeld.link.remove w.origin } := by
      rw [hw]
      show State.activityUndelivered e.payload _ = _
      rw [State.activityUndelivered_of_opening hp, State.activityFrameLost_open hp]
      exact if_pos ho
    have hcore := State.refuseOpening_core .link { s with link := s.voidHeld.link.remove w.origin }
    have heq := State.undelivered_of_link h hv he hout (State.link_of_core hcore)
    refine ⟨_, exec_of_eq (f := State.undelivered x) rfl h.1 heq, ?_, ?_, ?_, ?_, ?_, ?_, ?_⟩
    · simp
    · simp
    · exact (State.outputs_of_core hcore :)
    · exact (State.replica_of_core hcore :)
    · exact (State.supply_of_core hcore :)
    · exact (State.meter_of_core hcore :)
    · rw [hw]
      rfl
  · have hq : (s.voidHeld.link.remove .stopPath).queued .stopPath = none := Link.remove_queued _ _
    have hout := (State.stopPathOutcome_undelivered (s := { s with link := s.voidHeld.link.remove .stopPath })
      (p := e.payload) hs hq).1 hwanted hp
    rw [← StopPath.reason_eq]
    exact exec_of_quiet (f := State.undelivered x) rfl h.1 (State.undelivered_of_stopPath h hv he hw hout) rfl
  · have hq : (s.voidHeld.link.remove .stopPath).queued .stopPath = none := Link.remove_queued _ _
    have hout := (State.stopPathOutcome_undelivered (s := { s with link := s.voidHeld.link.remove .stopPath })
      (p := e.payload) hs hq).2 hwanted hp
    exact exec_of_quiet (f := State.undelivered x) rfl h.1 (State.undelivered_of_stopPath h hv he hw hout) rfl

end Sys2Proof.Machine
end

section
/-! The window of a replica frame at a station IN_SERVICE that follows it (R8, R9, R13, R18, R22, R23), and what an
accepted STOP does to the activity (R110, R117, R134, R136, R137, R172). -/

namespace Sys2Proof.Machine

/-! ## Events that end an activity (R110, R117, R134, R136, R137) -/

theorem State.stopWith_supply (r : Reason) (s : State) : (s.stopWith r).supply =
    { s.supply with record := s.supply.record.map fun x => { x with endReason := some r } } := by
  simp [State.stopWith, State.outputsOff, State.modRecord]

theorem State.stopWith_link (r : Reason) (s : State) : (s.stopWith r).link = s.link := by
  simp [State.stopWith, State.outputsOff, State.modRecord]

theorem State.stopWith_stop (r : Reason) (s : State) : (s.stopWith r).stop = s.stop :=
  (congrArg State.stop (State.enterAct_core _ _) :)

/-- A metered activity that an event ends. -/
theorem State.stopWith_stopsFor (r : Reason) (s : State) : s.StopsFor r (s.stopWith r) := by
  refine ⟨by simp, by simp, by simp, by simp, by simp, by simp, by simp, by simp, ?_⟩
  rw [State.stopWith_supply]
  cases s.supply.record <;> rfl

theorem State.endEvent_of_flows {s : State} (r : Reason) (h : s.activity.state = .flowing ∨ s.activity.state = .slowing) :
    s.endEvent r = s.stopWith r := by
  rcases h with h | h <;> rw [State.endEvent, h]

theorem State.endEvent_of_opening {s : State} (r : Reason) (h : s.activity.state = .opening) :
    s.endEvent r = s.pendEnd r := by
  rw [State.endEvent, h]

theorem State.endEvent_of_other {s : State} (r : Reason)
    (h : s.activity.state ∉ [ActState.opening, .flowing, .slowing]) : s.endEvent r = s := by
  unfold State.endEvent
  split
  case h_1 h' => rw [h'] at h; simp at h
  case h_2 h' => rw [h'] at h; simp at h
  case h_3 h' => rw [h'] at h; simp at h
  · rfl

/-- The opening frame withdrawn leads to IDLE or REFUSED, by the end reason that is pending. -/
theorem State.openWithdrawn_spec {s : State} {r : Reason} (h : s.activity.pendingEnd = some r) :
    s.openWithdrawn.core = s.core ∧ s.openWithdrawn.activity.preset = none
      ∧ s.openWithdrawn.activity.state =
        (if r = .hung ∨ r = .hoseReleased then .idle
          else .refused (if r = .siteStop then .siteStopped else r)) := by
  unfold State.openWithdrawn
  rw [h]
  split
  case h_1 hr => cases hr; simp [Activity.reset]
  case h_2 hr => cases hr; simp [Activity.reset]
  case h_3 r' hhung hhose hr =>
    have hr' : r' = r := (Option.some.inj hr).symm
    subst hr'
    have hnot : ¬ (r' = .hung ∨ r' = .hoseReleased) := by
      rintro (h' | h')
      · exact hhung (by rw [h'])
      · exact hhose (by rw [h'])
    have hrefusal : refusalOf r' = if r' = .siteStop then .siteStopped else r' := by
      unfold refusalOf
      split
      · rfl
      case h_2 hs => rw [if_neg hs]
    simp [hnot, hrefusal]
  case h_4 hr => cases hr

/-- An event that ends an activity, met in OPENING. -/
theorem State.pendEnd_pendsFor (r : Reason) {s : State} (ho : s.activity.state = .opening) :
    s.PendsFor s.link r (s.pendEnd r) := by
  refine ⟨fun x hx => ?_, fun hx hw => ?_, fun hx hw => ?_⟩
  · have heq : s.pendEnd r = s := by simp only [State.pendEnd, hx]
    rw [heq]
    exact ⟨ho, hx, rfl, rfl⟩
  · have heq : s.pendEnd r = { s with activity := { s.activity with pendingEnd := some r } } := by
      simp only [State.pendEnd, hx]
      exact if_neg (ne_true_of_eq_false hw)
    rw [heq]
    exact ⟨ho, rfl, rfl, rfl⟩
  · have heq : s.pendEnd r = State.openWithdrawn { s with
        activity := { s.activity with pendingEnd := some r }, link := s.link.remove .activity } := by
      simp only [State.pendEnd, hx, State.withdraw]
      refine (if_pos hw).trans (congrArg State.openWithdrawn ?_)
      exact if_pos hw
    obtain ⟨hcore, hpreset, hstate⟩ := State.openWithdrawn_spec (r := r) (s := { s with
      activity := { s.activity with pendingEnd := some r }, link := s.link.remove .activity }) rfl
    rw [heq]
    exact ⟨State.link_of_core hcore, hpreset, hstate⟩

/-! ## A STOP that is accepted (R172) -/

theorem State.stopAccepted_of_awaiting {s : State} (h : s.activity.state = .awaitingId) :
    s.stopAccepted = s.refuse .siteStopped := by
  rw [State.stopAccepted, h]

theorem State.stopAccepted_of_ne {s : State} (h : s.activity.state ≠ .awaitingId) :
    s.stopAccepted = s.endEvent .siteStop := by
  unfold State.stopAccepted
  split
  case h_1 h' => exact absurd h' h
  · rfl

/-- A STOP touches no activity but one that awaits an identification, opens or is metered. -/
theorem State.stopAccepted_of_other {s : State}
    (h : s.activity.state ∉ [ActState.awaitingId, .opening, .flowing, .slowing]) : s.stopAccepted = s := by
  have hne : s.activity.state ≠ .awaitingId := fun h' => h (by rw [h']; simp)
  rw [State.stopAccepted_of_ne hne]
  exact State.endEvent_of_other _ fun h' => h (List.mem_cons_of_mem _ h')

/-! ## An accepted replica frame (R9, R22, R23) -/

theorem Link.enqueue_of_room {l : Link} (f : Frame) (h : l.inbound.length < 8) :
    l.enqueue f = { l with inbound := l.inbound ++ [f] } := if_pos h

/-- The accepted sequence counts a frame. -/
def State.numbered (s : State) : State := { s with link := { s.link with acceptedSeq := s.link.acceptedSeq + 1 } }

theorem State.censusAccepted_eq {s : State} {f : Machine.Frame} {b : Bool} (queue : Bool)
    (h : s.answersCensus f.payload = b) : s.censusAccepted f queue =
      { s with link := { s.link with slots := some { frame := f, answered := b, queue } } } := by
  rw [State.censusAccepted, h]

theorem State.answersCensus_flow {s : State} (n : Nat) (time : Option Nat)
    (h : s.link.state = .inService ∨ s.link.state = .joining) :
    s.answersCensus (.census .flow n time) = s.answersFlow n := by
  rcases h with h | h <;> simp [State.answersCensus, State.inService, h]

theorem State.answersCensus_present {s : State} (n : Nat) (time : Option Nat)
    (h : s.link.state = .inService ∨ s.link.state = .joining) : s.answersCensus (.census .present n time) = true := by
  rcases h with h | h <;> simp [State.answersCensus, State.inService, h]

/-- A census is numbered, and its slots follow. -/
def State.calls (f : Machine.Frame) (answered : Bool) (s : State) : State :=
  { s with link := { s.link with
    acceptedSeq := s.link.acceptedSeq + 1, slots := some { frame := f, answered, queue := true } } }

theorem State.acceptReplica_of_flow {s : State} {f : Machine.Frame} {n : Nat} {time : Option Nat}
    (hp : f.payload = .census .flow n time) (hs : s.link.state = .inService) :
    s.acceptReplica f = s.calls f (s.answersFlow n) := by
  have hanswers : s.numbered.answersCensus f.payload = s.answersFlow n := by
    rw [hp]
    exact State.answersCensus_flow (s := s.numbered) n time (.inl hs)
  have hdef : s.acceptReplica f = s.numbered.censusAccepted f true := by
    rw [State.acceptReplica, hp]
    rfl
  rw [hdef, State.censusAccepted_eq true hanswers]
  rfl

theorem State.acceptReplica_of_present {s : State} {f : Machine.Frame} {n : Nat} {time : Option Nat}
    (hp : f.payload = .census .present n time) (hs : s.link.state = .inService) :
    s.acceptReplica f = (s.calls f true).presentAccepted := by
  have hanswers : s.numbered.answersCensus f.payload = true := by
    rw [hp]
    exact State.answersCensus_present (s := s.numbered) n time (.inl hs)
  have hdef : s.acceptReplica f = (s.numbered.censusAccepted f true).presentAccepted := by
    rw [State.acceptReplica, hp]
    rfl
  rw [hdef, State.censusAccepted_eq true hanswers]
  rfl

/-- The frame is numbered, and placed in the inbound queue. -/
def State.placed (f : Machine.Frame) (s : State) : State :=
  { s with link := { s.link with acceptedSeq := s.link.acceptedSeq + 1, inbound := s.link.inbound ++ [f] } }

/-- An accepted frame that is no census is placed in the inbound queue; a STOP acts on the activity. -/
theorem State.acceptReplica_of_room {s : State} {f : Machine.Frame} (hk : f.payload.kind? ≠ some .census)
    (hroom : s.link.inbound.length < 8) :
    s.acceptReplica f = if f.isStop then (s.placed f).stopAccepted else s.placed f := by
  have hcensus : ¬ isKind .census f.payload = true := by simpa [isKind] using hk
  have henqueue := Link.enqueue_of_room (l := { s.link with acceptedSeq := s.link.acceptedSeq + 1 }) f hroom
  rw [State.acceptReplica]
  dsimp only
  rw [if_neg hcensus, henqueue]
  rfl

theorem State.acceptReplica_of_stop {s : State} {f : Machine.Frame} (hk : f.payload.kind? = some .stop)
    (hroom : s.link.inbound.length < 8) : s.acceptReplica f = (s.placed f).stopAccepted := by
  rw [State.acceptReplica_of_room (by rw [hk]; simp) hroom, Frame.isStop, hk]
  rfl

theorem State.acceptReplica_of_plain {s : State} {f : Machine.Frame} (hk : f.payload.kind? ≠ some .census)
    (hs : f.payload.kind? ≠ some .stop) (hroom : s.link.inbound.length < 8) : s.acceptReplica f = s.placed f := by
  rw [State.acceptReplica_of_room hk hroom]
  exact if_neg (by simpa [Frame.isStop] using hs)

/-- The own census that waits is withdrawn as another one is accepted. -/
theorem State.withdraw_census {s : State} (hwire : s.link.wire = none)
    (h : ∀ e ∈ s.link.tx, e.origin = .census → e.payload.kind? = some .census) :
    s.withdraw .census .census = { s with link := { s.link with
      tx := s.link.tx.filter fun e => decide (e.origin ≠ .census) } } := by
  unfold State.withdraw Link.withdrawable
  cases hq : s.link.queued .census with
  | none =>
    have hall : (s.link.tx.filter fun e => decide (e.origin ≠ .census)) = s.link.tx := by
      rw [List.filter_eq_self]
      intro e he
      simpa using Link.queued_eq_none.mp hq e he
    rw [hall]
    rfl
  | some e =>
    obtain ⟨he, ho⟩ := Link.queued_some hq
    have hon : s.link.onWire .census = false := by rw [Link.onWire, hwire]
    simp only [h e he ho, hon, Link.remove]
    rfl

/-! ## The window at a station IN_SERVICE (R8, R9, R13) -/

theorem Payload.cls_of_kind {p : Payload} {k : Kind} (h : p.kind? = some k) : p.cls = k.codes.1 := by
  unfold Payload.cls
  split
  · cases h
  · rw [h]

/-- The station as it has followed a good replica frame that is next in sequence. -/
def State.heard (s : State) : State :=
  { s with
    engine := { s.engine with listenTimer := s.engine.heardTimer }
    link := { s.link with voidRun := 0, lostPlace := false } }

theorem State.restartListening_console (s : State) : s.restartListening.console = s.console := by
  rw [State.restartListening_eq]

theorem State.heard_eq (s : State) :
    s.heard = { s.restartListening with link := { s.link with voidRun := 0, lostPlace := false } } := by
  rw [State.restartListening_eq]
  rfl

/-- A good frame that is a JOIN, or next in sequence, is voided by a void of the others, or else accepted. -/
theorem State.window_of_good {s : State} {rx : List Bit} {f : Machine.Frame} (x : Slots) (h : s.Receives)
    (hs : s.link.state = .inService) (hr : receive rx = .window { frame := f, error := none })
    (hk : f.payload.category = .replica) (hroom : s.link.inbound.length < 8)
    (hseq : f.payload.kind? = some .join ∨ f.seq16 = BitVec.ofNat 16 (s.link.acceptedSeq + 1)) :
    s.window .replica rx x = if x.void then s.heard else s.heard.acceptReplica f := by
  have hdrive : (s.followed { frame := f, error := none }).drive { frame := f, error := none } = .accept := by
    rw [State.followed_drive _ h.2.1, State.drive_of_inService hk hs, Link.replicaDrive]
    have hgood : ¬ s.link.mustVoid { frame := f, error := none } = true := by
      rw [Link.mustVoid_iff]
      simp [hroom]
    rw [if_neg hgood]
    rcases hseq with hj | hq
    · exact if_pos (by rw [isKind, hj]; rfl)
    · split <;> rfl
  rw [State.window_of_receives x h hr hk, State.receiverWindow_of_replica x hdrive (by simp) hk]
  have hcount : (s.followed { frame := f, error := none }).countVoids .accept = s.heard := by
    rw [State.followed_eq _ h.2.1]
    rfl
  have hstate : s.heard.link.state = .inService := hs
  have hout : windowOutcome (busSlots x .accept) = if x.void then .voidByVoid else .accepted := by
    simp [windowOutcome, busSlots]
  rw [hcount]
  simp only [State.receiverReplica, hstate, hout]
  cases x.void <;> rfl

theorem State.countVoids_of_few {s : State} (h : s.link.voidRun < 7) :
    s.countVoids .void = { s with link := { s.link with voidRun := s.link.voidRun + 1 } } := by
  rw [State.countVoids]
  exact if_pos (by omega)

/-- A STOP that is accepted is placed, and acts on the activity. -/
theorem State.window_of_stop {s : State} {rx : List Bit} {f : Machine.Frame} (x : Slots) (h : s.Receives)
    (hs : s.link.state = .inService) (hr : receive rx = .window { frame := f, error := none })
    (hk : f.payload.category = .replica) (hroom : s.link.inbound.length < 8)
    (hseq : f.seq16 = BitVec.ofNat 16 (s.link.acceptedSeq + 1)) (hv : x.void = false)
    (hstop : f.payload.kind? = some .stop) : s.window .replica rx x = (s.heard.placed f).stopAccepted := by
  rw [State.window_of_good x h hs hr hk hroom (.inr hseq), hv]
  exact State.acceptReplica_of_stop (s := s.heard) hstop hroom

/-- Settles O31. -/
theorem replicaWindowIsDecided : Obligations.ReplicaWindowIsDecided := by
  refine ⟨fun s rx x f hrec hs hr hk hroom hjoin hseq => ⟨fun hv => ?_, fun hv hcensus hstop => ?_,
    fun hv hstop hact => ?_, fun hv hstop => ⟨fun hact => ?_, fun hact => ?_⟩, fun n time hv hp => ?_,
    fun n time hv hp hown => ?_⟩, fun s rx x f hrec hs hr hj hroom => ?_, fun s rx x r hrec hs hr hk hbad hrun => ?_⟩
  · refine exec_of_quiet (f := State.window .replica rx x) rfl hrec.1 ?_ s.restartListening_console
    rw [State.window_of_good x hrec hs hr hk hroom (.inr hseq), hv, ← State.heard_eq]
    rfl
  · refine exec_of_quiet (f := State.window .replica rx x) rfl hrec.1 ?_ s.restartListening_console
    rw [State.window_of_good x hrec hs hr hk hroom (.inr hseq), hv, State.restartListening_eq]
    by_cases hkind : f.payload.kind? = some .stop
    · refine (State.acceptReplica_of_stop (s := s.heard) hkind hroom).trans ?_
      exact State.stopAccepted_of_other (s := s.heard.placed f) (hstop hkind)
    · exact State.acceptReplica_of_plain (s := s.heard) hcensus hkind hroom
  · have hstopped := State.window_of_stop x hrec hs hr hk hroom hseq hv hstop
    have hne : s.activity.state ≠ .awaitingId := by rcases hact with h | h <;> rw [h] <;> simp
    rw [State.stopAccepted_of_ne (s := s.heard.placed f) hne,
      State.endEvent_of_flows (s := s.heard.placed f) .siteStop hact] at hstopped
    refine ⟨_, exec_of_eq (f := State.window .replica rx x) rfl hrec.1 hstopped,
      (State.stopWith_stopsFor .siteStop _ :), ?_, ?_, ?_, ?_⟩
    · rw [State.commitNotices_link, State.stopWith_link]
      rfl
    all_goals simp [State.pump, State.vmain, State.vtrim]
  · have hstopped := State.window_of_stop x hrec hs hr hk hroom hseq hv hstop
    rw [State.stopAccepted_of_awaiting (s := s.heard.placed f) hact] at hstopped
    refine ⟨_, exec_of_eq (f := State.window .replica rx x) rfl hrec.1 hstopped, ?_, ?_⟩
    · rw [State.commitNotices_activity, State.refuse_activity]
    · exact State.link_of_core (State.refuse_core _ _)
  · have hstopped := State.window_of_stop x hrec hs hr hk hroom hseq hv hstop
    have hne : s.activity.state ≠ .awaitingId := by rw [hact]; simp
    rw [State.stopAccepted_of_ne (s := s.heard.placed f) hne,
      State.endEvent_of_opening (s := s.heard.placed f) .siteStop hact] at hstopped
    exact ⟨_, exec_of_eq (f := State.window .replica rx x) rfl hrec.1 hstopped,
      (State.pendEnd_pendsFor .siteStop (s := s.heard.placed f) hact :)⟩
  · refine exec_of_quiet (f := State.window .replica rx x) rfl hrec.1 ?_ s.restartListening_console
    rw [State.window_of_good x hrec hs hr hk hroom (.inr hseq), hv, State.restartListening_eq]
    exact State.acceptReplica_of_flow (s := s.heard) hp hs
  · refine exec_of_quiet (f := State.window .replica rx x) rfl hrec.1 ?_ s.restartListening_console
    rw [State.window_of_good x hrec hs hr hk hroom (.inr hseq), hv, State.restartListening_eq]
    refine (State.acceptReplica_of_present (s := s.heard) hp hs).trans ?_
    exact State.withdraw_census hrec.2.2.1 hown
  · have hk : f.payload.category = .replica := by
      have hfounding : f.payload.isFounding = false := by rw [Payload.isFounding, hj]; rfl
      have hreplica : f.payload.isReplica = true := by
        rw [Payload.isReplica, Payload.cls_of_kind hj, hfounding]
        decide
      simp [Payload.category, hfounding, hreplica]
    have haccept := State.acceptReplica_of_plain (s := s.heard) (f := f) (by rw [hj]; simp) (by rw [hj]; simp) hroom
    have hwindow := State.window_of_good x hrec hs hr hk hroom (.inl hj)
    refine exec_of_quiet (f := State.window .replica rx x) rfl hrec.1 ?_ s.restartListening_console
    rw [hwindow, State.restartListening_eq]
    cases x.void with
    | true => rfl
    | false => exact haccept
  · have hdrive : (s.followed r).drive r = .void := by
      rw [State.followed_drive r hrec.2.1, State.drive_of_inService hk hs]
      exact Link.replicaDrive_of_mustVoid (Link.mustVoid_iff.mpr hbad)
    refine exec_of_quiet (f := State.window .replica rx x) rfl hrec.1 ?_ s.restartListening_console
    have hfollowed := State.followed_eq r hrec.2.1
    have hcount := State.countVoids_of_few (s := s.followed r) (by rw [hfollowed]; exact hrun)
    rw [State.window_of_receives x hrec hr hk, State.receiverWindow_of_void x hdrive, hcount, hfollowed,
      State.restartListening_eq]
    rfl

end Sys2Proof.Machine
end

section
/-! The windows of own frames that are accepted (R9 to R11, R14, R17), and of the frames that a station out of service,
or the addressee of a service frame, follows (R9 to R11, R18, R22, R34, R41, R45). -/

namespace Sys2Proof.Machine

/-! ## The queue after a frame has left -/

/-- What leaving touches of the link engine. -/
def Link.leftTx (l : Link) (o : Origin) : List TxEntry :=
  (l.tx.filter fun e => decide (e.origin ≠ o)) ++
    match l.kept.find? fun k => k.origin == o with
    | none => []
    | some k => [{ origin := o, dest := k.dest, payload := k.payload, voids := 0, entered := l.entered }]

def Link.leftKept (l : Link) (o : Origin) : List KeptFrame :=
  match l.kept.find? fun k => k.origin == o with
  | none => l.kept
  | some _ => l.kept.filter fun y => decide (y.origin ≠ o)

def Link.leftEntered (l : Link) (o : Origin) : Nat :=
  match l.kept.find? fun k => k.origin == o with
  | none => l.entered
  | some _ => l.entered + 1

theorem Link.afterLeaving_eq (l : Link) (o : Origin) : l.afterLeaving o =
    { l with tx := l.leftTx o, kept := l.leftKept o, entered := l.leftEntered o, wire := none } := by
  unfold Link.afterLeaving Link.leftTx Link.leftKept Link.leftEntered
  split
  case h_1 h => simp [h]
  case h_2 k h => simp [h]

/-- A frame of one block leaves before or after one of another block is taken away. -/
theorem Link.afterLeaving_remove (l : Link) {o o' : Origin} (h : o ≠ o') :
    (l.remove o').afterLeaving o = (l.afterLeaving o).remove o' := by
  unfold Link.afterLeaving Link.remove
  cases hk : l.kept.find? fun k => k.origin == o with
  | none => simp [List.filter_filter, Bool.and_comm]
  | some k => simp [List.filter_filter, Bool.and_comm, h]

/-- Offering a kept frame reads the queue alone. -/
theorem Link.offerKept_state (l : Link) (o : Origin) (st : LinkState) (r : Reason) (n : Nat) :
    ({ l with state := st, reason := r, voidRun := n } : Link).offerKept o =
      { l.offerKept o with state := st, reason := r, voidRun := n } := by
  have hq : ({ l with state := st, reason := r, voidRun := n } : Link).queued o = l.queued o := rfl
  unfold Link.offerKept
  rw [hq]
  dsimp only
  split <;> rfl

/-! ## Own frames (R9 to R11, R17) -/

theorem windowOutcome_of_accepting {x : Slots} (h : Accepting x) : windowOutcome x = .accepted := by
  obtain ⟨hv, hstep | ha⟩ := h
  · simp [windowOutcome, hv, hstep]
  · simp [windowOutcome, hv, ha]

theorem windowOutcome_of_not_accepting {x : Slots} (h : ¬ Accepting x) : windowOutcome x ≠ .accepted := by
  intro h'
  refine h ?_
  unfold windowOutcome at h'
  cases hv : x.void <;> cases hs : x.step <;> cases ha : x.accept <;> simp_all

theorem Payload.category_of_kind {p : Payload} {k : Kind} (h : p.kind? = some k) (hk : k ≠ .found)
    (hk' : k ≠ .sealRound) : p.category = if k.codes.1 ≤ 5 then .replica else .service := by
  have hfounding : p.isFounding = false := by simp [Payload.isFounding, h, hk, hk']
  simp [Payload.category, Payload.isReplica, hfounding, Payload.cls_of_kind h]

theorem State.Sends.onWire {s : State} {w : OnWire} {e : TxEntry} (h : s.Sends w e) :
    s.link.onWire e.origin = true := by
  rw [Link.onWire, h.2.1, h.origin]
  exact beq_self_eq_true _

/-- The own replica frame, accepted IN_SERVICE: what it brings as a frame of the site, and then its own outcome. -/
theorem State.window_of_own {s : State} {w : OnWire} {e : TxEntry} {x : Slots} (rx : List Bit) (h : s.Sends w e)
    (hs : s.link.state = .inService) (hk : w.frame.payload.category = .replica) (hx : Accepting x) :
    s.window .replica rx x = (s.acceptReplica w.frame).frameLeaves e .accepted := by
  have hin : s.inService = true := by rw [State.inService, hs]; rfl
  rw [State.window_of_sends rx x h hk, State.ownWindow, h.2.2]
  simp only [hk, State.ownReplica, windowOutcome_of_accepting hx, State.ownAccepted, hin, if_true]

/-- The own frame, placed, leaves a block that does not heed its acceptance. -/
theorem State.own_placed {s : State} {w : OnWire} {e : TxEntry} {x : Slots} (rx : List Bit) (h : s.Sends w e)
    (hs : s.link.state = .inService) (hk : w.frame.payload.category = .replica)
    (hcensus : w.frame.payload.kind? ≠ some .census) (hstop : w.frame.payload.kind? ≠ some .stop)
    (hroom : s.link.inbound.length < 8) (hx : Accepting x)
    (hout : ∀ l, State.blockOutcome w.origin e.payload .accepted { s with link := l } = { s with link := l }) :
    s.window .replica rx x = { s with link := { s.link.afterLeaving w.origin with
      acceptedSeq := s.link.acceptedSeq + 1, inbound := s.link.inbound ++ [w.frame] } } := by
  rw [State.window_of_own rx h hs hk hx, State.acceptReplica_of_plain hcensus hstop hroom]
  rw [← h.origin] at hout ⊢
  rw [State.frameLeaves_of_unheeded (s := s.placed w.frame) (.inl h.onWire) hout, Link.afterLeaving_eq,
    Link.afterLeaving_eq]
  rfl

theorem State.membershipOutcome_of_unheeded {p : Payload} (s : State)
    (h : p.kind? = some .announce ∨ p.kind? = some .leave) : s.membershipOutcome p .accepted = s := by
  unfold State.membershipOutcome
  split
  case h_1 => simp [Payload.kind?] at h
  case h_2 hoc => cases hoc
  case h_3 => simp [Payload.kind?] at h
  case h_4 hoc => cases hoc
  case h_5 hoc => cases hoc
  case h_6 hoc => cases hoc
  case h_7 hoc => cases hoc
  case h_8 => rfl

theorem State.stopPathOutcome_resume {p : Payload} {s : State} (h : p.kind? = some .resume)
    (hw : s.stop.wanted = false) : s.stopPathOutcome p .accepted = s := by
  have hp : s.stopPathOutcome p .accepted = s.offerStop := by
    unfold State.stopPathOutcome
    split
    case h_1 => simp [Payload.kind?] at h
    case h_2 hoc => cases hoc
    case h_3 hoc => cases hoc
    case h_4 => rfl
  rw [hp, State.offerStop_of_unwanted hw]

/-- The own STOP, accepted, acts on the activity as that of another station does, and is no longer wanted. -/
theorem State.own_stop {s y : State} {w : OnWire} {e : TxEntry} {x : Slots} {o : Byte} (rx : List Bit)
    (h : s.Sends w e) (hs : s.link.state = .inService) (hroom : s.link.inbound.length < 8) (hx : Accepting x)
    (hw : w.origin = .stopPath) (hp : e.payload = .stop o) (hf : w.frame.payload = e.payload)
    (hy : (s.placed w.frame).stopAccepted = y) (hwire : y.link.wire = s.link.wire) :
    s.window .replica rx x = { y with stop := StopPath.off, link := y.link.afterLeaving .stopPath } := by
  have hkind : w.frame.payload.kind? = some .stop := by rw [hf, hp]; rfl
  have horigin : e.origin = .stopPath := h.origin.trans hw
  have hon : y.link.onWire e.origin = true := by
    rw [Link.onWire, hwire]
    exact h.onWire
  rw [State.window_of_own rx h hs (Payload.category_of_kind hkind (by simp) (by simp)) hx,
    State.acceptReplica_of_stop hkind hroom, hy]
  have hout : State.blockOutcome e.origin e.payload .accepted { y with link := y.link.remove e.origin } =
      { y with link := y.link.remove e.origin, stop := StopPath.off } := by
    rw [horigin, hp]
    exact State.offerStop_of_unwanted
      (s := { y with link := y.link.remove .stopPath, stop := StopPath.off }) rfl
  rw [State.frameLeaves_of_link (.inl hon) hout rfl, horigin]

/-! ## Own frames of the other categories -/

theorem State.own_founding {s : State} {w : OnWire} {e : TxEntry} {x : Slots} {q : Nat} {k : Check} (rx : List Bit)
    (h : s.Sends w e) (hs : s.link.state = .listening ∨ s.link.state = .founding) (hw : w.origin = .membership)
    (hk : w.frame.payload.category = .founding) (hp : e.payload = .found q k) (hroom : s.link.inbound.length < 8)
    (hv : x.void = false) : s.window .founding rx x = { s with
      link := { s.link.afterLeaving .membership with inbound := s.link.inbound ++ [w.frame] }
      engine := { s.engine with foundSent := true } } := by
  have horigin : e.origin = .membership := h.origin.trans hw
  have hown : s.ownWindow w x =
      State.frameLeaves e .accepted { s with link := { s.link with inbound := s.link.inbound ++ [w.frame] } } := by
    rw [State.ownWindow, h.2.2]
    simp only [hk, State.ownFounding, hv, if_pos hs, Link.enqueue_of_room w.frame hroom]
    rfl
  have hon := h.onWire
  rw [State.window_of_sends rx x h hk, hown]
  have hout : State.blockOutcome e.origin e.payload .accepted
      { s with link := ({ s.link with inbound := s.link.inbound ++ [w.frame] } : Link).remove e.origin } =
        { s with
          link := ({ s.link with inbound := s.link.inbound ++ [w.frame] } : Link).remove e.origin
          engine := { s.engine with foundSent := true } } := by
    rw [horigin, hp]
    rfl
  rw [State.frameLeaves_of_link
    (s := { s with link := { s.link with inbound := s.link.inbound ++ [w.frame] } }) (.inl hon) hout rfl, horigin,
    Link.afterLeaving_eq, Link.afterLeaving_eq]
  rfl

theorem State.own_busy {s : State} {w : OnWire} {e : TxEntry} {x : Slots} (rx : List Bit) (h : s.Sends w e)
    (hk : w.frame.payload.category = .service) (hw : w.origin = .responder) (hp : e.payload = .busy)
    (hr : s.responder = { context := none, waitingBusy := none }) (hv : x.void = false) :
    s.window .service rx x = { s with link := s.link.afterLeaving .responder } := by
  have horigin : e.origin = .responder := h.origin.trans hw
  have hout : ∀ oc, State.blockOutcome e.origin e.payload oc { s with link := s.link.remove e.origin } =
      { s with link := s.link.remove e.origin } := by
    intro oc
    rw [horigin, hp]
    show State.responderPump { s with link := s.link.remove .responder } = _
    unfold State.responderPump
    simp only [Link.remove_queued, hr]
    rfl
  have hleaves : ∀ oc, s.frameLeaves e oc = { s with link := s.link.afterLeaving .responder } := by
    intro oc
    rw [State.frameLeaves_of_link (.inl h.onWire) (hout oc) rfl, horigin]
  rw [State.window_of_sends rx x h hk, State.ownWindow, h.2.2]
  simp only [hk, State.ownService, hv, hleaves, ite_self]
  rfl

/-- The own JOIN, accepted, takes a LISTENING station to JOINING (R39). -/
theorem State.own_join {s : State} {w : OnWire} {e : TxEntry} {x : Slots} {j : Joining} (rx : List Bit)
    (h : s.Sends w e) (hs : s.link.state = .listening) (hk : w.frame.payload.category = .replica)
    (hw : w.origin = .membership) (hp : e.payload = .join j) (hx : Accepting x) :
    s.window .replica rx x = State.raise (.linkState .joining .noReason) { s with
      link := { s.link.afterLeaving .membership with state := .joining, reason := .noReason, voidRun := 0 }
      engine := { s.engine with
        headTimer := some 1000000, joinTimer := some 30000000, join := none, catchUp := [], listenTimer := none } } := by
  have horigin : e.origin = .membership := h.origin.trans hw
  have hon := h.onWire
  have hin : s.inService = false := by rw [State.inService, hs]; rfl
  rw [State.window_of_sends rx x h hk, State.ownWindow, h.2.2]
  simp only [hk, State.ownReplica, windowOutcome_of_accepting hx, State.ownAccepted, hin, Bool.false_eq_true, if_false]
  have hout : State.blockOutcome e.origin e.payload .accepted { s with link := s.link.remove e.origin } =
      State.enterJoining { s with link := s.link.remove e.origin } := by
    rw [horigin, hp]
    exact if_pos hs
  rw [State.frameLeaves, hout, horigin]
  rw [horigin] at hon
  rw [← Link.remove_offerKept (.inl hon), ← Link.offerKept_state]
  rfl

end Sys2Proof.Machine
end

section
/-! The frames that a station out of service follows to their window (R10, R22, R31, R34, R41, R45), the service frame at
its addressee (R11, R18), and the decision of every window but that of a frame of another station IN_SERVICE. -/

namespace Sys2Proof.Machine

/-! ## A replica frame, out of service -/

/-- The states in which the bus is followed, and no replica frame is judged. -/
abbrev LinkState.Follows (st : LinkState) : Prop := st ∈ [LinkState.listening, .founding, .joining]

theorem LinkState.Follows.ne_inService {st : LinkState} (h : st.Follows) : st ≠ .inService := by
  rintro rfl
  simp at h

theorem State.drive_of_follows {s : State} {r : RxFrame} (hk : r.frame.payload.category = .replica)
    (hs : s.link.state.Follows) : s.drive r = .nothing := by
  simp only [List.mem_cons, List.not_mem_nil, or_false] at hs
  rcases hs with h | h | h <;> rw [State.drive, hk, h]

/-- The window of a replica frame that a station out of service has followed. -/
theorem State.window_of_follows {s : State} {rx : List Bit} {r : RxFrame} (x : Slots) (h : s.Receives)
    (hs : s.link.state.Follows) (hr : receive rx = .window r) (hk : r.frame.payload.category = .replica) :
    s.window .replica rx x = (s.followed r).receiverReplica r .nothing x := by
  have hdrive : (s.followed r).drive r = .nothing := by
    rw [State.followed_drive r h.2.1, State.drive_of_follows hk hs]
  rw [State.window_of_receives x h hr hk, State.receiverWindow_of_replica x hdrive (by simp) hk]
  rfl

/-- The station as it has followed a frame out of service: the slots of an accepted census are read. -/
def State.readsSlots (r : RxFrame) (s : State) : State :=
  { s with
    engine := { s.engine with listenTimer := s.engine.heardTimer }
    link := { s.followedLink r with slots := readSlots r.frame } }

theorem State.followed_slotsFollow {s : State} {r : RxFrame} (h : s.Receives)
    (hs : s.link.state = .listening ∨ s.link.state = .founding) :
    (s.followed r).slotsFollow r.frame = s.readsSlots r := by
  have hfollowed := State.followed_eq r h.2.1
  have hstate : (s.followed r).link.state ≠ .inService ∧ (s.followed r).link.state ≠ .joining := by
    rw [hfollowed]
    rcases hs with hs | hs <;> exact ⟨by simp [State.followedLink, hs], by simp [State.followedLink, hs]⟩
  rw [State.slotsFollow_out r.frame hstate.1 hstate.2 (by rw [hfollowed]; exact h.2.2.2), hfollowed]
  rfl

/-- A frame that is not accepted, or of which nothing is taken, leaves the station as it has followed it. -/
theorem State.window_unheeded {s : State} {rx : List Bit} {r : RxFrame} {x : Slots} (h : s.Receives)
    (hs : s.link.state.Follows) (hr : receive rx = .window r) (hk : r.frame.payload.category = .replica)
    (hx : ¬ Accepting x ∨ s.link.state = .listening ∧ r.frame.payload.kind? = some .join ∧ x.accept = false
      ∨ s.link.state = .founding ∧ r.frame.payload.kind? = some .join) :
    s.window .replica rx x = s.followed r := by
  have hfollowed := State.followed_eq r h.2.1
  have hstate : (s.followed r).link.state = s.link.state := by rw [hfollowed]; rfl
  rw [State.window_of_follows x h hs hr hk]
  have hslots : r.frame.payload.kind? = some .join → (s.followed r).slotsFollow r.frame = s.followed r := by
    intro hj
    exact if_neg (by rw [isKind, hj]; simp)
  have hjoin : r.frame.payload.kind? = some .join → isKind .join r.frame.payload = true := by
    intro hj
    rw [isKind, hj]
    rfl
  by_cases hacc : windowOutcome x = .accepted
  · rcases hx with hx | ⟨hl, hj, ha⟩ | ⟨hl, hj⟩
    · exact absurd hacc (windowOutcome_of_not_accepting hx)
    · simp only [State.receiverReplica, hstate, hl, State.listeningReplica, hacc, hslots hj, hjoin hj, ha]
      rfl
    · simp only [State.receiverReplica, hstate, hl, State.foundingReplica, hacc, hslots hj, hjoin hj]
      rfl
  · unfold State.receiverReplica
    split
    case h_1 => rfl
    case h_2 => exact if_neg hacc
    case h_3 => exact if_pos hacc
    case h_4 => exact if_pos hacc
    case h_5 => rfl

/-! ## A LISTENING station hears a frame (R34) -/

theorem State.noteHeard_of_holdOff {s : State} (h : s.engine.holdOff.isSome = true) :
    s.noteHeard = { s with engine := { s.engine with heardNoted := true } } := if_pos h

theorem Link.withdrawable_of_queued {l : Link} {o : Origin} {e : TxEntry} {k : Kind} (h : l.queued o = some e)
    (hw : l.wire = none) : l.withdrawable o k = true ↔ e.payload.kind? = some k := by
  have hon : l.onWire o = false := by rw [Link.onWire, hw]
  simp [Link.withdrawable, h, hon]

/-- What the membership has in the queue but for a FOUND stays, and JOIN is offered where its place is free. -/
theorem State.noteHeard_of_none {s : State} (hold : s.engine.holdOff = none) (hq : s.link.queued .membership = none) :
    s.noteHeard = { s with
      engine := { s.engine with listenTimer := none }, link := s.link.enter .membership 0 s.joinFrame } := by
  have hwithdraw : s.withdraw .membership .found = s := by
    rw [State.withdraw, Link.withdrawable_of_none _ hq]
    rfl
  rw [State.noteHeard, hold]
  simp only [hwithdraw, hq]
  show State.offer .membership _ { s with engine := { s.engine with listenTimer := none } } = _
  rw [State.offer, Link.offer_of_none _ _ hq]
  rfl

theorem State.noteHeard_of_found {s : State} {e : TxEntry} (hold : s.engine.holdOff = none)
    (hq : s.link.queued .membership = some e) (hk : e.payload.kind? = some .found) (hw : s.link.wire = none) :
    s.noteHeard = { s with
      engine := { s.engine with listenTimer := none }
      link := (s.link.remove .membership).enter .membership 0 s.joinFrame } := by
  have hwithdraw : s.withdraw .membership .found = { s with link := s.link.remove .membership } := by
    rw [State.withdraw, if_pos ((Link.withdrawable_of_queued hq hw).mpr hk)]
  have hq' := Link.remove_queued s.link .membership
  rw [State.noteHeard, hold]
  simp only [hwithdraw, hq']
  show State.offer .membership _ { s with
    engine := { s.engine with listenTimer := none }, link := s.link.remove .membership } = _
  rw [State.offer, Link.offer_of_none _ _ hq']
  rfl

theorem State.noteHeard_of_queued {s : State} {e : TxEntry} (hold : s.engine.holdOff = none)
    (hq : s.link.queued .membership = some e) (hk : e.payload.kind? ≠ some .found) (hw : s.link.wire = none) :
    s.noteHeard = { s with engine := { s.engine with listenTimer := none } } := by
  have hwithdraw : s.withdraw .membership .found = s := by
    rw [State.withdraw, if_neg (fun h => hk ((Link.withdrawable_of_queued hq hw).mp h))]
  rw [State.noteHeard, hold]
  simp only [hwithdraw, hq]
  rfl

/-- An accepted frame, no JOIN that nobody accepts, at a LISTENING station. -/
theorem State.window_of_listening {s : State} {rx : List Bit} {r : RxFrame} {x : Slots} (h : s.Receives)
    (hs : s.link.state = .listening) (hr : receive rx = .window r) (hk : r.frame.payload.category = .replica)
    (hx : Accepting x) (hj : r.frame.payload.kind? = some .join → x.accept = true) :
    s.window .replica rx x = (s.readsSlots r).noteHeard := by
  have hstate : (s.followed r).link.state = .listening := by rw [State.followed_eq r h.2.1]; exact hs
  have hheard : ¬ (isKind .join r.frame.payload && !x.accept) = true := by
    cases hjoin : isKind .join r.frame.payload with
    | false => simp
    | true => simp [hj (by simpa [isKind] using hjoin)]
  rw [State.window_of_follows x h (by simp [hs]) hr hk]
  simp only [State.receiverReplica, hstate, State.listeningReplica, windowOutcome_of_accepting hx,
    State.followed_slotsFollow h (.inl hs), if_neg hheard]
  rfl

/-! ## A FOUNDING station hears a frame (R45) -/

/-- The round has ended: the membership has no frame of it left. -/
def State.roundOver (s : State) : State :=
  State.setLink .listening .noReason { s with
    link := (s.link.remove .membership).dropKept .membership
    engine := { s.engine with round := none, roundTimer := none, sealTimer := none } }

theorem State.endRound_of_waiting {s : State} (hw : s.link.wire = none)
    (hq : ∀ e ∈ s.link.queued .membership, e.payload.kind? = some .found ∨ e.payload.kind? = some .sealRound) :
    s.endRound .listening .noReason = s.roundOver := by
  have hremove : (s.withdraw .membership .found).withdraw .membership .sealRound =
      { s with link := s.link.remove .membership } := by
    have hnone : ∀ k, State.withdraw .membership k { s with link := s.link.remove .membership } =
        { s with link := s.link.remove .membership } := by
      intro k
      have hq' := Link.remove_queued s.link .membership
      rw [State.withdraw, Link.withdrawable_of_none _ hq']
      rfl
    cases he : s.link.queued .membership with
    | none =>
      have hfilter : s.link.remove .membership = s.link := by
        have hall : (s.link.tx.filter fun e => decide (e.origin ≠ .membership)) = s.link.tx := by
          rw [List.filter_eq_self]
          intro e' he'
          simpa using Link.queued_eq_none.mp he e' he'
        rw [Link.remove, hall, Link.onWire, hw]
        simp only [Bool.false_eq_true, if_false]
        rw [← hw]
      have hs : ({ s with link := s.link.remove .membership } : State) = s := by rw [hfilter]
      rw [hs] at hnone ⊢
      rw [hnone, hnone]
    | some e =>
      have hwd := fun k => Link.withdrawable_of_queued (k := k) he hw
      rcases hq e he with hk | hk
      · have : s.withdraw .membership .found = { s with link := s.link.remove .membership } := by
          rw [State.withdraw, if_pos ((hwd .found).mpr hk)]
        rw [this, hnone]
      · have : s.withdraw .membership .found = s := by
          rw [State.withdraw, if_neg (fun h => by rw [(hwd .found).mp h] at hk; cases hk)]
        rw [this, State.withdraw, if_pos ((hwd .sealRound).mpr hk)]
  rw [State.endRound]
  dsimp only
  rw [hremove]
  rfl

theorem State.window_of_founding {s : State} {rx : List Bit} {r : RxFrame} {x : Slots} (h : s.Receives)
    (hs : s.link.state = .founding) (hr : receive rx = .window r) (hk : r.frame.payload.category = .replica)
    (hx : Accepting x) (hj : r.frame.payload.kind? ≠ some .join) :
    s.window .replica rx x = (s.readsSlots r).roundHeard := by
  have hstate : (s.followed r).link.state = .founding := by rw [State.followed_eq r h.2.1]; exact hs
  have hjoin : ¬ isKind .join r.frame.payload = true := by simpa [isKind] using hj
  rw [State.window_of_follows x h (by simp [hs]) hr hk]
  simp only [State.receiverReplica, hstate, State.foundingReplica, windowOutcome_of_accepting hx,
    State.followed_slotsFollow h (.inr hs), if_neg hjoin]
  rfl

/-! ## A JOINING station hears a frame (R18, R22, R41) -/

theorem State.window_of_joining {s : State} {rx : List Bit} {r : RxFrame} {x : Slots} (h : s.Receives)
    (hs : s.link.state = .joining) (hr : receive rx = .window r) (hk : r.frame.payload.category = .replica)
    (hx : Accepting x) : s.window .replica rx x = (s.followed r).joiningReplica r := by
  have hstate : (s.followed r).link.state = .joining := by rw [State.followed_eq r h.2.1]; exact hs
  rw [State.window_of_follows x h (by simp [hs]) hr hk]
  simp only [State.receiverReplica, hstate, windowOutcome_of_accepting hx]
  rfl

/-- The slots behind an accepted frame that a station leaving a join reads. -/
theorem State.abandonJoin_slotsFollow (c : Reason) (f : Machine.Frame) {s : State} (hs : s.link.slots = none) :
    (s.abandonJoin c).slotsFollow f = { s.abandonJoin c with
      link := { (s.abandonJoin c).link with slots := readSlots f } } := by
  have hstate := (s.abandonJoin_outWith c).1.1
  have hslots : (s.abandonJoin c).link.slots = none := by
    have hlink : (s.abandonJoin c).link = s.link.dropped .listening c := s.dropOut_link c (by simp)
    rw [hlink, Link.dropped, hs]
    rfl
  exact State.slotsFollow_out f (by rw [hstate]; simp) (by rw [hstate]; simp) hslots

/-! ## Founding and service frames that are followed (R10, R11) -/

theorem State.window_of_foundingFrame {s : State} {rx : List Bit} {f : Machine.Frame} (x : Slots) (h : s.Receives)
    (hs : s.link.state = .listening ∨ s.link.state = .founding)
    (hr : receive rx = .window { frame := f, error := none }) (hk : f.payload.category = .founding)
    (hroom : s.link.inbound.length < 8) : s.window .founding rx x = { s.restartListening with link := { s.link with
      inbound := (if x.void then s.link.inbound else s.link.inbound ++ [f]), lostPlace := false } } := by
  have hfollowed := State.followed_eq { frame := f, error := none } h.2.1
  have hgood : ¬ s.link.mustVoid { frame := f, error := none } = true := by
    rw [Link.mustVoid_iff]
    simp [hroom]
  have hdrive : (s.followed { frame := f, error := none }).drive { frame := f, error := none } = .nothing := by
    rw [State.followed_drive _ h.2.1]
    rcases hs with hs | hs <;> simp only [State.drive, hk, hs] <;> exact if_neg hgood
  rw [State.window_of_receives x h hr hk, State.receiverWindow, State.restartListening_eq]
  have hwindow : State.receiverFounding { frame := f, error := none } x (s.followed { frame := f, error := none }) =
      if x.void then s.followed { frame := f, error := none } else
        { s.followed { frame := f, error := none } with
          link := (s.followed { frame := f, error := none }).link.enqueue f } := by
    rw [hfollowed]
    rcases hs with hs | hs <;> simp only [State.receiverFounding, State.followedLink, hs]
  have hroom' : (s.followed { frame := f, error := none }).link.inbound.length < 8 := by rw [hfollowed]; exact hroom
  simp only [hdrive, hk]
  refine Eq.trans (b := State.receiverFounding { frame := f, error := none } x
    (s.followed { frame := f, error := none })) rfl ?_
  rw [hwindow, Link.enqueue_of_room f hroom', hfollowed]
  cases x.void <;> rfl

/-- A READ is taken by its addressee alone (R11, R152). -/
theorem State.window_of_read {s : State} {rx : List Bit} {f : Machine.Frame} (x : Slots) (h : s.Receives)
    (hs : s.link.state = .inService) (hr : receive rx = .window { frame := f, error := none })
    (hk : f.payload.kind? = some .read) (hroom : s.link.inbound.length < 8) :
    s.window .service rx x = { s.restartListening with link :=
      if f.dest = s.me then
        { s.link with inbound := s.link.inbound ++ [f], voidRun := 0, lostPlace := false }
      else { s.link with lostPlace := false } } := by
  have hcat : f.payload.category = .service := Payload.category_of_kind hk (by simp) (by simp)
  have hfollowed := State.followed_eq { frame := f, error := none } h.2.1
  have hgood : ¬ s.link.mustVoid { frame := f, error := none } = true := by
    rw [Link.mustVoid_iff]
    simp [hroom]
  have htakes : LinkState.inService.takes f.payload = true := by rw [LinkState.takes, isKind, hk]; rfl
  have hroom' : (s.followed { frame := f, error := none }).link.inbound.length < 8 := by rw [hfollowed]; exact hroom
  have hdrive : (s.followed { frame := f, error := none }).drive { frame := f, error := none } =
      if f.dest = s.me then .accept else .nothing := by
    rw [State.followed_drive _ h.2.1]
    simp only [State.drive, hcat, hs, hgood, htakes, ite_not]
    rfl
  rw [State.window_of_receives x h hr hcat, State.receiverWindow, State.restartListening_eq]
  by_cases hdest : f.dest = s.me
  · simp only [hdrive, if_pos hdest, hcat]
    refine Eq.trans (b := State.receiverService { frame := f, error := none } .accept
      ((s.followed { frame := f, error := none }).countVoids .accept)) rfl ?_
    rw [hfollowed]
    exact congrArg (fun l => ({ s with
      engine := { s.engine with listenTimer := s.engine.heardTimer }, link := l } : State))
      (Link.enqueue_of_room (l := { s.followedLink { frame := f, error := none } with voidRun := 0 }) f hroom)
  · simp only [hdrive, if_neg hdest, hcat]
    refine Eq.trans (b := s.followed { frame := f, error := none }) rfl ?_
    rw [hfollowed]
    rfl

end Sys2Proof.Machine
end

section
/-! Every window but that of a replica frame of another station IN_SERVICE is decided as the spec says (R9 to R11, R14,
R17, R18, R22, R34, R39, R41, R44, R45, R110, R117, R134, R136, R137, R171 to R173). -/

namespace Sys2Proof.Machine

/-- The own CENSUS, accepted: its slots follow. -/
theorem State.own_present {s : State} {w : OnWire} {e : TxEntry} {x : Slots} {n : Nat} {time : Option Nat}
    (rx : List Bit) (h : s.Sends w e) (hs : s.link.state = .inService) (hx : Accepting x) (hw : w.origin = .census)
    (hp : w.frame.payload = .census .present n time) : s.window .replica rx x = { s with link :=
      { s.link.afterLeaving w.origin with
        acceptedSeq := s.link.acceptedSeq + 1
        slots := some { frame := w.frame, answered := true, queue := true }
        censusTimer := some (2000000 + 20000 * s.me) } } := by
  have hkind : w.frame.payload.kind? = some .census := by rw [hp]; rfl
  have horigin : e.origin = .census := h.origin.trans hw
  have hon : (s.calls w.frame true).link.onWire .census = true := by
    rw [← horigin]
    exact h.onWire
  have hnot : (s.calls w.frame true).link.withdrawable .census .census = false := by
    unfold Link.withdrawable
    split
    · rw [hon]
      simp
    · rfl
  have haccept : (s.calls w.frame true).presentAccepted = { s.calls w.frame true with
      link := { (s.calls w.frame true).link with censusTimer := some s.censusPeriod } } :=
    if_neg (ne_true_of_eq_false hnot)
  rw [State.window_of_own rx h hs (Payload.category_of_kind hkind (by simp) (by simp)) hx,
    State.acceptReplica_of_present hp hs, haccept, State.frameLeaves_of_unheeded (s := { s.calls w.frame true with
      link := { (s.calls w.frame true).link with censusTimer := some s.censusPeriod } }) (.inl h.onWire)
      (fun l => by rw [horigin]; rfl), h.origin, Link.afterLeaving_eq, Link.afterLeaving_eq]
  rfl

theorem State.own_flow {s : State} {w : OnWire} {e : TxEntry} {x : Slots} {n : Nat} {time : Option Nat}
    (rx : List Bit) (h : s.Sends w e) (hs : s.link.state = .inService) (hx : Accepting x) (hw : w.origin = .gauge)
    (hp : w.frame.payload = .census .flow n time) : s.window .replica rx x = { s with link :=
      { s.link.afterLeaving w.origin with
        acceptedSeq := s.link.acceptedSeq + 1
        slots := some { frame := w.frame, answered := s.answersFlow n, queue := true } } } := by
  have hkind : w.frame.payload.kind? = some .census := by rw [hp]; rfl
  have horigin : e.origin = .gauge := h.origin.trans hw
  rw [State.window_of_own rx h hs (Payload.category_of_kind hkind (by simp) (by simp)) hx,
    State.acceptReplica_of_flow hp hs,
    State.frameLeaves_of_unheeded (s := s.calls w.frame (s.answersFlow n)) (.inl h.onWire)
      (fun l => by rw [horigin]; rfl), h.origin, Link.afterLeaving_eq, Link.afterLeaving_eq]
  rfl

/-- An own frame of the gauge unit, of the membership, or a RESUME, accepted: no block heeds it. -/
theorem State.own_unheeded {s : State} {w : OnWire} {e : TxEntry}
    (hk : w.origin = .gauge ∧ e.payload.kind? = some .gauge
      ∨ w.origin = .membership ∧ (e.payload.kind? = some .announce ∨ e.payload.kind? = some .leave)
      ∨ w.origin = .stopPath ∧ e.payload.kind? = some .resume ∧ s.stop.wanted = false) :
    (∃ k, e.payload.kind? = some k ∧ k ∉ [Kind.census, .stop, .found, .sealRound] ∧ k.codes.1 ≤ 5)
      ∧ ∀ l, State.blockOutcome w.origin e.payload .accepted { s with link := l } = { s with link := l } := by
  rcases hk with ⟨ho, hk⟩ | ⟨ho, hk⟩ | ⟨ho, hk, hw⟩
  · exact ⟨⟨_, hk, by decide, by decide⟩, fun l => by rw [ho]; rfl⟩
  · refine ⟨?_, fun l => by rw [ho]; exact State.membershipOutcome_of_unheeded _ hk⟩
    rcases hk with hk | hk
    · exact ⟨_, hk, by decide, by decide⟩
    · exact ⟨_, hk, by decide, by decide⟩
  · exact ⟨⟨_, hk, by decide, by decide⟩, fun l => by
      rw [ho]; exact State.stopPathOutcome_resume (s := { s with link := l }) hk hw⟩

/-- The own STOP, accepted, at an activity that opens (R110, R136). -/
theorem State.pendsFor_own_stop {s t : State} {f : Machine.Frame}
    (hp : (s.placed f).PendsFor (s.placed f).link .siteStop t) :
    s.PendsFor ((s.placed f).link.afterLeaving .stopPath) .siteStop
      { t with stop := StopPath.off, link := t.link.afterLeaving .stopPath } := by
  obtain ⟨hstays, hnone, hwith⟩ := hp
  refine ⟨fun x hx => ?_, fun hx hwd => ?_, fun hx hwd => ?_⟩
  · obtain ⟨h1, h2, h3, h4⟩ := hstays x hx
    exact ⟨h1, h2, h3, congrArg (fun l => l.afterLeaving .stopPath) h4⟩
  · obtain ⟨h1, h2, h3, h4⟩ := hnone hx hwd
    exact ⟨h1, h2, h3, congrArg (fun l => l.afterLeaving .stopPath) h4⟩
  · obtain ⟨h1, h2, h3⟩ := hwith hx hwd
    refine ⟨?_, h2, h3⟩
    rw [← Link.afterLeaving_remove _ (by decide), ← h1]

/-- The own STOP, accepted: the stop is no longer wanted, and the activity is ended where it may. -/
theorem State.own_stop_spec {s : State} {w : OnWire} {e : TxEntry} {x : Slots} {o : Byte} (rx : List Bit)
    (h : s.Sends w e) (hs : s.link.state = .inService) (hroom : s.link.inbound.length < 8) (hx : Accepting x)
    (hw : w.origin = .stopPath) (hp : e.payload = .stop o) (hf : w.frame.payload = e.payload) :
    let l : Link := { s.link.afterLeaving w.origin with acceptedSeq := s.link.acceptedSeq + 1 }
    let lq : Link := { l with inbound := s.link.inbound ++ [w.frame] }
    let heeded : StopPath := { wanted := false, byConsole := false }
    (s.activity.state ∉ [ActState.awaitingId, .opening, .flowing, .slowing] →
      exec (.replicaWindow rx x) s = .next { s with link := lq, stop := heeded })
    ∧ (s.activity.state = .flowing ∨ s.activity.state = .slowing →
      ∃ t, exec (.replicaWindow rx x) s = .next t ∧ s.StopsFor .siteStop t ∧ t.link = lq ∧ t.stop = heeded)
    ∧ (s.activity.state = .awaitingId → ∃ t, exec (.replicaWindow rx x) s = .next t
      ∧ t.activity.state = .refused .siteStopped ∧ t.link = lq ∧ t.stop = heeded)
    ∧ (s.activity.state = .opening → ∃ t, exec (.replicaWindow rx x) s = .next t
      ∧ s.PendsFor lq .siteStop t ∧ t.stop = heeded) := by
  intro l lq heeded
  have hlq : (s.placed w.frame).link.afterLeaving .stopPath = lq := by
    simp only [lq, l, hw, Link.afterLeaving_eq]
    rfl
  have hstop := fun y => State.own_stop (y := y) rx h hs hroom hx hw hp hf
  have hne : s.activity.state ≠ .awaitingId → (s.placed w.frame).stopAccepted = (s.placed w.frame).endEvent .siteStop :=
    fun hne => State.stopAccepted_of_ne (s := s.placed w.frame) hne
  refine ⟨fun hact => ?_, fun hact => ?_, fun hact => ?_, fun hact => ?_⟩
  · refine exec_of_quiet (f := State.window .replica rx x) rfl h.1 ?_ rfl
    rw [hstop _ (State.stopAccepted_of_other (s := s.placed w.frame) hact) rfl, hlq]
    rfl
  · have heq := hstop _ ((hne (by rcases hact with ha | ha <;> rw [ha] <;> simp)).trans
      (State.endEvent_of_flows (s := s.placed w.frame) .siteStop hact)) (by rw [State.stopWith_link]; rfl)
    refine ⟨_, exec_of_eq (f := State.window .replica rx x) rfl h.1 heq,
      (State.stopWith_stopsFor .siteStop (s.placed w.frame) :), ?_, rfl⟩
    rw [State.commitNotices_link, State.stopWith_link]
    exact hlq
  · have hlink := State.link_of_core (State.refuse_core .siteStopped (s.placed w.frame))
    have heq := hstop _ (State.stopAccepted_of_awaiting (s := s.placed w.frame) hact) (by rw [hlink]; rfl)
    refine ⟨_, exec_of_eq (f := State.window .replica rx x) rfl h.1 heq, ?_, ?_, rfl⟩
    · rw [State.commitNotices_activity, State.refuse_activity]
    · rw [State.commitNotices_link, hlink]
      exact hlq
  · have hpends := State.pendEnd_pendsFor .siteStop (s := s.placed w.frame) hact
    have heq := hstop _ ((hne (by rw [hact]; simp)).trans
      (State.endEvent_of_opening (s := s.placed w.frame) .siteStop hact)) ?_
    · refine ⟨_, exec_of_eq (f := State.window .replica rx x) rfl h.1 heq, ?_, rfl⟩
      rw [← hlq]
      exact (State.pendsFor_own_stop hpends :)
    · obtain ⟨hstays, hnone, hwith⟩ := hpends
      have hon : (s.placed w.frame).link.onWire .activity = false := by
        show s.link.onWire .activity = false
        rw [Link.onWire, h.2.1]
        dsimp only
        rw [hw]
        rfl
      cases hpe : s.activity.pendingEnd with
      | some r => exact (congrArg Link.wire (hstays r hpe).2.2.2 :)
      | none =>
        cases hwd : s.link.withdrawable .activity s.openKind with
        | false => exact (congrArg Link.wire (hnone hpe hwd).2.2.2 :)
        | true =>
          rw [(hwith hpe hwd).1, Link.remove, hon]
          rfl

/-- The slots that a joiner answers (R22, R31, R141). -/
theorem State.answersCensus_joining {s : State} (p : Payload) (hs : s.link.state = .joining) :
    s.answersCensus p = match p with
      | .census .present _ _ => true
      | .census .flow n _ => s.answersFlow n
      | _ => false := by
  have hin : s.inService = false := by rw [State.inService, hs]; rfl
  unfold State.answersCensus
  rw [hin, hs]
  cases p with
  | census k n time => cases k <;> rfl
  | _ => rfl

theorem Link.remove_of_off {l : Link} (o : Origin) (h : l.wire = none) :
    l.remove o = { l with tx := l.tx.filter fun e => decide (e.origin ≠ o) } := by
  rw [Link.remove, Link.onWire, h]
  simp only [Bool.false_eq_true, if_false, ← h]

/-- Settles O32. -/
theorem otherWindowsAreDecided : Obligations.OtherWindowsAreDecided := by
  refine ⟨fun s rx x w e h hs hk hw hcensus hstop hroom hx => ?_, fun s rx x w e h hs hf hx => ?_,
    fun s rx x f hrec hs hr hk hroom => ?_, fun s rx x w e q k h hs hw hk hp hroom hv => ?_,
    fun s rx x f hrec hs hr hk hroom => ?_, fun s rx x w e h hk hw hp hresp hv => ?_,
    fun s rx x w e j h hs hk hw hp hx => ?_, fun s rx x r hrec hr hk hs hx => ?_,
    fun s rx x r hrec hs hr hk hx hj => ?_, fun s rx x r hrec hs hr hk hx hj hq => ?_,
    fun s rx x r hrec hs hr hk hx => ?_⟩
  · refine exec_of_quiet (f := State.window .replica rx x) rfl h.1 ?_ rfl
    rw [← hw]
    exact State.own_placed rx h hs hk hcensus hstop hroom hx fun l => by rw [hw]; rfl
  · intro l lq called heeded
    refine ⟨fun n time hw hp => ?_, fun n time hw hp => ?_, fun hroom hcases => ?_, fun o hroom hw hp => ?_⟩
    · exact exec_of_quiet (f := State.window .replica rx x) rfl h.1
        (State.own_present rx h hs hx hw (hf.trans hp)) rfl
    · exact exec_of_quiet (f := State.window .replica rx x) rfl h.1 (State.own_flow rx h hs hx hw (hf.trans hp)) rfl
    · obtain ⟨⟨k, hkind, hnot, hcls⟩, hout⟩ := State.own_unheeded hcases
      simp only [List.mem_cons, List.not_mem_nil, or_false, not_or] at hnot
      obtain ⟨hcensus, hstop, hfound, hseal⟩ := hnot
      rw [← hf] at hkind
      have hk : w.frame.payload.category = .replica := by
        rw [Payload.category_of_kind hkind hfound hseal, if_pos hcls]
      exact exec_of_quiet (f := State.window .replica rx x) rfl h.1 (State.own_placed rx h hs hk
        (by rw [hkind]; simpa using hcensus) (by rw [hkind]; simpa using hstop) hroom hx hout) rfl
    · exact State.own_stop_spec rx h hs hroom hx hw hp hf
  · exact exec_of_quiet (f := State.window .founding rx x) rfl hrec.1
      (State.window_of_foundingFrame x hrec hs hr hk hroom) s.restartListening_console
  · exact exec_of_quiet (f := State.window .founding rx x) rfl h.1 (State.own_founding rx h hs hw hk hp hroom hv) rfl
  · exact exec_of_quiet (f := State.window .service rx x) rfl hrec.1 (State.window_of_read x hrec hs hr hk hroom)
      s.restartListening_console
  · exact exec_of_quiet (f := State.window .service rx x) rfl h.1 (State.own_busy rx h hk hw hp hresp hv) rfl
  · exact ⟨_, exec_of_eq (f := State.window .replica rx x) rfl h.1 (State.own_join rx h hs hk hw hp hx),
      rfl, rfl, rfl, rfl, rfl, rfl⟩
  · have heq := State.window_unheeded hrec hs hr hk hx
    rw [State.followed_eq r hrec.2.1] at heq
    rw [State.restartListening_eq]
    exact exec_of_quiet (f := State.window .replica rx x) rfl hrec.1 heq rfl
  · have hwindow := State.window_of_listening hrec hs hr hk hx hj
    intro l j offered
    have hwire : (s.readsSlots r).link.wire = none := hrec.2.2.1
    refine ⟨fun hold => ?_, fun hold hq => ?_, fun e hold hq => ?_⟩
    · refine exec_of_quiet (f := State.window .replica rx x) rfl hrec.1 ?_ rfl
      rw [hwindow, State.noteHeard_of_holdOff (s := s.readsSlots r) hold, State.restartListening_eq]
      rfl
    · refine exec_of_quiet (f := State.window .replica rx x) rfl hrec.1 ?_ rfl
      rw [hwindow, State.noteHeard_of_none (s := s.readsSlots r) hold hq]
      rfl
    · refine exec_of_quiet (f := State.window .replica rx x) rfl hrec.1 ?_ rfl
      by_cases hk' : e.payload.kind? = some .found
      · rw [hwindow, State.noteHeard_of_found (s := s.readsSlots r) hold hq hk' hwire, if_pos hk']
        rw [Link.remove_of_off _ hwire]
        rfl
      · rw [hwindow, State.noteHeard_of_queued (s := s.readsSlots r) hold hq hk' hwire, if_neg hk']
        rfl
  · have hwire : (s.readsSlots r).link.wire = none := hrec.2.2.1
    have hend := State.endRound_of_waiting (s := s.readsSlots r) hwire hq
    have hq' : (s.readsSlots r).roundOver.link.queued .membership = none := Link.remove_queued _ _
    have hwindow := State.window_of_founding hrec hs hr hk hx hj
    rw [State.roundHeard, hend] at hwindow
    cases hold : s.engine.holdOff with
    | none =>
      rw [State.noteHeard_of_none (s := (s.readsSlots r).roundOver) hold hq'] at hwindow
      have hexec := exec_of_eq (c := .replicaWindow rx x) (f := State.window .replica rx x) rfl hrec.1 hwindow
      refine ⟨_, hexec, rfl, rfl, rfl, rfl, rfl, rfl, rfl, fun _ => ⟨rfl, ?_⟩, fun h => absurd h (by simp)⟩
      rw [State.commitNotices_link]
      dsimp only
      rw [Link.enter_queued _ _ hq']
      rfl
    | some n =>
      have hsome : s.engine.holdOff.isSome = true := by rw [hold]; rfl
      rw [State.noteHeard_of_holdOff (s := (s.readsSlots r).roundOver) hsome] at hwindow
      have hexec := exec_of_eq (c := .replicaWindow rx x) (f := State.window .replica rx x) rfl hrec.1 hwindow
      exact ⟨_, hexec, rfl, rfl, rfl, rfl, rfl, rfl, rfl, fun h => absurd h (by simp), fun _ => ⟨rfl, rfl, hq'⟩⟩
  · have hwindow := State.window_of_joining hrec hs hr hk hx
    have hfollowed := State.followed_eq r hrec.2.1
    have hinbound : (s.followed r).link.inbound = s.link.inbound := by rw [hfollowed]; rfl
    intro answers w
    refine ⟨fun hfull => ?_, fun hroom => ?_⟩
    · rw [State.joiningReplica, hinbound, if_pos hfull, State.abandonJoin_slotsFollow _ _
        (by rw [hfollowed]; exact hrec.2.2.2)] at hwindow
      refine ⟨_, exec_of_eq (f := State.window .replica rx x) rfl hrec.1 hwindow,
        (s.followed r).abandonJoin_outWith .catchUpOverflow, ?_, ?_, rfl⟩
      · refine ((s.followed r).abandonJoin_holdOff .catchUpOverflow).trans ?_
        rw [hfollowed]
        rfl
      · refine ((s.followed r).abandonJoin_replica .catchUpOverflow).trans ?_
        rw [hfollowed]
    · refine exec_of_quiet (f := State.window .replica rx x) rfl hrec.1 ?_ s.restartListening_console
      rw [hwindow, State.joiningReplica, hinbound, if_neg (by omega), hfollowed, State.restartListening_eq]
      by_cases hcensus : r.frame.payload.kind? = some .census
      · rw [if_pos (by rw [isKind, hcensus]; rfl), if_pos hcensus,
          State.censusAccepted_eq (b := answers) _ (State.answersCensus_joining (s := {
            s with engine := { s.engine with listenTimer := s.engine.heardTimer }, link := s.followedLink r })
            r.frame.payload hs)]
      · rw [if_neg (by simpa [isKind] using hcensus), if_neg hcensus]
        cases r.error.isSome with
        | true => rfl
        | false =>
          have henqueue := Link.enqueue_of_room (l := s.followedLink r) r.frame hroom
          dsimp only
          rw [if_neg Bool.false_ne_true, henqueue]
          rfl

end Sys2Proof.Machine
end

section
/-! The timers of joining and listening (R34, R41), and the founding round (R44 to R46). -/

namespace Sys2Proof.Machine

/-! ## The front of the inbound queue -/

/-- The station with the front of its inbound queue taken away. -/
def State.behind (rest : List Machine.Frame) (s : State) : State := { s with link := { s.link with inbound := rest } }

theorem State.popInbound_of_cons {s : State} {f : Machine.Frame} {rest : List Machine.Frame} (h : s.link.inbound = f :: rest) :
    s.popInbound = s.behind rest := by
  rw [State.popInbound, h]
  rfl

/-- The engine takes the front of the inbound queue, of the kind asked for. -/
theorem State.engineTakes_of_cons {s : State} {k : Kind} {f : Machine.Frame} {rest : List Machine.Frame} 
    (g : Machine.Frame → State → State)
    (hw : s.engine.writing = none) (h : s.link.inbound = f :: rest) (hk : f.payload.kind? = some k) :
    s.engineTakes k g = g f (s.behind rest) := by
  rw [State.engineTakes, hw, State.takeKind, h, State.popInbound_of_cons h]
  exact if_pos hk

/-! ## Timers (R34, R41) -/

/-- The join is abandoned with its cause. -/
theorem State.abandonJoin_spec (c : Reason) {s y : State} (hme : y.me = s.me) (hr : y.replica = s.replica) :
    (y.abandonJoin c).OutWith .listening c ∧ (y.abandonJoin c).engine.holdOff = some (1000000 + 50000 * s.me)
      ∧ (y.abandonJoin c).replica = s.replica :=
  ⟨y.abandonJoin_outWith c, by rw [y.abandonJoin_holdOff c, hme], by rw [y.abandonJoin_replica c, hr]⟩

/-- Settles O40. -/
theorem joinAndListenTimers : Obligations.JoinAndListenTimers := by
  refine ⟨fun s f rest a hlive hs hw hjoin hin hp hdonor => ?_, fun s hlive hs htimer => ?_,
    fun s hlive hs htimer => ?_, fun s hlive hs htimer hq => ?_, fun s hlive hold hnot => ?_,
    fun s hlive hold hnoted hs hq => ?_⟩
  · have hkind : f.payload.kind? = some .snapAbort := by rw [hp]; rfl
    have heq : s.engineTakes .snapAbort State.snapAbort = (s.behind rest).abandonJoin .snapAborted := by
      rw [State.engineTakes_of_cons _ hw hin hkind]
      have hjoin' : (s.behind rest).engine.join = some a := hjoin
      rw [State.snapAbort, hjoin']
      exact if_pos ⟨hs, hdonor⟩
    exact ⟨_, exec_of_eq (f := State.engineTakes .snapAbort State.snapAbort) rfl hlive heq,
      State.abandonJoin_spec .snapAborted rfl rfl⟩
  · exact ⟨_, exec_of_eq (f := State.noSnapHead) rfl hlive (if_pos ⟨hs, htimer⟩),
      State.abandonJoin_spec .noSnapHead rfl rfl⟩
  · exact ⟨_, exec_of_eq (f := State.joinTimeout) rfl hlive (if_pos ⟨hs, htimer⟩),
      State.abandonJoin_spec .joinTimeout rfl rfl⟩
  · refine exec_of_quiet (f := State.listeningTimeout) rfl hlive ?_ rfl
    rw [State.listeningTimeout, if_pos ⟨hs, htimer⟩, State.offer]
    dsimp only
    rw [Link.offer_of_none _ _ hq]
    rfl
  · refine exec_of_quiet (f := State.holdOffEnd) rfl hlive ?_ rfl
    rw [State.holdOffEnd, if_pos hold]
    refine if_neg ?_
    rintro ⟨hnoted, hs⟩
    rcases hnot with h | h
    · rw [h] at hnoted
      cases hnoted
    · exact h hs
  · refine exec_of_quiet (f := State.holdOffEnd) rfl hlive ?_ rfl
    have hnote := State.noteHeard_of_none
      (s := { s with engine := { s.engine with holdOff := none, heardNoted := false } }) rfl hq
    rw [State.holdOffEnd, if_pos hold]
    refine (if_pos ⟨hnoted, hs⟩).trans (hnote.trans ?_)
    rfl

/-! ## The founding round (R44 to R46) -/

theorem State.foundQueued_of_none {s : State} (h : s.link.queued .membership = none) : s.foundQueued = false := by
  rw [State.foundQueued, h]

/-- The round that a FOUND opens. -/
def State.opensRound (c : Candidate) (own sent : Bool) (s : State) : State :=
  State.raise (.linkState .founding .noReason) { s with
    link := { s.link with state := .founding, reason := .noReason, voidRun := 0 }
    engine := { s.engine with
      listenTimer := none, round := some { sealer := c.station, candidates := [c] }, roundTimer := some 5000000,
      foundSent := sent, sealTimer := if own then some 2000000 else none } }

theorem State.openRound_of_sent {s : State} {c : Candidate} (h : s.engine.foundSent = true ∨ c.station = s.me) :
    s.openRound c = s.opensRound c (c.station == s.me) true := by
  have hsent : (s.engine.foundSent || c.station == s.me) = true := by
    rcases h with h | h <;> simp [h]
  simp only [State.openRound, hsent, Bool.true_or, if_true]
  rfl

theorem State.openRound_of_unsent {s : State} {c : Candidate} (h : s.engine.foundSent = false)
    (hme : c.station ≠ s.me) (hq : s.link.queued .membership = none) :
    s.openRound c = State.offer .membership s.foundFrame (s.opensRound c false false) := by
  have hown : (c.station == s.me) = false := beq_false_of_ne hme
  have hqueued : (s.opensRound c false false).foundQueued = false := State.foundQueued_of_none hq
  simp only [State.openRound, h, hown, Bool.or_false]
  exact if_neg (ne_true_of_eq_false hqueued)

theorem State.addCandidate_of_other {s : State} {c : Candidate} {r : Round} (h : c.station ≠ s.me) :
    s.addCandidate c r =
      let r' : Round :=
        if (∃ x ∈ r.candidates, x.station = c.station) ∨ 31 ≤ r.candidates.length then r
        else { r with candidates := r.candidates ++ [c] }
      { s with engine := { s.engine with round := some r' } } := by
  have hown : (c.station == s.me) = false := beq_false_of_ne h
  have hiff : ((r.candidates.any fun x => x.station == c.station) = false ∧ r.candidates.length < 31) ↔
      ¬ ((∃ x ∈ r.candidates, x.station = c.station) ∨ 31 ≤ r.candidates.length) := by
    simp [not_or]
  simp only [State.addCandidate, hown, Bool.or_false]
  by_cases hc : (∃ x ∈ r.candidates, x.station = c.station) ∨ 31 ≤ r.candidates.length
  · rw [if_pos hc, if_neg (fun h' => hiff.mp h' hc)]
  · rw [if_neg hc, if_pos (hiff.mpr hc)]

/-! ### Entering service (R8, R23, R46) -/

theorem Link.enter_queued_ne {l : Link} {o o' : Origin} (d : Nat) (p : Payload) (h : o ≠ o') :
    (l.enter o d p).queued o' = l.queued o' := by
  simp [Link.queued, Link.enter, List.find?_append, h]

/-- Offering STOP leaves what another block has in the queue. -/
theorem State.offerStop_queued_ne {s : State} {o : Origin} (h : Origin.stopPath ≠ o) :
    s.offerStop.link.queued o = s.link.queued o := by
  unfold State.offerStop
  split
  · exact Link.offer_queued_ne 0 _ h
  · rfl

theorem State.offerStop_link (s : State) : s.offerStop.link.state = s.link.state
    ∧ s.offerStop.link.inbound = s.link.inbound ∧ s.offerStop.link.acceptedSeq = s.link.acceptedSeq
    ∧ s.offerStop.link.censusTimer = s.link.censusTimer := by
  unfold State.offerStop
  split
  · refine ⟨Link.offer_state _ _ _ _, Link.offer_inbound _ _ _ _, ?_, ?_⟩
    all_goals
      unfold State.offer Link.offer
      dsimp only
      split
      · rfl
      · split <;> rfl
  · exact ⟨rfl, rfl, rfl, rfl⟩

/-- A station that enters service with no membership frame queued announces itself. -/
theorem State.enterService_spec {s : State} (founder : Bool) (hq : s.link.queued .membership = none) :
    let t := s.enterService founder
    t.link.state = .inService ∧ t.link.inbound = s.link.inbound ∧ t.link.acceptedSeq = s.replica.site.seq
      ∧ t.link.censusTimer = some (2000000 + 20000 * s.me)
      ∧ t.engine = { s.engine with listenTimer := none } ∧ t.replica = s.replica
      ∧ (∃ e, t.link.queued .membership = some e ∧ e.payload = s.announceFrame founder)
      ∧ t.console = (s.raise (.linkState .inService .noReason)).console := by
  generalize hy : State.setLink .inService .noReason { s with link := { s.link with
    acceptedSeq := s.replica.site.seq, censusTimer := some s.censusPeriod } } = y
  have hq' : y.link.queued .membership = none := by rw [← hy]; exact hq
  have hdef : s.enterService founder = State.offerStop { y with
      link := y.link.enter .membership 0 (s.announceFrame founder) } := by
    subst hy
    rw [← Link.offer_of_none _ _ hq']
    rfl
  intro t
  have ht : t = State.offerStop { y with link := y.link.enter .membership 0 (s.announceFrame founder) } := hdef
  have heq := State.offerStop_eq { y with link := y.link.enter .membership 0 (s.announceFrame founder) }
  obtain ⟨h1, h2, h3, h4⟩ :=
    State.offerStop_link { y with link := y.link.enter .membership 0 (s.announceFrame founder) }
  rw [← ht] at heq h1 h2 h3 h4
  refine ⟨by rw [h1, ← hy]; rfl, by rw [h2, ← hy]; rfl, by rw [h3, ← hy]; rfl, by rw [h4, ← hy]; rfl,
    by rw [heq, ← hy]; rfl, by rw [heq, ← hy]; rfl, ?_, by rw [heq, ← hy]; rfl⟩
  rw [ht, State.offerStop_queued_ne (by decide)]
  exact ⟨_, Link.enter_queued 0 (s.announceFrame founder) hq', rfl⟩

/-! ### The end of the round (R45, R46) -/

/-- The round ends without going into service. -/
theorem State.endRound_spec (s : State) :
    let t := s.endRound .listening .noReason
    t.link.state = .listening ∧ t.link.inbound = s.link.inbound ∧ t.engine.round = none
      ∧ t.engine.roundTimer = none ∧ t.engine.sealTimer = none ∧ t.engine.listenTimer = some 4000000
      ∧ t.replica = s.replica := by
  have hin : ((s.withdraw .membership .found).withdraw .membership .sealRound).link.inbound = s.link.inbound := by
    unfold State.withdraw
    split
    · split <;> rfl
    · split <;> rfl
  refine ⟨rfl, hin, rfl, rfl, rfl, rfl, ?_⟩
  show ((s.withdraw .membership .found).withdraw .membership .sealRound).replica = s.replica
  simp

theorem State.takeSeal_of_founding {s : State} {f : Machine.Frame} {x : Sealing} (hs : s.link.state = .founding)
    (hp : f.payload = .sealRound x) : s.takeSeal f =
      if x.winner = s.me then
        State.enterService true { s.withdraw .membership .found with
          link := (s.withdraw .membership .found).link.dropKept .membership
          engine := { s.engine with round := none, roundTimer := none, sealTimer := none } }
      else if x.keyCheck = s.keyCheck then s.endRound .listening .noReason
      else s.enterFaulted .keyMismatch := by
  rw [State.takeSeal, if_neg (by rw [hs]; simp), hp]
  dsimp only
  rw [State.withdraw_engine]

theorem Link.sealWaits_iff {l : Link} : l.sealWaits = true ↔ ∃ f ∈ l.inbound, ∃ x, f.payload = .sealRound x := by
  unfold Link.sealWaits
  rw [List.any_eq_true]
  refine exists_congr fun f => and_congr_right fun _ => ?_
  cases f.payload <;> simp

/-- Settles O41. -/
theorem foundingRoundRuns : Obligations.FoundingRoundRuns := by
  refine ⟨fun s f rest q k hlive hs hw hin hp hq => ⟨fun hne hsent => ?_, fun hme => ?_⟩,
    fun s f rest q k r hlive hs hw hround hin hp hne => ?_, fun s r hlive hs htimer hround hcands hq => ?_,
    fun s f rest x hlive hs hw hin hp => ⟨fun hwin hq => ?_, fun hwin hkey => ?_, fun hwin hkey => ?_⟩,
    fun s hlive hs htimer => ⟨fun hno => ?_, fun f hf x hp => ?_⟩⟩
  · have hkind : f.payload.kind? = some .found := by rw [hp]; rfl
    have htake : State.takeFound f (s.behind rest) = (s.behind rest).openRound
        { station := f.sender, retained := q, keyCheck := k } := by
      have hs' : (s.behind rest).link.state = .listening := hs
      simp only [State.takeFound, candidateOf, hp, hs']
    have heq := (State.engineTakes_of_cons State.takeFound hw hin hkind).trans
      (htake.trans (State.openRound_of_unsent (s := s.behind rest) hsent hne hq))
    have hq' : ((s.behind rest).opensRound { station := f.sender, retained := q, keyCheck := k } false false).link.queued
      .membership = none := hq
    refine ⟨_, exec_of_eq (f := State.engineTakes .found State.takeFound) rfl hlive heq, ?_⟩
    simp only [State.commitNotices_link, State.commitNotices_engine, State.offer, Link.offer_of_none _ _ hq']
    exact ⟨rfl, rfl, rfl, rfl, rfl, rfl, rfl⟩
  · have hkind : f.payload.kind? = some .found := by rw [hp]; rfl
    have htake : State.takeFound f (s.behind rest) = (s.behind rest).openRound
        { station := f.sender, retained := q, keyCheck := k } := by
      have hs' : (s.behind rest).link.state = .listening := hs
      simp only [State.takeFound, candidateOf, hp, hs']
    have heq := (State.engineTakes_of_cons State.takeFound hw hin hkind).trans
      (htake.trans (State.openRound_of_sent (s := s.behind rest) (.inr hme)))
    have hown : (f.sender == (s.behind rest).me) = true := beq_iff_eq.mpr hme
    rw [hown, hme] at heq
    exact ⟨_, exec_of_eq (f := State.engineTakes .found State.takeFound) rfl hlive heq, rfl, rfl, rfl, rfl, rfl, rfl⟩
  · have hkind : f.payload.kind? = some .found := by rw [hp]; rfl
    have htake : State.takeFound f (s.behind rest) = (s.behind rest).addCandidate
        { station := f.sender, retained := q, keyCheck := k } r := by
      have hs' : (s.behind rest).link.state = .founding := hs
      have hround' : (s.behind rest).engine.round = some r := hround
      simp only [State.takeFound, candidateOf, hp, hs', hround']
    exact exec_of_quiet (f := State.engineTakes .found State.takeFound) rfl hlive
      ((State.engineTakes_of_cons State.takeFound hw hin hkind).trans
        (htake.trans (State.addCandidate_of_other (s := s.behind rest) hne))) rfl
  · obtain ⟨w, hwmem, hbeats, hseal⟩ := Round.sealFrame_spec hcands
    refine ⟨w, hwmem, hbeats, exec_of_quiet (f := State.sealDue) rfl hlive ?_ rfl⟩
    have htimer' : s.engine.sealTimer.isNone = false := by simpa using htimer
    rw [State.sealDue, htimer']
    simp only [hround, Option.bind_some, hseal, hs, State.offer, Link.offer_of_none _ _ hq]
    rfl
  · have hkind : f.payload.kind? = some .sealRound := by rw [hp]; rfl
    have hwd : (s.behind rest).withdraw .membership .found = s.behind rest := by
      rw [State.withdraw, Link.withdrawable_of_none (l := (s.behind rest).link) _ hq]
      rfl
    have heq := (State.engineTakes_of_cons State.takeSeal hw hin hkind).trans
      (State.takeSeal_of_founding (s := s.behind rest) hs hp)
    have hwin' : x.winner = (s.behind rest).me := hwin
    rw [if_pos hwin', hwd] at heq
    obtain ⟨h1, h2, h3, h4, h5, h6, ⟨e, h7, h8⟩, _⟩ := State.enterService_spec (s := { s.behind rest with
      link := (s.behind rest).link.dropKept .membership
      engine := { s.engine with round := none, roundTimer := none, sealTimer := none } }) true hq
    exact ⟨_, e, exec_of_eq (f := State.engineTakes .sealRound State.takeSeal) rfl hlive heq, h1, h2, h3, h6,
      (congrArg Engine.round h5 :), (congrArg Engine.roundTimer h5 :), (congrArg Engine.sealTimer h5 :), h4, h7, h8⟩
  · have hkind : f.payload.kind? = some .sealRound := by rw [hp]; rfl
    have heq := (State.engineTakes_of_cons State.takeSeal hw hin hkind).trans
      (State.takeSeal_of_founding (s := s.behind rest) hs hp)
    have hwin' : x.winner ≠ (s.behind rest).me := hwin
    have hkey' : x.keyCheck = (s.behind rest).keyCheck := hkey
    rw [if_neg hwin', if_pos hkey'] at heq
    exact ⟨_, exec_of_eq (f := State.engineTakes .sealRound State.takeSeal) rfl hlive heq,
      (s.behind rest).endRound_spec⟩
  · have hkind : f.payload.kind? = some .sealRound := by rw [hp]; rfl
    have heq := (State.engineTakes_of_cons State.takeSeal hw hin hkind).trans
      (State.takeSeal_of_founding (s := s.behind rest) hs hp)
    have hwin' : x.winner ≠ (s.behind rest).me := hwin
    have hkey' : x.keyCheck ≠ (s.behind rest).keyCheck := hkey
    rw [if_neg hwin', if_neg hkey'] at heq
    exact ⟨_, exec_of_eq (f := State.engineTakes .sealRound State.takeSeal) rfl hlive heq,
      State.enterFaulted_outWith _ _, State.enterFaulted_replica _ _⟩
  · have hnot : s.link.sealWaits = false := by
      rw [Bool.eq_false_iff]
      intro h
      obtain ⟨f, hf, x, hx⟩ := Link.sealWaits_iff.mp h
      exact hno f hf (by rw [hx]; rfl)
    have heq : s.roundTimeout = s.endRound .listening .noReason := by
      rw [State.roundTimeout, if_pos ⟨hs, htimer⟩, hnot]
      rfl
    obtain ⟨h1, h2, h3, h4, h5, h6, h7⟩ := s.endRound_spec
    exact ⟨_, exec_of_eq (f := State.roundTimeout) rfl hlive heq, h1, h3, h4, h5, h6, h2, h7⟩
  · refine exec_of_quiet (f := State.roundTimeout) rfl hlive ?_ rfl
    rw [State.roundTimeout, if_pos ⟨hs, htimer⟩]
    exact if_pos (Link.sealWaits_iff.mpr ⟨f, hf, x, hp⟩)

end Sys2Proof.Machine
end

section
/-! Two facts that the joiner's catch-up needs: the effect of a frame leaves the site sequence as the frame set it (R25,
R27), and every notice raised in a step enters where the queue has room for all (R185). -/

namespace Sys2Proof.Machine

/-! ## The site sequence -/

/-- A change of the tables that leaves the site sequence number. -/
abbrev Replica.SameSeq (r r' : Replica) : Prop := r'.site.seq = r.site.seq

theorem Replica.endFillAtMachine_seq (r : Replica) (n : Nat) (v : Int) (l : Option LastFill) :
    r.SameSeq (r.endFillAtMachine n v l) := by
  unfold Replica.endFillAtMachine
  dsimp only
  split
  · split <;> rfl
  · split <;> rfl

theorem Replica.orphan_seq (r : Replica) (n : Nat) (time : Option Nat) : r.SameSeq (r.orphan n time) := by
  unfold Replica.orphan
  split
  · split
    · split
      · exact (Replica.endFillAtMachine_seq _ _ _ _).trans rfl
      · rfl
    · rfl
  · rfl

theorem Replica.endDonation_seq (r : Replica) (n : Nat) : r.SameSeq (r.endDonation n) := by
  unfold Replica.endDonation
  split
  · dsimp only
    split
    · split <;> rfl
    · split <;> rfl
  · rfl

theorem Replica.remove_seq (r : Replica) (time : Option Nat) (n : Nat) : r.SameSeq (r.remove time n) :=
  (Replica.endDonation_seq _ n).trans (r.orphan_seq n time)

theorem foldl_sameSeq {f : Replica → Nat → Replica} (hf : ∀ (r : Replica) n, r.SameSeq (f r n)) (l : List Nat) (r : Replica) :
    r.SameSeq (l.foldl f r) := by
  induction l generalizing r with
  | nil => rfl
  | cons n l ih => exact (ih (f r n)).trans (hf r n)

theorem joinEffect_seq (r : Replica) (n : Nat) (j : Joining) : r.SameSeq (joinEffect r n j).1 := by
  unfold joinEffect
  split
  · rfl
  · split
    · rfl
    · split
      · rfl
      · dsimp only
        split
        · split <;> rfl
        · split <;> rfl

theorem announceEffect_seq (r : Replica) (n : Nat) (a : Announcing) : r.SameSeq (announceEffect r n a).1 := by
  unfold announceEffect
  split
  · rfl
  · split
    · rfl
    · split
      · rfl
      · dsimp only
        split <;> rfl

theorem closeEffect_seq (r : Replica) (n : Nat) (c : Closing) : r.SameSeq (closeEffect r n c).1 := by
  unfold closeEffect
  split
  · rfl
  · split
    · split
      · exact (Replica.endFillAtMachine_seq _ _ _ _).trans rfl
      · rfl
    · rfl

theorem deliveryCloseEffect_seq (r : Replica) (n : Nat) (c : Closing) : r.SameSeq (deliveryCloseEffect r n c).1 := by
  unfold deliveryCloseEffect
  split
  · rfl
  · split
    · split <;> rfl
    · rfl

theorem adjustEffect_seq (r : Replica) (n : Nat) (a : Adjusting) : r.SameSeq (adjustEffect r n a).1 := by
  unfold adjustEffect
  split
  · split
    · unfold adjustBy
      dsimp only
      split <;> rfl
    · rfl
  · rfl

theorem openEffect_seq (r : Replica) (n : Nat) (o : OpenRequest) : r.SameSeq (openEffect r n o).1 := by
  unfold openEffect
  split
  · rfl
  · split
    · rfl
    · split
      · dsimp only
        split <;> rfl
      · rfl

theorem deliveryOpenEffect_seq (r : Replica) (n : Nat) (d : DeliveryRequest) :
    r.SameSeq (deliveryOpenEffect r n d).1 := by
  unfold deliveryOpenEffect
  split
  · rfl
  · split
    · rfl
    · split <;> rfl

theorem progressEffect_seq (r : Replica) (n q v : Nat) : r.SameSeq (progressEffect r n q v).1 := by
  unfold progressEffect
  split <;> rfl

theorem gaugeEffect_seq (r : Replica) (n : Nat) (g : Gauging) : r.SameSeq (gaugeEffect r n g).1 := by
  unfold gaugeEffect
  split
  · rfl
  · split <;> rfl

theorem flowEffect_seq (r : Replica) (n : Nat) (map : BitVec 32) : r.SameSeq (flowEffect r n map).1 := by
  unfold flowEffect
  split <;> rfl

theorem grantEffect_seq (r : Replica) (g : Granting) : r.SameSeq (grantEffect r g).1 := by
  unfold grantEffect
  split
  · rfl
  · split
    · unfold grantExisting
      dsimp only
      split
      · split <;> rfl
      · split <;> rfl
    · unfold grantNew
      split <;> rfl

theorem barEffect_seq (r : Replica) (n : Nat) (b : Bool) : r.SameSeq (barEffect r n b).1 := by
  unfold barEffect
  split
  · split
    · split <;> rfl
    · rfl
  · rfl

theorem dropEffect_seq (r : Replica) (n : Nat) : r.SameSeq (dropEffect r n).1 := by
  unfold dropEffect
  split
  · split
    · split
      · rfl
      · split <;> rfl
    · rfl
  · rfl

theorem tankSetEffect_seq (r : Replica) (x : TankSetting) : r.SameSeq (tankSetEffect r x).1 := by
  unfold tankSetEffect
  split
  · rfl
  · split
    · rfl
    · split <;> rfl

theorem orderEffect_seq (r : Replica) (n : Nat) : r.SameSeq (orderEffect r n).1 := by
  unfold orderEffect
  split
  · split <;> rfl
  · rfl

theorem ccClearEffect_seq (r : Replica) (n : Nat) : r.SameSeq (ccClearEffect r n).1 := by
  unfold ccClearEffect
  split <;> rfl

theorem siteSetEffect_seq (r : Replica) (a b : Option Nat) (c : Option Bool) :
    r.SameSeq (siteSetEffect r a b c).1 := by
  unfold siteSetEffect
  split <;> rfl

theorem resumeEffect_seq (r : Replica) (n : Nat) : r.SameSeq (resumeEffect r n).1 := by
  unfold resumeEffect
  split
  · rfl
  · split <;> rfl

theorem presentEffect_seq (r : Replica) (map : BitVec 32) (time : Option Nat) :
    r.SameSeq (presentEffect r map time).1 :=
  foldl_sameSeq (fun x n => x.remove_seq time n) _ _

theorem founderEffect_seq (r : Replica) (n : Nat) (a : Announcing) : r.SameSeq (founderEffect r n a).1 :=
  foldl_sameSeq (f := Replica.sweepOne) (fun x k => x.orphan_seq k none) _ _

theorem kindEffect_seq (r : Replica) (f : Frame) : r.SameSeq (kindEffect r f).1 := by
  unfold kindEffect
  split
  case h_1 => rfl
  case h_2 => exact resumeEffect_seq _ _
  case h_3 => exact closeEffect_seq _ _ _
  case h_4 => exact deliveryCloseEffect_seq _ _ _
  case h_5 => exact adjustEffect_seq _ _ _
  case h_6 => exact openEffect_seq _ _ _
  case h_7 => exact deliveryOpenEffect_seq _ _ _
  case h_8 => exact progressEffect_seq _ _ _ _
  case h_9 => exact gaugeEffect_seq _ _ _
  case h_10 => exact presentEffect_seq _ _ _
  case h_11 => exact flowEffect_seq _ _ _
  case h_12 => exact grantEffect_seq _ _
  case h_13 => exact barEffect_seq _ _ _
  case h_14 => exact barEffect_seq _ _ _
  case h_15 => exact dropEffect_seq _ _
  case h_16 => rfl
  case h_17 => exact tankSetEffect_seq _ _
  case h_18 => exact orderEffect_seq _ _
  case h_19 => exact ccClearEffect_seq _ _
  case h_20 => exact siteSetEffect_seq _ _ _ _
  case h_21 => rfl
  case h_22 => exact joinEffect_seq _ _ _
  case h_23 a _ =>
    split
    · exact founderEffect_seq _ _ _
    · exact announceEffect_seq _ _ _
  case h_24 => exact Replica.remove_seq _ _ _
  case h_25 => rfl

/-- The effect of a frame leaves the sequence number that the frame took. -/
theorem applyEffect_seq (r : Replica) (f : Frame) : r.SameSeq (applyEffect r f).1 := by
  unfold applyEffect
  split
  · rfl
  · exact kindEffect_seq r f

/-! ## The notices of a step (R185) -/

theorem mem_hopIn {n x : Notice} (k : Nat) (l : List Notice) : x ∈ hopIn n k l ↔ x = n ∨ x ∈ l := by
  induction l generalizing k with
  | nil => cases k <;> simp [hopIn]
  | cons m l ih =>
    cases k with
    | zero => simp [hopIn]
    | succ k =>
      unfold hopIn
      split
      · simp
      · simp only [List.mem_cons, ih]
        exact or_left_comm

theorem length_hopIn (n : Notice) (k : Nat) (l : List Notice) : (hopIn n k l).length = l.length + 1 := by
  induction l generalizing k with
  | nil => cases k <;> rfl
  | cons m l ih =>
    cases k with
    | zero => rfl
    | succ k =>
      unfold hopIn
      split
      · rfl
      · rw [List.length_cons, ih, List.length_cons]

/-- Arranging the notices of a step loses none and makes none. -/
theorem mem_arrange {x : Notice} (k : Nat) (acc l : List Notice) : x ∈ arrange k acc l ↔ x ∈ acc ∨ x ∈ l := by
  induction l generalizing k acc with
  | nil => simp [arrange]
  | cons n l ih =>
    rw [arrange, ih, mem_hopIn, List.mem_cons, or_comm (a := x = n), or_assoc]

theorem length_arrange (k : Nat) (acc l : List Notice) : (arrange k acc l).length = acc.length + l.length := by
  induction l generalizing k acc with
  | nil => simp [arrange]
  | cons n l ih =>
    rw [arrange, ih, length_hopIn, List.length_cons, Nat.add_right_comm, Nat.add_assoc]

theorem Console.enter_of_room {c : Console} (n : Notice) (h : c.notices.length < 16) :
    c.enter n = { c with notices := c.notices ++ [n] } := if_pos h

/-- Where the queue has room for all of them, all enter. -/
theorem Console.foldl_enter_notices (ns : List Notice) {c : Console} (h : c.notices.length + ns.length ≤ 16) :
    (ns.foldl Console.enter c).notices = c.notices ++ ns := by
  induction ns generalizing c with
  | nil => simp
  | cons n ns ih =>
    rw [List.length_cons] at h
    rw [List.foldl_cons, Console.enter_of_room n (by omega), ih]
    · simp
    · simp only [List.length_append, List.length_cons, List.length_nil]
      omega

/-- A notice raised in a step is told where the queue has room for all that the step raises. -/
theorem State.mem_commitNotices {s : State} {n : Notice} (hn : n ∈ s.console.raised)
    (h : s.console.notices.length + s.console.raised.length ≤ 16) : n ∈ s.commitNotices.console.notices := by
  unfold State.commitNotices
  dsimp only
  split
  · rw [Console.foldl_enter_notices _ (by rw [length_arrange]; simpa using h)]
    exact List.mem_append_right _ ((mem_arrange _ _ _).mpr (.inr hn))
  · rw [Console.foldl_enter_notices _ h]
    exact List.mem_append_right _ hn

/-- The notices of a state between two commands, as its next command raises its own. -/
theorem exists_notice {s t : State} {b : NoticeBody} (hb : ∃ n ∈ t.console.raised, n.body = b)
    (hnotices : t.console.notices = s.console.notices)
    (h : s.console.notices.length + t.console.raised.length ≤ 16) :
    ∃ n ∈ t.commitNotices.console.notices, n.body = b := by
  obtain ⟨n, hn, hbody⟩ := hb
  exact ⟨n, State.mem_commitNotices hn (by rw [hnotices]; exact h), hbody⟩

end Sys2Proof.Machine
end

section
/-! The snapshot stream at a joiner (R39 to R41): the frames that wait are applied in their order, and what is left of the
station stays as it was. -/

namespace Sys2Proof.Machine

/-! ## What the waiting frames leave (R40) -/

/-- A change that leaves the engine, the configuration and a membership frame in the queue, and raises at most `k`
notices. -/
abbrev State.WaitsOn (k : Nat) (s t : State) : Prop :=
  t.engine = s.engine ∧ t.settings = s.settings ∧ t.link.queued .membership = s.link.queued .membership
    ∧ t.console.notices = s.console.notices ∧ t.console.raised.length ≤ s.console.raised.length + k

theorem State.WaitsOn.trans {s t u : State} {j k : Nat} (h : s.WaitsOn j t) (h' : t.WaitsOn k u) :
    s.WaitsOn (j + k) u := by
  obtain ⟨h1, h2, h3, h4, h5⟩ := h
  obtain ⟨g1, g2, g3, g4, g5⟩ := h'
  exact ⟨g1.trans h1, g2.trans h2, g3.trans h3, g4.trans h4, by omega⟩

/-- What is in the queue of other blocks decides their places. -/
theorem Link.queued_of_others {l l' : Link} {o o' : Origin} (hne : o ≠ o')
    (h : (l'.tx.filter fun y => decide (y.origin ≠ o')) = l.tx.filter fun y => decide (y.origin ≠ o')) :
    l'.queued o = l.queued o := by
  have hsub (m : Link) : m.queued o = (m.tx.filter fun y => decide (y.origin ≠ o')).find? fun y => y.origin == o := by
    rw [Link.queued, List.find?_filter]
    refine congrArg (fun p => m.tx.find? p) (funext fun y => ?_)
    by_cases hy : y.origin = o
    · simp [hy, hne]
    · simp [hy]
  rw [hsub, hsub, h]

theorem State.wantStop_waitsOn (b : Bool) (s : State) : s.WaitsOn 0 (s.wantStop b) := by
  have hothers := (State.wantStop_wants b s).2
  have hqueued := Link.queued_of_others (o := .membership) (by decide) hothers
  refine ⟨?_, ?_, hqueued, ?_, ?_⟩
  · rw [State.wantStop_eq]
  · rw [State.wantStop_eq]
    rfl
  · rw [State.wantStop_eq]
  · rw [State.wantStop_eq]
    exact Nat.le_refl _

/-- The station itself takes one notice at most from a frame that it applies. -/
theorem State.localEffects_waitsOn (f : Machine.Frame) (res : ApplyResult) (s : State) :
    s.WaitsOn 1 (State.localEffects f res s) := by
  have hraise (b : NoticeBody) : s.WaitsOn 1 (s.raise b) :=
    ⟨rfl, rfl, rfl, rfl, by simp [State.raise]⟩
  unfold State.localEffects
  split
  case h_1 => exact hraise _
  case h_2 => exact hraise _
  case h_3 =>
    dsimp only
    split
    · exact (hraise .siteResume).trans (State.wantStop_waitsOn false _)
    · exact hraise _
  case h_4 => exact ⟨rfl, rfl, rfl, rfl, Nat.le_succ _⟩
  case h_5 => exact ⟨rfl, rfl, rfl, rfl, Nat.le_succ _⟩

theorem State.offerRecovery_waitsOn (p : Payload) (s : State) : s.WaitsOn 1 (s.offerRecovery p) :=
  ⟨rfl, rfl, Link.offer_queued_ne 0 p (by decide), rfl, Nat.le_succ _⟩

/-- Recovery clears the record, with RECORD_UNMATCHED where it matches nothing, or offers a frame. -/
theorem State.recover_cases (r : ActRecord) (s : State) :
    s.recover r = s.clearRecord ∨ (∃ b, s.recover r = s.clearRecord.raise b) ∨ ∃ p, s.recover r = s.offerRecovery p := by
  have hlast (l : Option LastEnded) :
      s.recoverByLast r l = s.clearRecord ∨ (∃ b, s.recoverByLast r l = s.clearRecord.raise b)
        ∨ ∃ p, s.recoverByLast r l = s.offerRecovery p := by
    unfold State.recoverByLast
    split
    · split
      · split
        · exact .inl rfl
        · split
          · exact .inl rfl
          · exact .inr (.inr ⟨_, rfl⟩)
      · exact .inr (.inl ⟨_, rfl⟩)
    · exact .inr (.inl ⟨_, rfl⟩)
  unfold State.recover
  split
  · split
    · split
      · exact .inr (.inr ⟨_, rfl⟩)
      · exact hlast _
    · exact hlast _
  · exact hlast _

theorem State.runRecovery_cases (s : State) :
    s.runRecovery = s ∨ s.runRecovery = s.clearRecord ∨ (∃ b, s.runRecovery = s.clearRecord.raise b)
      ∨ ∃ p, s.runRecovery = s.offerRecovery p := by
  unfold State.runRecovery
  split
  next r _ =>
    split
    · exact .inr (s.recover_cases r)
    · exact .inl rfl
  · exact .inl rfl

theorem State.runRecovery_waitsOn (s : State) : s.WaitsOn 1 s.runRecovery := by
  rcases s.runRecovery_cases with h | h | ⟨b, h⟩ | ⟨p, h⟩ <;> rw [h]
  · exact ⟨rfl, rfl, rfl, rfl, Nat.le_succ _⟩
  · exact ⟨rfl, rfl, rfl, rfl, Nat.le_succ _⟩
  · exact ⟨rfl, rfl, rfl, rfl, by simp [State.raise, State.clearRecord]⟩
  · exact State.offerRecovery_waitsOn p s

/-- Telling the retained record unit of a frame raises one notice at most (R167, R170). -/
theorem State.tellRecovery_waitsOn (f : Machine.Frame) (s : State) : s.WaitsOn 1 (s.tellRecovery f) := by
  have hnone : s.WaitsOn 1 s := ⟨rfl, rfl, rfl, rfl, Nat.le_succ _⟩
  have hrelease : s.WaitsOn 1 s.releaseApplied := by
    unfold State.releaseApplied State.holdRecord
    split
    · exact (s.setPhase .held).runRecovery_waitsOn
    · exact hnone
  have hpresent : s.WaitsOn 1 s.presentApplied := by
    unfold State.presentApplied
    split
    · exact State.runRecovery_waitsOn { s with supply := { s.supply with waitCensus := false } }
    · exact hnone
  unfold State.tellRecovery
  split
  case h_1 => exact hrelease
  case h_2 => exact hrelease
  case h_3 => exact hpresent
  case h_4 => exact hnone

/-! ## The frames that wait, applied (R40) -/

/-- The station as one waiting frame is applied to its tables, with the sequence number one higher. -/
def State.applyWaiting (f : Machine.Frame) (s : State) : State :=
  let w := applyFrame s.replica s.limitReached f s.free
  let s' := State.localEffects f w.result { s with free := freeAfterSeq s.replica s.free }
  State.tellRecovery f { s' with replica := w.replica, limitReached := s'.limitReached || w.limit }

theorem State.applyWaiting_waitsOn (f : Machine.Frame) (s : State) : s.WaitsOn 2 (s.applyWaiting f) := by
  have hlocal := State.localEffects_waitsOn f (applyFrame s.replica s.limitReached f s.free).result
    { s with free := freeAfterSeq s.replica s.free }
  have hstored : s.WaitsOn 1 { State.localEffects f (applyFrame s.replica s.limitReached f s.free).result
      { s with free := freeAfterSeq s.replica s.free } with
    replica := (applyFrame s.replica s.limitReached f s.free).replica
    limitReached := (State.localEffects f (applyFrame s.replica s.limitReached f s.free).result
      { s with free := freeAfterSeq s.replica s.free }).limitReached
        || (applyFrame s.replica s.limitReached f s.free).limit } := hlocal
  exact hstored.trans (State.tellRecovery_waitsOn f _)

theorem State.tellRecovery_tables (f : Machine.Frame) (s : State) :
    (s.tellRecovery f).replica = s.replica ∧ (s.tellRecovery f).limitReached = s.limitReached := by
  have hkeeps : Keeps {} s (s.tellRecovery f) := .tellRecovery (.refl _ _)
  exact hkeeps.tables rfl

/-- Below the sequence limit the tables take the frame's effect with the next number. -/
theorem State.applyWaiting_tables {s : State} (f : Machine.Frame) (hl : s.limitReached = false)
    (hseq : s.replica.site.seq + 1 < maxSeq) :
    (s.applyWaiting f).replica = (applyEffect s.replica.counted f).1 ∧ (s.applyWaiting f).limitReached = false := by
  have hnext : nextSeq s.replica s.free = s.replica.site.seq + 1 := if_pos (by omega)
  have hlocal : Keeps { clock := true } _ (State.localEffects f (applyFrame s.replica s.limitReached f s.free).result
    { s with free := freeAfterSeq s.replica s.free }) := .localEffects (.refl _ _) (.inl rfl)
  have hreached := (hlocal.tables rfl).2
  have hlimit : (applyFrame s.replica s.limitReached f s.free).limit = false := by
    simp only [applyFrame, hl, Bool.false_or, decide_eq_false_iff_not]
    omega
  obtain ⟨h1, h2⟩ := State.tellRecovery_tables f { State.localEffects f
    (applyFrame s.replica s.limitReached f s.free).result { s with free := freeAfterSeq s.replica s.free } with
    replica := (applyFrame s.replica s.limitReached f s.free).replica
    limitReached := (State.localEffects f (applyFrame s.replica s.limitReached f s.free).result
      { s with free := freeAfterSeq s.replica s.free }).limitReached
        || (applyFrame s.replica s.limitReached f s.free).limit }
  refine ⟨h1.trans ?_, h2.trans ?_⟩
  · simp only [applyFrame, hnext, Replica.counted]
  · exact Bool.or_eq_false_iff.mpr ⟨hreached.trans hl, hlimit⟩

theorem seqFits_iff {r : Replica} {f : Machine.Frame} :
    seqFits r f = true ↔ f.payload.kind? = some .join ∨ f.seq16 = BitVec.ofNat 16 (r.site.seq + 1) := by
  simp [seqFits, isKind]

theorem State.catchUpWith_of_gap {s : State} {f : Machine.Frame} {fs : List Machine.Frame}
    (h : seqFits s.replica f = false) : State.catchUpWith (f :: fs) s = (s, .gap) := by
  rw [State.catchUpWith, h]
  rfl

theorem State.catchUpWith_of_fits {s : State} {f : Machine.Frame} {fs : List Machine.Frame}
    (h : seqFits s.replica f = true) (hl : s.limitReached = false) (hseq : s.replica.site.seq + 1 < maxSeq) :
    State.catchUpWith (f :: fs) s = State.catchUpWith fs (s.applyWaiting f) := by
  have hlimit : (applyFrame s.replica s.limitReached f s.free).limit = false := by
    simp only [applyFrame, hl, Bool.false_or, decide_eq_false_iff_not]
    omega
  rw [State.catchUpWith, if_pos h]
  exact if_neg (ne_true_of_eq_false hlimit)

/-- The catch-up is `followsOn` below the sequence limit, and leaves what a joiner goes into service with. -/
theorem State.catchUpWith_spec (fs : List Machine.Frame) :
    ∀ {s : State}, s.limitReached = false → s.replica.site.seq + fs.length < maxSeq →
      s.WaitsOn (2 * fs.length) (State.catchUpWith fs s).1
      ∧ (∀ r', followsOn s.replica fs = some r' → (State.catchUpWith fs s).2 = .done
        ∧ (State.catchUpWith fs s).1.replica = r' ∧ r'.site.seq = s.replica.site.seq + fs.length)
      ∧ (followsOn s.replica fs = none → (State.catchUpWith fs s).2 = .gap) := by
  induction fs with
  | nil =>
    intro s _ _
    refine ⟨⟨rfl, rfl, rfl, rfl, Nat.le_refl _⟩, fun r' h => ?_, fun h => ?_⟩
    · cases h
      exact ⟨rfl, rfl, rfl⟩
    · cases h
  | cons f fs ih =>
    intro s hl hseq
    rw [List.length_cons] at hseq ⊢
    cases hfits : seqFits s.replica f with
    | false =>
      have hnot := fun h => (ne_true_of_eq_false hfits) (seqFits_iff.mpr h)
      rw [State.catchUpWith_of_gap hfits, followsOn, if_neg hnot]
      exact ⟨⟨rfl, rfl, rfl, rfl, Nat.le_add_right _ _⟩, nofun, fun _ => rfl⟩
    | true =>
      obtain ⟨hreplica, hlimit⟩ := State.applyWaiting_tables f hl (by omega)
      have hnext : (s.applyWaiting f).replica.site.seq = s.replica.site.seq + 1 := by
        rw [hreplica]
        exact applyEffect_seq _ _
      obtain ⟨hwait, hdone, hgap⟩ := ih hlimit (by omega)
      rw [State.catchUpWith_of_fits hfits hl (by omega), followsOn, if_pos (seqFits_iff.mp hfits), ← hreplica]
      refine ⟨?_, fun r' h => ?_, hgap⟩
      · have hall := (State.applyWaiting_waitsOn f s).trans hwait
        rw [Nat.mul_add, Nat.add_comm (2 * fs.length)]
        exact hall
      · obtain ⟨h1, h2, h3⟩ := hdone r' h
        exact ⟨h1, h2, by omega⟩

/-! ## Into service (R40) -/

/-- The join is complete: the frames of the wait-list are gone, and the station announces itself. -/
theorem State.joinDone_spec {s : State} (retained q : Nat) (hq : s.link.queued .membership = none) :
    let t := s.joinDone retained q
    t.link.state = .inService ∧ t.link.inbound = [] ∧ t.link.acceptedSeq = s.replica.site.seq
      ∧ t.link.censusTimer = some (2000000 + 20000 * s.me) ∧ t.engine.catchUp = [] ∧ t.engine.join = none
      ∧ t.engine.joinTimer = none ∧ t.replica = s.replica
      ∧ (∃ e, t.link.queued .membership = some e ∧ e.payload = s.announceFrame false)
      ∧ t.console.notices = s.console.notices ∧ t.console.raised.length ≤ s.console.raised.length + 2
      ∧ (q < retained → ∃ n ∈ t.console.raised, n.body = .supersededHistory retained q) := by
  generalize hy : ({ s with
    link := { s.link with inbound := [] }
    engine := { s.engine with catchUp := [], join := none, headTimer := none, joinTimer := none } } : State) = y
  have hdef : s.joinDone retained q =
      if q < retained then (y.enterService false).raise (.supersededHistory retained q) else y.enterService false := by
    rw [← hy]
    rfl
  obtain ⟨h1, h2, h3, h4, h5, h6, h7, h8⟩ := State.enterService_spec (s := y) false (by rw [← hy]; exact hq)
  have hraised : (y.enterService false).console.raised.length = s.console.raised.length + 1 := by
    rw [h8, ← hy]
    simp [State.raise]
  have hnotices : (y.enterService false).console.notices = s.console.notices := by
    rw [h8, ← hy]
    rfl
  subst hy
  intro t
  by_cases hlt : q < retained
  · have ht : t = _ := hdef.trans (if_pos hlt)
    rw [ht]
    refine ⟨h1, h2, h3, h4, (congrArg Engine.catchUp h5 :), (congrArg Engine.join h5 :), (congrArg Engine.joinTimer h5 :),
      h6, h7, hnotices, ?_, fun _ => ⟨_, List.mem_append_right _ (List.mem_singleton_self _), rfl⟩⟩
    simp [State.raise, hraised]
  · have ht : t = _ := hdef.trans (if_neg hlt)
    rw [ht]
    exact ⟨h1, h2, h3, h4, (congrArg Engine.catchUp h5 :), (congrArg Engine.join h5 :), (congrArg Engine.joinTimer h5 :),
      h6, h7, hnotices, by omega, fun h => absurd h hlt⟩

theorem State.install_of_done {s : State} {r : Replica}
    (h : (State.catchUpWith s.waitingFrames { s with replica := r }).2 = .done) :
    s.install r = (State.catchUpWith s.waitingFrames { s with replica := r }).1.joinDone s.replica.site.seq r.site.seq := by
  rw [State.install]
  dsimp only
  rw [h]

theorem State.install_of_gap {s : State} {r : Replica}
    (h : (State.catchUpWith s.waitingFrames { s with replica := r }).2 = .gap) :
    s.install r = ({ (State.catchUpWith s.waitingFrames { s with replica := r }).1 with
      replica := s.replica } : State).abandonJoin .catchUpGap := by
  rw [State.install]
  dsimp only
  rw [h]

/-- SNAP-HEAD at a joiner with no join area yet. -/
theorem State.snapHead_of_none {s : State} {f : Machine.Frame} {q : Nat} {k : Check} {c : Counts}
    (hs : s.link.state = .joining) (hjoin : s.engine.join = none) (hp : f.payload = .snapHead q k c) :
    s.snapHead f =
      if k ≠ s.keyCheck then s.enterFaulted .keyMismatch
      else
        let a : JoinArea := { donor := f.sender, joinSeq := q, counts := c, entries := [] }
        { s with engine := { s.engine with headTimer := none, join := some a } } := by
  rw [State.snapHead, hjoin, hp]
  exact if_neg (fun h => h hs)

/-- SNAP from the donor of the join area. -/
theorem State.snap_of_donor {s : State} {f : Machine.Frame} {es : List Entry} {a : JoinArea}
    (hs : s.link.state = .joining) (hjoin : s.engine.join = some a) (hp : f.payload = .snap es)
    (hdonor : f.sender = a.donor) :
    (∀ l, addEntries a.entries es = some l →
      s.snap f = { s with engine := { s.engine with join := some { a with entries := l } } })
    ∧ (addEntries a.entries es = none → s.snap f = s.abandonJoin .snapFault) := by
  have hno : ¬ (s.link.state ≠ .joining ∨ f.sender ≠ a.donor) := fun h => h.elim (fun h => h hs) (fun h => h hdonor)
  refine ⟨fun l hl => ?_, fun hl => ?_⟩
  all_goals
    rw [State.snap, hjoin]
    dsimp only
    rw [if_neg hno, hp]
    dsimp only
    rw [hl]

theorem State.me_of_settings {s t : State} (h : t.settings = s.settings) : t.me = s.me := by
  rw [State.me, State.me, h]

theorem State.announceFrame_of_settings {s t : State} {b : Bool} (h : t.settings = s.settings) :
    t.announceFrame b = s.announceFrame b := by
  simp only [State.announceFrame, State.role, State.hose, State.served, State.keyCheck, h]

/-- SNAP-END is taken at a joiner whose slots are all read. -/
theorem State.takeSnapEnd_of_cons {s : State} {f : Machine.Frame} {rest : List Machine.Frame} {a : JoinArea}
    (hs : s.link.state = .joining) (hw : s.engine.writing = none) (hjoin : s.engine.join = some a)
    (hslots : s.link.slots = none) (hin : s.link.inbound = f :: rest) (hp : f.payload = .snapEnd)
    (hdonor : f.sender = a.donor) :
    s.takeSnapEnd = match a.replica? with
      | some r => (s.behind rest).install r
      | none => (s.behind rest).abandonJoin .snapFault := by
  have hpending : s.censusPending = false := by rw [State.censusPending, hslots]
  have hkind : f.payload.kind? = some .snapEnd := by rw [hp]; rfl
  have hjoin' : (s.behind rest).engine.join = some a := hjoin
  have hno : ¬ ((s.behind rest).link.state ≠ .joining ∨ f.sender ≠ a.donor) := by
    rintro (h | h)
    · exact h hs
    · exact h hdonor
  rw [State.takeSnapEnd, hpending, if_neg Bool.false_ne_true, State.engineTakes_of_cons _ hw hin hkind, State.snapEnd,
    hjoin']
  exact if_neg hno

/-- Settles O39, with the catch-up as `followsOn`. -/
theorem joinerTakesTheStream : Obligations.JoinerTakesTheStream := by
  refine ⟨fun s f rest q k c hlive hs hw hjoin hin hp => ⟨fun hk => ?_, fun hk => ?_⟩,
    fun s f rest es a hlive hs hw hjoin hin hp hdonor => ?_,
    fun s f rest a hlive hs hw hjoin hslots hin hp hdonor => ?_⟩
  · have hkind : f.payload.kind? = some .snapHead := by rw [hp]; rfl
    refine exec_of_quiet (f := State.engineTakes .snapHead State.snapHead) rfl hlive ?_ rfl
    rw [State.engineTakes_of_cons _ hw hin hkind, State.snapHead_of_none (s := s.behind rest) hs hjoin hp]
    exact if_neg (fun h => h hk)
  · have hkind : f.payload.kind? = some .snapHead := by rw [hp]; rfl
    have heq := (State.engineTakes_of_cons State.snapHead hw hin hkind).trans
      ((State.snapHead_of_none (s := s.behind rest) hs hjoin hp).trans (if_pos hk))
    exact ⟨_, exec_of_eq (f := State.engineTakes .snapHead State.snapHead) rfl hlive heq,
      State.enterFaulted_outWith _ _, State.enterFaulted_replica _ _⟩
  · have hkind : f.payload.kind? = some .snap := by rw [hp]; rfl
    have htake := State.engineTakes_of_cons State.snap hw hin hkind
    obtain ⟨hadds, hbreaks⟩ := State.snap_of_donor (s := s.behind rest) hs hjoin hp hdonor
    exact ⟨fun l hl => exec_of_quiet (f := State.engineTakes .snap State.snap) rfl hlive (htake.trans (hadds l hl)) rfl,
      fun hnone => ⟨_, exec_of_eq (f := State.engineTakes .snap State.snap) rfl hlive (htake.trans (hbreaks hnone)),
        State.abandonJoin_spec .snapFault rfl rfl⟩⟩
  · have htake := State.takeSnapEnd_of_cons hs hw hjoin hslots hin hp hdonor
    refine ⟨fun r hr hcatch hno hq => ?_, fun hnone => ?_, fun r g more hr hcatch hjoins hgap => ?_,
      fun r hr hq hl => ?_⟩
    · have hwaiting : (s.behind rest).waitingFrames = [] := by
        have hrest : (rest.filter fun x => x.payload.isReplica) = [] := by
          rw [List.filter_eq_nil_iff]
          exact fun x hx => ne_true_of_eq_false (hno x hx)
        exact congr (congrArg (· ++ ·) hcatch) hrest
      have hinstall : (s.behind rest).install r =
          State.joinDone s.replica.site.seq r.site.seq { s.behind rest with replica := r } := by
        rw [State.install, hwaiting]
        rfl
      rw [hr] at htake
      have hexec := exec_of_eq (c := .snapEnd) (f := State.takeSnapEnd) rfl hlive (htake.trans hinstall)
      obtain ⟨h1, h2, h3, h4, _, h6, _, h8, ⟨e, h9, h10⟩, _⟩ := State.joinDone_spec
        (s := { s.behind rest with replica := r }) s.replica.site.seq r.site.seq hq
      exact ⟨_, e, hexec, h1, h8, h3, h2, h6, h4, h9, h10⟩
    · rw [hnone] at htake
      exact ⟨_, exec_of_eq (f := State.takeSnapEnd) rfl hlive htake, State.abandonJoin_spec .snapFault rfl rfl⟩
    · have hwaiting : (s.behind rest).waitingFrames = g :: (more ++ rest.filter fun x => x.payload.isReplica) :=
        congrArg (· ++ rest.filter fun x => x.payload.isReplica) hcatch
      have hfits : seqFits r g = false := by
        rw [Bool.eq_false_iff]
        exact fun h => (seqFits_iff.mp h).elim hjoins hgap
      rw [hr] at htake
      have hcaught := State.catchUpWith_of_gap (s := { s.behind rest with replica := r })
        (fs := more ++ rest.filter fun x => x.payload.isReplica) hfits
      have hinstall := State.install_of_gap (s := s.behind rest) (r := r) (by rw [hwaiting, hcaught])
      rw [hwaiting, hcaught] at hinstall
      exact ⟨_, exec_of_eq (f := State.takeSnapEnd) rfl hlive (htake.trans hinstall),
        State.abandonJoin_spec .catchUpGap rfl rfl⟩
    · intro fs hseq
      rw [hr] at htake
      obtain ⟨⟨g1, g2, g3, g4, g5⟩, hdone, hgap⟩ :=
        State.catchUpWith_spec fs (s := { s.behind rest with replica := r }) hl hseq
      refine ⟨fun r' hr' => ?_, fun hnone => ?_⟩
      · obtain ⟨hd, hreplica, hnext⟩ := hdone r' hr'
        have heq := htake.trans (State.install_of_done (s := s.behind rest) (r := r) hd)
        have hexec := exec_of_eq (c := .snapEnd) (f := State.takeSnapEnd) rfl hlive heq
        obtain ⟨h1, h2, h3, h4, h5, h6, h7, h8, ⟨e, h9, h10⟩, h11, h12, h13⟩ := State.joinDone_spec
          (s := (State.catchUpWith fs { s.behind rest with replica := r }).1) s.replica.site.seq r.site.seq
          (g3.trans hq)
        refine ⟨_, e, hexec, h1, h8.trans hreplica, h3.trans (by rw [hreplica]; exact hnext), h2, h5, h6, h7, ?_, h9, ?_,
          fun hlt hroom => exists_notice (h13 hlt) (h11.trans g4) ?_⟩
        · rw [State.me_of_settings g2] at h4
          exact h4
        · rw [State.announceFrame_of_settings g2] at h10
          exact h10
        · have hraised : ({ s.behind rest with replica := r } : State).console.raised = [] := hlive.2
          rw [hraised] at g5
          rw [List.length_nil, Nat.zero_add] at g5
          have htotal := Nat.add_le_add_left (Nat.le_trans h12 (Nat.add_le_add_right g5 2)) s.console.notices.length
          exact Nat.le_trans htotal (by omega)
      · have heq := htake.trans (State.install_of_gap (s := s.behind rest) (r := r) (hgap hnone))
        exact ⟨_, exec_of_eq (f := State.takeSnapEnd) rfl hlive heq,
          State.abandonJoin_spec .catchUpGap (State.me_of_settings g2) rfl⟩

end Sys2Proof.Machine
end

section
/-! The end of a retained write (R28, R33, R36, R43): what each of the steps that hang on it does, and where it does
nothing. -/

namespace Sys2Proof.Machine

/-! ## The steps of the end of a write -/

/-- The station with the written tables taken up. -/
def State.written (w : Writing) (s : State) : State :=
  { s with replica := w.replica, engine := { s.engine with writing := none } }

/-- The result handed over, with the standing that follows from the write. -/
def State.stands (w : Writing) (s : State) : State :=
  State.standing (s.replica.inService s.me) w.frame ((s.written w).ownApplied w.frame w.result)

theorem State.completeWrite_eq {s : State} {w : Writing} (hw : s.engine.writing = some w) (hl : w.limit = false) :
    s.completeWrite = (((s.stands w).becomeDonor w.frame w.result).tellRecovery w.frame).resumeStream := by
  rw [State.completeWrite, hw]
  dsimp only
  rw [State.writeDone]
  dsimp only
  rw [if_neg (ne_true_of_eq_false hl), hl, Bool.or_false]
  rfl

theorem State.ownApplied_of_other {s : State} {f : Machine.Frame} (res : ApplyResult) (h : f.sender ≠ s.me) :
    s.ownApplied f res = s := if_neg h

theorem State.ownApplied_of_own {s : State} {f : Machine.Frame} (res : ApplyResult) (h : f.sender = s.me)
    (hp : f.payload ≠ .leave) : s.ownApplied f res = s.handResult f.payload res := by
  rw [State.ownApplied, if_pos h, if_neg hp]

/-- A station that stays as it stood. -/
theorem State.standing_of_stays {s : State} {was : Bool} {f : Machine.Frame}
    (h : s.replica.inService s.me = true ∨ was = false ∨ s.link.state ≠ .inService)
    (hf : f.sender ≠ s.me ∨ f.payload.isAnnounce = false) : s.standing was f = s := by
  have hown : (f.sender == s.me && f.payload.isAnnounce) = false := by
    rcases hf with hf | hf
    · simp [hf]
    · simp [hf]
  unfold State.standing
  dsimp only
  rw [hown, Bool.or_false]
  split
  · rfl
  next hin =>
    split
    · rfl
    next hno =>
      rcases h with h | h | h
      · exact absurd h hno
      · exact if_neg (ne_true_of_eq_false h)
      · refine absurd ?_ hin
        simpa [State.inService] using h

theorem State.standing_of_loss {s : State} {was : Bool} {f : Machine.Frame} (hs : s.link.state = .inService)
    (hno : s.replica.inService s.me = false)
    (h : was = true ∨ f.sender = s.me ∧ f.payload.isAnnounce = true) :
    s.standing was f = s.leaveService .notAdmitted := by
  have hin : s.inService = true := by rw [State.inService, hs]; rfl
  have hlost : (was || (f.sender == s.me && f.payload.isAnnounce)) = true := by
    rcases h with h | ⟨h, h'⟩
    · simp [h]
    · simp [h, h']
  unfold State.standing
  dsimp only
  rw [if_neg (by rw [hin]; decide)]
  exact (if_neg (ne_true_of_eq_false hno)).trans (if_pos hlost)

theorem State.standing_of_admission {s : State} {was : Bool} {f : Machine.Frame} (hs : s.link.state = .inService)
    (hin : s.replica.inService s.me = true) (h : f.sender = s.me) (h' : f.payload.isAnnounce = true) :
    s.standing was f = s.becomeAdmitted := by
  have hs' : s.inService = true := by rw [State.inService, hs]; rfl
  unfold State.standing
  dsimp only
  rw [if_neg (by rw [hs']; decide)]
  refine (if_pos hin).trans (if_pos ?_)
  simp [h, h']

theorem State.becomeDonor_of_other {s : State} {f : Machine.Frame} (res : ApplyResult) (h : ∀ j, f.payload ≠ .join j) :
    s.becomeDonor f res = s := by
  unfold State.becomeDonor
  split
  case h_1 j hp => exact absurd hp (h j)
  case h_2 => rfl

theorem State.becomeDonor_of_out {s : State} (f : Machine.Frame) (res : ApplyResult) (h : s.link.state ≠ .inService) :
    s.becomeDonor f res = s := by
  have hin : ¬ s.inService = true := by simpa [State.inService] using h
  unfold State.becomeDonor
  split
  · exact if_neg (fun h' => hin h'.1)
  · rfl

theorem State.tellRecovery_of_other {s : State} {f : Machine.Frame} (h : f.payload.kind? ≠ some .release)
    (h' : ∀ n time, f.payload ≠ .census .present n time) : s.tellRecovery f = s := by
  unfold State.tellRecovery
  split
  case h_1 hp => exact absurd (by rw [hp]; rfl) h
  case h_2 hp => exact absurd (by rw [hp]; rfl) h
  case h_3 hp => exact absurd hp (h' _ _)
  case h_4 => rfl

theorem State.tellRecovery_of_release {s : State} {f : Machine.Frame} (h : f.payload.kind? = some .release) :
    s.tellRecovery f = s.releaseApplied := by
  unfold State.tellRecovery
  split
  case h_1 => rfl
  case h_2 => rfl
  case h_3 hp =>
    rw [hp] at h
    cases h
  case h_4 hr hm _ =>
    cases hp : f.payload with
    | release n => exact absurd hp (hr n)
    | malformed k m =>
      rw [hp] at h
      cases h
      exact absurd hp (hm m)
    | _ =>
      rw [hp] at h
      cases h

/-- Out of service the unit changes the record's phase alone. -/
theorem State.tellRecovery_of_out {s : State} (f : Machine.Frame) (h : s.Out) :
    ∃ u, s.tellRecovery f = { s with supply := u } := by
  have hrelease : ∃ u, s.releaseApplied = { s with supply := u } := by
    unfold State.releaseApplied
    split
    · exact ⟨_, State.holdRecord_of_out h⟩
    · exact ⟨_, rfl⟩
  unfold State.tellRecovery
  split
  case h_1 => exact hrelease
  case h_2 => exact hrelease
  case h_3 =>
    unfold State.presentApplied
    split
    · exact ⟨_, State.runRecovery_of_not (s := { s with supply := { s.supply with waitCensus := false } }) (.inl h.1)⟩
    · exact ⟨_, rfl⟩
  case h_4 => exact ⟨_, rfl⟩

theorem State.resumeStream_of_streams {s : State}
    (h : ∀ c ∈ s.responder.context, c.paused = true → s.engine.freeze = true ∨ s.engine.deferred ≠ []) :
    s.resumeStream = s := by
  unfold State.resumeStream
  split
  case h_1 c hc =>
    refine if_neg ?_
    rintro ⟨hpaused, hfreeze, hdeferred⟩
    rcases h c hc hpaused with h | h
    · rw [h] at hfreeze
      cases hfreeze
    · exact h (List.isEmpty_iff.mp hdeferred)
  case h_2 => rfl

/-- A stream of the responder that goes on after the thaw builds its next DATA (R153, R154). -/
theorem State.resumeStream_builds {s : State} {c : ServiceContext} {k : Table} (hc : s.responder.context = some c)
    (hpaused : c.paused = true) (hlast : c.lastBuilt = false) (hfreeze : s.engine.freeze = false)
    (hdeferred : s.engine.deferred = []) (hq : s.link.queued .responder = none) (hbusy : s.responder.waitingBusy = none)
    (hk : ofCode tableCodes (BitVec.ofNat 8 c.table) = some k) :
    ∃ y, s.resumeStream = y ∧ y.replica = s.replica ∧ ∃ e, y.link.queued .responder = some e ∧ e.dest = c.requester
      ∧ let found := s.replica.entriesFrom k c.position
        let es := found.take (min 2 c.remaining)
        e.payload = .data c.table s.replica.site.seq es
          (decide (c.remaining ≤ es.length) || (found.drop es.length).isEmpty) := by
  let d := buildData s.replica { c with paused := false }
  have heq : s.resumeStream = { s with
      responder := { s.responder with context := some d.2 }
      link := s.link.enter .responder c.requester d.1 } := by
    rw [State.resumeStream, hc]
    dsimp only
    rw [if_pos ⟨hpaused, hfreeze, by rw [hdeferred]; rfl⟩]
    simp only [State.responderPump, hq, hbusy, hlast, hfreeze, Option.isSome_none, Bool.or_false, State.offerTo,
      Link.offer_of_none _ _ hq]
    rfl
  refine ⟨_, heq, rfl, _, Link.enter_queued _ _ hq, rfl, ?_⟩
  show d.1 = _
  have hbuild : d = buildData s.replica { c with paused := false } := rfl
  rw [hbuild, buildData]
  simp only [hk]
  have hend (m : Nat) : (c.remaining - m == 0) = decide (c.remaining ≤ m) := by
    rw [Bool.eq_iff_iff, beq_iff_eq, decide_eq_true_eq, Nat.sub_eq_zero_iff_le]
  rw [hend]

theorem Payload.isAnnounce_of_kind {p : Payload} (h : p.kind? ≠ some .announce) : p.isAnnounce = false := by
  unfold Payload.isAnnounce
  split
  · exact absurd rfl h
  · exact absurd rfl h
  · rfl

end Sys2Proof.Machine
end

section
/-! The end of a retained write as an obligation (R25, R28, R33, R36, R43, R151, R154, R167 to R171). -/

namespace Sys2Proof.Machine

/-! ## Recovery (R167 to R169) -/

theorem State.recover_recovers {s y : State} {r : ActRecord} {e : StationEntry} {room : Nat}
    (he : y.replica.station? y.me = some e) (hclock : y.clock = s.clock) (hlink : y.link = s.link)
    (hr : y.supply.record = some r) (hnotices : y.console.notices = s.console.notices)
    (hroom : 0 < room → y.console.raised.length + room ≤ 16) : s.Recovers r e (y.recover r).commitNotices room := by
  rw [State.recover_eq he, hclock]
  unfold State.Recovers
  cases recoveryOf r e s.clock with
  | some p =>
    refine ⟨hr, rfl, (s.activityOffers_offer p).congr ?_⟩
    show (y.link.offer .activity 0 p) = s.link.offer .activity 0 p
    rw [hlink]
  | none =>
    dsimp only
    split
    next h => exact ⟨rfl, hlink, fun h' => absurd h h'⟩
    next h =>
      refine ⟨rfl, hlink, fun _ hlt => exists_notice ⟨_, List.mem_append_right _ (List.mem_singleton_self _), rfl⟩
        hnotices ?_⟩
      have hfits := hroom (Nat.zero_lt_of_lt hlt)
      simp only [State.raise, State.clearRecord, List.length_append, List.length_cons, List.length_nil]
      omega

theorem State.recover_responder (r : ActRecord) (s : State) : (s.recover r).responder = s.responder := by
  rcases s.recover_cases r with h | ⟨b, h⟩ | ⟨p, h⟩ <;> rw [h] <;> rfl

theorem State.resumeStream_of_goOn {s y : State} (h : s.StreamsGoOn) (hy : y.responder = s.responder) :
    y.resumeStream = y := by
  refine State.resumeStream_of_streams fun c hc hpaused => ?_
  rw [hy] at hc
  rw [h c hc] at hpaused
  cases hpaused

/-- A write that comes to the recovery of the record. -/
theorem State.completeWrite_recovers {s y : State} {r : ActRecord} {e : StationEntry} (hlive : s.Live)
    (heq : s.completeWrite = (y.recover r).resumeStream) (hstreams : s.StreamsGoOn)
    (hresponder : y.responder = s.responder) (he : y.replica.station? y.me = some e) (hclock : y.clock = s.clock)
    (hlink : y.link = s.link) (hr : y.supply.record = some r) (hnotices : y.console.notices = s.console.notices)
    (hroom : y.console.raised.length + 15 ≤ 16) :
    ∃ t, exec .retainedWriteComplete s = .next t ∧ s.Recovers r e t :=
  ⟨_, exec_of_eq (f := State.completeWrite) rfl hlive
      (heq.trans (State.resumeStream_of_goOn hstreams ((y.recover_responder r).trans hresponder))),
    State.recover_recovers he hclock hlink hr hnotices fun _ => hroom⟩

/-! ## Admission (R33, R143, R167, R171) -/

/-- A change that leaves the stop path, the engine, the tables, the gauge unit and the link state. -/
abbrev State.LeavesStop (s t : State) : Prop :=
  t.stop = s.stop ∧ t.engine = s.engine ∧ t.replica = s.replica ∧ t.gauge = s.gauge ∧ t.link.state = s.link.state
    ∧ t.link.queued .stopPath = s.link.queued .stopPath ∧ ∀ k ∈ t.link.kept, k ∈ s.link.kept ∨ k.origin ≠ .stopPath

theorem State.LeavesStop.trans {s t u : State} (h : s.LeavesStop t) (h' : t.LeavesStop u) : s.LeavesStop u := by
  obtain ⟨h1, h2, h3, h4, h5, h6, h7⟩ := h
  obtain ⟨g1, g2, g3, g4, g5, g6, g7⟩ := h'
  exact ⟨g1.trans h1, g2.trans h2, g3.trans h3, g4.trans h4, g5.trans h5, g6.trans h6,
    fun k hk => (g7 k hk).elim (h7 k) .inr⟩

theorem Link.offer_kept_of (l : Link) (o : Origin) (d : Nat) (p : Payload) :
    ∀ k ∈ (l.offer o d p).kept, k ∈ l.kept ∨ k.origin = o := by
  intro k hk
  unfold Link.offer at hk
  split at hk
  · exact .inl hk
  · split at hk
    · exact .inl ((List.mem_filter.mp hk).1)
    · rcases List.mem_append.mp hk with hk | hk
      · exact .inl ((List.mem_filter.mp hk).1)
      · rw [List.mem_singleton.mp hk]
        exact .inr rfl

/-- Offering a frame of another block leaves the stop path. -/
theorem State.offerTo_leavesStop (s : State) {o : Origin} (d : Nat) (p : Payload) (ho : o ≠ .stopPath) :
    s.LeavesStop { s with link := s.link.offer o d p } :=
  ⟨rfl, rfl, rfl, rfl, Link.offer_state _ _ _ _, Link.offer_queued_ne d p ho, fun k hk =>
    (s.link.offer_kept_of o d p k hk).imp_right fun h : k.origin = o => h.symm ▸ ho⟩

theorem State.LeavesStop.refl (s : State) : s.LeavesStop s := ⟨rfl, rfl, rfl, rfl, rfl, rfl, fun _ h => .inl h⟩

theorem State.runRecovery_leavesStop (s : State) : s.LeavesStop s.runRecovery := by
  rcases s.runRecovery_cases with h | h | ⟨b, h⟩ | ⟨p, h⟩ <;> rw [h]
  · exact .refl s
  · exact .refl s
  · exact .refl s
  · exact s.offerTo_leavesStop 0 p (by decide)

theorem State.recoverAtAdmission_leavesStop (s : State) : s.LeavesStop s.recoverAtAdmission := by
  have hcreate : ∃ u, s.createFromEntry = { s with supply := u } := by
    unfold State.createFromEntry
    split
    · exact ⟨_, rfl⟩
    · exact ⟨_, rfl⟩
  obtain ⟨u, hu⟩ := hcreate
  rw [State.recoverAtAdmission, hu]
  exact State.runRecovery_leavesStop { s with supply := { u with waitCensus := false } }

theorem State.responderPump_leavesStop (s : State) : s.LeavesStop s.responderPump := by
  unfold State.responderPump
  split
  · exact .refl s
  · split
    · exact s.offerTo_leavesStop _ .busy (by decide)
    · split
      · split
        · exact .refl s
        · exact s.offerTo_leavesStop _ _ (by decide)
      · exact .refl s

theorem State.resumeStream_leavesStop (s : State) : s.LeavesStop s.resumeStream := by
  unfold State.resumeStream
  split
  · split
    · exact (State.responderPump_leavesStop _)
    · exact .refl s
  · exact .refl s

/-- The station as its admission begins: the mark, the gauge's period, and the notice (R33, R143, R185). -/
def State.admits (s : State) : State :=
  State.raise (.linkState .inService .admitted) { s with
    engine := { s.engine with admitted := true }
    gauge := { s.gauge with
      periodTimer := if s.gaugeTank.isSome then some 600000000 else s.gauge.periodTimer } }

theorem State.becomeAdmitted_eq (s : State) : s.becomeAdmitted = s.admits.stopAtAdmission.recoverAtAdmission := by
  have hgauge (y : State) : y.gaugeAdmitted = { y with gauge := { y.gauge with
      periodTimer := if y.gaugeTank.isSome then some 600000000 else y.gauge.periodTimer } } := by
    unfold State.gaugeAdmitted
    split <;> rfl
  rw [State.becomeAdmitted]
  dsimp only
  rw [hgauge]
  rfl

theorem State.stopAtAdmission_of_asserted {s : State} (h : s.meter.cells.estop.output = true)
    (h' : s.replica.site.stop = none) : s.stopAtAdmission = s.wantStop false := by
  rw [State.stopAtAdmission, h, h']
  rfl

theorem State.stopAtAdmission_of_not {s : State}
    (h : s.meter.cells.estop.output = false ∨ s.replica.site.stop.isSome = true) : s.stopAtAdmission = s := by
  refine if_neg ?_
  rcases h with h | h
  · simp [h]
  · rw [Option.isSome_iff_ne_none] at h
    simp [h]

theorem State.withdraw_linkState (o : Origin) (k : Kind) (s : State) : (s.withdraw o k).link.state = s.link.state := by
  unfold State.withdraw
  split <;> rfl

theorem State.wantStop_state (b : Bool) (s : State) : (s.wantStop b).link.state = s.link.state := by
  rw [State.wantStop, (State.offerStop_link _).1]
  exact State.withdraw_linkState _ _ _

/-- The own ANNOUNCE that admits the station. -/
theorem State.stands_of_announce {s : State} {w : Writing} {a : Announcing} (hs : s.link.state = .inService)
    (hme : w.frame.sender = s.me) (hp : w.frame.payload = .announce a) (hin : w.replica.inService s.me = true) :
    s.stands w = (s.written w).becomeAdmitted := by
  have hown : (s.written w).ownApplied w.frame w.result = s.written w := by
    rw [State.ownApplied_of_own (s := s.written w) _ hme (by rw [hp]; simp), hp]
    rfl
  rw [State.stands, hown, State.standing_of_admission (s := s.written w) hs hin hme (by rw [hp]; rfl)]

/-- After the standing, an ANNOUNCE brings nothing more but the stream of the responder. -/
theorem State.completeWrite_of_announce {s : State} {w : Writing} {a : Announcing} (hw : s.engine.writing = some w)
    (hl : w.limit = false) (hp : w.frame.payload = .announce a) : s.completeWrite = (s.stands w).resumeStream := by
  rw [State.completeWrite_eq hw hl, State.becomeDonor_of_other _ (by rw [hp]; simp),
    State.tellRecovery_of_other (by rw [hp]; simp [Payload.kind?]) (by rw [hp]; simp)]

/-- A frame whose result no block takes. -/
theorem State.stands_of_unheeded {s : State} {w : Writing} (hin : w.replica.inService s.me = true)
    (hp : w.frame.payload.kind? = some .release ∨ ∃ n time, w.frame.payload = .census .present n time) :
    s.stands w = s.written w := by
  have hresult : (s.written w).handResult w.frame.payload w.result = s.written w := by
    rcases hp with hp | ⟨n, time, hp⟩
    · unfold State.handResult
      split
      case h_1 h => rw [h] at hp; cases hp
      case h_2 h => rw [h] at hp; cases hp
      case h_3 =>
        unfold State.activityResult
        split
        case h_7 => rfl
        all_goals
          next h =>
            rw [h] at hp
            cases hp
    · rw [hp]
      rfl
  have hleave : w.frame.payload ≠ .leave := by
    rcases hp with hp | ⟨n, time, hp⟩
    · intro h
      rw [h] at hp
      cases hp
    · simp [hp]
  have hannounce : w.frame.payload.isAnnounce = false := by
    refine Payload.isAnnounce_of_kind ?_
    rcases hp with hp | ⟨n, time, hp⟩
    · simp [hp]
    · simp [hp, Payload.kind?]
  have hown : (s.written w).ownApplied w.frame w.result = s.written w := by
    by_cases hme : w.frame.sender = (s.written w).me
    · rw [State.ownApplied_of_own _ hme hleave, hresult]
    · exact State.ownApplied_of_other _ hme
  rw [State.stands, hown, State.standing_of_stays (s := s.written w) (.inl hin) (.inr hannounce)]

/-- A write that ends the station's service (R33). -/
theorem State.completeWrite_of_loss {s : State} {w : Writing} (hw : s.engine.writing = some w) (hl : w.limit = false)
    (hs : s.link.state = .inService) (hno : w.replica.inService s.me = false)
    (hlost : w.frame.sender ≠ s.me ∧ s.replica.inService s.me = true
      ∨ w.frame.sender = s.me ∧ ∃ a, w.frame.payload = .announce a) :
    s.completeWrite.OutWith .listening .notAdmitted ∧ s.CutOff s.completeWrite ∧ s.completeWrite.replica = w.replica
      ∧ s.completeWrite.engine.writing = none := by
  have hlost' : s.replica.inService s.me = true ∨ w.frame.sender = s.me ∧ w.frame.payload.isAnnounce = true := by
    rcases hlost with ⟨_, h⟩ | ⟨h, a, hp⟩
    · exact .inl h
    · exact .inr ⟨h, by rw [hp]; rfl⟩
  have hown : (s.written w).ownApplied w.frame w.result = s.written w := by
    rcases hlost with ⟨h, _⟩ | ⟨h, a, hp⟩
    · exact State.ownApplied_of_other (s := s.written w) _ h
    · rw [State.ownApplied_of_own (s := s.written w) _ h (by rw [hp]; simp), hp]
      rfl
  have hstands : s.stands w = (s.written w).leaveService .notAdmitted := by
    rw [State.stands, hown]
    exact State.standing_of_loss (s := s.written w) hs hno hlost'
  obtain ⟨hout, hcut, _, hreplica⟩ :=
    State.leaveService_spec (s := s.written w) (y := s.written w) (l := s.link) .notAdmitted rfl hs rfl rfl
  have hafter := State.completeWrite_eq hw hl
  rw [hstands, State.becomeDonor_of_out _ _ (by rw [hout.1.1]; simp)] at hafter
  obtain ⟨u, hu⟩ := State.tellRecovery_of_out (s := (s.written w).leaveService .notAdmitted) w.frame
    ⟨hout.2.1.1, by rw [hout.1.1]; simp⟩
  rw [hu, State.resumeStream_of_streams (s := { (s.written w).leaveService .notAdmitted with supply := u })
    (by rw [hout.2.2]; simp)] at hafter
  have hkeeps : State.Keeps { counts := true, starts := true } _ (s.writeDone w) := .writeDone_after (.refl _ _) rfl rfl
  have hdone : s.writeDone w = s.completeWrite := by rw [State.completeWrite, hw]
  have hwriting := hkeeps.writing rfl
  rw [hdone] at hwriting
  refine ⟨?_, ?_, ?_, hwriting⟩ <;> rw [hafter]
  · exact hout
  · exact hcut
  · exact hreplica

/-- The own ANNOUNCE admits the station (R33, R143, R171). -/
theorem State.completeWrite_of_admission {s : State} {w : Writing} {a : Announcing} (hw : s.engine.writing = some w)
    (hl : w.limit = false) (hs : s.link.state = .inService) (hme : w.frame.sender = s.me)
    (hp : w.frame.payload = .announce a) (hin : w.replica.inService s.me = true) :
    s.completeWrite = (s.written w).admits.stopAtAdmission.recoverAtAdmission.resumeStream :=
  (State.completeWrite_of_announce hw hl hp).trans
    (congrArg State.resumeStream ((State.stands_of_announce hs hme hp hin).trans (State.becomeAdmitted_eq _)))

/-- The stop path at admission: the stop is wanted where ESTOP is asserted and the site is RUNNING. -/
theorem State.stopAtAdmission_spec (s : State) :
    let t := s.stopAtAdmission
    t.engine = s.engine ∧ t.replica = s.replica ∧ t.gauge = s.gauge ∧ t.link.state = s.link.state
      ∧ (s.meter.cells.estop.output = true → s.replica.site.stop = none → s.WantsStop false t)
      ∧ ((s.meter.cells.estop.output = false ∨ s.replica.site.stop.isSome = true) →
        t.stop = s.stop ∧ t.link.queued .stopPath = s.link.queued .stopPath) := by
  by_cases h : s.meter.cells.estop.output = true ∧ s.replica.site.stop = none
  · rw [State.stopAtAdmission_of_asserted h.1 h.2]
    have heq := s.wantStop_eq false
    refine ⟨by rw [heq], by rw [heq], by rw [heq], s.wantStop_state false, fun _ _ => (s.wantStop_wants false).1,
      fun h' => ?_⟩
    rw [h.1, h.2] at h'
    simp at h'
  · have hnot : s.meter.cells.estop.output = false ∨ s.replica.site.stop.isSome = true := by
      rcases Bool.eq_false_or_eq_true s.meter.cells.estop.output with ho | ho
      · exact .inr (Option.isSome_iff_ne_none.mpr fun hn => h ⟨ho, hn⟩)
      · exact .inl ho
    rw [State.stopAtAdmission_of_not hnot]
    exact ⟨rfl, rfl, rfl, rfl, fun ho hn => absurd ⟨ho, hn⟩ h, fun _ => ⟨rfl, rfl⟩⟩

/-- At admission the record that is held, or made from the open activity of the own entry, is recovered (R167). -/
theorem State.recoverAtAdmission_of_held {s : State} {r : ActRecord} (hadmitted : s.engine.admitted = true)
    (hfreeze : s.engine.freeze = false)
    (h : s.supply.record = some r ∧ s.supply.phase = .held
      ∨ s.supply.record = none ∧ ∃ x, s.ownEntry.bind StationEntry.activity = some x ∧ r = ActRecord.fromActivity x) :
    s.recoverAtAdmission = State.recover r { s with supply := { s.supply with
      record := some r, phase := .held, waitCensus := false } } := by
  have hcreate : s.createFromEntry = { s with supply := { s.supply with record := some r, phase := .held } } := by
    rcases h with ⟨hr, hheld⟩ | ⟨hr, x, hx, rfl⟩
    · simp only [State.createFromEntry, hr]
      rw [← hr, ← hheld]
    · simp only [State.createFromEntry, hr, hx]
  rw [State.recoverAtAdmission, hcreate]
  exact State.runRecovery_of_held (s := { s with supply := { s.supply with
    record := some r, phase := .held, waitCensus := false } }) rfl rfl hadmitted hfreeze rfl

/-- With neither there is nothing to recover. -/
theorem State.recoverAtAdmission_of_none {s : State} (hr : s.supply.record = none)
    (h : s.ownEntry.bind StationEntry.activity = none) :
    s.recoverAtAdmission = { s with supply := { s.supply with waitCensus := false } } := by
  have hcreate : s.createFromEntry = s := by simp only [State.createFromEntry, hr, h]
  simp only [State.recoverAtAdmission, hcreate, State.runRecovery, hr]

/-- A frame that the record waited for is applied: the record is recovered (R151, R170). -/
theorem State.tellRecovery_of_waits {s : State} {f : Machine.Frame} {r : ActRecord} (hr : s.supply.record = some r)
    (hadmitted : s.engine.admitted = true) (hfreeze : s.engine.freeze = false)
    (h : f.payload.kind? = some .release ∧ s.supply.phase = .waitingRoom ∧ s.supply.waitCensus = false
      ∨ (∃ n time, f.payload = .census .present n time) ∧ s.supply.phase = .held ∧ s.supply.waitCensus = true) :
    s.tellRecovery f = State.recover r { s with supply := { s.supply with phase := .held, waitCensus := false } } := by
  have hruns := State.runRecovery_of_held (s := { s with supply := { s.supply with phase := .held, waitCensus := false } })
    hr rfl hadmitted hfreeze rfl
  rcases h with ⟨hp, hphase, hcensus⟩ | ⟨⟨n, time, hp⟩, hphase, hcensus⟩
  · rw [State.tellRecovery_of_release hp, State.releaseApplied, if_pos ⟨hphase, by rw [hr]; rfl⟩, ← hruns, ← hcensus]
    rfl
  · rw [State.tellRecovery, hp]
    dsimp only
    rw [State.presentApplied, if_pos hcensus, ← hruns, ← hphase]

/-- What follows the stop at admission leaves it as it is wanted. -/
theorem State.WantsStop.leaves {s t u : State} {b : Bool} (h : s.WantsStop b t) (hu : t.LeavesStop u) :
    s.WantsStop b u := by
  obtain ⟨hstop, _, _, _, _, hqueued, hkept⟩ := hu
  obtain ⟨h1, h2, h3, h4⟩ := h
  refine ⟨hstop.trans h1, fun hfree => hqueued.trans (h2 hfree), fun hfree => hqueued.trans (h3 hfree), fun k hk => ?_⟩
  exact (hkept k hk).elim (h4 k) id

/-- The own LEAVE takes the station OFFLINE (R43, R58). -/
theorem State.completeWrite_of_leave {s : State} {w : Writing} (hw : s.engine.writing = some w) (hl : w.limit = false)
    (hme : w.frame.sender = s.me) (hp : w.frame.payload = .leave) :
    s.completeWrite = (State.dropOut .offline .left (s.written w)).relockAndDiscard := by
  have hst : LinkState.offline ≠ .inService := by simp
  have hlink := State.link_of_core (State.relockAndDiscard_core (State.dropOut .offline .left (s.written w)))
  have hresponder := State.responder_of_core (State.relockAndDiscard_core (State.dropOut .offline .left (s.written w)))
  have hout := (s.written w).dropOut_outWith .left hst
  have hown : (s.written w).ownApplied w.frame w.result =
      (State.dropOut .offline .left (s.written w)).relockAndDiscard :=
    (if_pos hme).trans (if_pos hp)
  rw [State.completeWrite_eq hw hl, State.stands, hown, State.standing_of_stays, State.becomeDonor_of_other,
    State.tellRecovery_of_other, State.resumeStream_of_streams]
  · rw [hresponder, hout.2.2]
    simp
  · rw [hp]
    simp [Payload.kind?]
  · rw [hp]
    simp
  · rw [hp]
    simp
  · refine .inr (.inr ?_)
    rw [hlink, hout.1.1]
    exact hst
  · exact .inr (by rw [hp]; rfl)

/-- Settles O36. -/
theorem retainedWriteIsTaken : Obligations.RetainedWriteIsTaken := by
  refine ⟨fun s w hlive hw hl hother hjoin hrelease hpresent hstays => ?_,
    fun s w hlive hw hl hs hno hlost => ?_, fun s w a hlive hw hl hs hme hp hin => ?_,
    fun s w a e hlive hw hl hs hme hp hin he hfreeze hestop hstreams => ?_,
    fun s w r e hlive hw hl hs hin he hadmitted hfreeze hstreams hr hwaits => ?_,
    fun s w hlive hw hl hs hme hp => ?_⟩
  · have heq : s.completeWrite = (s.written w).resumeStream := by
      rw [State.completeWrite_eq hw hl, State.stands, State.ownApplied_of_other (s := s.written w) _ hother,
        State.standing_of_stays (s := s.written w) hstays (.inl hother), State.becomeDonor_of_other _ hjoin,
        State.tellRecovery_of_other hrelease hpresent]
    refine ⟨fun hstream => ?_, fun c k hc hpaused hlast hfreeze hdeferred hq hbusy hk => ?_⟩
    · exact exec_of_quiet (f := State.completeWrite) rfl hlive
        (heq.trans (State.resumeStream_of_streams (s := s.written w) hstream)) rfl
    · obtain ⟨y, hy, hreplica, e, hbuilt⟩ :=
        State.resumeStream_builds (s := s.written w) hc hpaused hlast hfreeze hdeferred hq hbusy hk
      exact ⟨_, e, exec_of_eq (f := State.completeWrite) rfl hlive (heq.trans hy), hreplica, hbuilt⟩
  · exact ⟨_, exec_of_live (f := State.completeWrite) rfl hlive, State.completeWrite_of_loss hw hl hs hno hlost⟩
  · have heq := State.completeWrite_of_admission hw hl hs hme hp hin
    obtain ⟨hengine, hreplica, hgauge, hstate, hwants, hnot⟩ := State.stopAtAdmission_spec (s.written w).admits
    have hleaves := (State.recoverAtAdmission_leavesStop (s.written w).admits.stopAtAdmission).trans
      (State.resumeStream_leavesStop _)
    have hwanted h h' := State.WantsStop.leaves (hwants h h') hleaves
    obtain ⟨gstop, gengine, greplica, ggauge, gstate, gqueued, _⟩ := hleaves
    rw [hengine] at gengine
    rw [hgauge] at ggauge
    exact ⟨_, exec_of_eq (f := State.completeWrite) rfl hlive heq, (congrArg Engine.admitted gengine :),
      (gstate.trans hstate).trans hs, greplica.trans hreplica, (congrArg Engine.writing gengine :),
      (congrArg GaugeUnit.periodTimer ggauge :), hwanted,
      fun h => ⟨gstop.trans (hnot h).1, gqueued.trans (hnot h).2⟩⟩
  · have heq := State.completeWrite_of_admission hw hl hs hme hp hin
    rw [State.stopAtAdmission_of_not (s := (s.written w).admits) (.inl hestop)] at heq
    have hraised : (s.written w).admits.console.raised.length + 15 ≤ 16 := by
      show (s.console.raised ++ [_]).length + 15 ≤ 16
      rw [hlive.2]
      exact Nat.le_refl _
    refine ⟨fun r hr hheld => ?_, fun x hnone hact => ?_, fun hnone hact => ?_⟩
    · rw [State.recoverAtAdmission_of_held (s := (s.written w).admits) rfl hfreeze (.inl ⟨hr, hheld⟩)] at heq
      exact State.completeWrite_recovers hlive heq hstreams rfl he rfl rfl rfl rfl hraised
    · have hentry : (s.written w).admits.ownEntry.bind StationEntry.activity = some x :=
        (congrArg (·.bind StationEntry.activity) he).trans hact
      rw [State.recoverAtAdmission_of_held (s := (s.written w).admits) rfl hfreeze (.inr ⟨hnone, x, hentry, rfl⟩)] at heq
      exact State.completeWrite_recovers hlive heq hstreams rfl he rfl rfl rfl rfl hraised
    · have hentry : (s.written w).admits.ownEntry.bind StationEntry.activity = none :=
        (congrArg (·.bind StationEntry.activity) he).trans hact
      rw [State.recoverAtAdmission_of_none (s := (s.written w).admits) hnone hentry] at heq
      exact ⟨_, exec_of_eq (f := State.completeWrite) rfl hlive
        (heq.trans (State.resumeStream_of_goOn hstreams rfl)), hnone, rfl⟩
  · have heq := State.completeWrite_eq hw hl
    have hother : ∀ j, w.frame.payload ≠ .join j := by
      intro j hj
      rw [hj] at hwaits
      simp [Payload.kind?] at hwaits
    rw [State.stands_of_unheeded hin (hwaits.imp And.left And.left), State.becomeDonor_of_other _ hother,
      State.tellRecovery_of_waits (s := s.written w) hr hadmitted hfreeze hwaits] at heq
    have hraised : (s.written w).console.raised.length + 15 ≤ 16 := by
      show s.console.raised.length + 15 ≤ 16
      rw [hlive.2]
      exact Nat.le_succ _
    exact State.completeWrite_recovers hlive heq hstreams rfl he rfl rfl hr rfl hraised
  · have hst : LinkState.offline ≠ .inService := by simp
    have hcore := State.relockAndDiscard_core (State.dropOut .offline .left (s.written w))
    have hout := (s.written w).dropOut_outWith .left hst
    refine ⟨_, exec_of_eq (f := State.completeWrite) rfl hlive (State.completeWrite_of_leave hw hl hme hp), ?_, ?_, ?_⟩
    · simp only [State.OutWith, State.commitNotices_link, State.commitNotices_engine, State.commitNotices_responder,
        State.link_of_core hcore, State.engine_of_core hcore, State.responder_of_core hcore]
      exact hout
    · exact (State.replica_of_core hcore).trans ((s.written w).dropOut_replica .left hst)
    · rw [State.commitNotices_ident, State.relockAndDiscard_ident]
      exact ⟨rfl, rfl⟩

end Sys2Proof.Machine
end

section
/-! Frames that wait for a snapshot, and the stream of a donor (R36 to R39, R41). -/

namespace Sys2Proof.Machine

/-! ## The place of the donation (R37, R38) -/

/-- With its place free the donation offers the SNAP-ABORT that it owes. -/
theorem State.donationPump_of_owed {s : State} {j : Nat} (hq : s.link.queued .donation = none)
    (ha : s.engine.abortTo = some j) : s.donationPump = { s with
      engine := { s.engine with abortTo := none }, link := s.link.enter .donation j .snapAbort } := by
  rw [State.donationPump, hq, ha]
  simp only [State.offerTo, Link.offer_of_none _ _ hq]
  rfl

/-- With its place free, and nothing owed, it offers the next frame of the stream. -/
theorem State.donationPump_of_stream {s : State} {d : Stream} (hq : s.link.queued .donation = none)
    (ha : s.engine.abortTo = none) (hd : s.engine.stream = some d) (hno : d.offered = false) :
    s.donationPump = { s with
      engine := { s.engine with stream := some { d with offered := true } }
      link := s.link.enter .donation d.joiner (streamFrame s.replica d.next) } := by
  rw [State.donationPump, hq, ha, hd]
  simp only [hno, State.offerTo, Link.offer_of_none _ _ hq]
  rfl

theorem State.donationPump_of_queued {s : State} {e : TxEntry} (hq : s.link.queued .donation = some e) :
    s.donationPump = s := by
  rw [State.donationPump, hq]
  rfl

/-- Aborting the donation: SNAP-ABORT takes the place where it is free, and is owed where it is not; the thaw starts. -/
theorem State.abortDonation_spec (j : Nat) (s : State) :
    let t := s.abortDonation j
    t.engine = { s.engine with
        freeze := false, stream := none, abortTo := if (s.link.queued .donation).isSome then some j else none }
      ∧ t.replica = s.replica ∧ t.link.wire = s.link.wire ∧ t.link.inbound = s.link.inbound
      ∧ t.link.queued .donation = some ((s.link.queued .donation).getD (s.abortEntry j)) := by
  dsimp only
  rw [State.abortDonation]
  cases hq : s.link.queued .donation with
  | none =>
    have hpump := State.donationPump_of_owed (j := j)
      (s := { s with engine := { s.engine with stream := none, abortTo := some j } }) hq rfl
    rw [hpump]
    obtain ⟨h1, h2, h3, h4, h5⟩ := State.thaw_leaves { s with
      engine := { s.engine with stream := none, abortTo := none }, link := s.link.enter .donation j .snapAbort }
    exact ⟨h1, h2, h3, h4, h5.trans (Link.enter_queued j .snapAbort hq)⟩
  | some e =>
    have hpump := State.donationPump_of_queued
      (s := { s with engine := { s.engine with stream := none, abortTo := some j } }) hq
    rw [hpump]
    obtain ⟨h1, h2, h3, h4, h5⟩ := State.thaw_leaves
      { s with engine := { s.engine with stream := none, abortTo := some j } }
    exact ⟨h1, h2, h3, h4, h5.trans hq⟩

/-- The stream goes on with its next frame. -/
theorem State.streamNext_of_free {s : State} {d : Stream} (n : StreamNext) (hq : s.link.queued .donation = none)
    (ha : s.engine.abortTo = none) (hd : d.offered = true) : s.streamNext d n = { s with
      engine := { s.engine with stream := some { d with next := n } }
      link := s.link.enter .donation d.joiner (streamFrame s.replica n) } := by
  have hpump := State.donationPump_of_stream (d := { d with next := n, offered := false })
    (s := { s with engine := { s.engine with stream := some { d with next := n, offered := false } } }) hq ha rfl rfl
  rw [State.streamNext, hpump, ← hd]

/-! ## An overflow takes a waiting stream frame back (R38) -/

theorem State.withdrawStream_of_none {s : State} (hno : ∀ k ∈ [Kind.snapHead, .snap, .snapEnd],
    s.link.withdrawable .donation k = false) : s.withdrawStream = s := by
  have hstays (k : Kind) (hk : k ∈ [Kind.snapHead, .snap, .snapEnd]) : s.withdraw .donation k = s := by
    rw [State.withdraw, hno k hk]
    rfl
  rw [State.withdrawStream, hstays .snapHead (by simp), hstays .snap (by simp), hstays .snapEnd (by simp)]

theorem State.withdrawStream_of_waits {s : State} (h : ∃ k ∈ [Kind.snapHead, .snap, .snapEnd],
    s.link.withdrawable .donation k = true) : s.withdrawStream = { s with link := s.link.remove .donation } := by
  have hgone (k : Kind) : State.withdraw .donation k { s with link := s.link.remove .donation } =
      { s with link := s.link.remove .donation } := by
    have hno : (s.link.remove .donation).withdrawable .donation k = false :=
      Link.withdrawable_of_none k (Link.remove_queued _ _)
    exact if_neg (ne_true_of_eq_false hno)
  have htake (k : Kind) (hk : s.link.withdrawable .donation k = true) :
      s.withdraw .donation k = { s with link := s.link.remove .donation } := if_pos hk
  have hstays (k : Kind) (hk : ¬ s.link.withdrawable .donation k = true) : s.withdraw .donation k = s := if_neg hk
  simp only [List.mem_cons, List.not_mem_nil, or_false, exists_eq_or_imp, exists_eq_left] at h
  rw [State.withdrawStream]
  by_cases h1 : s.link.withdrawable .donation .snapHead = true
  · rw [htake _ h1, hgone, hgone]
  · rw [hstays _ h1]
    by_cases h2 : s.link.withdrawable .donation .snap = true
    · rw [htake _ h2, hgone]
    · rw [hstays _ h2]
      exact htake _ ((h.resolve_left h1).resolve_left h2)

theorem Link.onWire_of_withdrawable {l : Link} {o : Origin} {k : Kind} (h : l.withdrawable o k = true) :
    l.onWire o = false := by
  unfold Link.withdrawable at h
  split at h
  · simpa using (Bool.and_eq_true_iff.mp h).2
  · cases h

/-- What withdrawing leaves, whether it takes a frame or not. -/
theorem State.withdrawStream_leaves (s : State) :
    s.withdrawStream.engine = s.engine ∧ s.withdrawStream.replica = s.replica
      ∧ s.withdrawStream.link.wire = s.link.wire ∧ s.withdrawStream.link.inbound = s.link.inbound := by
  by_cases h : ∃ k ∈ [Kind.snapHead, .snap, .snapEnd], s.link.withdrawable .donation k = true
  · rw [State.withdrawStream_of_waits h]
    obtain ⟨k, _, hk⟩ := h
    refine ⟨rfl, rfl, ?_, rfl⟩
    exact if_neg (ne_true_of_eq_false (Link.onWire_of_withdrawable hk))
  · rw [State.withdrawStream_of_none fun k hk => by simpa using fun hw => h ⟨k, hk, hw⟩]
    exact ⟨rfl, rfl, rfl, rfl⟩

/-- The 65th frame that waits at a frozen donor ends its donation (R38). -/
theorem State.deferOverflow_leaves (s : State) :
    let t := s.deferOverflow
    t.engine.freeze = false ∧ t.engine.stream = none ∧ t.link.inbound = s.link.inbound
      ∧ t.engine.deferred = s.engine.deferred ∧ t.replica = s.replica ∧ t.link.wire = s.link.wire := by
  dsimp only
  rw [State.deferOverflow]
  split
  case h_1 d _ =>
    obtain ⟨h1, h2, h3, h4, _⟩ := s.withdrawStream.abortDonation_spec d.joiner
    obtain ⟨g1, g2, g3, g4⟩ := s.withdrawStream_leaves
    rw [g1] at h1
    exact ⟨congrArg Engine.freeze h1, congrArg Engine.stream h1, h4.trans g4, (congrArg Engine.deferred h1 :), h2.trans g2,
      h3.trans g3⟩
  case h_2 =>
    obtain ⟨h1, h2, h3, h4, _⟩ := s.thaw_leaves
    exact ⟨congrArg Engine.freeze h1, congrArg Engine.stream h1, h4, (congrArg Engine.deferred h1 :), h2, h3⟩

/-- A stream frame that waits gives its place to SNAP-ABORT. -/
theorem State.deferOverflow_of_waits {s : State} {d : Stream} (hs : s.engine.stream = some d)
    (h : s.link.queued .donation = none ∨ ∃ k ∈ [Kind.snapHead, .snap, .snapEnd],
      s.link.withdrawable .donation k = true) :
    s.deferOverflow.link.queued .donation = some (s.abortEntry d.joiner)
      ∧ s.deferOverflow.engine.abortTo = none := by
  have hfree : s.withdrawStream.link.queued .donation = none
      ∧ s.withdrawStream.abortEntry d.joiner = s.abortEntry d.joiner := by
    by_cases hw : ∃ k ∈ [Kind.snapHead, .snap, .snapEnd], s.link.withdrawable .donation k = true
    · rw [State.withdrawStream_of_waits hw]
      exact ⟨Link.remove_queued _ _, rfl⟩
    · have hq := h.resolve_right hw
      rw [State.withdrawStream_of_none fun k _ => Link.withdrawable_of_none k hq]
      exact ⟨hq, rfl⟩
  have hover : s.deferOverflow = s.withdrawStream.abortDonation d.joiner := by rw [State.deferOverflow, hs]
  obtain ⟨h1, _, _, _, h5⟩ := s.withdrawStream.abortDonation_spec d.joiner
  rw [hfree.1] at h1 h5
  rw [hover]
  exact ⟨h5.trans (congrArg some hfree.2), congrArg Engine.abortTo h1⟩

/-- One on the wire, or another SNAP-ABORT, goes first. -/
theorem State.deferOverflow_of_busy {s : State} {d : Stream} {e : TxEntry} (hs : s.engine.stream = some d)
    (hq : s.link.queued .donation = some e) (h : s.link.onWire .donation = true ∨ e.payload = .snapAbort) :
    s.deferOverflow.link.queued .donation = some e ∧ s.deferOverflow.engine.abortTo = some d.joiner := by
  have hstays : s.withdrawStream = s := by
    refine State.withdrawStream_of_none fun k hk => ?_
    rw [Link.withdrawable, hq]
    dsimp only
    rcases h with h | h
    · rw [h, Bool.not_true, Bool.and_false]
    · have hother : (Payload.kind? .snapAbort == some k) = false := by
        simp only [List.mem_cons, List.not_mem_nil, or_false] at hk
        rcases hk with rfl | rfl | rfl <;> rfl
      rw [h, hother, Bool.false_and]
  have hover : s.deferOverflow = s.abortDonation d.joiner := by rw [State.deferOverflow, hs, hstays]
  obtain ⟨h1, _, _, _, h5⟩ := s.abortDonation_spec d.joiner
  rw [hq] at h1 h5
  rw [hover]
  exact ⟨h5, congrArg Engine.abortTo h1⟩

/-! ## A frame of the donation leaves (R38) -/

theorem State.frameLeaves_of_donation {s y : State} {e : TxEntry} {oc : TxOutcome} (ho : e.origin = .donation)
    (hy : State.donationOutcome e.payload oc { s with link := s.link.remove .donation } = y) :
    (s.frameLeaves e oc).engine = y.engine ∧ (s.frameLeaves e oc).replica = y.replica
      ∧ ∀ z, y.link.queued .donation = some z → s.frameLeaves e oc = y := by
  have heq : s.frameLeaves e oc = { y with link := y.link.offerKept .donation } := by
    rw [State.frameLeaves, ho, ← hy]
    rfl
  rw [heq]
  refine ⟨rfl, rfl, fun z hz => ?_⟩
  rw [Link.offerKept_of_queued hz]

/-- With a SNAP-ABORT owed, the frame of an earlier stream gives way to it. -/
theorem State.frameLeaves_of_owed {s : State} {e : TxEntry} {oc : TxOutcome} {j : Nat} (ho : e.origin = .donation)
    (ha : s.engine.abortTo = some j) (hd : ∀ d ∈ s.engine.stream, d.offered = false) :
    s.frameLeaves e oc = { s with
      engine := { s.engine with abortTo := none }
      link := (s.link.remove .donation).enter .donation j .snapAbort } := by
  have hfree : (s.link.remove .donation).queued .donation = none := Link.remove_queued _ _
  have hout : State.donationOutcome e.payload oc { s with link := s.link.remove .donation } =
      State.donationPump { s with link := s.link.remove .donation } := by
    unfold State.donationOutcome
    split
    case h_1 d hs => exact if_pos (.inr (hd d hs))
    case h_2 => rfl
  rw [State.donationPump_of_owed (s := { s with link := s.link.remove .donation }) hfree ha] at hout
  exact (State.frameLeaves_of_donation ho hout).2.2 _ (Link.enter_queued j .snapAbort hfree)

/-- The outcome of a frame of the stream. -/
theorem State.donationOutcome_of_stream {s : State} {p : Payload} {oc : TxOutcome} {d : Stream}
    (hs : s.engine.stream = some d) (hd : d.offered = true) (hp : p ≠ .snapAbort) :
    s.donationOutcome p oc = if oc = .taken then s.streamTaken d else s.abortDonation d.joiner := by
  rw [State.donationOutcome, hs]
  refine if_neg ?_
  rintro (h | h)
  · exact hp h
  · rw [hd] at h
    cases h

/-- The own service frame leaves with what its window says (R11). -/
theorem State.window_of_service {s : State} {w : OnWire} {e : TxEntry} {x : Slots} (rx : List Bit) (h : s.Sends w e)
    (hk : w.frame.payload.category = .service) (hv : x.void = false) :
    s.window .service rx x = s.frameLeaves e (if x.accept then .taken else .notTaken) := by
  rw [State.window_of_sends rx x h hk, State.ownWindow, h.2.2]
  simp only [hk, State.ownService, hv]
  cases x.accept <;> rfl

/-- The frame that follows one of the stream that was Taken, none where the stream ends (R37). -/
def Stream.following (d : Stream) (r : Replica) : Option StreamNext :=
  match d.next with
  | .head => if d.keyOk then some (.body 0) else none
  | .body n => if n + 2 < r.entries.length then some (.body (n + 2)) else some .finish
  | .finish => none

theorem State.streamTaken_eq (d : Stream) (s : State) :
    (∀ n, d.following s.replica = some n → s.streamTaken d = s.streamNext d n)
      ∧ (d.following s.replica = none → s.streamTaken d = s.thaw) := by
  unfold Stream.following State.streamTaken
  cases d.next with
  | head =>
    dsimp only
    split
    · exact ⟨fun n h => by rw [Option.some.inj h], nofun⟩
    · exact ⟨nofun, fun _ => rfl⟩
  | body k =>
    dsimp only
    split
    · exact ⟨fun n h => by rw [Option.some.inj h], nofun⟩
    · exact ⟨fun n h => by rw [Option.some.inj h], nofun⟩
  | finish => exact ⟨nofun, fun _ => rfl⟩

/-- A stream frame that is Taken brings the next one, or the thaw (R37). -/
theorem State.frameLeaves_of_taken {s : State} {e : TxEntry} {d : Stream} (ho : e.origin = .donation)
    (hp : e.payload ≠ .snapAbort) (hs : s.engine.stream = some d) (hd : d.offered = true)
    (ha : s.engine.abortTo = none) :
    (∀ n, d.following s.replica = some n → s.frameLeaves e .taken = { s with
        engine := { s.engine with stream := some { d with next := n } }
        link := (s.link.remove .donation).enter .donation d.joiner (streamFrame s.replica n) })
      ∧ (d.following s.replica = none →
        (s.frameLeaves e .taken).engine = { s.engine with freeze := false, stream := none }
        ∧ (s.frameLeaves e .taken).replica = s.replica) := by
  have hfree : (s.link.remove .donation).queued .donation = none := Link.remove_queued _ _
  have hout := State.donationOutcome_of_stream (s := { s with link := s.link.remove .donation }) (oc := .taken) hs hd hp
  obtain ⟨hgoes, hthaws⟩ := State.streamTaken_eq d { s with link := s.link.remove .donation }
  rw [if_pos rfl] at hout
  refine ⟨fun n hn => ?_, fun hn => ?_⟩
  · rw [hgoes n hn, State.streamNext_of_free (s := { s with link := s.link.remove .donation }) n hfree ha hd] at hout
    exact (State.frameLeaves_of_donation ho hout).2.2 _ (Link.enter_queued _ _ hfree)
  · rw [hthaws hn] at hout
    obtain ⟨h1, h2, _⟩ := State.frameLeaves_of_donation ho hout
    obtain ⟨g1, g2, _⟩ := State.thaw_leaves { s with link := s.link.remove .donation }
    exact ⟨h1.trans g1, h2.trans g2⟩

/-- One that is not brings SNAP-ABORT and the thaw (R38). -/
theorem State.frameLeaves_of_lost {s : State} {e : TxEntry} {oc : TxOutcome} {d : Stream} (ho : e.origin = .donation)
    (hp : e.payload ≠ .snapAbort) (hs : s.engine.stream = some d) (hd : d.offered = true)
    (ha : s.engine.abortTo = none) (hoc : oc ≠ .taken) :
    (s.frameLeaves e oc).engine = { s.engine with freeze := false, stream := none }
      ∧ (s.frameLeaves e oc).replica = s.replica
      ∧ (s.frameLeaves e oc).link.queued .donation = some (s.abortEntry d.joiner) := by
  have hfree : (s.link.remove .donation).queued .donation = none := Link.remove_queued _ _
  have hout := State.donationOutcome_of_stream (s := { s with link := s.link.remove .donation }) (oc := oc) hs hd hp
  rw [if_neg hoc] at hout
  obtain ⟨h1, h2, _, _, h5⟩ := State.abortDonation_spec d.joiner { s with link := s.link.remove .donation }
  rw [hfree] at h5
  rw [(State.frameLeaves_of_donation ho hout).2.2 _ h5]
  refine ⟨h1.trans ?_, h2, h5⟩
  rw [hfree, ← ha]
  rfl

/-- As the donor of a joiner the station is frozen, and SNAP-HEAD is queued (R36, R37). -/
theorem State.freezeFor_of_free {s : State} {joiner : Nat} (k : Check) (hq : s.link.queued .donation = none)
    (ha : s.engine.abortTo = none) :
    let d : Stream := { joiner, keyOk := decide (k = s.replica.site.keyCheck), next := .head, offered := true }
    s.freezeFor joiner k = { s with
      engine := { s.engine with freeze := true, stream := some d }
      link := s.link.enter .donation joiner (streamFrame s.replica .head) } := by
  intro d
  have hkey : (k == s.replica.site.keyCheck) = decide (k = s.replica.site.keyCheck) := by
    rw [Bool.eq_iff_iff, beq_iff_eq, decide_eq_true_eq]
  let d' : Stream := { d with offered := false }
  have hpump := State.donationPump_of_stream (d := d')
    (s := { s with engine := { s.engine with freeze := true, stream := some d' } }) hq ha rfl rfl
  rw [State.freezeFor, hkey]
  exact hpump

/-- A JOIN that names the station freezes it, and SNAP-HEAD begins the stream (R36, R37). -/
theorem State.completeWrite_of_donor {s : State} {w : Writing} {j : Joining} {e : StationEntry}
    (hw : s.engine.writing = some w) (hl : w.limit = false) (hs : s.link.state = .inService)
    (hp : w.frame.payload = .join j) (hres : w.result = .applied) (hother : w.frame.sender ≠ s.me)
    (he : w.replica.station? w.frame.sender = some e) (hdonor : e.donor = some s.me)
    (hin : w.replica.inService s.me = true) :
    s.completeWrite = State.resumeStream ((s.written w).freezeFor w.frame.sender j.keyCheck) := by
  have hin' : (s.written w).inService = true := by
    show s.inService = true
    rw [State.inService, hs]
    rfl
  have hnames : ((s.written w).replica.station? w.frame.sender).bind StationEntry.donor = some (s.written w).me := by
    show (w.replica.station? w.frame.sender).bind StationEntry.donor = some s.me
    rw [he]
    exact hdonor
  have hfreezes : (s.written w).becomeDonor w.frame w.result = (s.written w).freezeFor w.frame.sender j.keyCheck := by
    simp only [State.becomeDonor, hp, hres]
    exact if_pos ⟨hin', hnames⟩
  rw [State.completeWrite_eq hw hl, State.stands, State.ownApplied_of_other (s := s.written w) _ hother,
    State.standing_of_stays (s := s.written w) (.inl hin) (.inl hother), hfreezes,
    State.tellRecovery_of_other (by rw [hp]; simp [Payload.kind?]) (by rw [hp]; simp)]

/-- Settles O38. -/
theorem framesWaitForTheSnapshot : Obligations.FramesWaitForTheSnapshot := by
  refine ⟨fun s f rest hlive hw hin hp hs hfreeze => ⟨fun hroom => ?_, fun hfull => ?_⟩,
    fun s rx x w e j h ho hk ha hd => ?_, fun s f rest hlive hw hin hp hs => ⟨fun hroom => ?_, fun hfull => ?_⟩,
    fun s w j e hlive hw hl hs hp hres hother he hdonor hins hq ha => ?_,
    fun s rx x w e d h ho hk hp hs hd ha => ?_, fun s f rest hs hfreeze hw hdef hp => ?_⟩
  · have hins : s.inService = true := by rw [State.inService, hs]; rfl
    refine exec_of_quiet (f := State.deferFrame) rfl hlive ?_ rfl
    rw [State.deferFrame, hin]
    dsimp only [List.head?_cons]
    rw [if_pos ⟨hins, hfreeze, by rw [hw]; rfl, hp⟩, if_pos hroom, State.popInbound_of_cons hin]
    rfl
  · have hins : s.inService = true := by rw [State.inService, hs]; rfl
    have heq : s.deferFrame = s.deferOverflow := by
      rw [State.deferFrame, hin]
      dsimp only [List.head?_cons]
      rw [if_pos ⟨hins, hfreeze, by rw [hw]; rfl, hp⟩, if_neg (Nat.not_lt.mpr hfull)]
    obtain ⟨h1, h2, h3, h4, h5, h6⟩ := s.deferOverflow_leaves
    exact ⟨_, exec_of_eq (f := State.deferFrame) rfl hlive heq, h1, h2, h3, h4, h5, h6, fun d hd _ =>
      ⟨State.deferOverflow_of_waits hd, fun e hq => State.deferOverflow_of_busy hd hq⟩⟩
  · have horigin : e.origin = .donation := h.origin.trans ho
    refine ⟨fun hv => ?_, fun hv he => ?_⟩
    · refine exec_of_quiet (f := State.window .service rx x) rfl h.1 ?_ rfl
      have hwire : (s.link.remove .donation).wire = none := by
        rw [Link.remove, ← horigin, h.onWire]
        rfl
      rw [State.window_of_service rx h hk hv, State.frameLeaves_of_owed horigin ha hd, Link.enter, hwire]
      rfl
    · refine exec_of_quiet (f := State.undelivered x) rfl h.1 ?_ rfl
      rw [State.undelivered_of_sends h hv he, State.frameLeaves_of_owed (s := s.voidHeld) horigin ha hd,
        Link.remove_of_off _ rfl]
      rfl
  · refine exec_of_quiet (f := State.holdForCatchUp) rfl hlive ?_ rfl
    rw [State.holdForCatchUp, hin]
    dsimp only [List.head?_cons]
    rw [if_pos ⟨hs, by rw [hw]; rfl, hp⟩, if_pos hroom, State.popInbound_of_cons hin]
    rfl
  · have heq : s.holdForCatchUp = s.abandonJoin .catchUpOverflow := by
      rw [State.holdForCatchUp, hin]
      dsimp only [List.head?_cons]
      rw [if_pos ⟨hs, by rw [hw]; rfl, hp⟩, if_neg (Nat.not_lt.mpr hfull)]
    exact ⟨_, exec_of_eq (f := State.holdForCatchUp) rfl hlive heq, State.abandonJoin_spec .catchUpOverflow rfl rfl⟩
  · have hfreezes := State.freezeFor_of_free (s := s.written w) (joiner := w.frame.sender) j.keyCheck hq ha
    have heq := State.completeWrite_of_donor hw hl hs hp hres hother he hdonor hins
    rw [State.resumeStream_of_streams fun _ _ _ => .inl (by rw [hfreezes]), hfreezes] at heq
    exact ⟨_, _, exec_of_eq (f := State.completeWrite) rfl hlive heq, rfl, rfl, rfl, Link.enter_queued _ _ hq, rfl, rfl⟩
  · have horigin : e.origin = .donation := h.origin.trans ho
    intro entries goesOn thaws
    refine ⟨fun hv hx => ?_, fun c hc => ?_⟩
    · have heq := State.window_of_service rx h hk hv
      rw [hx, if_pos rfl] at heq
      have hexec := exec_of_eq (c := .serviceWindow rx x) (f := State.window .service rx x) rfl h.1 heq
      obtain ⟨hgoes, hthaws⟩ := State.frameLeaves_of_taken horigin hp hs hd ha
      have hfree : (s.link.remove .donation).queued .donation = none := Link.remove_queued _ _
      have hnext {n : StreamNext} (hn : d.following s.replica = some n) :
          (s.frameLeaves e .taken).commitNotices.engine = { s.engine with stream := some { d with next := n } }
            ∧ (s.frameLeaves e .taken).commitNotices.replica = s.replica
            ∧ ∃ y, (s.frameLeaves e .taken).commitNotices.link.queued .donation = some y ∧ y.dest = d.joiner
              ∧ y.payload = streamFrame s.replica n := by
        rw [hgoes n hn]
        exact ⟨rfl, rfl, _, Link.enter_queued _ _ hfree, rfl, rfl⟩
      refine ⟨_, hexec, fun hn hkey => ?_, fun hn hkey => ?_, fun n hn hlt => ?_, fun n hn hge => ?_, fun hn => ?_⟩
      · exact hnext (n := .body 0) (by rw [Stream.following, hn, hkey]; rfl)
      · exact hthaws (by rw [Stream.following, hn, hkey]; rfl)
      · exact hnext (n := .body (n + 2)) (by rw [Stream.following, hn]; exact if_pos hlt)
      · exact hnext (n := .finish) (by rw [Stream.following, hn]; exact if_neg (Nat.not_lt.mpr hge))
      · exact hthaws (by rw [Stream.following, hn])
    · rcases hc with ⟨rfl, hv, hx⟩ | ⟨rfl, hv, he⟩
      · have heq := State.window_of_service rx h hk hv
        rw [hx, if_neg (by decide)] at heq
        obtain ⟨h1, h2, h3⟩ := State.frameLeaves_of_lost (oc := .notTaken) horigin hp hs hd ha (by decide)
        exact ⟨_, _, exec_of_eq (f := State.window .service rx x) rfl h.1 heq, ⟨h1, h2⟩, h3, rfl, rfl⟩
      · obtain ⟨h1, h2, h3⟩ := State.frameLeaves_of_lost (s := s.voidHeld) (oc := .undelivered) horigin hp hs hd ha
          (by decide)
        exact ⟨_, _, exec_of_eq (f := State.undelivered x) rfl h.1 (State.undelivered_of_sends h hv he), ⟨h1, h2⟩, h3,
          rfl, rfl⟩
  · have hins : s.inService = true := by rw [State.inService, hs]; rfl
    have hmay : s.mayApply = true := by simp [State.mayApply, hins, hfreeze, hw]
    have hne : s.engine.deferred.isEmpty = false := by rw [hdef]; rfl
    refine ⟨?_, ?_⟩
    · have hnext : s.nextFrame = some f := by rw [State.nextFrame, hne, hdef]; rfl
      rw [State.toApply, if_pos hmay, hnext]
      exact if_pos hp
    · rw [State.popNext, hne, hdef]
      rfl

end Sys2Proof.Machine
end

section
/-! The results of the own opening and closing frames as a retained write ends (R28, R91, R109 to R114, R123, R136, R138,
R163, R166 to R170). -/

namespace Sys2Proof.Machine

/-! ## The end of the write of an own frame -/

theorem State.responderPump_eq (s : State) :
    s.responderPump = { s with responder := s.responderPump.responder, link := s.responderPump.link } := by
  unfold State.responderPump
  split
  · rfl
  · split
    · rfl
    · split
      · split <;> rfl
      · rfl

/-- A stream that goes on changes the responder and its frame alone. -/
theorem State.resumeStream_eq (s : State) :
    s.resumeStream = { s with responder := s.resumeStream.responder, link := s.resumeStream.link } := by
  unfold State.resumeStream
  split
  · split
    · rw [State.responderPump_eq]
    · rfl
  · rfl

/-- A frame of the activity controller that opens, closes or adjusts. -/
abbrev Payload.Settles (p : Payload) : Prop :=
  (∃ o, p = .openFill o) ∨ (∃ d, p = .deliveryOpen d) ∨ (∃ c, p = .close c) ∨ (∃ c, p = .deliveryClose c)
    ∨ ∃ a, p = .adjust a

/-- The write of such a frame ends with its result. -/
theorem State.completeWrite_of_own {s y : State} {w : Writing} (hw : s.engine.writing = some w) (hl : w.limit = false)
    (hme : w.frame.sender = s.me) (hp : w.frame.payload.Settles)
    (hy : (s.written w).activityResult w.frame.payload w.result = y) (hin : y.replica.inService y.me = true) :
    s.completeWrite = y.resumeStream := by
  have hsettles : (s.written w).handResult w.frame.payload w.result = y
      ∧ w.frame.payload ≠ .leave ∧ w.frame.payload.isAnnounce = false ∧ (∀ j, w.frame.payload ≠ .join j)
      ∧ w.frame.payload.kind? ≠ some .release ∧ ∀ n time, w.frame.payload ≠ .census .present n time := by
    rw [← hy]
    rcases hp with ⟨x, hp⟩ | ⟨x, hp⟩ | ⟨x, hp⟩ | ⟨x, hp⟩ | ⟨x, hp⟩ <;> rw [hp] <;>
      exact ⟨rfl, by simp, rfl, by simp, by simp [Payload.kind?], by simp⟩
  obtain ⟨hresult, hleave, hannounce, hjoin, hrelease, hpresent⟩ := hsettles
  have hown := State.ownApplied_of_own (s := s.written w) w.result hme hleave
  rw [hresult] at hown
  rw [State.completeWrite_eq hw hl, State.stands, hown, State.standing_of_stays (.inl hin) (.inr hannounce),
    State.becomeDonor_of_other _ hjoin, State.tellRecovery_of_other hrelease hpresent]

/-! ## The grant (R91, R109, R111, R113, R114, R136, R163) -/

theorem State.role_of_settings {s : State} {c : Settings} (h : s.settings = some c) : s.role = some c.role := by
  rw [State.role, h]
  rfl

/-- The compare points of a grant. -/
def Settings.points (c : Settings) (volume : Nat) : ComparePoints :=
  { slowDown := (volume : Int) - c.slowDown, stop := (volume : Int) - c.anticipation,
    progress := if c.role == .receipt then 10000 else c.progressStep, overrun := (volume : Int) + c.overrun }

theorem State.progressStep_eq {s : State} {c : Settings} (h : s.settings = some c) :
    s.progressStep = if c.role == .receipt then 10000 else c.progressStep := by
  unfold State.progressStep
  rw [State.role_of_settings h, h]
  cases c.role <;> rfl

theorem State.comparePoints_eq {s : State} {c : Settings} (volume : Nat) (h : s.settings = some c) :
    s.comparePoints volume = c.points volume := by
  rw [State.comparePoints, h]
  dsimp only
  rw [State.progressStep_eq h, Settings.points]
  cases c.role <;> rfl

/-- The end reason that a crossed stop point gives. -/
theorem State.stopReason_eq {s : State} {c : Settings} (h : s.settings = some c) :
    s.stopReason = if c.role == .receipt then .limit else .preset := by
  unfold State.stopReason
  rw [State.role_of_settings h]
  cases c.role <;> rfl

theorem State.newRecord_eq {s : State} {c : Settings} {r : IdResult} (openSeq volume : Nat) (h : s.settings = some c)
    (hr : s.activity.result = some r) :
    s.newRecord openSeq volume =
      { kind := if c.role == .receipt then .delivery else .fill, openSeq, party := r.number,
        tank := if c.role == .receipt then s.activity.namedTank.getD 0 else c.hose.getD 0, volume, gross := 0,
        comp := some 0, progress := 0, endReason := none, mode := r.mode } := by
  unfold State.newRecord
  rw [State.role_of_settings h, hr, State.hose, h]
  cases c.role <;> rfl

theorem State.openedTank_eq {s : State} {c : Settings} (h : s.settings = some c) :
    s.openedTank = if c.role == .receipt then s.activity.namedTank else s.activity.lastTank := by
  unfold State.openedTank
  rw [State.role_of_settings h]
  cases c.role <;> rfl

/-- A grant leaves the tables and the configuration. -/
abbrev State.Stays (s t : State) : Prop := t.replica = s.replica ∧ t.settings = s.settings

theorem State.Stays.trans {s t u : State} (h : s.Stays t) (h' : t.Stays u) : s.Stays u :=
  ⟨h'.1.trans h.1, h'.2.trans h.2⟩

theorem State.stays_of_core {s t : State} (h : t.core = s.core) : s.Stays t :=
  ⟨State.replica_of_core h, State.settings_of_core h⟩

theorem State.Stays.inService {s t : State} (h : s.Stays t) (hin : s.replica.inService s.me = true) :
    t.replica.inService t.me = true := by
  rw [h.1, State.me_of_settings h.2]
  exact hin

theorem State.enterAct_stays (st : ActState) (s : State) : s.Stays (s.enterAct st) :=
  State.stays_of_core (State.enterAct_core _ _)

theorem State.stopWith_stays (r : Reason) (s : State) : s.Stays (s.stopWith r) := by
  unfold State.stopWith
  exact State.Stays.trans (t := { s.outputsOff.modRecord fun x => { x with endReason := some r } with
    activity := _ }) ⟨rfl, rfl⟩ (State.enterAct_stays _ _)

/-- The flow opened, at full rate or at trim rate. -/
def State.atRate (p : ComparePoints) (s : State) : State :=
  if p.slowDown ≤ 0 then (s.requestOutputs false).enterAct .slowing else (s.requestOutputs true).enterAct .flowing

theorem State.startFlow_eq (p : ComparePoints) (s : State) :
    s.startFlow p = if p.stop ≤ 0 then (s.atRate p).stopWith (s.atRate p).stopReason else s.atRate p := rfl

theorem State.atRate_stays (p : ComparePoints) (s : State) : s.Stays (s.atRate p) := by
  unfold State.atRate
  split
  · exact State.enterAct_stays _ (s.requestOutputs false)
  · exact State.enterAct_stays _ (s.requestOutputs true)

theorem State.atRate_spec (p : ComparePoints) (s : State) :
    (s.atRate p).meter = s.meter ∧ (s.atRate p).supply = s.supply
      ∧ (s.atRate p).activity = { s.activity with state := if p.slowDown ≤ 0 then .slowing else .flowing }
      ∧ (s.atRate p).outputs = { pump := true, vmain := decide (0 < p.slowDown), vtrim := true } := by
  unfold State.atRate
  split
  next h => simp [State.requestOutputs, Int.not_lt.mpr h]
  next h => simp [State.requestOutputs, Int.not_le.mp h]

theorem State.startFlow_stays (p : ComparePoints) (s : State) : s.Stays (s.startFlow p) := by
  rw [State.startFlow_eq]
  split
  · exact (s.atRate_stays p).trans (State.stopWith_stays _ _)
  · exact s.atRate_stays p

theorem State.takeGrant_stays (openSeq volume : Nat) (s : State) : s.Stays (s.takeGrant openSeq volume) := by
  have hset : s.Stays (s.setUpActivity openSeq volume) := ⟨rfl, rfl⟩
  unfold State.takeGrant
  dsimp only
  split
  · exact hset.trans (State.stopWith_stays _ _)
  · exact hset.trans (State.startFlow_stays _ _)

theorem Meter.zero_gross (m : Meter) : m.zero.gross = 0 := rfl

/-- The activity that a grant sets up opens as the rules say. -/
theorem State.takeGrant_opens {s : State} {c : Settings} {r : IdResult} (openSeq volume : Nat)
    (h : s.settings = some c) (hr : s.activity.result = some r) :
    s.Opens c r openSeq volume (s.takeGrant openSeq volume) := by
  have hpoints := State.comparePoints_eq volume h
  have hpoints' : (s.setUpActivity openSeq volume).comparePoints volume = c.points volume :=
    State.comparePoints_eq (s := s.setUpActivity openSeq volume) volume h
  have hrecord := State.newRecord_eq openSeq volume h hr
  have htank := State.openedTank_eq h
  cases hpending : s.activity.pendingEnd with
  | some y =>
    have heq : s.takeGrant openSeq volume = (s.setUpActivity openSeq volume).stopWith y := by
      rw [State.takeGrant, hpending]
    simp only [State.Opens, hpending, heq, State.stopWith_activity, State.stopWith_outputs, State.stopWith_meter,
      State.stopWith_supply, State.setUpActivity, hpoints, hrecord, htank, Meter.zero_gross, Settings.points]
    simp [Meter.zero]
  | none =>
    have heq : s.takeGrant openSeq volume = (s.setUpActivity openSeq volume).startFlow (c.points volume) := by
      rw [State.takeGrant, hpending]
      dsimp only
      rw [hpoints']
    obtain ⟨hmeter, hsupply, hact, houtputs⟩ := (s.setUpActivity openSeq volume).atRate_spec (c.points volume)
    have hreason := State.stopReason_eq
      (((s.setUpActivity openSeq volume).atRate_stays (c.points volume)).2.trans h)
    rw [State.startFlow_eq] at heq
    generalize State.atRate (c.points volume) (s.setUpActivity openSeq volume) = x
      at heq hmeter hsupply hact houtputs hreason
    by_cases hstop : (c.points volume).stop ≤ 0
    · rw [if_pos hstop, hreason] at heq
      simp only [State.Opens, hpending, heq, State.stopWith_activity, State.stopWith_outputs, State.stopWith_meter,
        State.stopWith_supply, hmeter, hsupply, hact, State.setUpActivity, hpoints, hrecord, htank, Meter.zero_gross,
        Settings.points] at hstop ⊢
      simp [Meter.zero, hstop]
    · rw [if_neg hstop] at heq
      by_cases hslow : (c.points volume).slowDown ≤ 0
      all_goals
        simp only [State.Opens, hpending, heq, hmeter, hsupply, hact, houtputs, State.setUpActivity, hpoints, hrecord,
          htank, Settings.points] at hstop hslow ⊢
        simp [Meter.zero, hstop, hslow]

/-! ## Write-back asked for (R67, R123) -/

/-- A change that adds at most `k` notices to those of the step. -/
abbrev State.Raises (k : Nat) (s t : State) : Prop :=
  t.console.notices = s.console.notices
    ∧ ∃ l, t.console.raised = s.console.raised ++ l ∧ l.length ≤ k

theorem State.Raises.trans {s t u : State} {j k : Nat} (h : s.Raises j t) (h' : t.Raises k u) : s.Raises (j + k) u := by
  obtain ⟨h1, l, h2, h3⟩ := h
  obtain ⟨g1, m, g2, g3⟩ := h'
  refine ⟨g1.trans h1, l ++ m, by rw [g2, h2, List.append_assoc], ?_⟩
  rw [List.length_append]
  exact Nat.add_le_add h3 g3

/-- A change that leaves the panel. -/
theorem State.Raises.of_console {s t : State} (k : Nat) (h : t.console = s.console) : s.Raises k t := by
  rw [State.Raises, h]
  exact ⟨rfl, [], (List.append_nil _).symm, Nat.zero_le k⟩

theorem State.raise_raises (b : NoticeBody) (s : State) : s.Raises 1 (s.raise b) := ⟨rfl, _, rfl, Nat.le_refl 1⟩

theorem State.raiseActivity_raises (s : State) : s.Raises 1 s.raiseActivity := by
  unfold State.raiseActivity
  split
  · exact s.raise_raises _
  · exact s.raise_raises _

theorem State.enterAct_raises (st : ActState) (s : State) : s.Raises 1 (s.enterAct st) :=
  State.raiseActivity_raises { s with activity := { s.activity with state := st } }

theorem State.releaseAtReceipt_console (s : State) : s.releaseAtReceipt.console = s.console := by
  rw [State.releaseAtReceipt_eq]

theorem State.toIdle_raises (q : Option Nat) (s : State) : s.Raises 1 (s.toIdle q) := by
  have hcleared : s.Raises 0 (s.releaseAtReceipt.clearActivity q) := .of_console 0 s.releaseAtReceipt_console
  exact hcleared.trans (State.enterAct_raises _ _)

theorem State.checkWriteback_raises (s : State) : s.Raises 1 s.checkWriteback := by
  unfold State.checkWriteback
  split
  · split
    · exact State.enterAct_raises _ { s with activity := { s.activity with faultPending := false } }
    · split
      · exact .of_console 1 rfl
      · exact s.toIdle_raises none
  · exact .of_console 1 rfl

/-- At DISPENSE the end of WRITEBACK leaves the identification controller and the port. -/
theorem State.checkWriteback_keeps {s : State} (h : s.role ≠ some .receipt) :
    s.checkWriteback.ident = s.ident ∧ s.checkWriteback.port = s.port := by
  have hidle : (s.toIdle none).ident = s.ident ∧ (s.toIdle none).port = s.port := by
    have hrelease : s.releaseAtReceipt = s := by
      unfold State.releaseAtReceipt
      split
      case h_1 hr => exact absurd hr h
      case h_2 => rfl
    rw [State.toIdle, hrelease, State.enterAct_ident, State.enterAct_port]
    exact ⟨rfl, rfl⟩
  unfold State.checkWriteback
  split
  · split
    · rw [State.enterFaultedValve, State.enterAct_ident, State.enterAct_port]
      exact ⟨rfl, rfl⟩
    · split
      · exact ⟨rfl, rfl⟩
      · exact hidle
  · exact ⟨rfl, rfl⟩

/-- WRITEBACK is entered, its write-back ended already or not. -/
def State.intoWriteback (done : Bool) (s : State) : State :=
  (State.enterAct .writeback { s with activity := { s.activity with writeBackDone := done } }).checkWriteback

theorem State.intoWriteback_core (done : Bool) (s : State) : (s.intoWriteback done).core = s.core := by
  rw [State.intoWriteback, State.checkWriteback_core, State.enterAct_core]
  rfl

theorem State.intoWriteback_raises (done : Bool) (s : State) : s.Raises 2 (s.intoWriteback done) :=
  (State.enterAct_raises .writeback { s with activity := { s.activity with writeBackDone := done } }).trans
    (State.checkWriteback_raises _)

theorem State.intoWriteback_keeps {s : State} (done : Bool) (h : s.role ≠ some .receipt) :
    (s.intoWriteback done).ident = s.ident ∧ (s.intoWriteback done).port = s.port := by
  have hrole : (State.enterAct .writeback
      { s with activity := { s.activity with writeBackDone := done } }).role ≠ some .receipt := by
    rw [State.role_of_core (State.enterAct_core _ _)]
    exact h
  obtain ⟨h1, h2⟩ := State.checkWriteback_keeps hrole
  rw [State.enterAct_ident] at h1
  rw [State.enterAct_port] at h2
  exact ⟨h1, h2⟩

/-- It waits there for a write-back that runs. -/
theorem State.intoWriteback_running (s : State) :
    (s.intoWriteback false).activity.state = .writeback ∧ (s.intoWriteback false).activity.writeBackDone = false := by
  have hstays (x : State) (hx : x.activity.writeBackDone = false) : x.checkWriteback = x :=
    if_neg fun h => by rw [hx] at h; cases h.2
  rw [State.intoWriteback, hstays _ (by rw [State.enterAct_activity]), State.enterAct_activity]
  exact ⟨rfl, rfl⟩

/-- In WRITEBACK with the write-back ended, what comes of it. -/
theorem State.checkWriteback_ended {x : State} (hstate : x.activity.state = .writeback)
    (hdone : x.activity.writeBackDone = true) :
    x.checkWriteback.activity.state = x.afterWriteback
      ∧ (x.checkWriteback.activity.state = .writeback → x.checkWriteback.activity.writeBackDone = true) := by
  rw [State.checkWriteback_state hstate hdone]
  refine ⟨rfl, fun h => ?_⟩
  have hstays : x.checkWriteback = x := by
    rw [State.checkWriteback_of_done hstate hdone]
    unfold State.afterWriteback at h
    split at h
    · cases h
    next hno =>
      rw [if_neg hno]
      split at h
      next hnoz => exact if_pos hnoz
      · cases h
  rw [hstays, hdone]

/-- It ends at once where the write-back has. -/
theorem State.intoWriteback_ended (s : State) :
    (s.intoWriteback true).activity.state = s.afterWriteback
      ∧ ((s.intoWriteback true).activity.state = .writeback →
        (s.intoWriteback true).activity.writeBackDone = true) := by
  generalize hx : State.enterAct .writeback { s with activity := { s.activity with writeBackDone := true } } = x
  have hact : x.activity = { s.activity with state := .writeback, writeBackDone := true } := by
    rw [← hx, State.enterAct_activity]
  have hmeter : x.meter = s.meter := by rw [← hx, State.enterAct_meter]
  have hgoes : s.intoWriteback true = x.checkWriteback := by rw [State.intoWriteback, hx]
  have hafter : x.afterWriteback = s.afterWriteback := by
    rw [State.afterWriteback, State.nozzle, hact, hmeter]
    rfl
  rw [hgoes, ← hafter]
  exact State.checkWriteback_ended (by rw [hact]) (by rw [hact])

/-! ### The request (R67) -/

/-- A request that is answered TAG_NOT_WRITTEN for the coupler. -/
theorem State.takeWriteBack_of_lost {s : State} {q : WriteBackRequest}
    (h : q.couplerLost = true ∨ s.ident.state = .idle) :
    s.takeWriteBack q = (s.raise (.tagNotWritten .couplerLost q.area.record), true) := by
  rw [State.takeWriteBack]
  split
  · rfl
  next hno =>
    have hidle := h.resolve_left hno
    simp only [hidle]

/-- One that is taken up with the inlet context, by its mode and unlock state. -/
theorem State.takeWriteBack_of_context {s : State} {q : WriteBackRequest} {c : Inlet} (hq : q.couplerLost = false)
    (hs : s.ident.state = .identified) (hc : s.ident.context = some c) :
    (c.mode = .tag → c.unlock = .unlocked → s.takeWriteBack q = (s.startWriting q.area, false))
      ∧ (c.mode = .tag → c.unlock ≠ .unlocked → s.takeWriteBack q =
        (s.discardContext.raise (.tagNotWritten .locked q.area.record), true))
      ∧ (c.mode = .keyed → s.takeWriteBack q =
        (s.discardContext.raise (.tagNotWritten .keyed q.area.record), true)) := by
  rw [State.takeWriteBack, hq, if_neg Bool.false_ne_true]
  simp only [hs, hc]
  cases c.mode with
  | keyed => exact ⟨nofun, nofun, fun _ => rfl⟩
  | tag =>
    cases c.unlock with
    | unlocked => exact ⟨fun _ _ => rfl, fun _ h => absurd rfl h, nofun⟩
    | locked => exact ⟨nofun, fun _ _ => rfl, nofun⟩
    | lost => exact ⟨nofun, fun _ _ => rfl, nofun⟩

end Sys2Proof.Machine
end

section
/-! The results of the own frames as an obligation (R28, R67, R109, R123, R136, R138, R166 to R170). -/

namespace Sys2Proof.Machine

/-! ## What the end of a write adds -/

/-- The state as the command ends: the stream goes on, the notices enter. -/
def State.finish (s : State) : State := s.resumeStream.commitNotices

theorem State.finish_eq (s : State) : s.finish = { s with
    responder := s.finish.responder, link := s.finish.link, console := s.finish.console, free := s.finish.free } := by
  have hcommit : s.finish = { s.resumeStream with console := s.finish.console, free := s.finish.free } := rfl
  refine hcommit.trans ?_
  rw [s.resumeStream_eq]
  rfl

@[simp] theorem State.finish_activity (s : State) : s.finish.activity = s.activity := by rw [State.finish_eq]
@[simp] theorem State.finish_replica (s : State) : s.finish.replica = s.replica := by rw [State.finish_eq]
@[simp] theorem State.finish_outputs (s : State) : s.finish.outputs = s.outputs := by rw [State.finish_eq]
@[simp] theorem State.finish_supply (s : State) : s.finish.supply = s.supply := by rw [State.finish_eq]
@[simp] theorem State.finish_meter (s : State) : s.finish.meter = s.meter := by rw [State.finish_eq]
@[simp] theorem State.finish_ident (s : State) : s.finish.ident = s.ident := by rw [State.finish_eq]
@[simp] theorem State.finish_port (s : State) : s.finish.port = s.port := by rw [State.finish_eq]

theorem State.finish_of_goOn {s y : State} (h : s.StreamsGoOn) (hy : y.responder = s.responder) :
    y.finish = y.commitNotices := by
  rw [State.finish, State.resumeStream_of_goOn h hy]

theorem State.finish_notices {s y : State} {b : NoticeBody} (hb : ∃ n ∈ y.console.raised, n.body = b)
    (hnotices : y.console.notices = s.console.notices)
    (h : s.console.notices.length + y.console.raised.length ≤ 16) : ∃ n ∈ y.finish.console.notices, n.body = b := by
  have hconsole : y.resumeStream.console = y.console := by rw [State.resumeStream_eq]
  have hn := exists_notice (s := s) (t := y.resumeStream) (b := b) (by rw [hconsole]; exact hb)
    (by rw [hconsole, hnotices]) (by rw [hconsole]; exact h)
  exact hn

/-- The command that ends the write of an own frame. -/
theorem exec_completeWrite_of_own {s y : State} {w : Writing} (hlive : s.Live) (hw : s.engine.writing = some w)
    (hl : w.limit = false) (hme : w.frame.sender = s.me) (hp : w.frame.payload.Settles)
    (hy : (s.written w).activityResult w.frame.payload w.result = y) (hstays : (s.written w).Stays y)
    (hin : w.replica.inService s.me = true) :
    exec .retainedWriteComplete s = .next y.finish ∧ y.finish.replica = w.replica :=
  ⟨exec_of_eq (f := State.completeWrite) rfl hlive
      (State.completeWrite_of_own hw hl hme hp hy (hstays.inService (s := s.written w) hin)),
    by rw [State.finish_replica, hstays.1]; rfl⟩

theorem State.activityResult_of_open {s : State} {p : Payload} (res : ApplyResult)
    (hp : (∃ o, p = .openFill o) ∨ ∃ d, p = .deliveryOpen d) : s.activityResult p res = s.openResult res := by
  rcases hp with ⟨x, rfl⟩ | ⟨x, rfl⟩ <;> rfl

theorem State.openResult_of_opening {s : State} (h : s.activity.state = .opening) :
    (∀ n v, s.openResult (.granted n v) = s.takeGrant n v) ∧ ∀ r, s.openResult (.refused r) = s.refuseOpening r :=
  ⟨fun _ _ => if_neg fun h' => h' h, fun _ => if_neg fun h' => h' h⟩

/-- The own opening frame is granted. -/
theorem exec_granted {s : State} {w : Writing} {c : Settings} {r : IdResult} {openSeq volume : Nat} (hlive : s.Live)
    (hw : s.engine.writing = some w) (hl : w.limit = false) (hme : w.frame.sender = s.me)
    (hp : (∃ o, w.frame.payload = .openFill o) ∨ ∃ d, w.frame.payload = .deliveryOpen d)
    (hres : w.result = .granted openSeq volume) (hin : w.replica.inService s.me = true) (hc : s.settings = some c)
    (hs : s.activity.state = .opening) (hr : s.activity.result = some r) :
    ∃ t, exec .retainedWriteComplete s = .next t ∧ t.replica = w.replica ∧ s.Opens c r openSeq volume t := by
  have hy : (s.written w).activityResult w.frame.payload w.result = (s.written w).takeGrant openSeq volume := by
    rw [State.activityResult_of_open _ hp, hres]
    exact (State.openResult_of_opening (s := s.written w) hs).1 _ _
  obtain ⟨hexec, hreplica⟩ := exec_completeWrite_of_own hlive hw hl hme (hp.imp_right .inl) hy
    (State.takeGrant_stays _ _ _) hin
  have hopens := State.takeGrant_opens (s := s.written w) openSeq volume hc hr
  refine ⟨_, hexec, hreplica, ?_⟩
  simp only [State.Opens, State.finish_activity, State.finish_outputs, State.finish_meter, State.finish_supply]
  exact hopens

/-- The own opening frame is refused. -/
theorem exec_refused {s : State} {w : Writing} {x : Reason} (hlive : s.Live)
    (hw : s.engine.writing = some w) (hl : w.limit = false) (hme : w.frame.sender = s.me)
    (hp : (∃ o, w.frame.payload = .openFill o) ∨ ∃ d, w.frame.payload = .deliveryOpen d)
    (hres : w.result = .refused x) (hin : w.replica.inService s.me = true) (hs : s.activity.state = .opening) :
    ∃ t, exec .retainedWriteComplete s = .next t ∧ t.replica = w.replica ∧ t.activity.state = .refused x
      ∧ t.activity.preset = none ∧ t.outputs = s.outputs
      ∧ (s.role = some .receipt → t.ident.context = none) := by
  have hy : (s.written w).activityResult w.frame.payload w.result = (s.written w).refuseOpening x := by
    rw [State.activityResult_of_open _ hp, hres]
    exact (State.openResult_of_opening (s := s.written w) hs).2 _
  obtain ⟨hexec, hreplica⟩ := exec_completeWrite_of_own hlive hw hl hme (hp.imp_right .inl) hy
    (State.stays_of_core (State.refuseOpening_core _ _)) hin
  refine ⟨_, hexec, hreplica, ?_, ?_, ?_, fun hrole => ?_⟩
  · rw [State.finish_activity, State.refuseOpening_activity]
  · rw [State.finish_activity, State.refuseOpening_activity]
  · rw [State.finish_outputs, State.outputs_of_core (State.refuseOpening_core _ _)]
    rfl
  · rw [State.finish_ident, State.refuseOpening, State.refuse, State.enterAct_ident]
    exact State.releaseResult_context (State.releaseAtReceipt_context hrole)

/-! ## The own closing frame is applied (R67, R123, R138) -/

theorem State.takeWriteBack_core (q : WriteBackRequest) (s : State) : (s.takeWriteBack q).1.core = s.core := by
  unfold State.takeWriteBack
  split
  · rfl
  · split
    · split <;> rfl
    · rfl

/-- A request for record `n` is answered TAG_NOT_WRITTEN: the panel is told, and the wait of WRITEBACK is over. -/
abbrev State.RefusesWriteBack (s : State) (r : Reason) (n : Nat) (t : State) : Prop :=
  (s.console.notices.length < 8 → ∃ m ∈ t.console.notices, m.body = .tagNotWritten r n)
    ∧ t.activity.state = (if s.activity.faultPending = true then .faulted
      else if s.meter.cells.noz.output = true then .writeback else .idle)
    ∧ (t.activity.state = .writeback → t.activity.writeBackDone = true)

/-- A request that is taken at `u` leads where the rules say (R67), as the activity controller goes on with the answer. -/
theorem State.takesWriteBack_of_parts {s u t : State} {q : WriteBackRequest} (hident : u.ident = s.ident)
    (hkeeps : t.ident = (u.takeWriteBack q).1.ident ∧ t.port = (u.takeWriteBack q).1.port)
    (hrun : (u.takeWriteBack q).2 = false → t.activity.state = .writeback ∧ t.activity.writeBackDone = false)
    (hrefused : ∀ (r : Reason) (z : State), z.activity = u.activity → z.meter = u.meter → z.console = u.console →
      u.takeWriteBack q = (z.raise (.tagNotWritten r q.area.record), true) →
      s.RefusesWriteBack r q.area.record t) : s.TakesWriteBack q t := by
  have hlost (h : q.couplerLost = true ∨ u.ident.state = .idle) :
      s.RefusesWriteBack .couplerLost q.area.record t ∧ t.ident = s.ident := by
    have heq := State.takeWriteBack_of_lost h
    refine ⟨hrefused .couplerLost u rfl rfl rfl heq, ?_⟩
    rw [hkeeps.1, heq]
    exact hident
  refine ⟨fun hq => hlost (.inl hq), fun _ hs => hlost (.inr (by rw [hident]; exact hs)), fun c hq hs hc => ?_⟩
  obtain ⟨hunlocked, hlocked, hkeyed⟩ := State.takeWriteBack_of_context (s := u) hq (by rw [hident]; exact hs)
    (by rw [hident]; exact hc)
  refine ⟨fun hm hu => ?_, fun hm hu => ?_, fun hm => ?_⟩
  · have heq := hunlocked hm hu
    rw [heq] at hkeeps hrun
    refine ⟨?_, ?_, hrun rfl⟩
    · rw [hkeeps.1, ← hident]
      rfl
    · rw [hkeeps.2]
      rfl
  · have heq := hlocked hm hu
    refine ⟨hrefused .locked u.discardContext rfl rfl rfl heq, ?_⟩
    rw [hkeeps.1, heq]
    rfl
  · have heq := hkeyed hm
    refine ⟨hrefused .keyed u.discardContext rfl rfl rfl heq, ?_⟩
    rw [hkeeps.1, heq]
    rfl

/-- A request that is taken as WRITEBACK begins. -/
theorem State.takesWriteBack_finish {s u : State} (q : WriteBackRequest) (hident : u.ident = s.ident)
    (hact : u.activity = s.activity) (hmeter : u.meter = s.meter) (hconsole : u.console = s.console)
    (hraised : s.console.raised = []) (hrole : u.role ≠ some .receipt) :
    s.TakesWriteBack q ((u.takeWriteBack q).1.intoWriteback (u.takeWriteBack q).2).finish := by
  have hrole' : (u.takeWriteBack q).1.role ≠ some .receipt := by
    rw [State.role_of_core (State.takeWriteBack_core q u)]
    exact hrole
  obtain ⟨hi, hp⟩ := State.intoWriteback_keeps (u.takeWriteBack q).2 hrole'
  refine State.takesWriteBack_of_parts hident ⟨(State.finish_ident _).trans hi, (State.finish_port _).trans hp⟩
    (fun h => ?_) fun r z h1 h2 h3 heq => ?_
  · rw [h, State.finish_activity]
    exact State.intoWriteback_running _
  · rw [heq]
    dsimp only
    obtain ⟨hstate, hdone⟩ := (z.raise (.tagNotWritten r q.area.record)).intoWriteback_ended
    obtain ⟨hnotices, l, hl, hlen⟩ :=
      (z.raise_raises (.tagNotWritten r q.area.record)).trans (State.intoWriteback_raises true _)
    obtain ⟨_, m, hm, _⟩ := State.intoWriteback_raises true (z.raise (.tagNotWritten r q.area.record))
    refine ⟨fun hroom => State.finish_notices (s := s) ?_ (by rw [hnotices, h3, hconsole]) ?_, ?_, ?_⟩
    · rw [hm]
      exact ⟨_, List.mem_append_left _ (List.mem_append_right _ (List.mem_singleton_self _)), rfl⟩
    · rw [hl, h3, hconsole, hraised, List.nil_append]
      omega
    · rw [State.finish_activity, hstate, State.afterWriteback, State.nozzle]
      show (if z.activity.faultPending = true then _ else if z.meter.cells.noz.output = true then _ else _) = _
      rw [h1, h2, hact, hmeter]
    · rw [State.finish_activity]
      exact hdone

theorem State.requestWriteBack_core (q : WriteBackRequest) (s : State) : (s.requestWriteBack q).1.core = s.core := by
  unfold State.requestWriteBack
  split
  · rfl
  · exact State.takeWriteBack_core q s

/-- The request for the write-back of an own CLOSE. -/
def State.closeRequest (n : Nat) (c : Closing) (s : State) : WriteBackRequest :=
  { area := s.lastFillArea n c, couplerLost := s.activity.couplerLost }

theorem State.closeApplied_eq (n : Nat) (c : Closing) (s : State) :
    s.closeApplied n c = (s.clearRecord.requestWriteBack (s.closeRequest n c)).1.intoWriteback
      (s.clearRecord.requestWriteBack (s.closeRequest n c)).2 := rfl

theorem State.closeApplied_core (n : Nat) (c : Closing) (s : State) :
    (s.closeApplied n c).core = s.clearRecord.core := by
  rw [State.closeApplied_eq, State.intoWriteback_core, State.requestWriteBack_core]

theorem State.intoWriteback_state (done : Bool) (s : State) :
    (s.intoWriteback done).activity.state = .writeback ∨ (s.intoWriteback done).activity.state = .idle
      ∨ (s.intoWriteback done).activity.state = .faulted := by
  cases done with
  | false => exact .inl s.intoWriteback_running.1
  | true =>
    rw [s.intoWriteback_ended.1, State.afterWriteback]
    split
    · exact .inr (.inr rfl)
    · split
      · exact .inl rfl
      · exact .inr (.inl rfl)

theorem Port.keepsAlive_iff {p : Port} : p.keepsAlive = true ↔ p.job.map TagJob.purpose = some .keepAlive := by
  unfold Port.keepsAlive
  cases p.job <;> simp

/-- The own CLOSE is applied at DISPENSE: the request waits for a keep-alive, or is taken. -/
theorem State.closeApplied_finish {s : State} (n : Nat) (c : Closing) (hraised : s.console.raised = [])
    (hrole : s.role ≠ some .receipt) :
    let q := s.closeRequest n c
    let t := (s.closeApplied n c).finish
    (s.port.job.map TagJob.purpose = some .keepAlive → t.ident = { s.ident with waiting := some q } ∧ t.port = s.port
        ∧ t.activity.state = .writeback ∧ t.activity.writeBackDone = false)
      ∧ (s.port.job.map TagJob.purpose ≠ some .keepAlive → s.TakesWriteBack q t) := by
  intro q t
  have heq := s.closeApplied_eq n c
  by_cases hk : s.port.keepsAlive = true
  · have hrequest : s.clearRecord.requestWriteBack q =
        ({ s.clearRecord with ident := { s.ident with waiting := some q } }, false) := if_pos hk
    rw [hrequest] at heq
    have ht : t = (State.intoWriteback false
        { s.clearRecord with ident := { s.ident with waiting := some q } }).finish := congrArg State.finish heq
    obtain ⟨h1, h2⟩ := State.intoWriteback_keeps
      (s := { s.clearRecord with ident := { s.ident with waiting := some q } }) false hrole
    obtain ⟨h3, h4⟩ := State.intoWriteback_running
      { s.clearRecord with ident := { s.ident with waiting := some q } }
    refine ⟨fun _ => ?_, fun h => absurd (Port.keepsAlive_iff.mp hk) h⟩
    rw [ht, State.finish_ident, State.finish_port, State.finish_activity]
    exact ⟨h1, h2, h3, h4⟩
  · have hrequest : s.clearRecord.requestWriteBack q = s.clearRecord.takeWriteBack q := if_neg hk
    rw [hrequest] at heq
    have ht : t = ((s.clearRecord.takeWriteBack q).1.intoWriteback (s.clearRecord.takeWriteBack q).2).finish :=
      congrArg State.finish heq
    refine ⟨fun h => absurd (Port.keepsAlive_iff.mpr h) hk, fun _ => ?_⟩
    rw [ht]
    exact State.takesWriteBack_finish q rfl rfl rfl rfl hraised hrole

/-- The own DELIVERY-CLOSE is applied at RECEIPT: IDLE without the inlet context, or the fault that was pending. -/
theorem State.deliveryApplied_spec {s : State} (hrole : s.role = some .receipt) :
    s.deliveryApplied.core = s.clearRecord.core
      ∧ (s.activity.faultPending = false → s.deliveryApplied.activity.state = .idle
        ∧ s.deliveryApplied.ident.context = none ∧ s.deliveryApplied.activity.lastTank = s.activity.lastTank)
      ∧ (s.activity.faultPending = true → s.deliveryApplied.activity.state = .faulted) := by
  have hact : s.clearRecord.releaseResult.activity = s.activity := by rw [State.releaseResult_activity]; rfl
  have hcore := s.clearRecord.releaseResult_core
  have hrole' : s.clearRecord.releaseResult.role = some .receipt := (State.role_of_core hcore).trans hrole
  cases hf : s.activity.faultPending with
  | true =>
    have heq : s.deliveryApplied = s.clearRecord.releaseResult.enterFaultedValve := if_pos (by rw [hact]; exact hf)
    rw [heq, State.enterFaultedValve_core, State.enterFaultedValve_activity]
    exact ⟨hcore, nofun, fun _ => rfl⟩
  | false =>
    have heq : s.deliveryApplied = s.clearRecord.releaseResult.toIdle none :=
      if_neg (by rw [hact, hf]; exact Bool.false_ne_true)
    rw [heq, State.toIdle_core, State.toIdle_activity, hact]
    refine ⟨hcore, fun _ => ⟨rfl, ?_, rfl⟩, nofun⟩
    rw [State.toIdle, State.enterAct_ident]
    exact State.releaseAtReceipt_context hrole'

/-! ## The record of a closing or recovery frame (R123, R138, R166 to R170) -/

theorem State.runRecovery_rest (s : State) : s.runRecovery.activity = s.activity ∧ s.runRecovery.outputs = s.outputs
    ∧ s.Stays s.runRecovery ∧ s.runRecovery.responder = s.responder := by
  rcases s.runRecovery_cases with h | h | ⟨b, h⟩ | ⟨p, h⟩ <;> rw [h]
  · exact ⟨rfl, rfl, ⟨rfl, rfl⟩, rfl⟩
  · exact ⟨rfl, rfl, ⟨rfl, rfl⟩, rfl⟩
  · exact ⟨rfl, rfl, ⟨rfl, rfl⟩, rfl⟩
  · exact ⟨rfl, rfl, ⟨rfl, rfl⟩, rfl⟩

theorem State.holdRecord_rest (s : State) : s.holdRecord.activity = s.activity ∧ s.holdRecord.outputs = s.outputs
    ∧ s.Stays s.holdRecord ∧ s.holdRecord.responder = s.responder := (s.setPhase .held).runRecovery_rest

/-- What a frame that recovery awaits comes to, outside CLOSING. -/
theorem State.activityResult_of_recovery {s : State} {p : Payload} (res : ApplyResult)
    (h : s.activity.state ≠ .closing)
    (hp : (∃ c, p = .close c) ∨ (∃ c, p = .deliveryClose c) ∨ ∃ a, p = .adjust a) :
    s.activityResult p res = s.recoveryResult res := by
  rcases hp with ⟨x, rfl⟩ | ⟨x, rfl⟩ | ⟨x, rfl⟩
  · exact if_neg h
  · exact if_neg h
  · rfl

theorem State.activityResult_of_closing {s : State} {p : Payload} {c : Closing} (res : ApplyResult)
    (h : s.activity.state = .closing) (hp : p = .close c ∨ p = .deliveryClose c) :
    s.activityResult p res = s.closeResult c res := by
  rcases hp with rfl | rfl
  · exact if_pos h
  · exact if_pos h

/-- The own closing frame, applied as no change: no write-back, and the record goes to recovery (R123, R166, R167). -/
theorem State.closeUnsettled_spec {s : State} (hw : s.NoWriteBack) :
    s.Stays s.closeUnsettled ∧ s.closeUnsettled.outputs = s.outputs ∧ s.closeUnsettled.responder = s.responder
      ∧ s.closeUnsettled.ident.writing = none ∧ s.closeUnsettled.activity.state = s.afterClosing := by
  have hcore := s.endWithoutWriteBack_core
  obtain ⟨h1, h2, h3, h4⟩ := s.endWithoutWriteBack.holdRecord_rest
  refine ⟨(State.stays_of_core hcore).trans h3, h2.trans (State.outputs_of_core hcore),
    h4.trans (State.responder_of_core hcore), ?_, (congrArg Activity.state h1).trans s.endWithoutWriteBack_state⟩
  have hframe : State.Frame {} s s.closeUnsettled := .closeUnsettled (.refl _ _)
  exact (hframe.noWriteBack rfl hw).1

theorem State.closeUnsettled_of_unadmitted {s : State} (h : s.engine.admitted = false) :
    s.closeUnsettled = s.endWithoutWriteBack.setPhase .held := by
  have hcore := s.endWithoutWriteBack_core
  refine State.runRecovery_of_not (s := s.endWithoutWriteBack.setPhase .held) (.inl ?_)
  show s.endWithoutWriteBack.engine.admitted = false
  rw [State.engine_of_core hcore]
  exact h

/-- A record that becomes held at an admitted station is recovered. -/
theorem State.holdRecord_of_admitted {s : State} {r : ActRecord} (hr : s.supply.record = some r)
    (ha : s.engine.admitted = true) (hf : s.engine.freeze = false) (hc : s.supply.waitCensus = false) :
    s.holdRecord = (s.setPhase .held).recover r := State.runRecovery_of_held hr rfl ha hf hc

/-- The own closing frame is applied as no change, and the record recovered by the own entry. -/
theorem State.closeUnsettled_recovers {s : State} {r : ActRecord} {e : StationEntry}
    (hr : s.supply.record = some r) (ha : s.engine.admitted = true) (hf : s.engine.freeze = false)
    (hc : s.supply.waitCensus = false) (he : s.replica.station? s.me = some e) :
    s.Recovers r e s.closeUnsettled.commitNotices 0 := by
  have hcore := s.endWithoutWriteBack_core
  have hsupply := State.supply_of_core hcore
  have hengine := State.engine_of_core hcore
  have heq : s.closeUnsettled = (s.endWithoutWriteBack.setPhase .held).recover r :=
    State.holdRecord_of_admitted (by rw [hsupply]; exact hr) (by rw [hengine]; exact ha) (by rw [hengine]; exact hf)
      (by rw [hsupply]; exact hc)
  rw [heq]
  refine State.recover_recovers ?_ (State.clock_of_core hcore :) (State.link_of_core hcore :) ?_ ?_ nofun
  · show s.endWithoutWriteBack.replica.station? s.endWithoutWriteBack.me = some e
    rw [State.replica_of_core hcore, State.me_of_core hcore]
    exact he
  · show s.endWithoutWriteBack.supply.record = some r
    rw [hsupply]
    exact hr
  · exact (congrArg (fun y : State => y.console.notices) hcore :)

theorem State.closeResult_noChange (c : Closing) (s : State) : s.closeResult c .noChange = s.closeUnsettled := rfl

/-- Settles O37. -/
theorem resultsReachTheFill : Obligations.ResultsReachTheFill := by
  refine ⟨fun s w o openSeq volume c r hlive hw hl hme hp hres _ hin hc _ hs hr => ?_,
    fun s w o x hlive hw hl hme hp hres _ hin hs => ?_, fun s w x n hlive hw hl hme hp hres _ hin hrole hs => ?_,
    fun s w d c r hlive hw hl hme hp _ hin hc hrole hs hr => ⟨fun openSeq volume hres => ?_, fun x hres => ?_⟩,
    fun s w x n hlive hw hl hme hp hres _ hin hrole hs => ?_,
    fun s w x r e hlive hw hl hme hp hres _ hin hs hr he hfreeze hstreams hwrites => ?_,
    fun s w hlive hw hl hme _ hin hs => ?_⟩
  · exact exec_granted hlive hw hl hme (.inl ⟨o, hp⟩) hres hin hc hs hr
  · obtain ⟨t, hexec, hreplica, hstate, hpreset, houtputs, _⟩ := exec_refused hlive hw hl hme (.inl ⟨o, hp⟩) hres hin hs
    exact ⟨t, hexec, hreplica, hstate, hpreset, houtputs⟩
  · have hy : (s.written w).activityResult w.frame.payload w.result = (s.written w).closeApplied n x := by
      have hrole' : (s.written w).role = some .dispense := hrole
      rw [State.activityResult_of_closing (s := s.written w) _ hs (.inl hp), hres]
      simp only [State.closeResult, hrole']
    have hcore := (s.written w).closeApplied_core n x
    obtain ⟨hexec, hreplica⟩ := exec_completeWrite_of_own hlive hw hl hme (.inr (.inr (.inl ⟨x, hp⟩))) hy
      (State.stays_of_core (s := (s.written w).clearRecord) hcore) hin
    have hstate := State.intoWriteback_state
      ((s.written w).clearRecord.requestWriteBack ((s.written w).closeRequest n x)).2
      ((s.written w).clearRecord.requestWriteBack ((s.written w).closeRequest n x)).1
    have hrole' : (s.written w).role ≠ some .receipt := by
      show s.role ≠ some .receipt
      rw [hrole]
      simp
    refine ⟨_, hexec, hreplica, ?_, ?_, ?_, State.closeApplied_finish (s := s.written w) n x hlive.2 hrole'⟩
    · rw [State.finish_supply, State.supply_of_core hcore]
      rfl
    · rw [State.finish_outputs, State.outputs_of_core hcore]
      rfl
    · rw [State.finish_activity]
      exact hstate
  · exact exec_granted hlive hw hl hme (.inr ⟨d, hp⟩) hres hin hc hs hr
  · obtain ⟨t, hexec, hreplica, hstate, _, houtputs, hcontext⟩ :=
      exec_refused hlive hw hl hme (.inr ⟨d, hp⟩) hres hin hs
    exact ⟨t, hexec, hreplica, hstate, houtputs, hcontext (by rw [State.role_of_settings hc, hrole])⟩
  · have hy : (s.written w).activityResult w.frame.payload w.result = (s.written w).deliveryApplied := by
      have hrole' : (s.written w).role = some .receipt := hrole
      rw [State.activityResult_of_closing (s := s.written w) _ hs (.inr hp), hres]
      simp only [State.closeResult, hrole']
    obtain ⟨hcore, hidle, hfault⟩ := State.deliveryApplied_spec (s := s.written w) hrole
    obtain ⟨hexec, hreplica⟩ := exec_completeWrite_of_own hlive hw hl hme (.inr (.inr (.inr (.inl ⟨x, hp⟩)))) hy
      (State.stays_of_core (s := (s.written w).clearRecord) hcore) hin
    refine ⟨_, hexec, hreplica, ?_, ?_, ?_, ?_⟩
    · rw [State.finish_supply, State.supply_of_core hcore]
      rfl
    · rw [State.finish_outputs, State.outputs_of_core hcore]
      rfl
    · rw [State.finish_activity, State.finish_ident]
      exact hidle
    · rw [State.finish_activity]
      exact hfault
  · have hsettles : w.frame.payload.Settles := .inr (.inr (hp.elim (fun h => .inl ⟨x, h⟩) fun h => .inr (.inl ⟨x, h⟩)))
    have hy : (s.written w).activityResult w.frame.payload w.result = (s.written w).closeUnsettled := by
      rw [State.activityResult_of_closing (s := s.written w) _ hs hp, hres]
      exact State.closeResult_noChange x (s.written w)
    have hwriting := State.WritesInWriteback.none hwrites (.inl (by rw [hs]; nofun))
    obtain ⟨hstays, houtputs, hresponder, hident, hstate⟩ := State.closeUnsettled_spec (s := s.written w) hwriting
    obtain ⟨hexec, hreplica⟩ := exec_completeWrite_of_own hlive hw hl hme hsettles hy hstays hin
    rw [State.finish_of_goOn hstreams hresponder] at hexec hreplica
    refine ⟨_, hexec, hreplica, houtputs, hident, hstate, fun hadmitted => ?_, fun hadmitted hcensus => ?_⟩
    · rw [State.closeUnsettled_of_unadmitted (s := s.written w) hadmitted]
      have hcore := (s.written w).endWithoutWriteBack_core
      exact ⟨(congrArg Supply.record (State.supply_of_core hcore) :).trans hr, rfl, (State.link_of_core hcore :)⟩
    · have hrecovers := State.closeUnsettled_recovers (s := s.written w) hr hadmitted hfreeze hcensus he
      unfold State.Recovers at hrecovers
      have hclock : (s.written w).clock = s.clock := rfl
      rw [hclock] at hrecovers
      cases hrec : recoveryOf r e s.clock with
      | some p =>
        rw [hrec] at hrecovers
        exact hrecovers
      | none =>
        rw [hrec] at hrecovers
        exact ⟨hrecovers.1, hrecovers.2.1⟩
  · intro closes adjusts
    have hsettles (h : closes ∨ adjusts) : (∃ c, w.frame.payload = .close c) ∨ (∃ c, w.frame.payload = .deliveryClose c)
        ∨ ∃ a, w.frame.payload = .adjust a :=
      h.elim (fun h => h.elim .inl fun h => .inr (.inl h)) fun h => .inr (.inr h)
    have hresult (h : closes ∨ adjusts) := State.activityResult_of_recovery (s := s.written w) w.result hs (hsettles h)
    refine ⟨fun h => ?_, fun h hres => ?_, fun r e h hr he ha hf hc hstreams => ?_⟩
    · have hboth : closes ∨ adjusts := h.imp And.left And.left
      have hy : (s.written w).activityResult w.frame.payload w.result = (s.written w).clearRecord := by
        rw [hresult hboth]
        rcases h with ⟨_, n, hres⟩ | ⟨_, hres⟩ <;> rw [hres] <;> rfl
      obtain ⟨hexec, hreplica⟩ := exec_completeWrite_of_own hlive hw hl hme (.inr (.inr (hsettles hboth))) hy ⟨rfl, rfl⟩ hin
      exact ⟨_, hexec, hreplica, by rw [State.finish_supply]; rfl⟩
    · have hy : (s.written w).activityResult w.frame.payload w.result = (s.written w).setPhase .waitingRoom := by
        rw [hresult (.inr h), hres]
        rfl
      obtain ⟨hexec, hreplica⟩ := exec_completeWrite_of_own hlive hw hl hme (.inr (.inr (hsettles (.inr h)))) hy
        ⟨rfl, rfl⟩ hin
      exact ⟨_, hexec, hreplica, by rw [State.finish_supply]; rfl, by rw [State.finish_supply]; rfl⟩
    · have hboth : closes ∨ adjusts := h.imp And.left And.left
      have hy : (s.written w).activityResult w.frame.payload w.result = (s.written w).holdRecord := by
        rw [hresult hboth]
        rcases h with ⟨_, hres⟩ | ⟨_, hres⟩ <;> rw [hres] <;> rfl
      have hheld := State.holdRecord_of_admitted (s := s.written w) hr ha hf hc
      obtain ⟨_, _, hstays, _⟩ := (s.written w).holdRecord_rest
      have heq := State.completeWrite_of_own hw hl hme (.inr (.inr (hsettles hboth))) hy
        (hstays.inService (s := s.written w) hin)
      rw [hheld] at heq
      have hraised : (s.written w).console.raised.length + 15 ≤ 16 := by
        show s.console.raised.length + 15 ≤ 16
        rw [hlive.2]
        exact Nat.le_succ _
      exact State.completeWrite_recovers hlive heq hstreams rfl he rfl rfl hr rfl hraised

end Sys2Proof.Machine
end

section
/-! The tag port (R48 to R51): commands made due, attempts that begin, replies that end them; and a run at the tag
(R52, R53, R59 to R61). -/

namespace Sys2Proof.Machine

/-! ## The port -/

/-- A command made due at an idle port. -/
theorem State.sendTag_of_idle {s : State} (c : TagCommand) (u : TagPurpose) (h : s.port.state = .idle) :
    s.sendTag c u = { s with port := s.port.withDue c u } := by
  rw [State.sendTag, Port.due_of_idle h, Port.withDue, ← h]

/-- A transaction that ends leaves the port idle, its command done. -/
theorem State.transactionDone_eq (j : TagJob) (late : Bool) (s : State) :
    s.transactionDone j late = { s with port := { s.port.ended j late with state := .idle, job := none } } := rfl

/-- The next command is due as the last transaction ends. -/
theorem State.transactionDone_sendTag (j : TagJob) (late : Bool) (c : TagCommand) (u : TagPurpose) (s : State) :
    (s.transactionDone j late).sendTag c u = { s with port := (s.port.ended j late).withDue c u } := by
  rw [State.sendTag_of_idle c u rfl]
  rfl

/-- An attempt that fails; RELOCK is dropped with it. -/
theorem State.attemptFailed_eq (j : TagJob) (e : Reason) (s : State) :
    s.attemptFailed j e = { s with port := { s.port.failed j e with
      job := if j.command = .relock then none else some j } } := rfl

/-- An attempt that fails at any other command keeps it for the next one. -/
theorem State.attemptFailed_of_repeats {s : State} {j : TagJob} (e : Reason) (hj : s.port.job = some j)
    (hc : j.command ≠ .relock) : s.attemptFailed j e = { s with port := s.port.failed j e } := by
  rw [State.attemptFailed_eq, if_neg hc, ← hj]
  rfl

theorem State.mayDrive_of {s : State} {j : TagJob} (h : s.link.state ≠ .offline ∨ j.purpose = .release) :
    s.mayDrive j = true := by
  rcases h with h | h <;> simp [State.mayDrive, h]

/-! ## Driving a command (R48 to R50) -/

/-- The port drives a command on, the line read back as it is driven. -/
theorem State.driveCommand_echo {s : State} {j : TagJob} {chars : List TagChar} {n : Nat} (m : Nat)
    (hchars : s.commandChars j.command = chars) (hsent : s.port.sent = chars.take n) (hn : n ≤ chars.length) :
    s.driveCommand j ((chars.drop n).take m) = { s with port := { s.port with
      sent := chars.take (n + m), state := if n + m < chars.length then .sending else .awaitingReply } } := by
  have hlen : (chars.take n).length = n := List.length_take_of_le hn
  have hecho := driveChars_echo (chars.drop n) m
  have hall : chars.take n ++ (chars.drop n).take m = chars.take (n + m) := List.take_add.symm
  have hiff : (chars.take (n + m)).length < chars.length ↔ n + m < chars.length := by
    rw [List.length_take]
    omega
  rw [State.driveCommand]
  simp only [hchars, hsent, hlen, hecho, hall, Bool.false_eq_true, if_false, hiff]

/-- The first character that meets contention ends the attempt. -/
theorem State.driveCommand_contends {s : State} {j : TagJob} {chars more : List TagChar} {n : Nat} {c r : TagChar}
    (hchars : s.commandChars j.command = chars) (hsent : s.port.sent = []) (hc : chars[n]? = some c)
    (hr : contends c r = true) :
    s.driveCommand j (chars.take n ++ r :: more) =
      State.attemptFailed j .contention { s with port := { s.port with sent := chars.take (n + 1) } } := by
  have hdrive := driveChars_contends chars n c r more hc hr
  rw [State.driveCommand]
  simp only [hchars, hsent, List.length_nil, List.drop_zero, hdrive, List.nil_append, if_true]

/-- The state as an attempt at the command begins. -/
def State.begins (j : TagJob) (s : State) : State :=
  State.beginCommand { j with attempts := j.attempts + 1 } (s.lockFor j.command)

theorem State.begins_eq (j : TagJob) (s : State) : s.begins j = { s with
    port := { s.port with job := some { j with attempts := j.attempts + 1 }, sent := [], heard := [], state := .sending }
    ident := { s.ident with context :=
      if j.command = .relock then s.ident.context.map fun c => { c with unlock := .locked } else s.ident.context } } := by
  unfold State.begins State.lockFor
  split <;> rfl

theorem State.begins_chars (j : TagJob) (s : State) (c : TagCommand) :
    (s.begins j).commandChars c = s.commandChars c := by
  rw [State.begins_eq]
  rfl

/-- An idle port with a command due starts an attempt at it, or ends it at once behind a late character. -/
theorem State.startCommand_of_idle {s : State} {j : TagJob} (line : List TagChar) (hs : s.port.state = .idle)
    (hj : s.port.job = some j) (hd : s.mayDrive j = true) :
    (s.port.late = false → s.startCommand line =
        (s.begins j).driveCommand { j with attempts := j.attempts + 1 } line)
      ∧ (s.port.late = true → s.startCommand line =
        State.attemptFailed { j with attempts := j.attempts + 1 } .check (s.lockFor j.command)) := by
  have hsending : ¬ s.port.state = .sending := by rw [hs]; simp
  have hlate : (s.lockFor j.command).port.late = s.port.late := by
    unfold State.lockFor
    split <;> rfl
  rw [State.startCommand, hj]
  dsimp only
  rw [if_neg (by rw [hd]; simp), if_neg hsending, if_pos hs, hlate]
  exact ⟨fun h => by rw [h]; rfl, fun h => by rw [h]; rfl⟩

theorem State.startCommand_of_sending {s : State} {j : TagJob} (line : List TagChar) (hs : s.port.state = .sending)
    (hj : s.port.job = some j) (hd : s.mayDrive j = true) : s.startCommand line = s.driveCommand j line := by
  rw [State.startCommand, hj]
  dsimp only
  rw [if_neg (by rw [hd]; simp), if_pos hs]

/-! ## Replies (R48, R50, R52 to R55) -/

theorem State.Awaits.awaited {s : State} {j : TagJob} (h : s.Awaits j) : s.awaited = some j := by
  rw [State.awaited, if_pos h.2.1, h.2.2]

theorem laterThan_lineOf (n : Nat) (reply : List TagChar) :
    laterThan n (lineOf reply) = decide (n < reply.length) := by
  rw [laterThan, lineOf_length]
  congr 1
  rw [eq_iff_iff]
  omega

/-- The reply to IDENT by what its characters come to. -/
theorem State.tagIdent_of_awaits {s : State} {j : TagJob} (line : List TagLevel) (h : s.Awaits j)
    (hc : j.command = .ident) :
    (∀ bs, dataReply 16 (wholeChars (s.port.heard ++ line)) = .data bs → s.tagIdent line =
        if j.purpose = .keepAlive then
          (s.transactionDone j (laterThan 17 (s.port.heard ++ line))).keepAliveRead (parseBlock bs)
        else (s.transactionDone j (laterThan 17 (s.port.heard ++ line))).identRead (parseBlock bs))
      ∧ (∀ e, dataReply 16 (wholeChars (s.port.heard ++ line)) = .error e →
        s.tagIdent line = s.attemptFailed j e)
      ∧ (dataReply 16 (wholeChars (s.port.heard ++ line)) = .incomplete →
        s.tagIdent line = s.hearOn j (s.port.heard ++ line)) := by
  rw [State.tagIdent, h.awaited]
  dsimp only
  rw [if_pos hc]
  exact ⟨fun _ hr => by rw [hr], fun _ hr => by rw [hr], fun hr => by rw [hr]⟩

/-- The reply to READ. -/
theorem State.tagRead_of_awaits {s : State} {j : TagJob} {a n : Nat} (line : List TagLevel) (h : s.Awaits j)
    (hc : j.command = .read a n) :
    (∀ bs, readLine n (s.port.heard ++ line) = .data bs → s.tagRead line =
        if j.purpose = .writeBack then (s.transactionDone j (laterThan (n + 1) (s.port.heard ++ line))).verify bs
        else (s.transactionDone j (laterThan (n + 1) (s.port.heard ++ line))).recordRead bs)
      ∧ (∀ e, readLine n (s.port.heard ++ line) = .error e → s.tagRead line =
        if e = .refused then
          if j.purpose = .writeBack then (s.attemptFailed j e).verifyRefused else (s.attemptFailed j e).readRefused
        else s.attemptFailed j e)
      ∧ (readLine n (s.port.heard ++ line) = .incomplete → s.tagRead line = s.hearOn j (s.port.heard ++ line)) := by
  rw [State.tagRead, h.awaited]
  dsimp only
  rw [hc]
  dsimp only
  exact ⟨fun _ hr => by rw [hr], fun _ hr => by rw [hr], fun hr => by rw [hr]⟩

/-- The reply to STAGE. -/
theorem State.tagStage_of_awaits {s : State} {j : TagJob} (line : List TagLevel) (h : s.Awaits j)
    (hc : j.command = .stage) :
    (∀ b, charReply [ackCode] (wholeChars (s.port.heard ++ line)) = .code b → s.tagStage line =
        (s.transactionDone j (laterThan 1 (s.port.heard ++ line))).sendTag .commit .writeBack)
      ∧ (∀ e, charReply [ackCode] (wholeChars (s.port.heard ++ line)) = .error e →
        s.tagStage line = s.attemptFailed j e)
      ∧ (charReply [ackCode] (wholeChars (s.port.heard ++ line)) = .incomplete →
        s.tagStage line = s.hearOn j (s.port.heard ++ line)) := by
  rw [State.tagStage, h.awaited]
  dsimp only
  rw [if_pos hc]
  exact ⟨fun _ hr => by rw [hr], fun _ hr => by rw [hr], fun hr => by rw [hr]⟩

/-- The reply to COMMIT. -/
theorem State.tagCommit_of_awaits {s : State} {j : TagJob} (line : List TagLevel) (h : s.Awaits j)
    (hc : j.command = .commit) :
    (∀ b, commitReply (wholeChars (s.port.heard ++ line)) = .code b → s.tagCommit line =
        if b = ackCode then
          (s.transactionDone j (laterThan (busyCount (wholeChars (s.port.heard ++ line)) + 1)
            (s.port.heard ++ line))).sendTag (.read 32 16) .writeBack
        else (s.transactionDone j (laterThan (busyCount (wholeChars (s.port.heard ++ line)) + 1)
            (s.port.heard ++ line))).passFailed .writeFailed)
      ∧ (∀ e, commitReply (wholeChars (s.port.heard ++ line)) = .error e →
        s.tagCommit line = s.attemptFailed j e)
      ∧ (commitReply (wholeChars (s.port.heard ++ line)) = .incomplete →
        s.tagCommit line = s.hearOn j (s.port.heard ++ line)) := by
  rw [State.tagCommit, h.awaited]
  dsimp only
  rw [if_pos hc]
  exact ⟨fun _ hr => by rw [hr], fun _ hr => by rw [hr], fun hr => by rw [hr]⟩

/-! ## A run ends FAILED (R64) -/

theorem State.relockIfUnlocked_ident (s : State) : s.relockIfUnlocked.ident = s.ident := by
  unfold State.relockIfUnlocked
  split <;> rfl

theorem State.identFail_ident (r : Reason) (s : State) :
    (s.identFail r).ident = { s.ident with state := .failed r, runTimer := none } := State.relockIfUnlocked_ident _

/-- A byte is sent and read back as itself, without an error (R48). -/
theorem charOf_spec (b : Byte) :
    (charOf b).getLsbD 0 = false ∧ (charOf b).extractLsb' 1 8 = b ∧ charError (charOf b) = none := by
  revert b
  decide +kernel

/-- What makes an identity block well formed (R60). -/
theorem IdentBlock.wellFormed_iff {b : IdentBlock} :
    b.wellFormed = true ↔ (b.format = 1 ∨ b.format = 2) ∧ 1 ≤ b.number.toNat ∧ b.number.toNat ≤ 65534
      ∧ (b.fleetClass = 1 ∨ b.fleetClass = 2) ∧ 2 ≤ b.guardTime.toNat ∧ b.guardTime.toNat ≤ 32 ∧ b.gap.toNat ≤ 3 := by
  simp only [IdentBlock.wellFormed, namesMachine, Bool.and_eq_true, Bool.or_eq_true, beq_iff_eq, decide_eq_true_eq,
    and_assoc]

/-- The end of a run's IDENT (R49, R52, R60). -/
theorem State.identRead_of_done {s : State} {b : IdentBlock} (j : TagJob) (late : Bool) :
    (b.wellFormed = true → (s.transactionDone j late).identRead b = { s with
        port := { (s.port.ended j late).withDue .unlock .run with guardTime := b.guardTime.toNat, gap := b.gap.toNat }
        ident := { s.ident with
          state := .unlocking, context := s.ident.context.map fun c => { c with block := some b } } })
      ∧ (b.wellFormed = false → ∃ y : State, (s.transactionDone j late).identRead b = y.identFail .tagFormat) := by
  refine ⟨fun h => ?_, fun h => ⟨_, if_neg (ne_true_of_eq_false h)⟩⟩
  rw [State.identRead]
  dsimp only
  rw [if_pos h, State.sendTag_of_idle _ _ rfl]
  rfl

/-- Settles O42. -/
theorem tagRunAdvances : Obligations.TagRunAdvances := by
  refine ⟨fun s hlive hs hp => ?_, fun s j hlive hp hj hd => ?_, fun s j n m hlive hp hj hd => ?_, charOf_spec,
    fun s c w a n hc hw => ?_, fun s j line reply bs ha hh hc hu hr => ?_, fun s j ha hc => ?_⟩
  · refine exec_of_quiet (f := State.wakingEnd) rfl hlive ?_ rfl
    rw [State.wakingEnd, if_pos hs]
    exact State.sendTag_of_idle (s := { s with ident := { s.ident with state := .readingIdent } }) _ _ hp
  · intro j' chars
    have hdrive := State.mayDrive_of hd
    refine ⟨fun hlate => ⟨fun n => ?_, fun n c r more hc hr hno => ?_⟩, fun line hlate => ?_⟩
    · have hecho := State.driveCommand_echo (s := s.begins j) (j := j') (chars := chars) (n := 0) n
        (State.begins_chars j s _) (by rw [State.begins_eq]; rfl) (Nat.zero_le _)
      rw [List.drop_zero, Nat.zero_add] at hecho
      refine exec_of_quiet (f := State.startCommand _) rfl hlive
        (((State.startCommand_of_idle _ hp hj hdrive).1 hlate).trans (hecho.trans ?_)) rfl
      rw [State.begins_eq]
    · have hcontends := State.driveCommand_contends (s := s.begins j) (j := j') (chars := chars) (more := more)
        (State.begins_chars j s _) (by rw [State.begins_eq]) hc hr
      refine exec_of_quiet (f := State.startCommand _) rfl hlive
        (((State.startCommand_of_idle _ hp hj hdrive).1 hlate).trans (hcontends.trans ?_)) rfl
      rw [State.begins_eq, State.attemptFailed_eq]
      simp only [if_neg hno, j']
      rfl
    · refine exec_of_quiet (f := State.startCommand line) rfl hlive
        (((State.startCommand_of_idle line hp hj hdrive).2 hlate).trans ?_) rfl
      rw [State.attemptFailed_eq]
      unfold State.lockFor
      split <;> rfl
  · intro chars hsent hn
    exact exec_of_quiet (f := State.startCommand _) rfl hlive
      ((State.startCommand_of_sending _ hp hj (State.mayDrive_of hd)).trans
        (State.driveCommand_echo m rfl hsent (Nat.le_of_lt hn))) rfl
  · refine ⟨rfl, ?_, rfl, ?_, rfl, rfl⟩
    · rw [State.operands, hc]
    · rw [State.operands, hw]
  · intro b wf
    have hreply : dataReply 16 (wholeChars (s.port.heard ++ line)) = .data bs := by
      rw [hh, wholeChars_lineOf]
      exact hr
    have heq := (State.tagIdent_of_awaits line ha hc).1 bs hreply
    rw [hu, if_neg (by decide), hh, laterThan_lineOf] at heq
    obtain ⟨hgood, hbad⟩ := State.identRead_of_done (s := s) (b := parseBlock bs) j (decide (17 < reply.length))
    refine ⟨fun h => ?_, fun h => ?_⟩
    · exact exec_of_quiet (f := State.tagIdent line) rfl ha.1
        (heq.trans (hgood (IdentBlock.wellFormed_iff.mpr h))) rfl
    · obtain ⟨y, hy⟩ := hbad (by rw [Bool.eq_false_iff]; exact fun hw => h (IdentBlock.wellFormed_iff.mp hw))
      refine ⟨_, exec_of_eq (f := State.tagIdent line) rfl ha.1 (heq.trans hy), ?_, ?_⟩
      · rw [State.commitNotices_ident, State.identFail_ident]
      · rw [State.commitNotices_ident, State.identFail_ident]
  · refine exec_of_quiet (f := State.tagUnlock false) rfl ha.1 ?_ rfl
    rw [State.tagUnlock, ha.awaited]
    dsimp only
    rw [if_pos hc, if_neg Bool.false_ne_true, State.sendTag_of_idle _ _ rfl]
    rfl

end Sys2Proof.Machine
end

section
/-! What goes wrong at the tag (R48, R50, R51, R54 to R57, R60). -/

namespace Sys2Proof.Machine

/-! ## A character under way (R48) -/

theorem wholeChars_of_short {line : List TagLevel} (h : line.length < 12) : wholeChars line = [] := by
  unfold wholeChars
  split
  · simp only [List.length_cons] at h
    omega
  · rfl

theorem partChar_of_short {line : List TagLevel} (h : line.length < 12) : partChar line = line := by
  rw [partChar, Nat.div_eq_of_lt h]
  rfl

theorem dataReply_nil (n : Nat) : dataReply n [] = .incomplete := by
  simp [dataReply, firstCharError]

/-- A good start bit with fewer than nine bits behind it shows no error yet. -/
theorem partError_of_start {rest : List TagLevel} (h : rest.length < 9) : partError (false :: rest) = none := by
  simp [partError, h]

theorem readLine_of_short {n : Nat} {line : List TagLevel} (h : line.length < 12) (hne : line ≠ []) :
    readLine n line = .incomplete := by
  have hpart : (partChar line).isEmpty = false := by
    rw [partChar_of_short h]
    simpa using hne
  rw [readLine, hpart, wholeChars_of_short h]
  exact dataReply_nil n

/-- The rows that hear the reply to a command with one. -/
abbrev HearsReply (c : Instr) (line : List TagLevel) (k : TagCommand) : Prop :=
  (∃ a n, c = .tagRead line ∧ k = .read a n) ∨ c = .tagIdent line ∧ k = .ident ∨ c = .tagStage line ∧ k = .stage
    ∨ c = .tagCommit line ∧ k = .commit

/-- While the first character is under way the reply is heard on, at whatever command. -/
theorem hearsOn_of_short {s : State} {j : TagJob} {line : List TagLevel} {c : Instr} (h : s.Awaits j)
    (hc : HearsReply c line j.command) (hlen : (s.port.heard ++ line).length < 12) (hne : s.port.heard ++ line ≠ []) :
    j.command ≠ .relock ∧ ∃ f : State → State, exec c s = .next (s.act f)
      ∧ f s = s.hearOn j (s.port.heard ++ line) := by
  have hwhole := wholeChars_of_short hlen
  rcases hc with ⟨a, n, rfl, hk⟩ | ⟨rfl, hk⟩ | ⟨rfl, hk⟩ | ⟨rfl, hk⟩
  · refine ⟨by rw [hk]; nofun, State.tagRead line, rfl, ?_⟩
    exact (State.tagRead_of_awaits line h hk).2.2 (readLine_of_short hlen hne)
  · refine ⟨by rw [hk]; nofun, State.tagIdent line, rfl, ?_⟩
    exact (State.tagIdent_of_awaits line h hk).2.2 (by rw [hwhole, dataReply_nil])
  · refine ⟨by rw [hk]; nofun, State.tagStage line, rfl, ?_⟩
    exact (State.tagStage_of_awaits line h hk).2.2 (by rw [hwhole]; rfl)
  · refine ⟨by rw [hk]; nofun, State.tagCommit line, rfl, ?_⟩
    exact (State.tagCommit_of_awaits line h hk).2.2 (by rw [hwhole]; rfl)

theorem State.hearOn_of_error {s : State} {j : TagJob} {line : List TagLevel} {e : Reason}
    (h : partError (partChar line) = some e) : s.hearOn j line = s.attemptFailed j e := by
  rw [State.hearOn, h]

theorem State.hearOn_of_good {s : State} {j : TagJob} {line : List TagLevel} (h : partError (partChar line) = none) :
    s.hearOn j line = { s with port := { s.port with
      heard := line, state := if (partChar line).isEmpty then .awaitingReply else .receiving } } := by
  rw [State.hearOn, h]

/-- Between its characters the reply is heard on, as they are. -/
theorem State.hearOn_lineOf (j : TagJob) (reply : List TagChar) (s : State) :
    s.hearOn j (lineOf reply) = { s with port := { s.port with heard := lineOf reply, state := .awaitingReply } } := by
  rw [State.hearOn_of_good (by rw [partChar_lineOf]; rfl), partChar_lineOf]
  rfl

/-! ## Attempts that fail (R50, R51) -/

/-- A row that ends the attempt leaves its signature and the port SETTLING. -/
theorem exec_of_failed {c : Instr} {f : State → State} {s : State} {j : TagJob} {e : Reason} (h : s.Awaits j)
    (hf : exec c s = .next (s.act f)) (heq : f s = s.attemptFailed j e) (hc : j.command ≠ .relock) :
    exec c s = .next { s with port := s.port.failed j e } :=
  exec_of_quiet hf h.1 (heq.trans (State.attemptFailed_of_repeats e h.2.2 hc)) rfl

theorem State.noReply_of_awaiting {s : State} {j : TagJob} (h : s.Awaits j) (hs : s.port.state = .awaitingReply)
    (hu : j.command ≠ .unlock) (hr : j.command ≠ .relock) :
    s.noReply = s.attemptFailed j (silenceError j.command s.port.heard) := by
  have hreply : j.command.hasReply = true := by
    unfold TagCommand.hasReply
    split
    case h_1 hk => exact absurd hk hu
    case h_2 hk => exact absurd hk hr
    case h_3 => rfl
  rw [State.noReply, h.awaited]
  exact if_pos ⟨hreply, .inl hs⟩

theorem silenceError_of_noReply {c : TagCommand} {heard : List TagLevel}
    (h : ∀ a n, c = .read a n → heard = [] ∨ sumsToZero ((wholeChars heard).map charByte) = false) :
    silenceError c heard = .noReply := by
  unfold silenceError
  split
  case h_1 a n =>
    refine if_neg ?_
    rintro ⟨hne, hsum⟩
    rcases h a n rfl with h | h
    · rw [h] at hne
      cases hne
    · rw [h] at hsum
      cases hsum
  case h_2 => rfl

theorem silenceError_of_check {c : TagCommand} {heard : List TagLevel} (hc : ∃ a n, c = .read a n) (hne : heard ≠ [])
    (hsum : sumsToZero ((wholeChars heard).map charByte) = true) : silenceError c heard = .check := by
  obtain ⟨a, n, rfl⟩ := hc
  have hempty : heard.isEmpty = false := by simpa using hne
  exact if_pos ⟨hempty, hsum⟩

/-! ## Late characters (R50) -/

theorem State.strayReply_of_complete {s : State} {k : TagCommand} {line : List TagLevel} {p : TagCommand → Bool}
    (hs : s.port.state = .idle) (hsent : s.port.sent ≠ []) (he : s.port.signature.error = .noReason)
    (hk : s.port.signature.command = some k) (hw : s.ident.state ≠ .waking) (hr : s.ident.state ≠ .readingIdent)
    (hline : line ≠ []) (hp : p k = true) :
    s.awaited = none ∧ s.strayReply p line = { s with port := { s.port with late := true } } := by
  have hreplied : s.replied p = true := by
    simp [State.replied, hs, hsent, he, hk, hp, hw, hr]
  refine ⟨if_neg (by rw [hs]; simp), if_pos ?_⟩
  rw [hreplied]
  simpa using hline

/-! ## The settled port (R50, R51, R57) -/

theorem State.settlingEnd_of_repeats {s : State} (hs : s.port.state = .settling) (h : ∀ j ∈ s.port.job, j.attempts < 3) :
    s.settlingEnd = { s with port := { s.port with state := .idle } } := by
  rw [State.settlingEnd, if_pos hs]
  dsimp only
  cases hj : s.port.job with
  | none => rfl
  | some j => exact if_neg (Nat.not_le.mpr (h j hj))

theorem State.settlingEnd_of_exhausted {s : State} {j : TagJob} (hs : s.port.state = .settling)
    (hj : s.port.job = some j) (h : 3 ≤ j.attempts) :
    s.settlingEnd = State.exhausted j { s with port := { s.port with state := .idle } } := by
  rw [State.settlingEnd, if_pos hs]
  dsimp only
  rw [hj]
  exact if_pos h

theorem State.sendTag_port_idle {s : State} (c : TagCommand) (u : TagPurpose) (h : s.port.state = .idle) :
    (s.sendTag c u).port.state = .idle := by
  rw [State.sendTag_of_idle c u h]
  rfl

theorem State.identFail_port (r : Reason) {s : State} (h : s.port.state = .idle) : (s.identFail r).port.state = .idle := by
  unfold State.identFail State.relockIfUnlocked
  split
  · exact State.sendTag_port_idle _ _ h
  · exact h

theorem State.takeWaiting_of_none {s : State} (h : s.ident.waiting = none) : s.takeWaiting = s := by
  rw [State.takeWaiting, h]

/-- Settles O45. -/
theorem tagErrorsAreSettled : Obligations.TagErrorsAreSettled := by
  refine ⟨fun s j c e h hc => ?_, fun s j line h hhead hlen c hc => ?_, fun s j line reply h hh c hc => ?_,
    fun s k line hlive hs hsent he hk hw hr hline c hc => ?_, fun s j h hc => ?_, fun s hlive hs hj => ?_,
    fun s j hlive hs hj h3 hu => ?_, fun s j c hlive hs hj h3 hu hctx hwait => ?_⟩
  · rcases hc with ⟨line, reply, hh, rfl, hk, hr⟩ | ⟨line, reply, a, n, hh, rfl, hk, hr, hne⟩
      | ⟨line, reply, hh, rfl, hk, hr⟩ | ⟨line, reply, hh, rfl, hk, hr⟩ | ⟨line, hh, rfl, hk⟩ | ⟨rfl, hk, rfl⟩
      | ⟨rfl, hs, hu, hrelock, rfl, hsilent⟩ | ⟨rfl, hs, rfl, hne, hk, hsum⟩
    · refine exec_of_failed (f := State.tagIdent line) h rfl ?_ (by rw [hk]; nofun)
      exact (State.tagIdent_of_awaits line h hk).2.1 e (by rw [hh, wholeChars_lineOf, hr])
    · refine exec_of_failed (f := State.tagRead line) h rfl ?_ (by rw [hk]; nofun)
      exact ((State.tagRead_of_awaits line h hk).2.1 e (by rw [hh, readLine_lineOf, hr])).trans (if_neg hne)
    · refine exec_of_failed (f := State.tagStage line) h rfl ?_ (by rw [hk]; nofun)
      exact (State.tagStage_of_awaits line h hk).2.1 e (by rw [hh, wholeChars_lineOf]; exact hr)
    · refine exec_of_failed (f := State.tagCommit line) h rfl ?_ (by rw [hk]; nofun)
      exact (State.tagCommit_of_awaits line h hk).2.1 e (by rw [hh, wholeChars_lineOf, hr])
    · have hk' : HearsReply c line j.command := by
        rcases hk with ⟨a, n, hc, hk⟩ | hk
        · exact .inl ⟨a, n, hc, hk⟩
        · exact .inr hk
      obtain ⟨hrelock, f, hf, heq⟩ := hearsOn_of_short h hk' (by rw [hh]; decide) (by rw [hh]; nofun)
      rw [hh, State.hearOn_of_error (e := .start) rfl] at heq
      exact exec_of_failed h hf heq hrelock
    · refine exec_of_failed (f := State.tagUnlock true) h rfl ?_ (by rw [hk]; nofun)
      rw [State.tagUnlock, h.awaited]
      exact (if_pos hk).trans (if_pos rfl)
    · refine exec_of_failed (f := State.noReply) h rfl ?_ hrelock
      rw [State.noReply_of_awaiting h hs hu hrelock, silenceError_of_noReply hsilent]
    · obtain ⟨a, n, hk'⟩ := hk
      refine exec_of_failed (f := State.noReply) h rfl ?_ (by rw [hk']; nofun)
      rw [State.noReply_of_awaiting h hs (by rw [hk']; nofun) (by rw [hk']; nofun),
        silenceError_of_check ⟨a, n, hk'⟩ hne hsum]
  · have hne : s.port.heard ++ line ≠ [] := by
      intro hnil
      rw [hnil] at hhead
      cases hhead
    have hk : HearsReply c line j.command := by
      rcases hc with ⟨hc, hk⟩ | ⟨hc, hk⟩ | ⟨hc, hk⟩ | ⟨hc, a, n, hk⟩
      · exact .inr (.inl ⟨hc, hk⟩)
      · exact .inr (.inr (.inl ⟨hc, hk⟩))
      · exact .inr (.inr (.inr ⟨hc, hk⟩))
      · exact .inl ⟨a, n, hc, hk⟩
    obtain ⟨_, f, hf, heq⟩ := hearsOn_of_short h hk (by omega) hne
    have hpart : partChar (s.port.heard ++ line) = s.port.heard ++ line := partChar_of_short (by omega)
    have hgood : partError (partChar (s.port.heard ++ line)) = none := by
      rw [hpart]
      cases hl : s.port.heard ++ line with
      | nil => rfl
      | cons b rest =>
        rw [hl] at hhead hlen
        cases hhead
        rw [List.length_cons] at hlen
        exact partError_of_start (by omega)
    have hempty : (s.port.heard ++ line).isEmpty = false := by simpa using hne
    rw [State.hearOn_of_good hgood, hpart, hempty] at heq
    exact exec_of_quiet hf h.1 heq rfl
  · rcases hc with ⟨rfl, hk, hr⟩ | ⟨rfl, hk, hr⟩ | ⟨rfl, hno, a, n, hk, hr⟩
    · refine exec_of_quiet (f := State.tagIdent line) rfl h.1 ?_ rfl
      rw [(State.tagIdent_of_awaits line h hk).2.2 (by rw [hh, wholeChars_lineOf, hr]), hh, State.hearOn_lineOf]
    · refine exec_of_quiet (f := State.tagCommit line) rfl h.1 ?_ rfl
      rw [(State.tagCommit_of_awaits line h hk).2.2 (by rw [hh, wholeChars_lineOf, hr]), hh, State.hearOn_lineOf]
    · refine exec_of_quiet (f := State.tagRead line) rfl h.1 ?_ rfl
      have hread : readReply n reply = .incomplete := by
        rw [readReply, hr]
        exact if_neg hno
      rw [(State.tagRead_of_awaits line h hk).2.2 (by rw [hh, readLine_lineOf, hread]), hh, State.hearOn_lineOf]
  · have hheard : s.port.heard ++ line ≠ [] := List.append_ne_nil_of_right_ne_nil _ hline
    rcases hc with ⟨rfl, hc⟩ | ⟨rfl, hc⟩ | ⟨rfl, hc⟩ | ⟨rfl, a, n, hc⟩
    · obtain ⟨hnone, hstray⟩ := State.strayReply_of_complete (p := (· == .ident)) hs hsent he hk hw hr hheard
        (by rw [hc]; rfl)
      exact exec_of_quiet (f := State.tagIdent line) rfl hlive (by rw [State.tagIdent, hnone]; exact hstray) rfl
    · obtain ⟨hnone, hstray⟩ := State.strayReply_of_complete (p := (· == .stage)) hs hsent he hk hw hr hheard
        (by rw [hc]; rfl)
      exact exec_of_quiet (f := State.tagStage line) rfl hlive (by rw [State.tagStage, hnone]; exact hstray) rfl
    · obtain ⟨hnone, hstray⟩ := State.strayReply_of_complete (p := (· == .commit)) hs hsent he hk hw hr hheard
        (by rw [hc]; rfl)
      exact exec_of_quiet (f := State.tagCommit line) rfl hlive (by rw [State.tagCommit, hnone]; exact hstray) rfl
    · obtain ⟨hnone, hstray⟩ := State.strayReply_of_complete (p := TagCommand.isRead) hs hsent he hk hw hr hheard
        (by rw [hc]; rfl)
      exact exec_of_quiet (f := State.tagRead line) rfl hlive (by rw [State.tagRead, hnone]; exact hstray) rfl
  · intro ident
    refine ⟨?_, ?_⟩
    · refine exec_of_quiet (f := State.tagRelock false) rfl h.1 ?_ rfl
      rw [State.tagRelock, h.awaited]
      exact (if_pos hc).trans (if_neg Bool.false_ne_true)
    · refine exec_of_quiet (f := State.tagRelock true) rfl h.1 ?_ rfl
      rw [State.tagRelock, h.awaited]
      refine (if_pos hc).trans ((if_pos rfl).trans ?_)
      rw [State.attemptFailed_eq, if_pos hc]
      rfl
  · exact exec_of_quiet (f := State.settlingEnd) rfl hlive (State.settlingEnd_of_repeats hs hj) rfl
  · have heq := State.settlingEnd_of_exhausted hs hj h3
    rw [State.exhausted, hu] at heq
    refine ⟨_, exec_of_eq (f := State.settlingEnd) rfl hlive heq, ?_, ?_, ?_⟩
    · rw [State.commitNotices_ident, State.identFail_ident]
    · rw [State.commitNotices_ident, State.identFail_ident]
    · rw [State.commitNotices_port, State.identFail_port _ rfl]
  · have heq := State.settlingEnd_of_exhausted hs hj h3
    rw [State.exhausted, hu] at heq
    dsimp only at heq
    rw [State.keepAliveLost, State.takeWaiting_of_none (by exact hwait)] at heq
    refine ⟨_, exec_of_eq (f := State.settlingEnd) rfl hlive heq, ?_, rfl, rfl, rfl⟩
    exact congrArg (Option.map fun x : Inlet => { x with unlock := .lost }) hctx

end Sys2Proof.Machine
end

section
/-! The READ of the machine record: its checks, and what the activity controller does with the result (R54, R56, R61 to
R64, R102, R103, R105, R119, R134). -/

namespace Sys2Proof.Machine

/-! ## The checks (R62, R63) -/

/-- A record that is malformed at the tag's format. -/
theorem TagRecord.wellFormed_eq (b : IdentBlock) (r : TagRecord) :
    r.wellFormed b = !(decide (r.grade.toNat < 1) || decide (7 < r.grade.toNat) || r.capacity == 0
      || foundAnd (fun l => decide (100 < l)) (reportedLevel b r)) := by
  have hlow : decide (1 ≤ r.grade.toNat) = !decide (r.grade.toNat < 1) := by rw [← decide_not, decide_eq_decide]; omega
  have hhigh : decide (r.grade.toNat ≤ 7) = !decide (7 < r.grade.toNat) := by rw [← decide_not, decide_eq_decide]; omega
  unfold TagRecord.wellFormed
  rw [hlow, hhigh, Bool.not_or, Bool.not_or, Bool.not_or]
  cases reportedLevel b r with
  | none => rfl
  | some l =>
    have hlevel : decide (l ≤ 100) = !decide (100 < l) := by rw [← decide_not, decide_eq_decide]; omega
    exact congrArg _ hlevel

/-- At DISPENSE the checks come in the order of the table. -/
theorem State.checkFailure_dispense {s : State} (b : IdentBlock) (r : TagRecord) (h : s.role = some .dispense) :
    s.checkFailure b r = firstReason
      [(.tagFormat, !r.wellFormed b), (.wrongClass, b.fleetClass != 1),
       (.misgrade, (s.hose.bind s.replica.tank?).map TankEntry.grade != some r.grade.toNat),
       (.unknownMachine, (s.replica.machine? b.number.toNat).isNone),
       (.barred, foundAnd MachineEntry.barred (s.replica.machine? b.number.toNat)),
       (.heldElsewhere, foundAnd (fun x => x.hold.isSome) (s.replica.machine? b.number.toNat))] := by
  have hreceipt : s.isReceipt = false := by rw [State.isReceipt, h]; rfl
  have hclass : s.classFits b = (b.fleetClass == 1) := by rw [State.classFits, h]
  have htank : s.checkedTank = s.hose := by rw [State.checkedTank, hreceipt]; rfl
  have hopen : s.gradeOpen = false := by rw [State.gradeOpen, hreceipt]; rfl
  simp only [firstReason_cons, firstReason_nil, State.checkFailure, hclass, htank, hopen, hreceipt, State.tankGrade,
    Bool.not_eq_true', bne_iff_ne, beq_eq_false_iff_ne, true_and, Bool.false_eq_true, if_false]
  refine ite_congr_of_iff Iff.rfl rfl (ite_congr_of_iff Iff.rfl rfl (ite_congr_of_iff Iff.rfl rfl ?_))
  unfold State.machineCheck
  cases s.replica.machine? b.number.toNat with
  | none => rfl
  | some m => rfl

/-- At RECEIPT the grade alone is checked, of a tank that is named. -/
theorem State.checkFailure_receipt {s : State} {c : Inlet} (b : IdentBlock) (r : TagRecord)
    (h : s.role = some .receipt) (hc : s.ident.context = some c) :
    s.gradeOpen = c.namedTank.isNone ∧ s.checkFailure b r = firstReason
      [(.tagFormat, !r.wellFormed b), (.wrongClass, b.fleetClass != 2),
       (.misgrade, c.namedTank.isSome
         && (c.namedTank.bind s.replica.tank?).map TankEntry.grade != some r.grade.toNat)] := by
  have hreceipt : s.isReceipt = true := by rw [State.isReceipt, h]; rfl
  have hclass : s.classFits b = (b.fleetClass == 2) := by rw [State.classFits, h]
  have htank : s.checkedTank = c.namedTank := by rw [State.checkedTank, hreceipt, hc]; rfl
  have hopen : s.gradeOpen = c.namedTank.isNone := by rw [State.gradeOpen, hreceipt, htank]; rfl
  refine ⟨hopen, ?_⟩
  simp only [firstReason_cons, firstReason_nil, State.checkFailure, hclass, htank, hopen, hreceipt, State.tankGrade,
    Bool.not_eq_true', bne_iff_ne, beq_eq_false_iff_ne, if_true, Bool.and_eq_true]
  refine ite_congr_of_iff Iff.rfl rfl (ite_congr_of_iff Iff.rfl rfl (ite_congr_of_iff (and_congr_left' ?_) rfl rfl))
  cases c.namedTank <;> simp

/-! ## The release of a result (R56, R64) -/

/-- The RELOCK of a release is due. -/
abbrev State.Relocks (s : State) : Prop :=
  s.ident.runTimer = none ∧ s.port.job = some { command := .relock, purpose := .release, attempts := 0 }

theorem State.relockAndDiscard_of_unlocked {s : State} (h : s.unlock = .unlocked) :
    s.relockAndDiscard.ident = Ident.reset ∧ s.relockAndDiscard.Relocks := by
  refine ⟨s.relockAndDiscard_ident, by rw [s.relockAndDiscard_ident]; rfl, ?_⟩
  rw [State.relockAndDiscard, if_pos h]
  rfl

theorem State.unlock_of_context {s : State} {c : Inlet} (h : s.ident.context = some c) : s.unlock = c.unlock := by
  rw [State.unlock, h]

/-- A run that ends FAILED with the tag unlocked relocks it. -/
theorem State.identFail_spec {s : State} (x : Reason) (h : s.unlock = .unlocked) :
    (s.identFail x).ident.state = .failed x ∧ (s.identFail x).Relocks ∧ (s.identFail x).activity = s.activity
      ∧ (s.identFail x).link = s.link := by
  have hident := s.identFail_ident x
  have heq : s.identFail x = (State.raiseIdent x
      { s with ident := { s.ident with state := .failed x, runTimer := none } }).sendTag .relock .release := if_pos h
  refine ⟨by rw [hident], ⟨by rw [hident], by rw [heq]; rfl⟩, by rw [heq]; rfl, by rw [heq]; rfl⟩

/-- Out of IDENTIFIED with the tag unlocked REFUSED discards the context and relocks, whatever the role. -/
theorem State.refuse_of_identified {s : State} (x : Reason) (hs : s.ident.state = .identified)
    (hu : s.unlock = .unlocked) (hc : s.ident.context.isSome = true) :
    (s.refuse x).ident = Ident.reset ∧ (s.refuse x).Relocks ∧ (s.refuse x).activity.state = .refused x
      ∧ (s.refuse x).link = s.link := by
  obtain ⟨hident, hrelock⟩ := State.relockAndDiscard_of_unlocked hu
  have hreleased : s.releaseAtReceipt.releaseResult = s.relockAndDiscard := by
    unfold State.releaseAtReceipt
    split
    · have hcontext : s.releaseContext = s.relockAndDiscard := if_pos hc
      rw [hcontext]
      refine if_neg ?_
      rw [hident]
      nofun
    · exact if_pos hs
  have heq : s.refuse x = s.relockAndDiscard.enterAct (.refused x) := by rw [State.refuse, hreleased]
  refine ⟨?_, ?_, by rw [State.refuse_activity], State.link_of_core (State.refuse_core x s)⟩
  · rw [heq, State.enterAct_ident]
    exact hident
  · rw [heq, State.Relocks, State.enterAct_ident, State.enterAct_port]
    exact hrelock

/-! ## The result handed on (R102, R103, R105, R119, R134) -/

/-- The station with the result taken by the activity controller. -/
def State.takesResult (r : IdResult) (s : State) : State :=
  { s with activity := { s.activity with result := some r, couplerLost := false } }

theorem State.lookAtResult_of_awaiting {s : State} {r : IdResult} (hs : s.activity.state = .awaitingId)
    (hr : s.completeResult = some r) : s.lookAtResult =
      if s.engine.admitted = false then (s.takesResult r).refuse .notInService
      else if s.supply.record.isSome then (s.takesResult r).refuse .recoveryPending
      else (s.takesResult r).offerOpen r := by
  rw [State.lookAtResult, if_neg (fun h => h hs), hr]
  rfl

theorem State.lookAtResult_of_other {s : State} (h : s.activity.state ≠ .awaitingId ∨ s.completeResult = none) :
    s.lookAtResult = s := by
  unfold State.lookAtResult
  split
  · rfl
  next hs =>
    rw [h.resolve_left hs]

/-- A result that is held, by the state of the fill or delivery. -/
theorem State.resultReported_spec {s : State} {k : Inlet} {r : IdResult} (hs : s.ident.state = .identified)
    (hk : s.ident.context = some k) (hu : k.unlock = .unlocked) (hr : k.result = some r) :
    (s.activity.state ∉ [ActState.awaitingId, .faulted] → s.resultReported = s)
      ∧ (s.activity.state = .faulted → s.resultReported.ident = Ident.reset ∧ s.resultReported.Relocks
        ∧ s.resultReported.activity = s.activity ∧ s.resultReported.link = s.link)
      ∧ (s.activity.state ≠ .faulted → k.gradePending = true → s.resultReported = s)
      ∧ (s.activity.state = .awaitingId → k.gradePending = false →
        (∀ x, (s.engine.admitted = false ∧ x = .notInService
            ∨ s.engine.admitted = true ∧ s.supply.record.isSome = true ∧ x = .recoveryPending) →
          s.resultReported.ident = Ident.reset ∧ s.resultReported.Relocks
            ∧ s.resultReported.activity.state = .refused x ∧ s.resultReported.link = s.link)
        ∧ (s.engine.admitted = true → s.supply.record = none →
          s.resultReported = (s.takesResult r).offerOpen r)) := by
  have hunlock : s.unlock = .unlocked := (State.unlock_of_context hk).trans hu
  have hlook (h : s.activity.state ≠ .faulted) : s.resultReported = s.lookAtResult := if_neg h
  refine ⟨fun h => ?_, fun h => ?_, fun h hp => ?_, fun h hp => ?_⟩
  · simp only [List.mem_cons, List.not_mem_nil, or_false, not_or] at h
    rw [hlook h.2, State.lookAtResult_of_other (.inl h.1)]
  · have heq : s.resultReported = s.relockAndDiscard := (if_pos h).trans (if_pos hs)
    obtain ⟨hident, hrelock⟩ := State.relockAndDiscard_of_unlocked hunlock
    rw [heq]
    exact ⟨hident, hrelock, by rw [State.relockAndDiscard_eq], by rw [State.relockAndDiscard_eq]⟩
  · have hnone : s.completeResult = none := by
      rw [State.completeResult, hs, hk]
      exact if_pos hp
    rw [hlook h, State.lookAtResult_of_other (.inr hnone)]
  · have hcomplete : s.completeResult = some r := by
      rw [State.completeResult, hs, hk]
      exact (if_neg (ne_true_of_eq_false hp)).trans hr
    have heq := (hlook (by rw [h]; nofun)).trans (State.lookAtResult_of_awaiting h hcomplete)
    have hrefuse (x : Reason) := State.refuse_of_identified (s := s.takesResult r) x hs hunlock
      (by rw [State.takesResult, hk]; rfl)
    refine ⟨fun x hx => ?_, fun ha hrec => ?_⟩
    · rcases hx with ⟨ha, rfl⟩ | ⟨ha, hrec, rfl⟩
      · rw [if_pos ha] at heq
        rw [heq]
        exact hrefuse _
      · rw [if_neg (by rw [ha]; simp), if_pos hrec] at heq
        rw [heq]
        exact hrefuse _
    · rw [if_neg (by rw [ha]; simp), if_neg (by rw [hrec]; simp)] at heq
      exact heq

/-- OPEN is offered with the computed volume at DISPENSE. -/
theorem State.offerOpen_dispense {s : State} (r : IdResult) (h : s.role = some .dispense) :
    s.AsksForFill r ((s.takesResult r).offerOpen r) ∧ ((s.takesResult r).offerOpen r).ident = s.ident
      ∧ ((s.takesResult r).offerOpen r).port = s.port := by
  have hrole : (s.takesResult r).role = some .dispense := h
  have heq : (s.takesResult r).offerOpen r = State.enterAct .opening (State.offer .activity
      (.openFill ((s.takesResult r).openRequest r (requestedVolume r s.activity.preset s.replica.site.minFill)))
      { s.takesResult r with activity := { (s.takesResult r).activity with
        requested := some (requestedVolume r s.activity.preset s.replica.site.minFill) } }) := by
    rw [State.offerOpen, hrole]
    rfl
  rw [heq, State.AsksForFill, State.enterAct_activity, State.enterAct_ident, State.enterAct_port]
  refine ⟨⟨rfl, rfl, ?_, ?_⟩, rfl, rfl⟩
  · exact congrArg some rfl
  · exact (s.activityOffers_offer _).congr (State.enterAct_link _ _)

/-- DELIVERY-OPEN is offered at RECEIPT. -/
theorem State.offerOpen_receipt {s : State} (r : IdResult) (h : s.role = some .receipt) :
    let t := (s.takesResult r).offerOpen r
    t.activity.state = .opening ∧ t.activity.result = some r ∧ t.ident = s.ident ∧ t.port = s.port
      ∧ s.ActivityOffers (.deliveryOpen (s.deliveryRequest r)) t := by
  have hrole : (s.takesResult r).role = some .receipt := h
  have heq : (s.takesResult r).offerOpen r =
      State.enterAct .opening (State.offer .activity (.deliveryOpen (s.deliveryRequest r)) (s.takesResult r)) := by
    rw [State.offerOpen, hrole]
    rfl
  dsimp only
  rw [heq, State.enterAct_activity, State.enterAct_ident, State.enterAct_port]
  exact ⟨rfl, rfl, rfl, rfl, (s.activityOffers_offer _).congr (State.enterAct_link _ _)⟩

/-! ## CHECKING (R62 to R64) -/

/-- The station as the record `r` read at the context `c` is checked. -/
def State.atChecking (j : TagJob) (late : Bool) (r : TagRecord) (c : Inlet) (s : State) : State :=
  { s with
    port := { s.port.ended j late with state := .idle, job := none }
    ident := { s.ident with
      state := .checking, context := some { c with unlock := .unlocked, record := some r } } }

theorem State.recordRead_eq {s : State} {j : TagJob} {late : Bool} {bs : List Byte} {c : Inlet} {b : IdentBlock}
    (hc : s.ident.context = some c) (hb : c.block = some b) :
    (s.transactionDone j late).recordRead bs =
      (s.atChecking j late (parseTagRecord bs) c).checking b (parseTagRecord bs) := by
  have hcontext : s.ident.context.map (fun x : Inlet => { x with unlock := .unlocked, record := some (parseTagRecord bs) }) =
      some { c with unlock := .unlocked, record := some (parseTagRecord bs) } := by rw [hc]; rfl
  simp only [State.recordRead, State.modContext, State.transactionDone_eq, State.atChecking, hcontext, Option.bind_some,
    hb]

/-- The station IDENTIFIED, before the result is handed on: a RECEIPT station has relocked. -/
def State.identifies (res : IdResult) (pending : Bool) (s : State) : State :=
  let y := State.raiseIdent .noReason { s with ident := { s.ident with
    state := .identified, runTimer := none
    context := s.ident.context.map fun c => { c with result := some res, gradePending := pending } } }
  if y.isReceipt then y.relockIfUnlocked else y

theorem State.identSucceed_eq (res : IdResult) (pending : Bool) (s : State) :
    s.identSucceed res pending = (s.identifies res pending).resultReported := rfl

/-- What IDENTIFIED holds: the result, and the relock of a RECEIPT station. -/
theorem State.identifies_spec {s : State} {k : Inlet} (res : IdResult) (pending : Bool) (hk : s.ident.context = some k)
    (hu : k.unlock = .unlocked) :
    (s.identifies res pending).ident = { s.ident with
        state := .identified, runTimer := none, context := some { k with result := some res, gradePending := pending } }
      ∧ (s.role = some .dispense → (s.identifies res pending).port = s.port)
      ∧ (s.role = some .receipt → (s.identifies res pending).port.job =
        some { command := .relock, purpose := .release, attempts := 0 })
      ∧ s.identifies res pending = { s with
        ident := (s.identifies res pending).ident
        port := (s.identifies res pending).port
        console := (s.identifies res pending).console }
      ∧ (s.identifies res pending).settings = s.settings := by
  generalize hy : State.raiseIdent .noReason { s with ident := { s.ident with
    state := .identified, runTimer := none
    context := s.ident.context.map fun c => { c with result := some res, gradePending := pending } } } = y
  have hident : y.ident = { s.ident with
      state := .identified, runTimer := none
      context := some { k with result := some res, gradePending := pending } } := by
    rw [← hy, hk]
    rfl
  have hunlock : y.unlock = .unlocked := by
    rw [State.unlock, hident]
    exact hu
  have hrole : y.role = s.role := by rw [← hy]; rfl
  have heq : s.identifies res pending = if y.isReceipt then y.relockIfUnlocked else y := by
    rw [State.identifies, hy]
  have hrelock : y.relockIfUnlocked = y.sendTag .relock .release := if_pos hunlock
  rw [heq, hrelock]
  refine ⟨?_, fun h => ?_, fun h => ?_, ?_, ?_⟩
  · split
    · exact hident
    · exact hident
  · have hno : y.isReceipt = false := by rw [State.isReceipt, hrole, h]; rfl
    rw [hno, ← hy]
    rfl
  · have hyes : y.isReceipt = true := by rw [State.isReceipt, hrole, h]; rfl
    rw [if_pos hyes]
    rfl
  · subst hy
    split <;> rfl
  · subst hy
    split <;> rfl

/-- The READ of a run, its data whole, is checked. -/
theorem State.tagRead_checks {s : State} {j : TagJob} {a n : Nat} {line : List TagLevel} {reply : List TagChar}
    {bs : List Byte} {c : Inlet} {b : IdentBlock} (h : s.Awaits j) (hh : s.Hears line reply)
    (hk : j.command = .read a n) (hu : j.purpose = .run) (hr : readReply n reply = .data bs)
    (hc : s.ident.context = some c) (hb : c.block = some b) :
    s.tagRead line = (s.atChecking j (decide (n + 1 < reply.length)) (parseTagRecord bs) c).checking b
      (parseTagRecord bs) := by
  have heq := (State.tagRead_of_awaits line h hk).1 bs (by rw [hh, readLine_lineOf, hr])
  rw [hu, if_neg (by decide), hh, laterThan_lineOf, State.recordRead_eq hc hb] at heq
  exact heq

theorem State.checking_of_failure {s : State} {b : IdentBlock} {r : TagRecord} {x : Reason}
    (h : s.checkFailure b r = some x) : s.checking b r = s.identFail x := by
  rw [State.checking, h]

theorem State.checking_of_success {s : State} {b : IdentBlock} {r : TagRecord} (h : s.checkFailure b r = none) :
    s.checking b r = (s.identifies (tagResult b r) s.gradeOpen).resultReported := by
  rw [State.checking, h]
  exact State.identSucceed_eq _ _ _

theorem State.ActivityOffers.of_link {s z t : State} {p : Payload} (h : z.ActivityOffers p t) (hl : z.link = s.link) :
    s.ActivityOffers p t := by
  simp only [State.ActivityOffers, State.withOffer, State.withReplacement, State.withKept, State.newEntry, hl] at h ⊢
  exact h

theorem State.AsksForFill.of_parts {s z t : State} {r : IdResult} (h : z.AsksForFill r t) (hl : z.link = s.link)
    (hreplica : z.replica = s.replica) (hact : z.activity = s.activity) (hclock : z.clock = s.clock)
    (hsettings : z.settings = s.settings) : s.AsksForFill r t := by
  have hhose : z.hose = s.hose := by rw [State.hose, State.hose, hsettings]
  simp only [State.AsksForFill, hreplica, hact, hclock, hhose] at h ⊢
  obtain ⟨h1, h2, h3, h4⟩ := h
  exact ⟨h1, h2, h3, h4.of_link hl⟩

/-- The state in which the result of a READ is handed on. -/
abbrev State.HandsOn (s : State) (j : TagJob) (late : Bool) (r : TagRecord) (c : Inlet) (res : IdResult) (pending : Bool)
    (z : State) : Prop :=
  z.ident.state = .identified ∧ z.ident.runTimer = none
    ∧ z.ident.context = some
      { c with record := some r, unlock := .unlocked, gradePending := pending, result := some res }
    ∧ (s.role = some .dispense → z.port.job = none)
    ∧ (s.role = some .receipt → z.port.job = some { command := .relock, purpose := .release, attempts := 0 })
    ∧ z.link = s.link ∧ z.activity = s.activity ∧ z.engine = s.engine ∧ z.supply = s.supply ∧ z.replica = s.replica
    ∧ z.clock = s.clock ∧ z.settings = s.settings
    ∧ z = (s.atChecking j late r c).identifies res pending

theorem State.handsOn (s : State) (j : TagJob) (late : Bool) (r : TagRecord) (c : Inlet) (res : IdResult)
    (pending : Bool) :
    s.HandsOn j late r c res pending ((s.atChecking j late r c).identifies res pending) := by
  obtain ⟨hident, hport, hrelock, heq, hsettings⟩ :=
    State.identifies_spec (s := s.atChecking j late r c) res pending rfl rfl
  refine ⟨by rw [hident], by rw [hident], by rw [hident], fun h => by rw [hport h]; rfl, hrelock, ?_, ?_, ?_, ?_, ?_, ?_,
    hsettings, rfl⟩
  all_goals
    rw [heq]
    rfl

end Sys2Proof.Machine
end

section
/-! The READ of the machine record as an obligation (R54, R56, R61 to R64, R102, R103, R105, R119, R134). -/

namespace Sys2Proof.Machine

/-- A READ that fails a check ends the run FAILED, relocked. -/
theorem exec_tagRead_fails {s : State} {j : TagJob} {line : List TagLevel} {late : Bool} {r : TagRecord} {c : Inlet}
    {b : IdentBlock} {x : Reason} (hlive : s.Live)
    (heq : s.tagRead line = (s.atChecking j late r c).checking b r)
    (hx : (s.atChecking j late r c).checkFailure b r = some x) :
    ∃ t, exec (.tagRead line) s = .next t ∧ t.ident.state = .failed x
      ∧ (t.ident.runTimer = none ∧ t.port.job = some { command := .relock, purpose := .release, attempts := 0 })
      ∧ t.activity = s.activity ∧ t.link = s.link :=
  ⟨_, exec_of_eq (f := State.tagRead line) rfl hlive (heq.trans (State.checking_of_failure hx)),
    State.identFail_spec (s := s.atChecking j late r c) x rfl⟩

/-- A READ that passes them is handed on. -/
theorem exec_tagRead_passes {s : State} {j : TagJob} {line : List TagLevel} {late : Bool} {r : TagRecord} {c : Inlet}
    {b : IdentBlock} {pending : Bool} (hlive : s.Live)
    (heq : s.tagRead line = (s.atChecking j late r c).checking b r)
    (hx : (s.atChecking j late r c).checkFailure b r = none)
    (hopen : (s.atChecking j late r c).gradeOpen = pending) :
    ∃ z : State, s.HandsOn j late r c (tagResult b r) pending z
      ∧ exec (.tagRead line) s = .next z.resultReported.commitNotices := by
  have hgoes := heq.trans (State.checking_of_success hx)
  rw [hopen] at hgoes
  exact ⟨_, s.handsOn j late r c (tagResult b r) pending, exec_of_eq (f := State.tagRead line) rfl hlive hgoes⟩

/-- A READ that is REFUSED. -/
theorem State.tagRead_of_refused {s : State} {j : TagJob} {a n : Nat} {line : List TagLevel} {reply : List TagChar}
    (h : s.Awaits j) (hh : s.Hears line reply) (hk : j.command = .read a n)
    (hr : readReply n reply = .error .refused) :
    s.tagRead line = if j.purpose = .writeBack then (s.attemptFailed j .refused).verifyRefused
      else (s.attemptFailed j .refused).readRefused :=
  ((State.tagRead_of_awaits line h hk).2.1 .refused (by rw [hh, readLine_lineOf, hr])).trans (if_pos rfl)

/-- The READ of a run that is REFUSED is repeated behind another UNLOCK, twice at most (R61). -/
theorem State.readRefused_spec {s : State} {c : Inlet} (hc : s.ident.context = some c) :
    (c.pairs < 2 → s.readRefused.ident.state = .unlocking
        ∧ s.readRefused.ident.context = some { c with pairs := c.pairs + 1 }
        ∧ s.readRefused.port.job = some { command := .unlock, purpose := .run, attempts := 0 })
      ∧ (2 ≤ c.pairs → s.readRefused.ident.state = .failed .keyRejected ∧ s.readRefused.ident.runTimer = none) := by
  have hcontext : s.ident.context.map (fun x : Inlet => { x with pairs := x.pairs + 1 }) =
      some { c with pairs := c.pairs + 1 } := by rw [hc]; rfl
  refine ⟨fun h => ?_, fun h => ?_⟩
  · simp only [State.readRefused, State.modContext, hcontext, if_pos (show c.pairs + 1 < 3 by omega)]
    exact ⟨rfl, rfl, rfl⟩
  · simp only [State.readRefused, State.modContext, hcontext, if_neg (show ¬ c.pairs + 1 < 3 by omega),
      State.identFail_ident]
    exact ⟨trivial, trivial⟩

/-- At RECEIPT the relock stays due, whatever becomes of the result. -/
theorem State.resultReported_relocks {s : State} {k : Inlet} {r : IdResult} (hs : s.ident.state = .identified)
    (hk : s.ident.context = some k) (hu : k.unlock = .unlocked) (hr : k.result = some r)
    (hrole : s.role = some .receipt) (h : s.Relocks) : s.resultReported.Relocks := by
  obtain ⟨hheld, hfault, hpending, hawait⟩ := State.resultReported_spec hs hk hu hr
  by_cases hf : s.activity.state = .faulted
  · exact (hfault hf).2.1
  by_cases hw : s.activity.state = .awaitingId
  · cases hp : k.gradePending with
    | true =>
      rw [hpending hf hp]
      exact h
    | false =>
      obtain ⟨hrefuse, htakes⟩ := hawait hw hp
      cases ha : s.engine.admitted with
      | false => exact (hrefuse _ (.inl ⟨ha, rfl⟩)).2.1
      | true =>
        cases hrec : s.supply.record with
        | some x => exact (hrefuse _ (.inr ⟨ha, by rw [hrec]; rfl, rfl⟩)).2.1
        | none =>
          obtain ⟨_, _, hident, hport, _⟩ := State.offerOpen_receipt r hrole
          rw [htakes ha hrec, State.Relocks, hident, hport]
          exact h
  · rw [hheld (by simp [hf, hw])]
    exact h

/-- A context that is discarded as the tag relocks is gone. -/
theorem released_of_reset {t : State} (h : t.ident = Ident.reset) (hr : t.Relocks) :
    (t.ident.runTimer = none ∧ t.port.job = some { command := .relock, purpose := .release, attempts := 0 })
      ∧ t.ident.state = .idle ∧ t.ident.context = none := by
  refine ⟨hr, ?_⟩
  rw [h]
  exact ⟨rfl, rfl⟩

/-- Settles O43. -/
theorem tagReadIsChecked : Obligations.TagReadIsChecked := by
  refine ⟨fun s j a n line reply bs c b ha hh hk hu hr hc hb => ?_,
    fun s j a n line reply c ha hh hk hu hr hc => ?_⟩
  · intro r level malformed res relocks fails holds released refused same
    have heq := State.tagRead_checks ha hh hk hu hr hc hb
    have hwell : (!(parseTagRecord bs).wellFormed b) = malformed := by
      rw [TagRecord.wellFormed_eq, Bool.not_not]
      rfl
    refine ⟨fun hrole => ?_, fun hrole => ?_⟩
    · intro m found
      have hfail := State.checkFailure_dispense
        (s := s.atChecking j (decide (n + 1 < reply.length)) (parseTagRecord bs) c) b (parseTagRecord bs) hrole
      rw [hwell] at hfail
      have hopen : (s.atChecking j (decide (n + 1 < reply.length)) (parseTagRecord bs) c).gradeOpen = false := by
        have hreceipt : s.isReceipt = false := by rw [State.isReceipt, hrole]; rfl
        exact congrArg (· && _) hreceipt
      refine ⟨fun x hx => exec_tagRead_fails ha.1 heq (hfail.trans hx), fun hnone => ?_⟩
      obtain ⟨z, ⟨h1, h2, h3, h4, _, h6, h7, h8, h9, h10, h11, h12, _⟩, hexec⟩ :=
        exec_tagRead_passes ha.1 heq (hfail.trans hnone) hopen
      obtain ⟨hheld, hfault, _, hawait⟩ := State.resultReported_spec h1 h3 rfl rfl
      rw [h7] at hheld hfault hawait
      rw [h8, h9] at hawait
      refine ⟨_, hexec, fun hs => ?_, fun hs => ?_, fun hs had => ?_, fun hs had hrec => ?_, fun hs had hrec => ?_⟩
      · rw [hheld hs]
        exact ⟨⟨h1, h2, h3⟩, h4 hrole, h7, h6⟩
      · obtain ⟨g1, g2, g3, g4⟩ := hfault hs
        exact ⟨released_of_reset g1 g2, g3, g4.trans h6⟩
      · obtain ⟨g1, g2, g3, g4⟩ := (hawait hs rfl).1 .notInService (.inl ⟨had, rfl⟩)
        exact ⟨released_of_reset g1 g2, g3, g4.trans h6⟩
      · obtain ⟨g1, g2, g3, g4⟩ := (hawait hs rfl).1 .recoveryPending (.inr ⟨had, hrec, rfl⟩)
        exact ⟨released_of_reset g1 g2, g3, g4.trans h6⟩
      · obtain ⟨g1, g2, g3⟩ := State.offerOpen_dispense (s := z) (tagResult b r)
          ((congrArg (·.map Settings.role) h12).trans hrole)
        rw [(hawait hs rfl).2 had hrec]
        refine ⟨g1.of_parts h6 h10 h7 h11 h12, ?_, ?_⟩
        · exact ⟨(congrArg Ident.state g2).trans h1, (congrArg Ident.runTimer g2).trans h2,
            (congrArg Ident.context g2).trans h3⟩
        · rw [State.commitNotices_port, g3]
          exact h4 hrole
    · intro found d
      have hreceipt := State.checkFailure_receipt
        (s := s.atChecking j (decide (n + 1 < reply.length)) (parseTagRecord bs) c) b (parseTagRecord bs) hrole rfl
      obtain ⟨hopen, hfail⟩ := hreceipt
      rw [hwell] at hfail
      refine ⟨fun x hx => exec_tagRead_fails ha.1 heq (hfail.trans hx), fun hnone => ?_⟩
      obtain ⟨z, ⟨h1, h2, h3, _, h5, h6, h7, h8, h9, h10, h11, h12, _⟩, hexec⟩ :=
        exec_tagRead_passes ha.1 heq (hfail.trans hnone) hopen
      obtain ⟨hheld, hfault, hpending, hawait⟩ := State.resultReported_spec h1 h3 rfl rfl
      rw [h7] at hheld hfault hpending hawait
      rw [h8, h9] at hawait
      have hrole' : z.role = some .receipt := (congrArg (·.map Settings.role) h12).trans hrole
      refine ⟨_, hexec, ?_, fun hs => ?_, fun hs hnamed => ?_, fun k hnamed => ?_⟩
      · exact State.resultReported_relocks h1 h3 rfl rfl hrole' ⟨h2, h5 hrole⟩
      · obtain ⟨g1, g2, g3, g4⟩ := hfault hs
        exact ⟨released_of_reset g1 g2, g3, g4.trans h6⟩
      · have hopen' : c.namedTank.isNone = true := by rw [hnamed]; rfl
        rw [hopen'] at h3 hpending
        rw [hpending hs rfl]
        exact ⟨⟨h1, h2, h3⟩, h7, h6⟩
      · have hclosed : c.namedTank.isNone = false := by rw [hnamed]; rfl
        rw [hclosed] at h3
        refine ⟨fun hs => ?_, fun hs had => ?_, fun hs had hrec => ?_, fun hs had hrec => ?_⟩
        · rw [hheld hs]
          exact ⟨⟨h1, h2, h3⟩, h7, h6⟩
        · obtain ⟨g1, g2, g3, g4⟩ := (hawait hs hclosed).1 .notInService (.inl ⟨had, rfl⟩)
          exact ⟨released_of_reset g1 g2, g3, g4.trans h6⟩
        · obtain ⟨g1, g2, g3, g4⟩ := (hawait hs hclosed).1 .recoveryPending (.inr ⟨had, hrec, rfl⟩)
          exact ⟨released_of_reset g1 g2, g3, g4.trans h6⟩
        · obtain ⟨g1, g2, g3, g4, g5⟩ := State.offerOpen_receipt (s := z) (tagResult b r) hrole'
          rw [(hawait hs hclosed).2 had hrec]
          refine ⟨g1, g2, ?_, ?_⟩
          · exact ⟨(congrArg Ident.state g3).trans h1, (congrArg Ident.runTimer g3).trans h2,
              (congrArg Ident.context g3).trans h3⟩
          · have hd : z.deliveryRequest (tagResult b r) = d := by
              simp only [State.deliveryRequest, h7, h11]
              rfl
            rw [hd] at g5
            exact g5.of_link h6
  · have heq := State.tagRead_of_refused ha hh hk hr
    rw [hu, if_neg (by decide)] at heq
    obtain ⟨hagain, hends⟩ := State.readRefused_spec (s := s.attemptFailed j .refused) hc
    exact ⟨fun h => ⟨_, exec_of_eq (f := State.tagRead line) rfl ha.1 heq, hagain h⟩,
      fun h => ⟨_, exec_of_eq (f := State.tagRead line) rfl ha.1 heq, hends h⟩⟩

end Sys2Proof.Machine
end

section
/-! Write-back at the tag: its passes, and how it ends (R55, R57, R65, R67, R68, R123). -/

namespace Sys2Proof.Machine

/-! ## The end of write-back (R68, R123) -/

/-- In WRITEBACK the end of the write-back leads on. -/
theorem State.writeBackEnded_spec {s : State} (hs : s.activity.state = .writeback) :
    s.writeBackEnded.activity.state = s.afterWriteback
      ∧ (s.writeBackEnded.activity.state = .writeback → s.writeBackEnded.activity.writeBackDone = true)
      ∧ s.Raises 1 s.writeBackEnded := by
  obtain ⟨h1, h2⟩ := State.checkWriteback_ended
    (x := { s with activity := { s.activity with writeBackDone := true } }) hs rfl
  exact ⟨h1, h2, State.checkWriteback_raises { s with activity := { s.activity with writeBackDone := true } }⟩

theorem State.writeBackEnded_keeps {s : State} (h : s.role ≠ some .receipt) :
    s.writeBackEnded.ident = s.ident ∧ s.writeBackEnded.port = s.port :=
  State.checkWriteback_keeps (s := { s with activity := { s.activity with writeBackDone := true } }) h

/-- The write-back of `s` has ended at `t` with a notice: the context is gone, the port as `p` says. -/
abbrev State.EndsWriting (s : State) (n : NoticeBody) (job : Option TagJob) (t : State) : Prop :=
  t.ident = Ident.reset ∧ t.port.job = job
    ∧ (s.console.notices.length < 8 → ∃ x ∈ t.console.notices, x.body = n)
    ∧ t.activity.state = (if s.activity.faultPending = true then .faulted
      else if s.meter.cells.noz.output = true then .writeback else .idle)
    ∧ (t.activity.state = .writeback → t.activity.writeBackDone = true)

/-- A station with its context gone that is told of the end of its write-back. -/
theorem State.endsWriting_of_raise {s y : State} (n : NoticeBody) (hident : y.ident = Ident.reset)
    (hact : y.activity = s.activity) (hnozzle : y.meter.cells.noz = s.meter.cells.noz)
    (hnotices : y.console = s.console) (hraised : s.console.raised = []) (hrole : y.role ≠ some .receipt)
    (hs : s.activity.state = .writeback) : s.EndsWriting n y.port.job (y.raise n).writeBackEnded.commitNotices := by
  have hs' : (y.raise n).activity.state = .writeback := (congrArg Activity.state hact).trans hs
  obtain ⟨hstate, hdone, hraises⟩ := State.writeBackEnded_spec hs'
  obtain ⟨hi, hp⟩ := State.writeBackEnded_keeps (s := y.raise n) hrole
  have hafter : (y.raise n).afterWriteback = (if s.activity.faultPending = true then .faulted
      else if s.meter.cells.noz.output = true then .writeback else .idle) := by
    show (if y.activity.faultPending = true then _ else if y.meter.cells.noz.output = true then _ else _) = _
    rw [hact, hnozzle]
  obtain ⟨hn, l, hl, hlen⟩ := hraises
  refine ⟨hi.trans hident, congrArg Port.job hp, fun hroom => ?_, hstate.trans hafter, hdone⟩
  refine exists_notice (s := s) ?_ (by rw [hn]; exact (congrArg Console.notices hnotices :)) ?_
  · rw [hl]
    exact ⟨_, List.mem_append_left _ (List.mem_append_right _ (List.mem_singleton_self _)), rfl⟩
  · rw [hl, List.length_append]
    show _ + ((y.console.raised ++ [_]).length + _) ≤ 16
    rw [hnotices, hraised, List.nil_append, List.length_singleton]
    omega

/-- Write-back ends by its own rows, at a station whose unlock state tells whether RELOCK is due (R68). -/
theorem State.endWriting_ends {s y : State} (n : NoticeBody) (hact : y.activity = s.activity)
    (hnozzle : y.meter.cells.noz = s.meter.cells.noz) (hconsole : y.console = s.console)
    (hraised : s.console.raised = []) (hrole : y.role ≠ some .receipt) (hs : s.activity.state = .writeback) :
    s.EndsWriting n (if y.unlock = .lost then none else some { command := .relock, purpose := .release, attempts := 0 })
      (y.endWriting n).commitNotices := by
  by_cases hu : y.unlock = .lost
  · have heq : y.endWriting n = (y.discardContext.raise n).writeBackEnded := by
      simp [State.endWriting, hu]
    rw [heq, if_pos hu]
    exact State.endsWriting_of_raise (y := y.discardContext) n rfl hact hnozzle hconsole hraised hrole hs
  · have heq : y.endWriting n = ((y.discardContext.sendTag .relock .release).raise n).writeBackEnded := by
      simp [State.endWriting, hu]
    rw [heq, if_neg hu]
    exact State.endsWriting_of_raise (y := y.discardContext.sendTag .relock .release) n rfl hact hnozzle hconsole hraised
      hrole hs

/-! ## The passes (R68) -/

/-- A pass that fails before the third starts the next one. -/
theorem State.passFailed_of_again {s : State} {j : TagJob} {late : Bool} {w : WriteBack} (r : Reason)
    (hw : s.ident.writing = some w) (h : w.pass < 3) :
    let w' : WriteBack := { w with pass := w.pass + 1 }
    (s.transactionDone j late).passFailed r = { s with
      port := (s.port.ended j late).withDue .stage .writeBack, ident := { s.ident with writing := some w' } } := by
  have hw' : (s.transactionDone j late).ident.writing = some w := hw
  rw [State.passFailed, hw']
  dsimp only
  rw [if_pos h]
  exact State.sendTag_of_idle _ _ rfl

theorem State.passFailed_of_last {s : State} {w : WriteBack} (r : Reason) (hw : s.ident.writing = some w)
    (h : 3 ≤ w.pass) : s.passFailed r = s.endWriting (.tagNotWritten r w.area.record) := by
  rw [State.passFailed, hw]
  exact if_neg (Nat.not_lt.mpr h)

theorem State.verify_of_agrees {s : State} {w : WriteBack} (hw : s.ident.writing = some w) :
    s.verify w.area.bytes = s.endWriting (.tagWritten w.area.record) := by
  rw [State.verify, hw]
  exact if_pos rfl

theorem State.verify_of_differs {s : State} {w : WriteBack} {bs : List Byte} (hw : s.ident.writing = some w)
    (h : bs ≠ w.area.bytes) : s.verify bs = s.passFailed .verifyFailed := by
  rw [State.verify, hw]
  exact if_neg h

/-- The verify READ, its data whole, is compared. -/
theorem State.tagRead_verifies {s : State} {j : TagJob} {line : List TagLevel} {reply : List TagChar}
    {bs : List Byte} (h : s.Awaits j) (hh : s.Hears line reply) (hk : j.command = .read 32 16)
    (hu : j.purpose = .writeBack) (hr : readReply 16 reply = .data bs) :
    s.tagRead line = (s.transactionDone j (decide (17 < reply.length))).verify bs := by
  have heq := (State.tagRead_of_awaits line h hk).1 bs (by rw [hh, readLine_lineOf, hr])
  rw [hh, laterThan_lineOf] at heq
  exact heq.trans (if_pos hu)

theorem State.tagCommit_of_code {s : State} {j : TagJob} {line : List TagLevel} {reply : List TagChar} {b : Byte}
    (h : s.Awaits j) (hh : s.Hears line reply) (hk : j.command = .commit) (hr : commitReply reply = .code b) :
    s.tagCommit line =
      if b = ackCode then
        (s.transactionDone j (decide (busyCount reply + 1 < reply.length))).sendTag (.read 32 16) .writeBack
      else (s.transactionDone j (decide (busyCount reply + 1 < reply.length))).passFailed .writeFailed := by
  have heq := (State.tagCommit_of_awaits line h hk).1 b (by rw [hh, wholeChars_lineOf, hr])
  rw [hh, wholeChars_lineOf, laterThan_lineOf] at heq
  exact heq

/-! ## A request that waited for a keep-alive (R57, R67) -/

/-- A request that waited is taken, the activity controller being told of an answer at once. -/
theorem State.takeWaiting_takes {s y : State} {q : WriteBackRequest} (hq : y.ident.waiting = some q)
    (hident : { y.ident with waiting := none } = s.ident) (hact : y.activity = s.activity)
    (hmeter : y.meter = s.meter) (hraises : s.Raises 1 y) (hraised : s.console.raised = [])
    (hrole : y.role ≠ some .receipt) (hs : s.activity.state = .writeback) (hd : s.activity.writeBackDone = false) :
    s.TakesWriteBack q y.takeWaiting.commitNotices := by
  let u : State := { y with ident := { y.ident with waiting := none } }
  have heq : y.takeWaiting = if (u.takeWriteBack q).2 then (u.takeWriteBack q).1.writeBackEnded
      else (u.takeWriteBack q).1 := by
    rw [State.takeWaiting, hq]
  have hact' : (u.takeWriteBack q).1.activity = s.activity := by
    rw [State.takeWriteBack_eq]
    exact hact
  have hrole' : (u.takeWriteBack q).1.role ≠ some .receipt := by
    rw [State.role_of_core (State.takeWriteBack_core q u)]
    exact hrole
  rw [heq]
  refine State.takesWriteBack_of_parts (u := u) hident ?_ (fun h => ?_) fun r z h1 h2 h3 hz => ?_
  · split
    · exact State.writeBackEnded_keeps hrole'
    · exact ⟨rfl, rfl⟩
  · rw [if_neg (ne_true_of_eq_false h)]
    exact ⟨(congrArg Activity.state hact').trans hs, (congrArg Activity.writeBackDone hact').trans hd⟩
  · rw [hz, if_pos rfl]
    have hs' : (z.raise (.tagNotWritten r q.area.record)).activity.state = .writeback :=
      (congrArg Activity.state (h1.trans hact)).trans hs
    obtain ⟨hstate, hdone, hn, l, hl, hlen⟩ := State.writeBackEnded_spec hs'
    obtain ⟨gn, m, gm, glen⟩ := hraises
    refine ⟨fun hroom => exists_notice (s := s) ?_ ?_ ?_, hstate.trans ?_, hdone⟩
    · rw [hl]
      exact ⟨_, List.mem_append_left _ (List.mem_append_right _ (List.mem_singleton_self _)), rfl⟩
    · rw [hn]
      exact (congrArg Console.notices h3).trans gn
    · rw [hl, List.length_append]
      show _ + ((z.console.raised ++ [_]).length + _) ≤ 16
      have hz' : z.console.raised = m := by
        rw [h3]
        exact gm.trans (by rw [hraised, List.nil_append])
      rw [hz', List.length_append, List.length_singleton]
      omega
    · show (if z.activity.faultPending = true then _ else if z.meter.cells.noz.output = true then _ else _) = _
      rw [h1, h2]
      show (if y.activity.faultPending = true then _ else if y.meter.cells.noz.output = true then _ else _) = _
      rw [hact, hmeter]

/-! ## Exhausted, refused and lost (R53, R65, R68) -/

theorem State.writtenRecord_of_writing {s : State} {w : WriteBack} (h : s.ident.writing = some w) :
    s.writtenRecord = w.area.record := by
  rw [State.writtenRecord, h]

theorem State.notReceipt_of {s y : State} (h : s.role = some .dispense) (hy : y.role = s.role) :
    y.role ≠ some .receipt := by
  rw [hy, h]
  nofun

theorem State.unlock_modContext_lost {s : State} {c : Inlet} (h : s.ident.context = some c) :
    (s.modContext fun c => { c with unlock := .lost }).unlock = .lost :=
  State.unlock_of_context (c := { c with unlock := .lost }) (by rw [State.modContext, h]; rfl)

/-- The fall of CPL, passed in WRITING with the context of a tag, ends the write-back. -/
theorem State.cplFall_of_writing {s : State} {w : WriteBack} {c : Inlet} {held : Nat} (hw : s.ident.writing = some w)
    (hc : s.ident.context = some c) (hm : c.mode = .tag) (hs : s.ident.state = .writing)
    (hp : s.meter.cells.cpl.passes .cpl false held = true) :
    s.cellPasses .cpl false held =
      (s.setCell .cpl (s.meter.cells.cpl.pass .cpl false)).discardContext.forgetLate.writeBackLost w.area.record := by
  let y := s.setCell .cpl (s.meter.cells.cpl.pass .cpl false)
  have hpass : s.cellPasses .cpl false held = y.cplFall := if_pos hp
  have hfall : y.cplFall = y.loseCoupler := by
    have hc' : y.ident.context = some c := hc
    rw [State.cplFall, hc']
    exact if_pos hm
  have hs' : y.ident.state = .writing := hs
  have hw' : y.ident.writing = some w := hw
  rw [hpass, hfall, State.loseCoupler, hs']
  dsimp only
  rw [hw']

/-- Settles O44. -/
theorem writeBackPasses : Obligations.WriteBackPasses := by
  refine ⟨fun s j line reply h hh hk hr => ?_, fun s j line reply h hh hk hr => ?_,
    fun s j line reply w h hh hk hr hw hp => ?_, fun s j line reply w bs h hh hk hu hr hw hne hp => ?_,
    fun s j line reply w c i n h hh hw hc hu hrole hs hf hend => ?_,
    fun s w c i r hlive hw hc hm hu hs hrole ha hend => ?_,
    fun s j i c q kept hlive hj hk hu hs hc hm hq hrole ha hd hend => ?_⟩
  · refine exec_of_quiet (f := State.tagStage line) rfl h.1 ?_ rfl
    rw [(State.tagStage_of_awaits line h hk).1 _ (by rw [hh, wholeChars_lineOf]; exact hr), hh, laterThan_lineOf,
      State.transactionDone_sendTag]
  · intro p
    refine exec_of_quiet (f := State.tagCommit line) rfl h.1 ?_ rfl
    rw [State.tagCommit_of_code h hh hk hr, if_pos (by decide), State.transactionDone_sendTag]
  · intro w'
    refine exec_of_quiet (f := State.tagCommit line) rfl h.1 ?_ rfl
    rw [State.tagCommit_of_code h hh hk hr, if_neg (by decide), State.passFailed_of_again _ hw hp]
  · intro w'
    refine exec_of_quiet (f := State.tagRead line) rfl h.1 ?_ rfl
    rw [State.tagRead_verifies h hh hk hu hr, State.verify_of_differs (by exact hw) hne,
      State.passFailed_of_again _ hw hp]
  · have hends : ∃ (late : Bool) (t : State), exec i s = .next t
        ∧ t = ((s.transactionDone j late).endWriting n).commitNotices := by
      rcases hend with ⟨rfl, hk, hr, hp, rfl⟩ | ⟨rfl, hk, hj, hr, rfl⟩ | ⟨rfl, hk, hj, ⟨bs, hr, hne⟩, hp, rfl⟩
      · refine ⟨decide (busyCount reply + 1 < reply.length), _,
          exec_of_eq (f := State.tagCommit line) rfl h.1 ((State.tagCommit_of_code h hh hk hr).trans ?_), rfl⟩
        rw [if_neg (by decide), State.passFailed_of_last _ (by exact hw) hp]
      · refine ⟨decide (17 < reply.length), _,
          exec_of_eq (f := State.tagRead line) rfl h.1 ((State.tagRead_verifies h hh hk hj hr).trans ?_), rfl⟩
        rw [State.verify_of_agrees (by exact hw)]
      · refine ⟨decide (17 < reply.length), _,
          exec_of_eq (f := State.tagRead line) rfl h.1 ((State.tagRead_verifies h hh hk hj hr).trans ?_), rfl⟩
        rw [State.verify_of_differs (by exact hw) hne, State.passFailed_of_last _ (by exact hw) hp]
    obtain ⟨late, t, hexec, rfl⟩ := hends
    obtain ⟨h1, h2, h3, h4, h5⟩ := State.endWriting_ends (s := s) (y := s.transactionDone j late) n rfl rfl rfl
      h.1.2 (State.notReceipt_of hrole rfl) hs
    have hunlock : (s.transactionDone j late).unlock ≠ .lost := by
      rw [State.unlock_of_context (s := s.transactionDone j late) hc, hu]
      nofun
    rw [if_neg hunlock] at h2
    rw [if_neg (ne_true_of_eq_false hf)] at h4
    refine ⟨_, hexec, by rw [h1]; rfl, by rw [h1]; rfl, by rw [h1]; rfl, h2, h3, fun hn => ?_, fun hn => ?_⟩
    · have hstate := h4.trans (if_pos hn)
      exact ⟨hstate, h5 hstate⟩
    · exact h4.trans (if_neg (ne_true_of_eq_false hn))
  · have hends : ∃ t, exec i s = .next t ∧ s.EndsWriting (.tagNotWritten r w.area.record) (if r = .tagLink then
        some { command := .relock, purpose := .release, attempts := 0 } else none) t := by
      rcases hend with ⟨j, line, reply, rfl, h, hh, hk, hj, hr, rfl⟩ | ⟨j, rfl, hp, hj, h3, hju, rfl⟩ | ⟨held, rfl, hp, rfl⟩
      · have heq := (State.tagRead_of_refused h hh hk hr).trans (if_pos hj)
        let y : State := { s.attemptFailed j .refused with port := { (s.attemptFailed j .refused).port with job := none } }
        let z := y.modContext fun c => { c with unlock := .lost }
        have hz : (s.attemptFailed j .refused).verifyRefused = z.endWriting (.tagNotWritten .locked w.area.record) := by
          rw [State.verifyRefused]
          exact congrArg (fun n => z.endWriting (.tagNotWritten .locked n)) (State.writtenRecord_of_writing (s := z) hw)
        have hlost : z.unlock = .lost := State.unlock_modContext_lost (s := y) hc
        refine ⟨_, exec_of_eq (f := State.tagRead line) rfl h.1 (heq.trans hz), ?_⟩
        have hspec := State.endWriting_ends (s := s) (y := z) (.tagNotWritten .locked w.area.record) rfl rfl rfl hlive.2
          (State.notReceipt_of hrole rfl) ha
        rw [if_pos hlost] at hspec
        exact hspec
      · have heq := State.settlingEnd_of_exhausted hp hj h3
        let y : State := { s with port := { s.port with state := .idle, job := none } }
        have hy : State.exhausted j { s with port := { s.port with state := .idle } } =
            y.endWriting (.tagNotWritten .tagLink w.area.record) := by
          rw [State.exhausted, hju]
          exact congrArg (fun n => y.endWriting (.tagNotWritten .tagLink n)) (State.writtenRecord_of_writing (s := y) hw)
        have hunlock : y.unlock ≠ .lost := by
          rw [State.unlock_of_context (s := y) hc, hu]
          nofun
        refine ⟨_, exec_of_eq (f := State.settlingEnd) rfl hlive (heq.trans hy), ?_⟩
        have hspec := State.endWriting_ends (s := s) (y := y) (.tagNotWritten .tagLink w.area.record) rfl rfl rfl hlive.2
          (State.notReceipt_of hrole rfl) ha
        rw [if_neg hunlock] at hspec
        exact hspec
      · let y := s.setCell .cpl (s.meter.cells.cpl.pass .cpl false)
        refine ⟨_, exec_of_eq (f := State.cellPasses .cpl false held) rfl hlive
          (State.cplFall_of_writing hw hc hm hs hp), ?_⟩
        exact State.endsWriting_of_raise (s := s) (y := y.discardContext.forgetLate) _ rfl rfl rfl rfl hlive.2
          (State.notReceipt_of hrole rfl) ha
    obtain ⟨t, hexec, h1, h2, h3, h4, _⟩ := hends
    exact ⟨t, hexec, h1, h2, h3, h4⟩
  · intro c'
    rcases hend with ⟨line, reply, bs, rfl, h, hh, hr, rfl⟩ | ⟨rfl, hp, h3, rfl⟩
    · have heq := ((State.tagIdent_of_awaits line h hk).1 bs (by rw [hh, wholeChars_lineOf, hr])).trans (if_pos hu)
      rw [State.keepAliveRead, show (s.transactionDone j _).ident.context = _ from hc, Option.bind_some] at heq
      by_cases hb : c.block = some (parseBlock bs)
      · rw [if_pos hb] at heq
        refine ⟨_, exec_of_eq (f := State.tagIdent line) rfl h.1 heq, ?_⟩
        refine State.takeWaiting_takes hq ?_ rfl rfl (.of_console 1 rfl) hlive.2
          (State.notReceipt_of hrole rfl) ha hd
        simp only [c', decide_eq_true hb, if_pos, ← hc]
        rfl
      · rw [if_neg hb, State.keepAliveLost] at heq
        refine ⟨_, exec_of_eq (f := State.tagIdent line) rfl h.1 heq, ?_⟩
        refine State.takeWaiting_takes hq ?_ rfl rfl (State.raise_raises _ _) hlive.2
          (State.notReceipt_of hrole rfl) ha hd
        rw [show c' = { c with unlock := .lost } from if_neg (by simpa using hb)]
        exact congrArg (fun x => { s.ident with context := x, waiting := none })
          (congrArg (Option.map fun c : Inlet => { c with unlock := .lost }) hc)
    · have heq := State.settlingEnd_of_exhausted hp hj h3
      rw [State.exhausted, hu] at heq
      dsimp only at heq
      rw [State.keepAliveLost] at heq
      refine ⟨_, exec_of_eq (f := State.settlingEnd) rfl hlive heq, ?_⟩
      refine State.takeWaiting_takes hq ?_ rfl rfl (State.raise_raises _ _) hlive.2
        (State.notReceipt_of hrole rfl) ha hd
      simp [c', State.modContext, State.raiseIdent, hc]

end Sys2Proof.Machine
end

section
/-! The coupler and the timers of identification (R53, R57, R59, R65, R67, R110, R118, R120, R136). -/

namespace Sys2Proof.Machine

/-! ## The coupler (R59, R65) -/

theorem State.discardContext_forgetLate (s : State) :
    s.discardContext.forgetLate = { s with ident := Ident.reset, port := s.port.released } := rfl

/-- A switch that passes a change hands it on. -/
theorem State.cellPasses_of_passes {s : State} {n : Cell} {level : Bool} {held : Nat}
    (h : (s.meter.cells.get n).passes n level held = true) :
    s.cellPasses n level held = (s.passed n level).outputChanged n level 0 := if_pos h

/-- CPL falls with the context of a tag. -/
theorem State.cplFall_of_tag {s : State} {c : Inlet} {held : Nat}
    (hp : s.meter.cells.cpl.passes .cpl false held = true) (hc : s.ident.context = some c) (hm : c.mode = .tag) :
    s.cellPasses .cpl false held = (s.passed .cpl false).loseCoupler := by
  have hpass : s.cellPasses .cpl false held = (s.passed .cpl false).cplFall :=
    State.cellPasses_of_passes (n := .cpl) hp
  have hc' : (s.passed .cpl false).ident.context = some c := hc
  rw [hpass, State.cplFall, hc']
  exact if_pos hm

/-- A run is DISCARDED with the coupler. -/
theorem State.loseCoupler_of_run {s : State}
    (h : s.ident.state ∈ [IdState.waking, .readingIdent, .unlocking, .readingRecord, .checking]) :
    s.loseCoupler = s.discardContext.forgetLate.raise (.ident (s.identNotice .discarded)) := by
  unfold State.loseCoupler
  dsimp only
  split <;> simp_all

/-- A result that is held, no request waiting on it, is lost with the coupler. -/
theorem State.loseCoupler_of_identified {s : State} (h : s.ident.state = .identified) (hq : s.ident.waiting = none) :
    s.loseCoupler = s.discardContext.forgetLate.couplerLost := by
  rw [State.loseCoupler, h, hq]

/-- The station with the coupler's loss noted. -/
def State.notesLoss (s : State) : State := { s with activity := { s.activity with couplerLost := true } }

theorem State.couplerLost_of_engaged {s : State} {r : IdResult} (hr : s.activity.result = some r) (hm : r.mode = .tag)
    (hs : s.activity.state.engaged = true) : s.couplerLost = s.notesLoss.endEvent .couplerLost := by
  rw [State.couplerLost, hr]
  exact if_pos ⟨hs, hm⟩

/-- The fall of CPL on a result that an activity acts on. -/
theorem State.cplFall_of_engaged {s : State} {c : Inlet} {r : IdResult} {held : Nat}
    (hp : s.meter.cells.cpl.passes .cpl false held = true) (hc : s.ident.context = some c) (hm : c.mode = .tag)
    (hs : s.ident.state = .identified) (hq : s.ident.waiting = none) (hr : s.activity.result = some r)
    (hrm : r.mode = .tag) (ha : s.activity.state.engaged = true) :
    s.cellPasses .cpl false held =
      (State.notesLoss { s.passed .cpl false with ident := Ident.reset, port := s.port.released }).endEvent
        .couplerLost := by
  have hlose : (s.passed .cpl false).loseCoupler = _ :=
    State.loseCoupler_of_identified (s := s.passed .cpl false) hs hq
  have hlost : (s.passed .cpl false).discardContext.forgetLate.couplerLost = _ :=
    State.couplerLost_of_engaged (s := (s.passed .cpl false).discardContext.forgetLate) hr hrm ha
  rw [State.cplFall_of_tag hp hc hm, hlose, hlost, State.discardContext_forgetLate]
  rfl

/-! ## What the end of an activity leaves of identification -/

theorem State.stopWith_ident (r : Reason) (s : State) : (s.stopWith r).ident = s.ident := by
  simp [State.stopWith, State.outputsOff, State.modRecord]

/-- REFUSED finds nothing to release where the context is gone already. -/
theorem State.refuse_of_reset {s : State} (x : Reason) (h : s.ident = Ident.reset) : (s.refuse x).ident = Ident.reset := by
  have hcontext : s.releaseContext = s := by
    rw [State.releaseContext, h]
    rfl
  have hreceipt : s.releaseAtReceipt = s := by
    unfold State.releaseAtReceipt
    split
    · exact hcontext
    · rfl
  have hresult : s.releaseResult = s := by
    rw [State.releaseResult, h]
    rfl
  rw [State.refuse, hreceipt, hresult, State.enterAct_ident, h]

/-- An activity that opens notes the loss of the coupler, whether or not its opening frame comes back. -/
theorem State.pendEnd_of_couplerLost {s : State} (h : s.ident = Ident.reset) (hl : s.activity.couplerLost = true) :
    (s.pendEnd .couplerLost).ident = Ident.reset ∧ (s.pendEnd .couplerLost).activity.couplerLost = true := by
  unfold State.pendEnd
  split
  · exact ⟨h, hl⟩
  · let y : State := { s with activity := { s.activity with pendingEnd := some .couplerLost } }
    by_cases hw : s.link.withdrawable .activity s.openKind = true
    · have hwithdraw : y.withdraw .activity s.openKind = { y with link := y.link.remove .activity } := if_pos hw
      have heq : (y.withdraw .activity s.openKind).openWithdrawn =
          ({ y with link := y.link.remove .activity } : State).refuseOpening .couplerLost := by
        rw [hwithdraw]
        rfl
      refine (if_pos hw : _ = (y.withdraw .activity s.openKind).openWithdrawn) ▸ ?_
      rw [heq, State.refuseOpening_activity]
      exact ⟨State.refuse_of_reset _ h, hl⟩
    · refine (if_neg hw : _ = y) ▸ ⟨h, hl⟩

/-- Settles O46. -/
theorem couplerAndIdentTimers : Obligations.CouplerAndIdentTimers := by
  refine ⟨fun s held hlive hp ho hs => ?_, fun s held hlive hp hc => ?_, fun s held c hlive hp hc hm hs => ?_,
    fun s held c r hlive hp hc hm hs hq hr hrm ha => ?_, fun s held c r hlive hp hc hm hs hq hr hrm ha => ?_,
    fun s held c r hlive hp hc hm hs hq hr hrm ha => ?_, fun s c hlive hrole hs hc hm hu hj hp => ?_,
    fun s c hlive hc hu hj => ?_, fun s hlive h => ?_⟩
  · intro c
    refine exec_of_quiet (f := State.cellPasses .cpl true held) rfl hlive ?_ rfl
    have hpass : s.cellPasses .cpl true held = (s.passed .cpl true).cplRise :=
      State.cellPasses_of_passes (n := .cpl) hp
    have hmay : (s.passed .cpl true).runMayStart = true := by
      have hs' : (s.passed .cpl true).ident.state = .idle := hs
      have ho' : (s.passed .cpl true).link.state ≠ .offline := ho
      rw [State.runMayStart, hs', bne_iff_ne.mpr ho']
      rfl
    rw [hpass, State.cplRise, if_pos hmay]
    rfl
  · refine exec_of_quiet (f := State.cellPasses .cpl false held) rfl hlive ?_ rfl
    have hpass : s.cellPasses .cpl false held = (s.passed .cpl false).cplFall :=
      State.cellPasses_of_passes (n := .cpl) hp
    rw [hpass, State.cplFall]
    rcases hc with ⟨hc, hj⟩ | ⟨c, hc, hm⟩
    · have hc' : (s.passed .cpl false).ident.context = none := hc
      have hdrop : (s.passed .cpl false).port.dropRelock = s.port := by
        show s.port.dropRelock = s.port
        rw [Port.dropRelock, hj]
      rw [hc', hdrop]
      rfl
    · have hc' : (s.passed .cpl false).ident.context = some c := hc
      rw [hc']
      exact if_neg (by rw [hm]; nofun)
  · intro x
    have hx : (s.passed .cpl false).identNotice .discarded = x := by
      have hc' : (s.passed .cpl false).ident.context = some c := hc
      simp only [State.identNotice, hc', hm, Option.bind_some, x]
      rfl
    have heq := (State.cplFall_of_tag hp hc hm).trans (State.loseCoupler_of_run (s := s.passed .cpl false) hs)
    rw [hx, State.discardContext_forgetLate] at heq
    exact next_act_of_notice hlive heq hlive.2
  · have heq := State.cplFall_of_engaged hp hc hm hs hq hr hrm (by rcases ha with h | h <;> rw [h] <;> rfl)
    rw [State.endEvent_of_flows .couplerLost (by exact ha)] at heq
    refine ⟨_, exec_of_eq (f := State.cellPasses .cpl false held) rfl hlive heq, ?_, ?_, ?_, ?_⟩
    · exact State.stopWith_stopsFor .couplerLost
        (State.notesLoss { s.passed .cpl false with ident := Ident.reset, port := s.port.released })
    · rw [State.commitNotices_activity, State.stopWith_activity]
      rfl
    · rw [State.commitNotices_ident, State.stopWith_ident]
      rfl
    · rw [State.commitNotices_ident, State.stopWith_ident]
      rfl
  · have heq := State.cplFall_of_engaged hp hc hm hs hq hr hrm (by rw [ha]; rfl)
    rw [State.endEvent_of_opening .couplerLost (by exact ha)] at heq
    obtain ⟨hident, hlost⟩ := State.pendEnd_of_couplerLost
      (s := State.notesLoss { s.passed .cpl false with ident := Ident.reset, port := s.port.released }) rfl rfl
    refine ⟨_, exec_of_eq (f := State.cellPasses .cpl false held) rfl hlive heq, ?_, hlost, ?_, ?_⟩
    · exact State.pendEnd_pendsFor .couplerLost
        (s := State.notesLoss { s.passed .cpl false with ident := Ident.reset, port := s.port.released }) ha
    · rw [State.commitNotices_ident, hident]
      rfl
    · rw [State.commitNotices_ident, hident]
      rfl
  · have heq := State.cplFall_of_engaged hp hc hm hs hq hr hrm (by rcases ha with h | h <;> rw [h] <;> rfl)
    refine exec_of_quiet (f := State.cellPasses .cpl false held) rfl hlive (heq.trans ?_) rfl
    refine State.endEvent_of_other _ ?_
    show s.activity.state ∉ _
    rcases ha with h | h <;> rw [h] <;> simp
  · refine exec_of_quiet (f := State.keepAlive) rfl hlive ?_ rfl
    have hkept : s.keptAwake = true := by
      simp [State.keptAwake, hrole, hs, State.unlock, hc, hu, hm]
    rw [State.keepAlive, if_pos ⟨hkept, hj, hp⟩, State.sendTag_of_idle _ _ hp]
  · intro c'
    refine exec_of_quiet (f := State.unlockLost) rfl hlive ?_ rfl
    have hdrop : s.port.dropRelock = s.port := by rw [Port.dropRelock, hj]
    rw [State.unlockLost, if_pos ((State.unlock_of_context hc).trans hu), hdrop, State.modContext, hc]
    rfl
  · have heq : s.identTimeout = State.raiseIdent .identTimeout { s with
        port := s.port.abandon, ident := { s.ident with state := .failed .identTimeout, runTimer := none } } := if_pos h
    exact ⟨_, exec_of_eq (f := State.identTimeout) rfl hlive heq, rfl, rfl, rfl, rfl⟩

end Sys2Proof.Machine
end

section
/-! The filter cells (R82 to R85, R113). -/

namespace Sys2Proof.Machine

/-! ## Reading and replacing a cell -/

@[simp] theorem Cells.get_set_same (c : Cells) (n : Cell) (x : FilterCell) : (c.set n x).get n = x := by
  cases n <;> rfl

@[simp] theorem Cells.set_set (c : Cells) (n : Cell) (x y : FilterCell) : (c.set n x).set n y = c.set n y := by
  cases n <;> rfl

theorem State.setCell_setCell (n : Cell) (x y : FilterCell) (s : State) :
    (s.setCell n x).setCell n y = s.setCell n y := by
  simp only [State.setCell, Cells.set_set]

theorem State.get_setCell (n : Cell) (x : FilterCell) (s : State) : (s.setCell n x).meter.cells.get n = x :=
  s.meter.cells.get_set_same n x

/-- A threshold other than 0 leaves the mode as it is set (R83). -/
theorem FilterCell.modeInForce_eq (x : FilterCell) :
    x.modeInForce = if x.threshold = 0 then .bypass else x.mode := rfl

/-! ## Glitches (R85) -/

/-- A glitch in an episode that is told already is counted, up to 255. -/
theorem FilterCell.glitched_of_glitch {x : FilterCell} (h : x.glitch = true) (hle : x.glitches ≤ 255) :
    x.glitched = { x with glitches := min 255 (x.glitches + 1) } := by
  have hcount : (if x.glitches < 255 then x.glitches + 1 else x.glitches) = min 255 (x.glitches + 1) := by
    split <;> omega
  rw [FilterCell.glitched, if_pos h, hcount]

theorem FilterCell.glitched_of_first {x : FilterCell} (h : x.glitch = false) :
    x.glitched = { x with glitch := true, glitches := 1 } := if_neg (ne_true_of_eq_false h)

theorem State.glitch_setCell (n : Cell) (y : FilterCell) (s : State) : (s.setCell n y).glitch n =
    if y.glitch then s.setCell n y.glitched else (s.setCell n y.glitched).raise (.glitch n) := by
  rw [State.glitch, State.get_setCell, State.setCell_setCell]

/-- A row that comes to a glitch at a cell changed to `y`. -/
theorem next_act_of_glitch {s : State} {n : Cell} {x y : FilterCell} {f : State → State} (h : s.Live)
    (hf : f s = (s.setCell n y).glitch n) (hg : y.glitch = x.glitch) (hc : y.glitches = x.glitches)
    (hle : x.glitches ≤ 255) : (Host.Outcome.next (s.act f) : Answer) =
      if x.glitch = true then .next (s.setCell n { y with glitches := min 255 (x.glitches + 1) })
      else .next ((s.setCell n { y with glitch := true, glitches := 1 }).noticed (.glitch n)) := by
  rw [State.glitch_setCell, hg] at hf
  cases hx : x.glitch with
  | true =>
    rw [hx, if_pos rfl, FilterCell.glitched_of_glitch (hg.trans hx) (hc ▸ hle), hc] at hf
    rw [if_pos rfl]
    exact next_act_of_quiet h hf h.2
  | false =>
    rw [hx, if_neg Bool.false_ne_true, FilterCell.glitched_of_first (hg.trans hx)] at hf
    rw [if_neg Bool.false_ne_true]
    exact next_act_of_notice h hf h.2

/-! ## Changes of an input (R83 to R85) -/

theorem State.inputChange_of_delayed {s : State} {n : Cell} (samples : Nat) (hi : (s.meter.cells.get n).idle = false)
    (ht : (s.meter.cells.get n).threshold ≠ 0) (hm : (s.meter.cells.get n).mode = .delayed) :
    let x := s.meter.cells.get n
    s.inputChange n samples =
      if x.input = x.output then s.setCell n { x with input := !x.input, count := x.count - samples }
      else if x.count + samples < x.micros n then s.inputReturns n (x.count + samples) else s := by
  have hforce : (s.meter.cells.get n).modeInForce = .delayed := by rw [FilterCell.modeInForce_eq, if_neg ht, hm]
  refine (if_neg (ne_true_of_eq_false hi)).trans ?_
  rw [hforce]

theorem State.inputChange_of_immediate {s : State} {n : Cell} (samples : Nat) (hi : (s.meter.cells.get n).idle = false)
    (ht : (s.meter.cells.get n).threshold ≠ 0) (hm : (s.meter.cells.get n).mode = .immediate) :
    let x := s.meter.cells.get n
    s.inputChange n samples =
      if x.lockout.isSome then (s.setCell n { x with input := !x.input }).glitch n else s := by
  have hforce : (s.meter.cells.get n).modeInForce = .immediate := by rw [FilterCell.modeInForce_eq, if_neg ht, hm]
  refine (if_neg (ne_true_of_eq_false hi)).trans ?_
  rw [hforce]

theorem State.inputReturns_of_counted {s : State} {n : Cell} {count : Nat} (h : 0 < count) :
    let x := s.meter.cells.get n
    s.inputReturns n count = (s.setCell n { x with input := x.output, count }).glitch n := if_pos h

theorem FilterCell.passes_iff {x : FilterCell} {n : Cell} {level : Bool} {held : Nat} (hi : x.idle = false)
    (ho : x.output ≠ level) : x.passes n level held = true ↔
      x.threshold = 0 ∨ x.mode = .bypass ∨ (x.mode = .immediate ∧ x.lockout = none)
        ∨ (x.mode = .delayed ∧ x.threshold * cellUnit n ≤ held + (if x.input = level then x.count else 0)) := by
  have ho' : (x.output != level) = true := bne_iff_ne.mpr ho
  rw [FilterCell.passes, hi, ho', FilterCell.modeInForce_eq]
  by_cases ht : x.threshold = 0
  · simp [ht]
  · rw [if_neg ht]
    cases hm : x.mode with
    | bypass => simp
    | immediate => simp [ht]
    | delayed =>
      simp only [ht, FilterCell.micros, Bool.not_false, Bool.true_and, reduceCtorEq, false_and, true_and, false_or]
      exact decide_eq_true_iff

/-- Settles O47. -/
theorem filterCellsFollow : Obligations.FilterCellsFollow := by
  refine ⟨fun s n samples hlive => ?_, fun s n time hlive => ?_, fun s time hlive hlock hin hout => ?_,
    fun s held hlive hp => ?_, fun s held hlive hp => ?_, fun x n level held hi ho => FilterCell.passes_iff hi ho,
    fun x f => ?_⟩
  · intro x glitched hi ht hle
    refine ⟨fun hm hio => ?_, fun hm hio hpos hlt => ?_, fun hm hlock => ?_, fun hm hlock => ?_⟩
    · intro y
      refine exec_of_quiet (f := State.inputChange n samples) rfl hlive ?_ rfl
      rw [State.inputChange_of_delayed samples hi ht hm]
      exact if_pos hio
    · refine next_act_of_glitch (f := State.inputChange n samples) hlive ?_ rfl rfl hle
      rw [State.inputChange_of_delayed samples hi ht hm]
      refine (if_neg hio).trans ((if_pos hlt).trans ?_)
      exact State.inputReturns_of_counted hpos
    · refine next_act_of_glitch (f := State.inputChange n samples) hlive ?_ rfl rfl hle
      rw [State.inputChange_of_immediate samples hi ht hm]
      exact if_pos hlock
    · refine exec_of_quiet (f := State.inputChange n samples) rfl hlive ?_ rfl
      rw [State.inputChange_of_immediate samples hi ht hm]
      exact if_neg (by rw [hlock]; nofun)
  · intro x hlock hio y
    refine exec_of_quiet (f := State.lockoutEnd n time) rfl hlive ?_ rfl
    have hnone : x.lockout.isNone = false := by
      rw [← Option.not_isSome, hlock]
      rfl
    exact (if_neg (ne_true_of_eq_false hnone)).trans (if_pos hio)
  · refine exec_of_quiet (f := State.lockoutEnd .estop time) rfl hlive ?_ rfl
    have hnone : s.meter.cells.estop.lockout.isNone = false := by
      rw [← Option.not_isSome, hlock]
      rfl
    have hne : s.meter.cells.estop.input ≠ s.meter.cells.estop.output := by
      rw [hin, hout]
      exact Bool.false_ne_true
    refine (if_neg (ne_true_of_eq_false hnone)).trans ((if_neg hne).trans ?_)
    show (s.setCell .estop (s.meter.cells.estop.pass .estop s.meter.cells.estop.input)).outputChanged .estop
      s.meter.cells.estop.input time = _
    rw [hin]
    rfl
  · exact exec_of_quiet (f := State.cellPasses .dhs true held) rfl hlive (State.cellPasses_of_passes (n := .dhs) hp) rfl
  · exact exec_of_quiet (f := State.cellPasses .estop false held) rfl hlive
      (State.cellPasses_of_passes (n := .estop) hp) rfl
  · intro y
    refine ⟨fun hm ht => ?_, fun h => ?_, ?_⟩
    · simp [FilterCell.configure, FilterCell.modeInForce, hm, ht, y]
    · have hforce : (if f.threshold = 0 then FilterMode.bypass else f.mode) = .bypass := by
        rcases h with h | h <;> simp [h]
      simp [FilterCell.configure, FilterCell.modeInForce, hforce, y]
    · simp [FilterCell.configure, y]

end Sys2Proof.Machine
end

section
/-! The phase discriminator and what a step comes to: the meter's counts, the timers of the activity, and the crossings
at a boundary (R87 to R94, R98, R99, R114 to R119). -/

namespace Sys2Proof.Machine

/-! ## The factor of a temperature (R98) -/

/-- Interpolated to the nearest, one half upward. -/
theorem interpolate_near (lo hi tenths : Int) :
    100 * interpolate lo hi tenths - (100 * lo + (hi - lo) * tenths) ≤ 50
      ∧ 100 * lo + (hi - lo) * tenths - 100 * interpolate lo hi tenths < 50 := by
  rw [interpolate]
  generalize (hi - lo) * tenths = d
  omega

theorem compFactor_of_between {factors : List Nat} {temp : Int} {i : Nat} (hi : i < 8)
    (hlo : -200 + 100 * (i : Int) ≤ temp) (hhi : temp < -100 + 100 * (i : Int)) (h : ¬temp ≤ -200) :
    compFactor factors temp =
      interpolate (factors.getD i 10000 : Nat) (factors.getD (i + 1) 10000 : Nat) (temp + 200 - 100 * i) := by
  have hindex : ((temp + 200) / 100).toNat = i := by omega
  have htenths : (temp + 200) % 100 = temp + 200 - 100 * i := by omega
  rw [compFactor, if_neg h, if_neg (by omega), hindex, htenths]

/-! ## What a changed pattern is judged as (R87, R88) -/

/-- The station with the pattern taken by its cells, and recent flow. -/
def State.sees (cells : Cells) (s : State) : State :=
  { s with meter := { s.meter with cells, recentTimer := some 2000000 } }

/-- The discriminator's answer to a judgement of the pattern `p` at a time. -/
def State.judged (p : Pattern) (time : Nat) : Judged → State → State
  | .forward, s => (s.setPosition p).meterStep true time
  | .reverse, s => (s.setPosition p).meterStep false time
  | .error true, s => (s.setPosition p).phaseError
  | .error false, s => s.phaseError
  | .first, s => s.setPosition p
  | .same, s => s

theorem State.patternChanged_eq {s : State} {c : Settings} (time : Nat) (hrun : s.meter.running = true)
    (hset : s.settings = some c) :
    let p := seenPattern c.sensors s.meter.cells.pattern
    s.patternChanged time = State.judged p time (judge c.sensors s.meter p time) (s.sees s.meter.cells) := by
  rw [State.patternChanged, hrun, hset]
  dsimp only
  generalize judge c.sensors s.meter (seenPattern c.sensors s.meter.cells.pattern) time = j
  rcases j with _ | _ | (_ | _) | _ | _ <;> rfl

theorem State.pattern_eq {s : State} {time held : Nat} {levels : Pattern} {c : Settings} {cells : Cells}
    (hrun : s.meter.running = true) (hset : s.settings = some c)
    (hcells : s.meter.cells.passPattern levels held = some cells) :
    s.pattern time held levels = State.judged (seenPattern c.sensors cells.pattern) time
      (judge c.sensors s.meter (seenPattern c.sensors cells.pattern) time) (s.sees cells) := by
  rw [State.pattern, hcells]
  exact State.patternChanged_eq (s := { s with meter := { s.meter with cells } }) time hrun hset

theorem Meter.spaced_iff {m : Meter} {time : Nat} : m.spaced time = true ↔ m.SpacedAt time := by
  unfold Meter.spaced Meter.SpacedAt
  cases m.lastStep <;> simp

theorem State.pattern_of_forward {s : State} {time held : Nat} {levels : Pattern} {c : Settings} {q p : Pattern}
    (h : s.StepsForward time held levels c q p) :
    ∃ cells, s.pattern time held levels = ((s.sees cells).setPosition p).meterStep true time := by
  obtain ⟨⟨_, hrun, hset, hq, hne, cells, hcells, hp⟩, hspaced, hforward⟩ := h
  refine ⟨cells, ?_⟩
  have hjudge : judge c.sensors s.meter p time = .forward := by
    rw [judge, hq]
    exact (if_neg hne).trans ((if_pos hforward).trans (if_pos (Meter.spaced_iff.mpr hspaced)))
  rw [State.pattern_eq hrun hset hcells, hp, hjudge]
  rfl

theorem State.pattern_of_back {s : State} {time held : Nat} {levels : Pattern} {c : Settings} {q p : Pattern}
    (h : s.StepsBack time held levels c q p) :
    ∃ cells, s.pattern time held levels = ((s.sees cells).setPosition p).meterStep false time := by
  obtain ⟨⟨_, hrun, hset, hq, hne, cells, hcells, hp⟩, hspaced, hforward, hback⟩ := h
  refine ⟨cells, ?_⟩
  have hjudge : judge c.sensors s.meter p time = .reverse := by
    rw [judge, hq]
    exact (if_neg hne).trans ((if_neg hforward).trans ((if_pos hback).trans (if_pos (Meter.spaced_iff.mpr hspaced))))
  rw [State.pattern_eq hrun hset hcells, hp, hjudge]
  rfl

/-- A phase error moves the position to a neighbour that came too soon, or to a legal pattern. -/
theorem State.pattern_of_wrong {s : State} {time held : Nat} {levels : Pattern} {c : Settings} {q p : Pattern}
    (h : s.StepsWrong time held levels c q p) :
    ∃ cells, s.pattern time held levels = State.phaseError ((s.sees cells).setPosition
      (if forwardOf c.sensors q = some p ∨ forwardOf c.sensors p = some q ∨ legal c.sensors p = true then p else q)) := by
  obtain ⟨⟨_, hrun, hset, hq, hne, cells, hcells, hp⟩, hwrong⟩ := h
  refine ⟨cells, ?_⟩
  have hstay : (s.sees cells).setPosition q = s.sees cells := by
    rw [State.setPosition, ← hq]
    rfl
  have hspaced (h : ∃ l ∈ s.meter.lastStep, time < l + 20) : s.meter.spaced time ≠ true := by
    obtain ⟨l, hl, hlt⟩ := h
    exact fun h' => absurd (Meter.spaced_iff.mp h' l hl) (by omega)
  rw [State.pattern_eq hrun hset hcells, hp]
  rcases hwrong with ⟨hforward, hback⟩ | ⟨hnear, hsoon⟩
  · have hjudge : judge c.sensors s.meter p time = .error (legal c.sensors p) := by
      rw [judge, hq]
      exact (if_neg hne).trans ((if_neg hforward).trans (if_neg hback))
    rw [hjudge]
    cases hlegal : legal c.sensors p with
    | true => rw [if_pos (.inr (.inr rfl))]; rfl
    | false =>
      rw [if_neg (by simp [hforward, hback]), hstay]
      rfl
  · have hjudge : judge c.sensors s.meter p time = .error true := by
      rw [judge, hq]
      by_cases hforward : forwardOf c.sensors q = some p
      · exact (if_neg hne).trans ((if_pos hforward).trans (if_neg (hspaced hsoon)))
      · exact (if_neg hne).trans ((if_neg hforward).trans
          ((if_pos (hnear.resolve_left hforward)).trans (if_neg (hspaced hsoon))))
    rw [hjudge, if_pos (by rcases hnear with h | h <;> simp [h])]
    rfl

theorem legal_two (p : Pattern) : legal .two (seenPattern .two p) = true := by
  obtain ⟨a, b, c⟩ := p
  cases a <;> cases b <;> rfl

theorem legal_three (p : Pattern) : legal .three p = false ↔ p.a = p.b ∧ p.b = p.c := by
  obtain ⟨a, b, c⟩ := p
  cases a <;> cases b <;> cases c <;> decide

/-- The position that the first pattern behind START gives (R87). -/
theorem State.pattern_of_first {s : State} {time held : Nat} {levels : Pattern} {c : Settings} {cells : Cells}
    (hrun : s.meter.running = true) (hset : s.settings = some c)
    (hcells : s.meter.cells.passPattern levels held = some cells) (hq : s.meter.position = none) :
    let p := seenPattern c.sensors cells.pattern
    s.pattern time held levels = { s with meter := { s.meter with
      cells := cells, recentTimer := some 2000000
      position := if c.sensors = .three ∧ p.a = p.b ∧ p.b = p.c then none else some p } } := by
  intro p
  have hjudge : judge c.sensors s.meter p time = if legal c.sensors p then .first else .same := by rw [judge, hq]
  rw [State.pattern_eq hrun hset hcells, hjudge]
  have hlegal : legal c.sensors p = !decide (c.sensors = .three ∧ p.a = p.b ∧ p.b = p.c) := by
    cases hm : c.sensors with
    | two =>
      have hp : p = seenPattern .two cells.pattern := by rw [← hm]
      rw [hp, legal_two]
      rfl
    | three =>
      cases hl : legal .three p with
      | true =>
        have hno : ¬(p.a = p.b ∧ p.b = p.c) := fun h => by
          rw [(legal_three p).mpr h] at hl
          cases hl
        simp [hno]
      | false => simp [(legal_three p).mp hl]
  rw [hlegal]
  by_cases h : c.sensors = .three ∧ p.a = p.b ∧ p.b = p.c
  · rw [if_pos h, decide_eq_true h, ← hq]
    rfl
  · rw [if_neg h, decide_eq_false h]
    rfl

/-! ## A step at the meter and at the activity's timers (R89, R90, R93, R116, R118) -/

theorem accumulate_eq (v d : Int) : accumulate v d = clamp47 (v + d) := by
  unfold accumulate clamp47
  dsimp only
  split
  · omega
  · split <;> omega

theorem pulse_of_settings {s : State} {c : Settings} (h : s.settings = some c) : s.pulse = c.pulse := by
  rw [State.pulse, h]

theorem boundaryFactor_of_settings {s : State} {c : Settings} (h : s.settings = some c) :
    s.boundaryFactor = boundaryWeight c s.meter := by
  rw [State.boundaryFactor, boundaryWeight, h]
  cases s.meter.tmp.reading <;> rfl

/-- The timers of the activity behind a step. -/
def Activity.stepped (forward : Bool) (full : Timer) (a : Activity) : Activity :=
  match a.state with
  | .stopping => { a with settle := some 2000000 }
  | .flowing | .slowing => if forward || a.noFlow.isNone then { a with noFlow := none, full } else a
  | _ => a

theorem State.activityStep_eq (forward : Bool) (s : State) :
    s.activityStep forward = { s with activity := s.activity.stepped forward s.fullPeriod } := by
  unfold State.activityStep Activity.stepped
  cases hs : s.activity.state with
  | flowing | slowing =>
    dsimp only
    split
    · rw [← hs]
    · rfl
  | stopping =>
    dsimp only
    rw [← hs]
  | _ => rfl

/-- The meter behind a step, before FLOW_UNAUTH is told. -/
def State.turns (forward : Bool) (time : Nat) (s : State) : Meter :=
  (s.meter.turn forward s.pulse time).unauthStep forward s.pulse.toNat

/-- An episode that has passed its volume and is not told yet. -/
def Meter.tells (m : Meter) : Bool := m.episode && !m.episodeNoticed && decide (500000 < m.unauthVolume)

theorem State.flowUnauth_eq (s : State) : s.flowUnauth =
    if s.meter.tells then State.raise (.flowUnauth (s.meter.unauthVolume / 100000))
      { s with meter := { s.meter with episodeNoticed := true } } else s := by
  rw [State.flowUnauth]
  refine ite_congr_of_iff ?_ rfl rfl
  simp [Meter.tells, and_assoc]

/-- The station behind a step, before its boundary. -/
def State.turned (forward : Bool) (time : Nat) (s : State) : State :=
  (State.flowUnauth { s with meter := s.turns forward time }).activityStep forward

theorem State.meterStep_eq (forward : Bool) (time : Nat) (s : State) :
    s.meterStep forward time = State.meterLimits (if (s.turned forward time).meter.gross ≠ s.meter.gross then
      (s.turned forward time).boundary forward time else s.turned forward time) := rfl

theorem State.turned_eq (forward : Bool) (time : Nat) (s : State) : s.turned forward time = { s with
    meter := { s.turns forward time with
      episodeNoticed := (s.turns forward time).episodeNoticed || (s.turns forward time).tells }
    activity := s.activity.stepped forward s.fullPeriod
    console := (s.turned forward time).console } := by
  have hflow : State.flowUnauth { s with meter := s.turns forward time } = { s with
      meter := { s.turns forward time with
        episodeNoticed := (s.turns forward time).episodeNoticed || (s.turns forward time).tells }
      console := (State.flowUnauth { s with meter := s.turns forward time }).console } := by
    rw [State.flowUnauth_eq]
    split
    next h =>
      have h' : (s.turns forward time).tells = true := h
      rw [h', Bool.or_true]
      rfl
    next h =>
      have h' : (s.turns forward time).tells = false := by simpa using h
      rw [h', Bool.or_false]
  have hperiod : (State.flowUnauth { s with meter := s.turns forward time }).fullPeriod = s.fullPeriod := by
    unfold State.fullPeriod
    have hrole : (State.flowUnauth { s with meter := s.turns forward time }).role = s.role := by
      rw [State.flowUnauth_eq]
      split <;> rfl
    rw [hrole]
  rw [State.turned, State.activityStep_eq, hperiod, hflow]

theorem State.turned_console (forward : Bool) (time : Nat) (s : State) : (s.turned forward time).console =
    if (s.turns forward time).tells then
      (s.raise (.flowUnauth ((s.turns forward time).unauthVolume / 100000))).console else s.console := by
  rw [State.turned, State.activityStep_eq, State.flowUnauth_eq]
  split <;> rfl

theorem State.turned_raises (forward : Bool) (time : Nat) (s : State) : s.Raises 1 (s.turned forward time) := by
  rw [State.Raises, State.turned_console]
  split
  · exact s.raise_raises _
  · exact State.Raises.of_console (t := s) 1 rfl

end Sys2Proof.Machine
end

section
/-! A boundary event: compensation, flow rate, the record, and the crossings of the activity (R89, R92, R98, R99, R114
to R119, R137, R138, R163). -/

namespace Sys2Proof.Machine

/-! ## The measures of a boundary (R92, R99, R163) -/

/-- The meter behind a boundary event. -/
def State.measures (forward : Bool) (time : Nat) (s : State) : Meter := (s.compensate forward).meter.rateAt forward time

/-- The station behind a boundary event, before its crossings. -/
def State.measured (forward : Bool) (time : Nat) (s : State) : State :=
  State.recordBoundary { s.compensate forward with meter := s.measures forward time }

theorem State.boundary_eq (forward : Bool) (time : Nat) (s : State) : s.boundary forward time =
    if forward then (s.measured forward time).activityBoundary else s.measured forward time := rfl

theorem State.measured_eq (forward : Bool) (time : Nat) (s : State) : s.measured forward time = { s with
    meter := s.measures forward time
    supply := { s.supply with record :=
      if s.supply.phase = .running then s.supply.record.map fun r =>
        { r with gross := (s.measures forward time).gross, comp := (s.measures forward time).reportedComp }
      else s.supply.record } } := by
  rw [State.measured, State.recordBoundary]
  by_cases h : s.supply.phase = .running
  · rw [if_pos h]
    exact if_pos h
  · rw [if_neg h]
    exact if_neg h

theorem State.measures_gross (forward : Bool) (time : Nat) (s : State) :
    (s.measures forward time).gross = s.meter.gross := by
  cases forward <;> rfl

/-! ## Crossings in FLOWING and SLOWING (R113 to R115) -/

/-- The station behind the slow-down and the progress point. -/
def State.crosses (p : ComparePoints) (s : State) : State := (s.crossSlowDown p).crossProgress p

theorem State.crossSlowDown_spec (p : ComparePoints) (s : State) :
    let t := s.crossSlowDown p
    t.activity = { s.activity with state := t.activity.state }
      ∧ t.activity.state.flows = s.activity.state.flows ∧ t.meter = s.meter ∧ t.supply = s.supply ∧ t.link = s.link
      ∧ t.settings = s.settings ∧ s.Raises 1 t
      ∧ (s.activity.state = .flowing → p.slowDown ≤ s.meter.gross →
        t.activity.state = .slowing ∧ t.outputs = { s.outputs with vmain := false }) := by
  unfold State.crossSlowDown
  split
  next h =>
    have hcore := State.enterAct_core .slowing { s with outputs := { s.outputs with vmain := false } }
    obtain ⟨hs, hv⟩ := h
    refine ⟨by rw [State.enterAct_activity], ?_, State.enterAct_meter _ _, State.enterAct_supply _ _,
      State.enterAct_link _ _, (State.settings_of_core hcore :), State.enterAct_raises _ _, fun _ _ =>
      ⟨by rw [State.enterAct_activity], State.enterAct_outputs _ _⟩⟩
    rw [State.enterAct_activity, hs]
    rfl
  next h => exact ⟨rfl, rfl, rfl, rfl, rfl, rfl, .of_console 1 rfl, fun hs hv => absurd ⟨hs, hv⟩ h⟩

theorem State.raiseActivity_activity (s : State) : s.raiseActivity.activity = s.activity := by rw [State.raiseActivity_eq]

theorem State.progressStep_of_settings {s : State} {c : Settings} (h : s.settings = some c) :
    s.progressStep = if c.role = .receipt then 10000 else c.progressStep := by
  unfold State.progressStep
  rw [State.role_of_settings h, h]
  cases c.role <;> rfl

/-- The next progress point. -/
abbrev ComparePoints.moved (p : ComparePoints) (step : Nat) : ComparePoints := { p with progress := p.progress + step }

theorem State.crossProgress_spec (p : ComparePoints) (s : State) :
    let t := s.crossProgress p
    t.activity = { s.activity with points := t.activity.points } ∧ t.meter = s.meter ∧ t.supply = s.supply
      ∧ t.outputs = s.outputs ∧ t.settings = s.settings ∧ s.Raises 1 t
      ∧ (s.activity.state.flows = true → p.progress ≤ s.meter.gross →
        t.activity.points = some (p.moved s.progressStep)
          ∧ t.link = s.link.offer .activity 0 (.progress (s.activity.openSeq.getD 0) s.meter.gross.toNat)) := by
  unfold State.crossProgress
  split
  next h =>
    let y := State.offerProgress { s with activity := { s.activity with points := some (p.moved s.progressStep) } }
    have hcore := State.raiseActivity_core y
    have hact := State.raiseActivity_activity y
    exact ⟨by rw [hact]; rfl, (State.meter_of_core hcore :), (State.supply_of_core hcore :),
      (State.outputs_of_core hcore :), (State.settings_of_core hcore :), State.raiseActivity_raises y,
      fun _ _ => ⟨by rw [hact]; rfl, (State.link_of_core hcore :)⟩⟩
  next h => exact ⟨rfl, rfl, rfl, rfl, rfl, .of_console 1 rfl, fun hs hv => absurd ⟨hs, hv⟩ h⟩

/-- What both crossings leave of an activity that flows. -/
theorem State.crosses_spec (p : ComparePoints) (s : State) :
    let t := s.crosses p
    t.activity = { s.activity with state := t.activity.state, points := t.activity.points }
      ∧ t.activity.state.flows = s.activity.state.flows ∧ t.meter = s.meter ∧ t.supply = s.supply
      ∧ t.settings = s.settings ∧ s.Raises 2 t
      ∧ (s.activity.state = .flowing → p.slowDown ≤ s.meter.gross →
        t.activity.state = .slowing ∧ t.outputs = { s.outputs with vmain := false })
      ∧ (s.activity.state.flows = true → p.progress ≤ s.meter.gross →
        t.activity.points = some (p.moved s.progressStep)
          ∧ t.link = s.link.offer .activity 0 (.progress (s.activity.openSeq.getD 0) s.meter.gross.toNat)) := by
  obtain ⟨h1, h2, h3, h4, h5, h6, h7, h8⟩ := s.crossSlowDown_spec p
  obtain ⟨g1, g2, g3, g4, g5, g6, g7⟩ := (s.crossSlowDown p).crossProgress_spec p
  have hstate : (s.crosses p).activity.state = (s.crossSlowDown p).activity.state := (congrArg Activity.state g1 :)
  have hrole : (s.crossSlowDown p).role = s.role := congrArg (Option.map Settings.role) h6
  have hstep : (s.crossSlowDown p).progressStep = s.progressStep := by
    unfold State.progressStep
    rw [h6, hrole]
  refine ⟨?_, by rw [hstate, h2], g2.trans h3, g3.trans h4, g5.trans h6, h7.trans g6, fun hs hv => ?_, fun hs hv => ?_⟩
  · show (s.crosses p).activity = _
    have hall : (s.crosses p).activity = { (s.crossSlowDown p).activity with points := (s.crosses p).activity.points } := g1
    rw [hstate]
    rw [h1] at hall
    exact hall
  · obtain ⟨hslow, hout⟩ := h8 hs hv
    exact ⟨hstate.trans hslow, g4.trans hout⟩
  · obtain ⟨hpoints, hlink⟩ := g7 (h2.trans hs) (by rw [h3]; exact hv)
    rw [hstep] at hpoints
    rw [h3, h5, congrArg Activity.openSeq h1] at hlink
    exact ⟨hpoints, hlink⟩

/-! ## The crossing of the stop point (R114, R137) -/

theorem State.stopWith_raises (r : Reason) (s : State) : s.Raises 1 (s.stopWith r) := State.enterAct_raises _ _

theorem State.stopReason_of_settings {s : State} {c : Settings} (h : s.settings = some c) :
    s.stopReason = if c.role = .receipt then .limit else .preset := by
  unfold State.stopReason
  rw [State.role_of_settings h]
  cases c.role <;> rfl

theorem State.activityBoundary_of_flows {s : State} {p : ComparePoints} (hp : s.activity.points = some p)
    (hs : s.activity.state.flows = true) : s.activityBoundary =
      if p.stop ≤ s.meter.gross then (s.crosses p).stopWith (s.crosses p).stopReason else s.crosses p := by
  have hne : s.activity.state ≠ .stopping := fun h => by rw [h] at hs; cases hs
  obtain ⟨_, hflows, hmeter, _⟩ := s.crosses_spec p
  rw [State.activityBoundary, hp]
  refine (if_neg hne).trans ?_
  show (s.crosses p).crossStop p = _
  rw [State.crossStop, hflows, hs, hmeter]
  simp

theorem State.crossProgress_of_still {s : State} (p : ComparePoints) (h : s.activity.state.flows = false) :
    s.crossProgress p = s := if_neg fun h' => by rw [h] at h'; cases h'.1

/-- A boundary touches no activity that neither flows nor is STOPPING. -/
theorem State.activityBoundary_of_still {s : State} (h : s.activity.state.flows = false)
    (hs : s.activity.state = .stopping → ∀ x ∈ s.activity.points, s.meter.gross ≤ x.overrun) :
    s.activityBoundary = s := by
  unfold State.activityBoundary
  split
  · rfl
  next p hp =>
    split
    next h' => exact if_neg (Int.not_lt.mpr (hs h' p hp))
    next h' =>
      have hslow : s.crossSlowDown p = s := if_neg fun hf => by rw [hf.1] at h; cases h
      rw [hslow, State.crossProgress_of_still p h]
      exact if_neg fun h' => by rw [h] at h'; cases h'.1

/-! ## Overrun (R119, R138, R165) -/

/-- A change that leaves the meter, but for the mark that an activity is open. -/
abbrev State.Meters (s t : State) : Prop := t.meter = { s.meter with activityOpen := t.meter.activityOpen }

theorem State.Meters.of_eq {s t : State} (h : t.meter = s.meter) : s.Meters t := by rw [State.Meters, h]

theorem State.Meters.trans {s t u : State} (h : s.Meters t) (h' : t.Meters u) : s.Meters u := by
  rw [State.Meters, h', h]

theorem State.runRecovery_meters (s : State) : s.runRecovery.meter = s.meter ∧ s.Raises 1 s.runRecovery := by
  rcases s.runRecovery_cases with h | h | ⟨b, h⟩ | ⟨p, h⟩ <;> rw [h]
  · exact ⟨rfl, .of_console 1 rfl⟩
  · exact ⟨rfl, .of_console 1 rfl⟩
  · exact ⟨rfl, State.raise_raises b _⟩
  · exact ⟨rfl, .of_console 1 rfl⟩

theorem State.releaseResult_raises (s : State) : s.Raises 0 s.releaseResult :=
  .of_console 0 (by rw [State.releaseResult_eq])

theorem State.endWithoutWriteBack_raises (s : State) : s.Raises 2 s.endWithoutWriteBack := by
  unfold State.endWithoutWriteBack
  dsimp only
  split
  · exact s.releaseResult_raises.trans (j := 0) (k := 2) (by
      obtain ⟨h1, l, h2, h3⟩ := State.enterAct_raises .faulted
        { s.releaseResult with activity := { s.releaseResult.activity with faultPending := false } }
      exact ⟨h1, l, h2, by omega⟩)
  · split
    · exact s.releaseResult_raises.trans (j := 0) (k := 2) (by
        obtain ⟨h1, l, h2, h3⟩ := s.releaseResult.toIdle_raises none
        exact ⟨h1, l, h2, by omega⟩)
    · exact s.releaseResult_raises.trans (j := 0) (k := 2) (s.releaseResult.intoWriteback_raises true)

/-- The station as STOPPING ends with the link lost, before its record is held. -/
def State.endsLinkLost (s : State) : State :=
  State.endWithoutWriteBack { s.activityEnded with activity := { s.activityEnded.activity with linkLost := false } }

theorem State.endStopping_eq (s : State) : s.endStopping =
    if s.activity.linkLost || !s.engine.admitted then s.endsLinkLost.holdRecord else s.activityEnded.offerClose := rfl

theorem State.endStopping_spec (s : State) : s.endStopping.meter = { s.meter with activityOpen := false }
    ∧ s.Raises 3 s.endStopping := by
  have hcore := State.endWithoutWriteBack_core
    { s.activityEnded with activity := { s.activityEnded.activity with linkLost := false } }
  rw [State.endStopping_eq]
  split
  · obtain ⟨hmeter, hraises⟩ := (s.endsLinkLost.setPhase .held).runRecovery_meters
    refine ⟨hmeter.trans (State.meter_of_core hcore :), ?_⟩
    exact (State.endWithoutWriteBack_raises
      { s.activityEnded with activity := { s.activityEnded.activity with linkLost := false } }).trans (j := 2) hraises
  · refine ⟨State.enterAct_meter _ _, ?_⟩
    obtain ⟨h1, l, h2, h3⟩ := State.enterAct_raises .closing
      ((s.activityEnded.offer .activity s.activityEnded.closingFrame).setPhase .ending)
    exact ⟨h1, l, h2, by omega⟩

/-- The station that has overrun, before STOPPING ends. -/
def State.overruns (s : State) : State :=
  State.raise (.fault .valve) { s.modRecord fun r => { r with endReason := some .overrun } with
    activity := { s.activity with endReason := some .overrun, faultPending := true } }

theorem State.overrun_eq (s : State) : s.overrun = s.overruns.endStopping := rfl

theorem State.overrun_spec (s : State) : s.overrun.meter = { s.meter with activityOpen := false }
    ∧ s.Raises 4 s.overrun := by
  obtain ⟨h1, h2⟩ := s.overruns.endStopping_spec
  exact ⟨h1, (State.raise_raises (.fault .valve) { s.modRecord fun r => { r with endReason := some .overrun } with
    activity := { s.activity with endReason := some .overrun, faultPending := true } }).trans h2⟩

theorem State.activityBoundary_of_overrun {s : State} {p : ComparePoints} (hs : s.activity.state = .stopping)
    (hp : s.activity.points = some p) (h : p.overrun < s.meter.gross) : s.activityBoundary = s.overrun := by
  rw [State.activityBoundary, hp]
  exact (if_pos hs).trans (if_pos h)

/-! ## All cases of a boundary at the activity -/

theorem State.Raises.mono {s t : State} {j k : Nat} (h : s.Raises j t) (hle : j ≤ k) : s.Raises k t := by
  obtain ⟨h1, l, h2, h3⟩ := h
  exact ⟨h1, l, h2, Nat.le_trans h3 hle⟩

theorem State.activityBoundary_meters (s : State) : s.Meters s.activityBoundary ∧ s.Raises 4 s.activityBoundary := by
  by_cases hf : s.activity.state.flows = true
  · cases hp : s.activity.points with
    | none =>
      have heq : s.activityBoundary = s := by rw [State.activityBoundary, hp]
      rw [heq]
      exact ⟨.of_eq rfl, .of_console 4 rfl⟩
    | some p =>
      obtain ⟨_, _, hmeter, _, _, hraises, _⟩ := s.crosses_spec p
      rw [State.activityBoundary_of_flows hp hf]
      split
      · exact ⟨.of_eq ((State.stopWith_meter _ _).trans hmeter),
          (hraises.trans (State.stopWith_raises _ _)).mono (by decide)⟩
      · exact ⟨.of_eq hmeter, hraises.mono (by decide)⟩
  · by_cases ho : s.activity.state = .stopping ∧ ∃ x ∈ s.activity.points, x.overrun < s.meter.gross
    · obtain ⟨hs, p, hp, hlt⟩ := ho
      rw [State.activityBoundary_of_overrun hs hp hlt]
      obtain ⟨hmeter, hraises⟩ := s.overrun_spec
      exact ⟨by rw [State.Meters, hmeter], hraises⟩
    · have heq : s.activityBoundary = s := State.activityBoundary_of_still (by simpa using hf) fun hs x hx =>
        Int.not_lt.mp fun hlt => ho ⟨hs, x, hx, hlt⟩
      rw [heq]
      exact ⟨.of_eq rfl, .of_console 4 rfl⟩

end Sys2Proof.Machine
end

section
/-! The sensor pattern changes: what a step and a phase error come to (R87 to R94, R98, R99, R114 to R118, R136,
R163). -/

namespace Sys2Proof.Machine

/-! ## The limits of the meter (R117) -/

/-- A change that leaves the volumes of the record. -/
abbrev State.KeepsVolumes (s t : State) : Prop :=
  t.supply.record.map ActRecord.gross = s.supply.record.map ActRecord.gross
    ∧ t.supply.record.map ActRecord.comp = s.supply.record.map ActRecord.comp

theorem State.stopWith_keepsVolumes (r : Reason) (s : State) : s.KeepsVolumes (s.stopWith r) := by
  rw [State.KeepsVolumes, State.stopWith_supply]
  cases s.supply.record <;> exact ⟨rfl, rfl⟩

theorem State.meterLimits_cases (s : State) : s.meterLimits = s ∨ ∃ r, s.meterLimits = s.stopWith r := by
  unfold State.meterLimits State.endFlow
  split
  · split
    · exact .inr ⟨_, rfl⟩
    · exact .inl rfl
  · split
    · split
      · exact .inr ⟨_, rfl⟩
      · exact .inl rfl
    · exact .inl rfl

theorem State.meterLimits_rest (s : State) : s.meterLimits.meter = s.meter ∧ s.Raises 1 s.meterLimits
    ∧ s.KeepsVolumes s.meterLimits := by
  rcases s.meterLimits_cases with h | ⟨r, h⟩ <;> rw [h]
  · exact ⟨rfl, .of_console 1 rfl, rfl, rfl⟩
  · exact ⟨State.stopWith_meter r s, State.stopWith_raises r s, State.stopWith_keepsVolumes r s⟩

/-! ## The meter behind a step -/

/-- The station behind a step and its boundary, before the limits of the meter. -/
def State.bounded (forward : Bool) (time : Nat) (s : State) : State :=
  if (s.turned forward time).meter.gross ≠ s.meter.gross then (s.turned forward time).boundary forward time
  else s.turned forward time

theorem State.meterStep_limits (forward : Bool) (time : Nat) (s : State) :
    s.meterStep forward time = (s.bounded forward time).meterLimits := rfl

/-- The meter that a step leaves. -/
def State.stepMeter (forward : Bool) (time : Nat) (s : State) : Meter :=
  if (s.turned forward time).meter.gross ≠ s.meter.gross then (s.turned forward time).measures forward time
  else (s.turned forward time).meter

theorem State.boundary_rest (forward : Bool) (time : Nat) (s : State) :
    (s.boundary forward time).meter =
        { s.measures forward time with activityOpen := (s.boundary forward time).meter.activityOpen }
      ∧ s.Raises 4 (s.boundary forward time) := by
  have hmeasured := s.measured_eq forward time
  have hraises : s.Raises 0 (s.measured forward time) := .of_console 0 (by rw [hmeasured])
  rw [State.boundary_eq]
  split
  · obtain ⟨hmeters, h⟩ := (s.measured forward time).activityBoundary_meters
    rw [State.Meters, show (s.measured forward time).meter = _ from congrArg State.meter hmeasured] at hmeters
    exact ⟨hmeters, hraises.trans h⟩
  · exact ⟨by rw [hmeasured], hraises.mono (by decide)⟩

theorem State.bounded_rest (forward : Bool) (time : Nat) (s : State) :
    (s.bounded forward time).meter =
        { s.stepMeter forward time with activityOpen := (s.bounded forward time).meter.activityOpen }
      ∧ (s.turned forward time).Raises 4 (s.bounded forward time) := by
  unfold State.bounded State.stepMeter
  split
  · exact State.boundary_rest forward time _
  · exact ⟨rfl, .of_console 4 rfl⟩

theorem State.meterStep_rest (forward : Bool) (time : Nat) (s : State) :
    (s.meterStep forward time).meter =
        { s.stepMeter forward time with activityOpen := (s.meterStep forward time).meter.activityOpen }
      ∧ (s.turned forward time).Raises 5 (s.meterStep forward time) := by
  obtain ⟨h1, h2⟩ := s.bounded_rest forward time
  obtain ⟨g1, g2, _⟩ := (s.bounded forward time).meterLimits_rest
  rw [State.meterStep_limits, g1]
  exact ⟨h1, h2.trans g2⟩

theorem Meter.unauthStep_eq (m : Meter) (forward : Bool) (pulse : Nat) : m.unauthStep forward pulse = { m with
    unauthVolume := (m.unauthStep forward pulse).unauthVolume, episode := (m.unauthStep forward pulse).episode
    episodeTimer := (m.unauthStep forward pulse).episodeTimer } := by
  unfold Meter.unauthStep
  split
  · rfl
  · split
    · rfl
    · split <;> rfl

theorem State.measures_eq (forward : Bool) (time : Nat) (s : State) : s.measures forward time = { s.meter with
    comp := (s.measures forward time).comp, uncompensated := (s.measures forward time).uncompensated
    flowRate := (s.measures forward time).flowRate, lastBoundary := (s.measures forward time).lastBoundary
    flowTimer := (s.measures forward time).flowTimer } := by
  cases forward <;> rfl

theorem Meter.turn_eq (m : Meter) (forward : Bool) (pulse : Nat) (time : Nat) : m.turn forward pulse time = { m with
    acc := clamp47 (if forward then m.acc + pulse else m.acc - pulse)
    rev := if forward then m.rev else clamp47 (m.rev + pulse), lastStep := some time } := by
  rw [Meter.turn, accumulate_eq, accumulate_eq]
  cases forward with
  | true => rfl
  | false =>
    rw [if_neg Bool.false_ne_true, if_neg Bool.false_ne_true, if_neg Bool.false_ne_true, ← Int.sub_eq_add_neg]

/-- The counts of a step, boundary or not. -/
theorem State.stepMeter_counts {s : State} {c : Settings} (forward : Bool) (time : Nat) (h : s.settings = some c) :
    let m := s.stepMeter forward time
    m.acc = clamp47 (if forward then s.meter.acc + c.pulse else s.meter.acc - c.pulse)
      ∧ m.rev = (if forward then s.meter.rev else clamp47 (s.meter.rev + c.pulse))
      ∧ m.phaseErrors = s.meter.phaseErrors ∧ m.position = s.meter.position ∧ m.lastStep = some time
      ∧ m.recentTimer = s.meter.recentTimer := by
  have hturned : let m := (s.turned forward time).meter
      m.acc = clamp47 (if forward then s.meter.acc + c.pulse else s.meter.acc - c.pulse)
        ∧ m.rev = (if forward then s.meter.rev else clamp47 (s.meter.rev + c.pulse))
        ∧ m.phaseErrors = s.meter.phaseErrors ∧ m.position = s.meter.position ∧ m.lastStep = some time
        ∧ m.recentTimer = s.meter.recentTimer := by
    dsimp only
    rw [State.turned_eq, State.turns, pulse_of_settings h, Meter.unauthStep_eq, Meter.turn_eq]
    exact ⟨rfl, rfl, rfl, rfl, rfl, rfl⟩
  unfold State.stepMeter
  split
  · rw [State.measures_eq]
    exact hturned
  · exact hturned

theorem State.turned_gross {s : State} {c : Settings} (forward : Bool) (time : Nat) (h : s.settings = some c) :
    (s.turned forward time).meter.gross =
      clamp47 (if forward then s.meter.acc + c.pulse else s.meter.acc - c.pulse) / 100000 := by
  have hcounts := (State.stepMeter_counts (s := s) forward time h).1
  unfold State.stepMeter at hcounts
  split at hcounts
  · rw [State.measures_eq] at hcounts
    exact congrArg (· / 100000) hcounts
  · exact congrArg (· / 100000) hcounts

/-! ## The unauthorised flow (R93) -/

theorem Meter.unauthStep_of_open {m : Meter} (forward : Bool) (pulse : Nat) (h : m.activityOpen = true) :
    m.unauthStep forward pulse = m := if_pos h

theorem Meter.unauthStep_of_forward {m : Meter} (pulse : Nat) (h : m.activityOpen = false) :
    m.unauthStep true pulse =
      { m with unauthVolume := m.unauthVolume + pulse, episode := true, episodeTimer := some 60000000 } := by
  rw [Meter.unauthStep, if_neg (ne_true_of_eq_false h)]
  rfl

theorem Meter.unauthStep_of_back {m : Meter} (pulse : Nat) (h : m.activityOpen = false) :
    m.unauthStep false pulse =
      { m with episodeTimer := if m.episode then some 60000000 else m.episodeTimer } := by
  rw [Meter.unauthStep, if_neg (ne_true_of_eq_false h)]
  refine (if_neg Bool.false_ne_true).trans ?_
  split
  · rfl
  · rfl

/-- The unauthorised flow that a step leaves, boundary or not. -/
theorem State.stepMeter_unauth (forward : Bool) (time : Nat) (s : State) :
    let m := s.stepMeter forward time
    let x := s.turns forward time
    m.unauthVolume = x.unauthVolume ∧ m.episode = x.episode ∧ m.episodeTimer = x.episodeTimer
      ∧ m.episodeNoticed = (x.episodeNoticed || x.tells) := by
  have hturned : (s.turned forward time).meter = _ := congrArg State.meter (s.turned_eq forward time)
  unfold State.stepMeter
  split
  · rw [State.measures_eq, hturned]
    exact ⟨rfl, rfl, rfl, rfl⟩
  · rw [hturned]
    exact ⟨rfl, rfl, rfl, rfl⟩

theorem State.Raises.mem {s t : State} {k : Nat} {n : Notice} (h : s.Raises k t) (hn : n ∈ s.console.raised) :
    n ∈ t.console.raised := by
  obtain ⟨_, l, h2, _⟩ := h
  rw [h2]
  exact List.mem_append_left _ hn

theorem State.Raises.length_le {s t : State} {k : Nat} (h : s.Raises k t) :
    t.console.raised.length ≤ s.console.raised.length + k := by
  obtain ⟨_, l, h2, h3⟩ := h
  rw [h2, List.length_append]
  omega

theorem State.meterStep_unauth {s : State} {c : Settings} (forward : Bool) (time : Nat) (h : s.settings = some c)
    (hraised : s.console.raised = []) : s.UnauthStep c forward (s.meterStep forward time).commitNotices := by
  obtain ⟨hmeter, hraises⟩ := s.meterStep_rest forward time
  obtain ⟨h1, h2, h3, h4⟩ := s.stepMeter_unauth forward time
  have hturns : s.turns forward time = (s.meter.turn forward c.pulse time).unauthStep forward c.pulse := by
    rw [State.turns, pulse_of_settings h]
    rfl
  have hv : (s.meterStep forward time).commitNotices.meter.unauthVolume = _ :=
    (congrArg Meter.unauthVolume hmeter :).trans h1
  have he : (s.meterStep forward time).commitNotices.meter.episode = _ := (congrArg Meter.episode hmeter :).trans h2
  have ht : (s.meterStep forward time).commitNotices.meter.episodeTimer = _ :=
    (congrArg Meter.episodeTimer hmeter :).trans h3
  have hn : (s.meterStep forward time).commitNotices.meter.episodeNoticed = _ :=
    (congrArg Meter.episodeNoticed hmeter :).trans h4
  rw [State.UnauthStep, hv, he, ht, hn]
  refine ⟨fun ho he => ?_, fun ho hf => ?_, fun ho hf => ?_⟩
  · have heq := hturns.trans (Meter.unauthStep_of_open forward c.pulse (m := s.meter.turn forward c.pulse time) ho)
    have htells : (s.turns forward time).tells = false := by
      rw [heq, Meter.tells]
      show (s.meter.episode && _ && _) = false
      rw [he]
      rfl
    rw [htells, Bool.or_false, heq]
    exact ⟨rfl, he, rfl, rfl⟩
  · subst hf
    have heq := hturns.trans (Meter.unauthStep_of_forward c.pulse (m := s.meter.turn true c.pulse time) ho)
    have htells : (s.turns true time).tells =
        (!s.meter.episodeNoticed && decide (500000 < s.meter.unauthVolume + c.pulse)) := by
      rw [heq]
      rfl
    refine ⟨by rw [heq]; rfl, by rw [heq], by rw [heq], ?_, fun hnot hlt hroom => ?_⟩
    · rw [htells, heq]
      show (s.meter.episodeNoticed || _) = _
      cases s.meter.episodeNoticed <;> rfl
    · have htells' : (s.turns true time).tells = true := by rw [htells, hnot, decide_eq_true hlt]; rfl
      have hconsole := (s.turned_console true time).trans (if_pos htells')
      have hvolume : (s.turns true time).unauthVolume = s.meter.unauthVolume + c.pulse := by rw [heq]; rfl
      rw [hvolume] at hconsole
      have hin : ∃ n ∈ (s.turned true time).console.raised,
          n.body = .flowUnauth ((s.meter.unauthVolume + c.pulse) / 100000) := by
        rw [hconsole]
        exact ⟨_, List.mem_append_right _ (List.mem_singleton_self _), rfl⟩
      obtain ⟨n, hn, hbody⟩ := hin
      have hlen := hraises.length_le
      rw [hconsole] at hlen
      refine exists_notice (s := s) ⟨n, hraises.mem hn, hbody⟩ (hraises.1.trans (by rw [hconsole]; rfl)) ?_
      have hone : (s.raise (.flowUnauth ((s.meter.unauthVolume + c.pulse) / 100000))).console.raised.length = 1 := by
        show (s.console.raised ++ [_]).length = 1
        rw [hraised]
        rfl
      rw [hone] at hlen
      omega
  · subst hf
    have heq := hturns.trans (Meter.unauthStep_of_back c.pulse (m := s.meter.turn false c.pulse time) ho)
    rw [heq]
    exact ⟨rfl, rfl, rfl⟩

/-! ## Compensation, flow rate and the record (R92, R98, R99, R163) -/

theorem State.turned_settings (forward : Bool) (time : Nat) (s : State) :
    (s.turned forward time).settings = s.settings := by
  have hconsole : (s.turned forward time).console.config = s.console.config
      ∧ (s.turned forward time).console.started = s.console.started := by
    rw [State.turned_console]
    split <;> exact ⟨rfl, rfl⟩
  rw [State.settings, hconsole.1, hconsole.2]
  rfl

end Sys2Proof.Machine
end

section
/-! A change of the sensor pattern as an obligation (R87 to R94, R98, R99, R114 to R118, R136, R163). -/

namespace Sys2Proof.Machine

/-! ## Boundaries -/

theorem State.measures_of_settings {s : State} {c : Settings} (forward : Bool) (time : Nat) (h : s.settings = some c) :
    let m := s.measures forward time
    m.comp = (if forward then s.meter.comp + boundaryWeight c s.meter else s.meter.comp - boundaryWeight c s.meter)
      ∧ m.uncompensated = (s.meter.uncompensated || s.meter.tmp.reading.isNone)
      ∧ m.flowRate = (if forward then s.meter.lastBoundary.map fun b => 60000000 / (time - b) else some 0)
      ∧ m.lastBoundary = (if forward then some time else none)
      ∧ m.flowTimer = (if forward then some 10000000 else none) := by
  have hfactor := boundaryFactor_of_settings h
  rw [← hfactor]
  cases forward
  · exact ⟨rfl, rfl, rfl, rfl, rfl⟩
  · exact ⟨rfl, rfl, rfl, rfl, rfl⟩

theorem State.KeepsVolumes.of_eq {s t : State} (h : t.supply = s.supply) : s.KeepsVolumes t := by
  rw [State.KeepsVolumes, h]
  exact ⟨rfl, rfl⟩

theorem State.KeepsVolumes.trans {s t u : State} (h : s.KeepsVolumes t) (h' : t.KeepsVolumes u) : s.KeepsVolumes u :=
  ⟨h'.1.trans h.1, h'.2.trans h.2⟩

/-- The crossings of a boundary leave the volumes of the record, but for an overrun. -/
theorem State.activityBoundary_keepsVolumes {s : State}
    (h : s.activity.state = .stopping → ∀ x ∈ s.activity.points, s.meter.gross ≤ x.overrun) :
    s.KeepsVolumes s.activityBoundary := by
  by_cases hf : s.activity.state.flows = true
  · cases hp : s.activity.points with
    | none =>
      have heq : s.activityBoundary = s := by rw [State.activityBoundary, hp]
      rw [heq]
      exact ⟨rfl, rfl⟩
    | some p =>
      obtain ⟨_, _, _, hsupply, _⟩ := s.crosses_spec p
      rw [State.activityBoundary_of_flows hp hf]
      split
      · exact (State.KeepsVolumes.of_eq hsupply).trans (State.stopWith_keepsVolumes _ _)
      · exact .of_eq hsupply
  · rw [State.activityBoundary_of_still (by simpa using hf) h]
    exact ⟨rfl, rfl⟩

theorem Activity.stepped_eq (a : Activity) (forward : Bool) (full : Timer) : a.stepped forward full = { a with
    noFlow := (a.stepped forward full).noFlow, full := (a.stepped forward full).full
    settle := (a.stepped forward full).settle } := by
  unfold Activity.stepped
  split
  · rfl
  · split <;> rfl
  · split <;> rfl
  · rfl

theorem State.turned_activity (forward : Bool) (time : Nat) (s : State) :
    (s.turned forward time).activity = s.activity.stepped forward s.fullPeriod :=
  (congrArg State.activity (s.turned_eq forward time) :)

theorem State.turned_state (forward : Bool) (time : Nat) (s : State) :
    (s.turned forward time).activity.state = s.activity.state
      ∧ (s.turned forward time).activity.points = s.activity.points := by
  rw [State.turned_activity, Activity.stepped_eq]
  exact ⟨rfl, rfl⟩

theorem State.turned_supply (forward : Bool) (time : Nat) (s : State) : (s.turned forward time).supply = s.supply :=
  (congrArg State.supply (s.turned_eq forward time) :)

/-- A step by itself leaves compensation, flow rate and temperature. -/
theorem State.turned_measures (forward : Bool) (time : Nat) (s : State) :
    let m := (s.turned forward time).meter
    m.comp = s.meter.comp ∧ m.uncompensated = s.meter.uncompensated ∧ m.flowRate = s.meter.flowRate
      ∧ m.lastBoundary = s.meter.lastBoundary ∧ m.flowTimer = s.meter.flowTimer ∧ m.tmp = s.meter.tmp := by
  dsimp only
  rw [State.turned_eq, State.turns, Meter.unauthStep_eq]
  exact ⟨rfl, rfl, rfl, rfl, rfl, rfl⟩

theorem State.meterStep_boundary {s : State} {c : Settings} {forward : Bool} (time : Nat) (h : s.settings = some c)
    (hb : (s.turned forward time).meter.gross ≠ s.meter.gross) :
    s.BoundaryTaken c time forward (s.turned forward time).meter.gross (s.meterStep forward time).commitNotices := by
  let z := s.turned forward time
  obtain ⟨hmeter, _⟩ := s.meterStep_rest forward time
  have hstep : s.stepMeter forward time = z.measures forward time := if_pos hb
  have hbounded : s.bounded forward time = z.boundary forward time := if_pos hb
  obtain ⟨m1, m2, m3, m4, m5⟩ :=
    State.measures_of_settings (s := z) forward time ((s.turned_settings forward time).trans h)
  obtain ⟨hcomp, hmark, _, hlast, _, htmp⟩ := s.turned_measures forward time
  have hweight : boundaryWeight c z.meter = boundaryWeight c s.meter := by rw [boundaryWeight, htmp, boundaryWeight]
  rw [hcomp, hweight] at m1
  rw [hmark, htmp] at m2
  rw [hlast] at m3
  rw [hstep] at hmeter
  refine ⟨(congrArg Meter.comp hmeter :).trans m1, (congrArg Meter.uncompensated hmeter :).trans m2,
    (congrArg Meter.flowRate hmeter :).trans m3, (congrArg Meter.lastBoundary hmeter :).trans m4,
    (congrArg Meter.flowTimer hmeter :).trans m5, fun hover r hrun hr => ?_⟩
  have hmeasured := z.measured_eq forward time
  have hgross := z.measures_gross forward time
  have hrecord : (z.measured forward time).supply.record =
      some { r with gross := z.meter.gross, comp := (z.measures forward time).reportedComp } := by
    rw [hmeasured, hgross]
    have hsupply : z.supply = s.supply := s.turned_supply forward time
    show (if z.supply.phase = .running then _ else _) = _
    rw [hsupply, if_pos hrun, hr]
    rfl
  have hkeeps : (z.measured forward time).KeepsVolumes (z.boundary forward time) := by
    rw [State.boundary_eq]
    split
    next hf =>
      refine State.activityBoundary_keepsVolumes fun hs x hx => ?_
      rw [hmeasured] at hs hx ⊢
      obtain ⟨g1, g2⟩ := s.turned_state forward time
      exact Int.le_trans (Int.le_of_eq hgross) (hover (g1.symm.trans hs) hf x (g2 ▸ hx))
    next => exact ⟨rfl, rfl⟩
  have hall := hkeeps.trans (State.meterLimits_rest _).2.2
  rw [← hbounded, ← State.meterStep_limits] at hall
  obtain ⟨k1, k2⟩ := hall
  rw [hrecord] at k1 k2
  obtain ⟨r', hr', hg'⟩ := Option.map_eq_some_iff.mp k1
  refine ⟨r', hr', hg', ?_⟩
  rw [hr'] at k2
  refine (Option.some.inj k2).trans ?_
  show (if (z.measures forward time).uncompensated = true then none
    else some (((z.measures forward time).comp + 5000) / 10000)) = _
  rw [m1, m2]

theorem State.meterStep_noBoundary {s : State} {forward : Bool} (time : Nat)
    (hb : (s.turned forward time).meter.gross = s.meter.gross) :
    s.NoBoundary (s.meterStep forward time).commitNotices := by
  obtain ⟨hmeter, _⟩ := s.meterStep_rest forward time
  have hstep : s.stepMeter forward time = (s.turned forward time).meter := if_neg (Classical.not_not.mpr hb)
  have hbounded : s.bounded forward time = s.turned forward time := if_neg (Classical.not_not.mpr hb)
  obtain ⟨h1, h2, h3, h4, h5, _⟩ := s.turned_measures forward time
  rw [hstep] at hmeter
  have hkeeps := (State.KeepsVolumes.of_eq (s.turned_supply forward time)).trans (State.meterLimits_rest _).2.2
  rw [← hbounded, ← State.meterStep_limits] at hkeeps
  exact ⟨(congrArg Meter.comp hmeter :).trans h1, (congrArg Meter.uncompensated hmeter :).trans h2,
    (congrArg Meter.flowRate hmeter :).trans h3, (congrArg Meter.lastBoundary hmeter :).trans h4,
    (congrArg Meter.flowTimer hmeter :).trans h5, hkeeps.1, hkeeps.2⟩

/-! ## The timers of the activity (R114 to R118, R136) -/

theorem Activity.stepped_of_flows {a : Activity} (forward : Bool) (full : Timer) (h : a.state.flows = true) :
    a.stepped forward full = if forward || a.noFlow.isNone then { a with noFlow := none, full } else a := by
  unfold Activity.stepped
  cases hs : a.state with
  | flowing | slowing => rfl
  | _ => rw [hs] at h; cases h

theorem Activity.stepped_of_stopping {a : Activity} (forward : Bool) (full : Timer) (h : a.state = .stopping) :
    a.stepped forward full = { a with settle := some 2000000 } := by
  rw [Activity.stepped, h]

theorem Activity.stepped_of_other {a : Activity} (forward : Bool) (full : Timer) (h : a.state.flows = false)
    (hs : a.state ≠ .stopping) : a.stepped forward full = a := by
  unfold Activity.stepped
  split
  case h_1 h' => exact absurd h' hs
  case h_2 h' => rw [h'] at h; cases h
  case h_3 h' => rw [h'] at h; cases h
  case h_4 => rfl

theorem State.fullPeriod_of_settings {s : State} {c : Settings} (h : s.settings = some c) :
    s.fullPeriod = if c.role = .receipt then none else some 5000000 := by
  unfold State.fullPeriod
  rw [State.role_of_settings h]
  cases c.role <;> rfl

/-- A step without a forward boundary makes no crossing. -/
theorem State.bounded_of_uncrossed {s : State} {forward : Bool} (time : Nat)
    (h : ¬(forward = true ∧ (s.turned forward time).meter.gross ≠ s.meter.gross)) :
    (s.bounded forward time).activity = (s.turned forward time).activity := by
  unfold State.bounded
  split
  next hb =>
    have hf : forward ≠ true := fun hf => h ⟨hf, hb⟩
    rw [State.boundary_eq, if_neg hf, State.measured_eq]
  next => rfl

theorem State.bounded_of_crossed {s : State} {time : Nat} (h : (s.turned true time).meter.gross ≠ s.meter.gross) :
    s.bounded true time = ((s.turned true time).measured true time).activityBoundary := if_pos h

/-- The stop point has been passed by a forward boundary. -/
abbrev State.PassesStop (forward : Bool) (time : Nat) (s : State) : Prop :=
  (forward = true ∧ (s.turned forward time).meter.gross ≠ s.meter.gross)
    ∧ ∃ x ∈ s.activity.points, x.stop ≤ (s.turned forward time).meter.gross

theorem State.bounded_of_flows {s : State} (forward : Bool) (time : Nat) (hf : s.activity.state.flows = true) :
    (s.PassesStop forward time → ∃ v r, s.bounded forward time = State.stopWith r v)
      ∧ (¬s.PassesStop forward time →
        (s.bounded forward time).activity = { s.activity.stepped forward s.fullPeriod with
          state := (s.bounded forward time).activity.state, points := (s.bounded forward time).activity.points }
        ∧ (s.bounded forward time).activity.state.flows = true) := by
  obtain ⟨hstate, hpoints⟩ := s.turned_state forward time
  by_cases hc : forward = true ∧ (s.turned forward time).meter.gross ≠ s.meter.gross
  · obtain ⟨rfl, hb⟩ := hc
    rw [State.bounded_of_crossed hb]
    let y := (s.turned true time).measured true time
    have hy : y.activity = s.activity.stepped true s.fullPeriod := by
      refine Eq.trans ?_ (s.turned_activity true time)
      exact (congrArg State.activity ((s.turned true time).measured_eq true time) :)
    have hyf : y.activity.state.flows = true := by
      rw [hy, Activity.stepped_eq]
      exact hf
    have hyp : y.activity.points = s.activity.points := by rw [hy, Activity.stepped_eq]
    have hyg : y.meter.gross = (s.turned true time).meter.gross := by
      refine Eq.trans ?_ ((s.turned true time).measures_gross true time)
      exact (congrArg (fun x : State => x.meter.gross) ((s.turned true time).measured_eq true time) :)
    cases hp : s.activity.points with
    | none =>
      have heq : y.activityBoundary = y := by rw [State.activityBoundary, hyp, hp]
      refine ⟨fun h => ?_, fun _ => ?_⟩
      · obtain ⟨_, x, hx, _⟩ := h
        rw [hp] at hx
        cases hx
      · rw [heq, ← hy]
        exact ⟨rfl, hyf⟩
    | some p =>
      have heq := State.activityBoundary_of_flows (s := y) (hyp.trans hp) hyf
      obtain ⟨hact, hflows, _⟩ := y.crosses_spec p
      rw [hyg] at heq
      refine ⟨fun h => ?_, fun h => ?_⟩
      · obtain ⟨_, x, hx, hle⟩ := h
        rw [hp] at hx
        cases hx
        rw [heq, if_pos hle]
        exact ⟨_, _, rfl⟩
      · rw [heq, if_neg fun hle => h ⟨⟨rfl, hb⟩, p, hp, hle⟩, ← hy]
        exact ⟨hact, hflows.trans hyf⟩
  · refine ⟨fun h => absurd h.1 hc, fun _ => ?_⟩
    rw [State.bounded_of_uncrossed time hc, State.turned_activity]
    rw [State.turned_activity] at hstate
    exact ⟨rfl, by rw [hstate]; exact hf⟩

/-- Out of FLOWING and SLOWING a step touches the settle timer of STOPPING alone, but for an overrun. -/
theorem State.bounded_of_still {s : State} {forward : Bool} {time : Nat} (hf : s.activity.state.flows = false)
    (h : s.activity.state = .stopping → (forward = true ∧ (s.turned forward time).meter.gross ≠ s.meter.gross) →
      ∀ x ∈ s.activity.points, (s.turned forward time).meter.gross ≤ x.overrun) :
    (s.bounded forward time).activity = s.activity.stepped forward s.fullPeriod := by
  by_cases hc : forward = true ∧ (s.turned forward time).meter.gross ≠ s.meter.gross
  · obtain ⟨rfl, hb⟩ := hc
    have hmeasured := (s.turned true time).measured_eq true time
    have hact : ((s.turned true time).measured true time).activity = s.activity.stepped true s.fullPeriod := by
      rw [hmeasured]
      exact s.turned_activity true time
    obtain ⟨hstate, hpoints⟩ := s.turned_state true time
    rw [State.bounded_of_crossed hb, State.activityBoundary_of_still, hact]
    · rw [hmeasured]
      exact (congrArg ActState.flows hstate).trans hf
    · intro hs x hx
      rw [hmeasured] at hs hx ⊢
      exact Int.le_trans (Int.le_of_eq ((s.turned true time).measures_gross true time))
        (h (hstate.symm.trans hs) ⟨rfl, hb⟩ x (hpoints ▸ hx))
  · rw [State.bounded_of_uncrossed time hc, State.turned_activity]

theorem State.meterStep_timers {s : State} {c : Settings} {forward : Bool} {time : Nat} (h : s.settings = some c) :
    s.StepTimers c forward (s.turned forward time).meter.gross (s.turned forward time).meter.reverse
      (s.meterStep forward time).commitNotices := by
  have hfull := State.fullPeriod_of_settings h
  have hlimits : (s.bounded forward time).meter.reverse = (s.turned forward time).meter.reverse
      ∧ (s.bounded forward time).meter.phaseErrors = s.meter.phaseErrors := by
    obtain ⟨hmeter, _⟩ := s.bounded_rest forward time
    refine ⟨?_, (congrArg Meter.phaseErrors hmeter :).trans (State.stepMeter_counts forward time h).2.2.1⟩
    refine (congrArg Meter.reverse hmeter :).trans ?_
    unfold State.stepMeter
    split
    · rw [State.measures_eq]
      rfl
    · rfl
  rw [State.StepTimers]
  refine ⟨fun hf hstops => ?_, fun hf hstops => ?_, fun hs hover => ?_, fun hf hs => ?_⟩
  · have hpass : ¬s.PassesStop forward time := fun hp => hstops (.inl hp)
    obtain ⟨hact, hflows⟩ := (s.bounded_of_flows forward time hf).2 hpass
    have heq : s.meterStep forward time = s.bounded forward time := by
      refine State.meterLimits_of_within (s := s.bounded forward time) (.inr ?_)
      rw [hlimits.1, hlimits.2]
      exact ⟨Int.not_lt.mp fun h' => hstops (.inr (.inl h')), Nat.not_lt.mp fun h' => hstops (.inr (.inr h'))⟩
    rw [State.commitNotices_activity, heq]
    refine ⟨hflows, ?_, ?_, fun hor => ?_, fun hback hsome => ?_⟩
    · rw [hact, Activity.stepped_of_flows _ _ hf]
      split <;> rfl
    · rw [hact, Activity.stepped_of_flows _ _ hf]
      split <;> rfl
    · have hcond : (forward || s.activity.noFlow.isNone) = true := by
        rcases hor with h' | h' <;> simp [h']
      rw [hact, Activity.stepped_of_flows _ _ hf, if_pos hcond, ← hfull]
      exact ⟨rfl, rfl⟩
    · have hcond : (forward || s.activity.noFlow.isNone) = false := by
        rw [hback, ← Option.not_isSome, hsome]
        rfl
      rw [hact, Activity.stepped_of_flows _ _ hf, if_neg (ne_true_of_eq_false hcond)]
      exact ⟨rfl, rfl⟩
  · have hstopped : ∃ v r, s.meterStep forward time = State.stopWith r v := by
      by_cases hpass : s.PassesStop forward time
      · obtain ⟨v, r, hv⟩ := (s.bounded_of_flows forward time hf).1 hpass
        refine ⟨v, r, Eq.trans ?_ hv⟩
        refine State.meterLimits_of_within (s := s.bounded forward time) (.inl ?_)
        rw [hv, State.stopWith_activity]
        rfl
      · obtain ⟨_, hflows⟩ := (s.bounded_of_flows forward time hf).2 hpass
        obtain ⟨r, hr⟩ := State.meterLimits_of_beyond hflows (by
          rw [hlimits.1, hlimits.2]
          exact hstops.resolve_left hpass)
        exact ⟨_, r, hr⟩
    obtain ⟨v, r, hv⟩ := hstopped
    rw [State.commitNotices_activity, hv, State.stopWith_activity]
    exact ⟨rfl, rfl, rfl, rfl, rfl⟩
  · have hf : s.activity.state.flows = false := by rw [hs]; rfl
    have hact := State.bounded_of_still (time := time) hf fun _ hc => hover hc
    have heq : s.meterStep forward time = s.bounded forward time := by
      refine State.meterLimits_of_within (s := s.bounded forward time) (.inl ?_)
      rw [hact, Activity.stepped_eq]
      exact hf
    rw [State.commitNotices_activity, heq, hact, Activity.stepped_of_stopping _ _ hs]
  · have hact := State.bounded_of_still (forward := forward) (time := time) hf fun h' => absurd h' hs
    have heq : s.meterStep forward time = s.bounded forward time := by
      refine State.meterLimits_of_within (s := s.bounded forward time) (.inl ?_)
      rw [hact, Activity.stepped_eq]
      exact hf
    rw [State.commitNotices_activity, heq, hact, Activity.stepped_of_other _ _ hf hs]

/-! ## A phase error (R88) -/

theorem State.phaseError_spec {s : State} : s.phaseError.meter = { s.meter with phaseErrors := countUp s.meter.phaseErrors }
    ∧ s.KeepsVolumes s.phaseError
    ∧ ((s.activity.state.flows = true → s.meter.rev / 100000 ≤ 10 ∧ s.meter.phaseErrors < 8) →
      s.phaseError.activity = s.activity) := by
  let y : State := { s with meter := { s.meter with phaseErrors := countUp s.meter.phaseErrors } }
  obtain ⟨h1, _, h3⟩ := y.meterLimits_rest
  refine ⟨h1, h3, fun h => ?_⟩
  have heq : y.meterLimits = y := by
    refine State.meterLimits_of_within ?_
    cases hf : s.activity.state.flows with
    | false => exact .inl rfl
    | true =>
      obtain ⟨hrev, hphase⟩ := h hf
      refine .inr ⟨hrev, ?_⟩
      show countUp s.meter.phaseErrors ≤ 8
      rw [countUp]
      split <;> omega
  exact (congrArg State.activity heq :)

/-- What a step, forward or back, comes to. -/
theorem State.meterStep_spec {s : State} {c : Settings} (forward : Bool) (time : Nat) (h : s.settings = some c)
    (hraised : s.console.raised = []) :
    let t := (s.meterStep forward time).commitNotices
    let acc := clamp47 (if forward then s.meter.acc + c.pulse else s.meter.acc - c.pulse)
    let rev := if forward then s.meter.rev else clamp47 (s.meter.rev + c.pulse)
    t.meter.acc = acc ∧ t.meter.rev = rev ∧ t.meter.phaseErrors = s.meter.phaseErrors
      ∧ t.meter.position = s.meter.position ∧ t.meter.lastStep = some time
      ∧ t.meter.recentTimer = s.meter.recentTimer ∧ s.UnauthStep c forward t
      ∧ s.StepTimers c forward (acc / 100000) (rev / 100000) t
      ∧ (acc / 100000 ≠ s.meter.acc / 100000 → s.BoundaryTaken c time forward (acc / 100000) t)
      ∧ (acc / 100000 = s.meter.acc / 100000 → s.NoBoundary t) := by
  intro t acc rev
  obtain ⟨hmeter, _⟩ := s.meterStep_rest forward time
  obtain ⟨h1, h2, h3, h4, h5, h6⟩ := State.stepMeter_counts forward time h
  have hgross : (s.turned forward time).meter.gross = acc / 100000 := State.turned_gross forward time h
  have hreverse : (s.turned forward time).meter.reverse = rev / 100000 := by
    unfold State.stepMeter at h2
    split at h2
    · rw [State.measures_eq] at h2
      exact congrArg (· / 100000) h2
    · exact congrArg (· / 100000) h2
  have htimers := State.meterStep_timers (forward := forward) (time := time) h
  rw [hgross, hreverse] at htimers
  refine ⟨(congrArg Meter.acc hmeter :).trans h1, (congrArg Meter.rev hmeter :).trans h2,
    (congrArg Meter.phaseErrors hmeter :).trans h3, (congrArg Meter.position hmeter :).trans h4,
    (congrArg Meter.lastStep hmeter :).trans h5, (congrArg Meter.recentTimer hmeter :).trans h6,
    State.meterStep_unauth forward time h hraised, htimers, fun hb => ?_, fun hb => ?_⟩
  · rw [← hgross]
    exact State.meterStep_boundary time h (by rw [hgross]; exact hb)
  · exact State.meterStep_noBoundary time (by rw [hgross]; exact hb)

end Sys2Proof.Machine
end

section
/-! The sensor pattern and the meter (R87 to R94, R98, R99). -/

namespace Sys2Proof.Machine

/-- Settles O48. -/
theorem meterStepsCount : Obligations.MeterStepsCount := by
  refine ⟨fun factors temp => ?_, fun s time held levels c q p => ⟨fun h => ?_, fun h => ?_, fun h => ?_,
    fun cells hlive hrun hset hcells hp => ⟨fun hq => ?_, fun hq => ?_⟩⟩⟩
  · intro x
    have hlow (h : temp ≤ -200) : x = factors.getD 0 10000 := if_pos h
    refine ⟨hlow, fun h => ?_, fun i hi hlo hhi => ?_⟩
    · exact (if_neg (by omega)).trans (if_pos h)
    · intro lo hi' line
      by_cases h : temp ≤ -200
      · have hzero : i = 0 := by omega
        have hx : x = lo := by
          subst hzero
          exact hlow h
        have hline : line = 100 * lo := by
          have htemp : temp + 200 - 100 * (i : Int) = 0 := by omega
          simp only [line, htemp, Int.mul_zero, Int.add_zero]
        rw [hx, hline]
        omega
      · have hx : x = interpolate lo hi' (temp + 200 - 100 * i) := compFactor_of_between hi hlo hhi h
        rw [hx]
        exact interpolate_near lo hi' _
  · have hlive := h.1.1
    have hset : s.settings = some c := h.1.2.2.1
    obtain ⟨cells, heq⟩ := State.pattern_of_forward h
    exact ⟨_, exec_of_eq (f := State.pattern time held levels) rfl hlive heq,
      State.meterStep_spec (s := (s.sees cells).setPosition p) true time hset hlive.2⟩
  · have hlive := h.1.1
    have hset : s.settings = some c := h.1.2.2.1
    obtain ⟨cells, heq⟩ := State.pattern_of_back h
    exact ⟨_, exec_of_eq (f := State.pattern time held levels) rfl hlive heq,
      State.meterStep_spec (s := (s.sees cells).setPosition p) false time hset hlive.2⟩
  · have hlive := h.1.1
    obtain ⟨cells, heq⟩ := State.pattern_of_wrong h
    obtain ⟨h1, ⟨h2, h3⟩, h4⟩ := State.phaseError_spec (s := (s.sees cells).setPosition
      (if forwardOf c.sensors q = some p ∨ forwardOf c.sensors p = some q ∨ legal c.sensors p = true then p else q))
    refine ⟨_, exec_of_eq (f := State.pattern time held levels) rfl hlive heq, (congrArg Meter.acc h1 :),
      (congrArg Meter.rev h1 :), (congrArg Meter.lastStep h1 :), (congrArg Meter.phaseErrors h1 :),
      (congrArg Meter.position h1 :), (congrArg Meter.recentTimer h1 :), ⟨(congrArg Meter.comp h1 :),
      (congrArg Meter.uncompensated h1 :), (congrArg Meter.flowRate h1 :), (congrArg Meter.lastBoundary h1 :),
      (congrArg Meter.flowTimer h1 :), h2, h3⟩, h4⟩
  · refine exec_of_quiet (f := State.pattern time held levels) rfl hlive ?_ rfl
    have hjudge : judge c.sensors s.meter p time = .same := by
      rw [judge, hq]
      exact if_pos rfl
    rw [State.pattern_eq hrun hset hcells, hp, hjudge]
    rfl
  · refine exec_of_quiet (f := State.pattern time held levels) rfl hlive ?_ rfl
    have heq := State.pattern_of_first (time := time) hrun hset hcells hq
    rw [hp] at heq
    exact heq

end Sys2Proof.Machine
end

section
/-! Volumes that pass a limit end a metered activity (R113 to R119, R132, R137, R138, R165, R167). -/

namespace Sys2Proof.Machine

/-! ## The station at a forward boundary -/

theorem State.measured_turned_eq (forward : Bool) (time : Nat) (s : State) :
    let y := (s.turned forward time).measured forward time
    y = { s with
      meter := y.meter, activity := s.activity.stepped forward s.fullPeriod, console := y.console
      supply := { s.supply with record :=
        if s.supply.phase = .running then s.supply.record.map fun r =>
          { r with gross := y.meter.gross, comp := y.meter.reportedComp }
        else s.supply.record } } := by
  obtain ⟨m, c, h⟩ : ∃ m c, s.turned forward time =
      { s with meter := m, activity := s.activity.stepped forward s.fullPeriod, console := c } :=
    ⟨_, _, s.turned_eq forward time⟩
  dsimp only
  rw [h, State.measured_eq]

/-- A station `y` that has taken a forward boundary of `s`: the volumes stand, the crossings are to come. -/
structure State.AtBoundary (c : Settings) (gross : Int) (s y : State) : Prop where
  gross : y.meter.gross = gross
  comp : y.meter.reportedComp = if s.meter.uncompensated || s.meter.tmp.reading.isNone then none
    else some ((s.meter.comp + boundaryWeight c s.meter + 5000) / 10000)
  limits : y.meter.reverse = s.meter.rev / 100000 ∧ y.meter.phaseErrors = s.meter.phaseErrors
  activity : ∃ f, y.activity = s.activity.stepped true f
  rest : y = { s with
    meter := y.meter, activity := y.activity, console := y.console
    supply := { s.supply with record :=
      if s.supply.phase = .running then s.supply.record.map fun r =>
        { r with gross := y.meter.gross, comp := y.meter.reportedComp }
      else s.supply.record } }
  config : s.settings = some c
  settings : y.settings = some c
  raises : s.Raises 1 y

theorem State.atBoundary {s : State} {time : Nat} {c : Settings} (hset : s.settings = some c) :
    s.AtBoundary c (clamp47 (s.meter.acc + c.pulse) / 100000) ((s.turned true time).measured true time) := by
  have hrest := s.measured_turned_eq true time
  have hmeasured := (s.turned true time).measured_eq true time
  have hmeter : ((s.turned true time).measured true time).meter = (s.turned true time).measures true time :=
    congrArg State.meter hmeasured
  have hgross := (s.turned true time).measures_gross true time
  have hsettings : (s.turned true time).settings = some c := (s.turned_settings true time).trans hset
  obtain ⟨h1, h2, _⟩ := State.measures_of_settings true time hsettings
  obtain ⟨g1, g2, _, _, _, g6⟩ := s.turned_measures true time
  have hweight : boundaryWeight c (s.turned true time).meter = boundaryWeight c s.meter := by
    rw [boundaryWeight, g6, boundaryWeight]
  have hcounts : ((s.turned true time).measures true time).reverse = (s.turned true time).meter.reverse
      ∧ ((s.turned true time).measures true time).phaseErrors = (s.turned true time).meter.phaseErrors := by
    rw [State.measures_eq]
    exact ⟨rfl, rfl⟩
  have hturned : (s.turned true time).meter.reverse = s.meter.rev / 100000
      ∧ (s.turned true time).meter.phaseErrors = s.meter.phaseErrors := by
    rw [State.turned_eq, State.turns, Meter.unauthStep_eq]
    exact ⟨rfl, rfl⟩
  have hconsole : ((s.turned true time).measured true time).console = (s.turned true time).console :=
    (congrArg State.console hmeasured :)
  refine ⟨?_, ?_, ?_, ⟨_, (congrArg State.activity hrest :)⟩, ?_, hset, ?_, ?_⟩
  · rw [hmeter, hgross]
    exact State.turned_gross true time hset
  · rw [hmeter, Meter.reportedComp, Meter.compVolume, h1, h2, g1, g2, g6, hweight]
    rfl
  · rw [hmeter, hcounts.1, hcounts.2]
    exact hturned
  · have hact : ((s.turned true time).measured true time).activity = _ := congrArg State.activity hrest
    rw [hact]
    exact hrest
  · rw [State.settings, hconsole]
    exact hsettings
  · rw [State.Raises, hconsole]
    exact s.turned_raises true time

theorem State.meterStep_of_crossed {s : State} {time : Nat} {c : Settings} (hset : s.settings = some c)
    (hb : clamp47 (s.meter.acc + c.pulse) / 100000 ≠ s.meter.acc / 100000) :
    ∃ y, s.AtBoundary c (clamp47 (s.meter.acc + c.pulse) / 100000) y
      ∧ s.meterStep true time = y.activityBoundary.meterLimits := by
  have hgross : (s.turned true time).meter.gross ≠ s.meter.gross :=
    (State.turned_gross true time hset).symm ▸ hb
  exact ⟨_, State.atBoundary (time := time) hset,
    (congrArg State.meterLimits (State.bounded_of_crossed hgross) :)⟩

section
variable {s y : State} {c : Settings} {gross : Int}

theorem State.AtBoundary.state (h : s.AtBoundary c gross y) :
    y.activity.state = s.activity.state ∧ y.activity.points = s.activity.points
      ∧ y.activity.openSeq = s.activity.openSeq := by
  obtain ⟨f, hf⟩ := h.activity
  rw [hf, Activity.stepped_eq]
  exact ⟨rfl, rfl, rfl⟩

theorem State.AtBoundary.link (h : s.AtBoundary c gross y) : y.link = s.link := (congrArg State.link h.rest :)
theorem State.AtBoundary.engine (h : s.AtBoundary c gross y) : y.engine = s.engine := (congrArg State.engine h.rest :)
theorem State.AtBoundary.replica (h : s.AtBoundary c gross y) : y.replica = s.replica :=
  (congrArg State.replica h.rest :)
theorem State.AtBoundary.clock (h : s.AtBoundary c gross y) : y.clock = s.clock := (congrArg State.clock h.rest :)
theorem State.AtBoundary.outputs (h : s.AtBoundary c gross y) : y.outputs = s.outputs :=
  (congrArg State.outputs h.rest :)

theorem State.AtBoundary.supply (h : s.AtBoundary c gross y) : y.supply = { s.supply with
    record := if s.supply.phase = .running then s.supply.record.map fun r =>
        { r with gross := gross, comp := y.meter.reportedComp }
      else s.supply.record } := by
  rw [← h.gross]
  exact (congrArg State.supply h.rest :)

/-- Whatever the volumes, there is a record or none. -/
theorem State.AtBoundary.record_map (h : s.AtBoundary c gross y) (r : Reason) :
    (y.supply.record.map fun _ => r) = s.supply.record.map fun _ => r := by
  have hrecord : y.supply.record = _ := congrArg Supply.record h.supply
  rw [hrecord]
  split
  · cases s.supply.record <;> rfl
  · rfl

end

end Sys2Proof.Machine
end

section
/-! Limits that stop the fill, as an obligation (R113 to R119, R132, R137, R138, R165, R167). -/

namespace Sys2Proof.Machine

theorem State.meterLimits_of_stopped (r : Reason) (v : State) : (v.stopWith r).meterLimits = v.stopWith r :=
  State.meterLimits_of_within (.inl (by rw [State.stopWith_activity]; rfl))

theorem State.stopsFor_of_record {s v : State} {r : Reason}
    (h : (v.supply.record.map fun _ => r) = s.supply.record.map fun _ => r) :
    s.StopsFor r (v.stopWith r).commitNotices := by
  obtain ⟨h1, h2, h3, h4, h5, h6, h7, h8, h9⟩ := v.stopWith_stopsFor r
  exact ⟨h1, h2, h3, h4, h5, h6, h7, h8, h9.trans h⟩

section
variable {s y : State} {c : Settings} {gross : Int} {p : ComparePoints}

/-- The crossings of a boundary of `s`, by what they leave. -/
theorem State.AtBoundary.crossed (h : s.AtBoundary c gross y) (hf : s.activity.state.flows = true)
    (hp : s.activity.points = some p) :
    y.activityBoundary = (if p.stop ≤ gross then (y.crosses p).stopWith (if c.role = .receipt then .limit else .preset)
        else y.crosses p)
      ∧ (y.crosses p).activity.state.flows = true ∧ (y.crosses p).meter = y.meter ∧ (y.crosses p).supply = y.supply := by
  obtain ⟨hstate, hpoints, _⟩ := h.state
  obtain ⟨_, hflows, hmeter, hsupply, hsettings, _⟩ := y.crosses_spec p
  have hyf : y.activity.state.flows = true := (congrArg ActState.flows hstate).trans hf
  refine ⟨?_, hflows.trans hyf, hmeter, hsupply⟩
  rw [State.activityBoundary_of_flows (hpoints.trans hp) hyf, h.gross,
    State.stopReason_of_settings (hsettings.trans h.settings)]

/-- A progress point that is crossed is offered and moved, whatever stops the flow with it. -/
theorem State.AtBoundary.progress (h : s.AtBoundary c gross y) (hf : s.activity.state.flows = true)
    (hp : s.activity.points = some p) (hle : p.progress ≤ gross) :
    let step : Nat := if c.role = .receipt then 10000 else c.progressStep
    let t := y.activityBoundary.meterLimits
    t.activity.points = some (p.moved step)
      ∧ t.link = s.link.offer .activity 0 (.progress (s.activity.openSeq.getD 0) gross.toNat) := by
  obtain ⟨hstate, _, hopen⟩ := h.state
  obtain ⟨heq, _, _, _⟩ := h.crossed hf hp
  obtain ⟨_, _, _, _, _, _, _, hcross⟩ := y.crosses_spec p
  obtain ⟨hpoints, hlink⟩ := hcross ((congrArg ActState.flows hstate).trans hf) (by rw [h.gross]; exact hle)
  rw [State.progressStep_of_settings h.settings] at hpoints
  rw [h.link, hopen, h.gross] at hlink
  have hstops (v : State) (r : Reason) : (v.stopWith r).activity.points = v.activity.points
      ∧ (v.stopWith r).link = v.link := by
    rw [State.stopWith_activity, State.stopWith_link]
    exact ⟨rfl, rfl⟩
  have hboundary : y.activityBoundary.activity.points = (y.crosses p).activity.points
      ∧ y.activityBoundary.link = (y.crosses p).link := by
    rw [heq]
    split
    · exact hstops _ _
    · exact ⟨rfl, rfl⟩
  have hlimits : y.activityBoundary.meterLimits.activity.points = y.activityBoundary.activity.points
      ∧ y.activityBoundary.meterLimits.link = y.activityBoundary.link := by
    rcases y.activityBoundary.meterLimits_cases with h' | ⟨r, h'⟩ <;> rw [h']
    · exact ⟨rfl, rfl⟩
    · exact hstops _ r
  exact ⟨hlimits.1.trans (hboundary.1.trans hpoints), hlimits.2.trans (hboundary.2.trans hlink)⟩

end

/-! ## Overrun (R119, R138, R165, R167) -/

theorem State.closingFrame_of_settings {s : State} {c : Settings} (h : s.settings = some c) :
    s.closingFrame = if c.role = .receipt then .deliveryClose s.closing else .close s.closing := by
  unfold State.closingFrame
  rw [State.role_of_settings h]
  cases c.role <;> rfl

theorem State.endWithoutWriteBack_of_fault {s : State} (h : s.activity.faultPending = true) :
    s.endWithoutWriteBack = s.releaseResult.enterFaultedValve :=
  if_pos (by rw [State.releaseResult_activity]; exact h)

section
variable {y : State}

/-- What an overrun leaves of the activity while the closing frame is offered. -/
theorem State.overrun_of_closing (hl : y.activity.linkLost = false) (ha : y.engine.admitted = true) :
    y.overrun = y.overruns.activityEnded.offerClose
      ∧ y.overrun.activity = { y.activity.stopTimers with
        state := .closing, endReason := some .overrun, faultPending := true }
      ∧ y.overrun.link = y.link.offer .activity 0 y.overruns.activityEnded.closingFrame
      ∧ y.overrun.supply = { y.supply with
        phase := .ending, record := y.supply.record.map fun r => { r with endReason := some .overrun } } := by
  have hcond : (y.overruns.activity.linkLost || !y.overruns.engine.admitted) = false := by
    show (y.activity.linkLost || !y.engine.admitted) = false
    rw [hl, ha]
    rfl
  have heq : y.overrun = y.overruns.activityEnded.offerClose := by
    rw [State.overrun_eq, State.endStopping_eq, hcond]
    rfl
  refine ⟨heq, ?_, ?_, ?_⟩
  · rw [heq, State.offerClose, State.enterAct_activity]
    rfl
  · rw [heq, State.offerClose, State.enterAct_link]
    rfl
  · rw [heq, State.offerClose, State.enterAct_supply]
    rfl

/-- The station that has overrun with the link lost, its record to be held. -/
theorem State.overrun_of_lost (h : y.activity.linkLost = true ∨ y.engine.admitted = false) :
    y.overrun = y.overruns.endsLinkLost.holdRecord
      ∧ y.overruns.endsLinkLost.activity = { y.activity.stopTimers with
        state := .faulted, endReason := some .overrun, faultPending := false, linkLost := false }
      ∧ y.overruns.endsLinkLost.core = y.overruns.activityEnded.core
      ∧ y.overruns.Raises 1 y.overruns.endsLinkLost := by
  have hcond : (y.overruns.activity.linkLost || !y.overruns.engine.admitted) = true := by
    show (y.activity.linkLost || !y.engine.admitted) = true
    rcases h with h | h <;> simp [h]
  let z : State := { y.overruns.activityEnded with
    activity := { y.overruns.activityEnded.activity with linkLost := false } }
  have hz : y.overruns.endsLinkLost = z.releaseResult.enterFaultedValve := State.endWithoutWriteBack_of_fault rfl
  refine ⟨?_, ?_, ?_, ?_⟩
  · rw [State.overrun_eq, State.endStopping_eq, hcond]
    rfl
  · rw [hz, State.enterFaultedValve_activity, State.releaseResult_activity]
    rfl
  · rw [hz, State.enterFaultedValve_core, State.releaseResult_core]
    rfl
  · rw [hz]
    have hreleased : y.overruns.Raises 0 z.releaseResult := z.releaseResult_raises
    exact hreleased.trans (State.enterAct_raises .faulted
      { z.releaseResult with activity := { z.releaseResult.activity with faultPending := false } })

end

/-- A STOPPING that an overrun ends. -/
theorem State.AtBoundary.overran {s y : State} {c : Settings} {gross : Int} {p : ComparePoints}
    (h : s.AtBoundary c gross y) (hs : s.activity.state = .stopping) (hp : s.activity.points = some p)
    (hlt : p.overrun < gross) : y.activityBoundary.meterLimits = y.overrun
      ∧ y.overrun.activity.endReason = some .overrun ∧ y.overrun.activity.settle = none
      ∧ y.overrun.activity.limit = none := by
  obtain ⟨hstate, hpoints, _⟩ := h.state
  have hboundary := State.activityBoundary_of_overrun (hstate.trans hs) (hpoints.trans hp) (by rw [h.gross]; exact hlt)
  have hact : y.overrun.activity.endReason = some .overrun ∧ y.overrun.activity.settle = none
      ∧ y.overrun.activity.limit = none ∧ y.overrun.activity.state.flows = false := by
    by_cases hl : y.activity.linkLost = true ∨ y.engine.admitted = false
    · obtain ⟨heq, ha, _⟩ := State.overrun_of_lost hl
      rw [heq, (State.holdRecord_rest _).1, ha]
      exact ⟨rfl, rfl, rfl, rfl⟩
    · obtain ⟨_, ha, _⟩ := State.overrun_of_closing (y := y) (by simpa using fun h => hl (.inl h))
        (by simpa using fun h => hl (.inr h))
      rw [ha]
      exact ⟨rfl, rfl, rfl, rfl⟩
  rw [hboundary, State.meterLimits_of_within (.inl hact.2.2.2)]
  exact ⟨rfl, hact.1, hact.2.1, hact.2.2.1⟩

theorem State.AtBoundary.closing {s y : State} {c : Settings} {gross : Int} (h : s.AtBoundary c gross y) :
    let comp : Option Int := if s.meter.uncompensated || s.meter.tmp.reading.isNone then none
      else some ((s.meter.comp + boundaryWeight c s.meter + 5000) / 10000)
    let k : Closing :=
      { openSeq := s.activity.openSeq.getD 0, gross := max 0 gross, comp := comp.map Int.toNat, endReason := .overrun
        overrun := max 0 (gross - s.activity.stopVolume.getD 0), hours := s.activity.result.bind IdResult.hours
        endTime := s.clock }
    y.overruns.activityEnded.closingFrame = if c.role = .receipt then .deliveryClose k else .close k := by
  intro comp k
  have hsettings : y.overruns.activityEnded.settings = some c := h.settings
  obtain ⟨f, hf⟩ := h.activity
  have hact : y.activity.openSeq = s.activity.openSeq ∧ y.activity.stopVolume = s.activity.stopVolume
      ∧ y.activity.result = s.activity.result := by
    rw [hf, Activity.stepped_eq]
    exact ⟨rfl, rfl, rfl⟩
  obtain ⟨hopen, hstop, hresult⟩ := hact
  have hk : y.overruns.activityEnded.closing = k := by
    show ({ openSeq := y.activity.openSeq.getD 0, gross := max 0 y.meter.gross
            comp := y.meter.reportedComp.map Int.toNat, endReason := .overrun
            overrun := max 0 (y.meter.gross - y.activity.stopVolume.getD 0)
            hours := y.activity.result.bind IdResult.hours, endTime := y.clock } : Closing) = k
    rw [hopen, hstop, hresult, h.gross, h.comp, h.clock]
  rw [State.closingFrame_of_settings hsettings, hk]

/-- The record held behind an overrun. -/
theorem State.AtBoundary.overran_lost {s y : State} {c : Settings} {gross : Int} (h : s.AtBoundary c gross y)
    (hraised : s.console.raised = []) (hl : s.activity.linkLost = true ∨ s.engine.admitted = false) :
    let comp : Option Int := if s.meter.uncompensated || s.meter.tmp.reading.isNone then none
      else some ((s.meter.comp + boundaryWeight c s.meter + 5000) / 10000)
    let t := y.overrun.commitNotices
    t.activity.state = .faulted ∧ t.activity.linkLost = false
      ∧ (s.engine.admitted = false ∨ s.engine.freeze = true ∨ s.supply.waitCensus = true →
        t.link = s.link ∧ t.supply.phase = .held
          ∧ t.supply.record.bind ActRecord.endReason = s.supply.record.map fun _ => .overrun)
      ∧ ∀ r e, s.engine.admitted = true → s.engine.freeze = false → s.supply.waitCensus = false →
        s.supply.record = some r → s.supply.phase = .running → s.replica.station? s.me = some e →
        s.Recovers { r with gross, comp, endReason := some .overrun } e t (room := 6) := by
  intro comp t
  obtain ⟨f, hf⟩ := h.activity
  have hlost : y.activity.linkLost = s.activity.linkLost := by
    rw [hf, Activity.stepped_eq]
  obtain ⟨heq, hact, hcore, hraises⟩ := State.overrun_of_lost (y := y) (by rw [hlost, h.engine]; exact hl)
  let w := y.overruns.endsLinkLost
  have hengine : w.engine = s.engine := (State.engine_of_core hcore :).trans h.engine
  have hsupply : w.supply = { y.supply with
      record := y.supply.record.map fun r => { r with endReason := some .overrun } } :=
    (State.supply_of_core hcore :)
  have hcensus : w.supply.waitCensus = s.supply.waitCensus := by
    rw [hsupply, h.supply]
  have hlink : w.link = s.link := (State.link_of_core hcore :).trans h.link
  have htact : t.activity = w.activity := (congrArg State.activity heq).trans (State.holdRecord_rest w).1
  refine ⟨by rw [htact, hact], by rw [htact, hact], fun hno => ?_, fun r e ha hfz hc hr hrun he => ?_⟩
  · have hheld : y.overrun = w.setPhase .held := by
      rw [heq]
      refine State.runRecovery_of_not (s := w.setPhase .held) ?_
      show w.engine.admitted = false ∨ w.engine.freeze = true ∨ w.supply.waitCensus = true
      rw [hengine, hcensus]
      exact hno
    refine ⟨(congrArg State.link hheld).trans hlink, (congrArg (fun x : State => x.supply.phase) hheld), ?_⟩
    have hrecord : t.supply.record = w.supply.record := (congrArg (fun x : State => x.supply.record) hheld :)
    rw [hrecord, hsupply, ← h.record_map]
    cases y.supply.record <;> rfl
  · have hrecord : w.supply.record = some { r with gross, comp, endReason := some .overrun } := by
      rw [hsupply, h.supply, h.comp]
      show (if s.supply.phase = .running then _ else _ : Option ActRecord).map _ = _
      rw [if_pos hrun, hr]
      rfl
    have hme : w.me = s.me := by
      have h1 : w.me = y.me := (State.me_of_core hcore :)
      have h2 : y.me = s.me := State.me_of_settings (h.settings.trans h.config.symm)
      exact h1.trans h2
    have hreplica : w.replica = s.replica := (State.replica_of_core hcore :).trans h.replica
    have hruns : y.overrun = (w.setPhase .held).recover { r with gross, comp, endReason := some .overrun } :=
      heq.trans (State.holdRecord_of_admitted hrecord (by rw [hengine]; exact ha) (by rw [hengine]; exact hfz)
        (by rw [hcensus]; exact hc))
    have hall : s.Raises 3 w := (h.raises.trans (State.raise_raises _ _)).trans hraises
    show s.Recovers _ e y.overrun.commitNotices 6
    rw [hruns]
    refine State.recover_recovers (y := w.setPhase .held) ?_ ((State.clock_of_core hcore :).trans h.clock) hlink hrecord
      hall.1 fun _ => ?_
    · show w.replica.station? w.me = some e
      rw [hreplica, hme]
      exact he
    · have hlen := hall.length_le
      rw [hraised] at hlen
      show w.console.raised.length + 6 ≤ 16
      simp only [List.length_nil] at hlen
      omega

/-! ## Reverse flow and phase errors (R117) -/

theorem State.meterLimits_of_reverse {s : State} (hf : s.activity.state.flows = true) (h : 10 < s.meter.reverse) :
    s.meterLimits = s.stopWith .reverseFlow := (if_pos h).trans (if_pos hf)

theorem State.meterLimits_of_phase {s : State} (hf : s.activity.state.flows = true) (hr : s.meter.reverse ≤ 10)
    (h : 8 < s.meter.phaseErrors) : s.meterLimits = s.stopWith .meterFault :=
  (if_neg (Int.not_lt.mpr hr)).trans ((if_pos h).trans (if_pos hf))

/-- A reverse step of an activity that flows, beyond the limit. -/
theorem State.meterStep_of_reverse {s : State} {c : Settings} {time : Nat} (hset : s.settings = some c)
    (hf : s.activity.state.flows = true) (h : 10 < clamp47 (s.meter.rev + c.pulse) / 100000) :
    10 < (s.meterStep false time).meter.reverse ∧ s.StopsFor .reverseFlow (s.meterStep false time).commitNotices := by
  obtain ⟨_, hrev, _⟩ := State.stepMeter_counts (s := s) false time hset
  obtain ⟨hmeter, _⟩ := s.bounded_rest false time
  have hreverse : (s.bounded false time).meter.reverse = clamp47 (s.meter.rev + c.pulse) / 100000 :=
    congrArg (· / 100000) ((congrArg Meter.rev hmeter :).trans hrev)
  obtain ⟨_, hflows⟩ := (s.bounded_of_flows false time hf).2 fun hp => Bool.false_ne_true hp.1.1
  have heq : s.meterStep false time = (s.bounded false time).stopWith .reverseFlow :=
    State.meterLimits_of_reverse hflows (hreverse ▸ h)
  have hrecord : ((s.bounded false time).supply.record.map fun _ => Reason.reverseFlow) =
      s.supply.record.map fun _ => .reverseFlow := by
    unfold State.bounded
    split
    · show (((s.turned false time).measured false time).supply.record.map fun _ => Reason.reverseFlow) = _
      rw [State.measured_turned_eq]
      show (Option.map _ (if s.supply.phase = .running then _ else _)) = _
      split
      · cases s.supply.record <;> rfl
      · rfl
    · rw [State.turned_supply]
  rw [heq, State.stopWith_meter]
  exact ⟨hreverse ▸ h, State.stopsFor_of_record hrecord⟩

/-- Settles O49. -/
theorem meterLimitsStopTheFill : Obligations.MeterLimitsStopTheFill := by
  refine ⟨fun s time held levels c q p x h hrole hs hx => ?_, fun s time held levels c q p x h hs hx => ?_,
    fun s time held levels c q p h hs hle hlt i hi => ?_, fun s time held levels c q p h hs hle hphase i hi => ?_⟩
  · intro gross hb
    have hlive := h.1.1
    have hset : s.settings = some c := h.1.2.2.1
    have hf : s.activity.state.flows = true := by rcases hs with hs | hs <;> rw [hs] <;> rfl
    obtain ⟨cells, hpattern⟩ := State.pattern_of_forward h
    let b := (s.sees cells).setPosition p
    obtain ⟨y, hy, heq⟩ := State.meterStep_of_crossed (s := b) (time := time) hset hb
    have hy : b.AtBoundary c gross y := hy
    obtain ⟨hboundary, hflows, hmeter, hsupply⟩ := hy.crossed hf hx
    have hexec := exec_of_eq (c := .meterStep time held levels) (f := State.pattern time held levels) rfl hlive
      (hpattern.trans heq)
    refine ⟨fun hstop => ⟨_, hexec, ?_⟩, fun hprogress => ?_, fun hstate hslow hstop hrev hphase => ⟨_, hexec, ?_⟩⟩
    · rw [hboundary, if_pos hstop, State.meterLimits_of_stopped]
      refine State.stopsFor_of_record ?_
      rw [hsupply]
      exact hy.record_map _
    · intro step x'
      obtain ⟨hpoints, hlink⟩ := hy.progress hf hx hprogress
      exact ⟨_, hexec, hpoints, (s.activityOffers_offer _).congr hlink⟩
    · rw [if_neg (Int.not_le.mpr hstop)] at hboundary
      have hwithin : y.activityBoundary.meterLimits = y.crosses x := by
        rw [hboundary]
        refine State.meterLimits_of_within (.inr ?_)
        rw [hmeter, hy.limits.1, hy.limits.2]
        exact ⟨hrev, hphase⟩
      obtain ⟨_, _, _, _, _, _, hcross, _⟩ := y.crosses_spec x
      obtain ⟨hslowing, hout⟩ := hcross (hy.state.1.trans hstate) (by rw [hy.gross]; exact hslow)
      rw [hwithin]
      exact ⟨hslowing, hout.trans (by rw [hy.outputs]; rfl)⟩
  · intro gross comp hb hover k
    have hlive := h.1.1
    have hset : s.settings = some c := h.1.2.2.1
    obtain ⟨cells, hpattern⟩ := State.pattern_of_forward h
    let b := (s.sees cells).setPosition p
    obtain ⟨y, hy, heq⟩ := State.meterStep_of_crossed (s := b) (time := time) hset hb
    obtain ⟨hran, hreason, hsettle, hlimit⟩ := hy.overran hs hx hover
    obtain ⟨hmeter, _⟩ := y.overrun_spec
    have hexec := exec_of_eq (c := .meterStep time held levels) (f := State.pattern time held levels) rfl hlive
      (hpattern.trans (heq.trans hran))
    refine ⟨_, hexec, hreason, (congrArg Meter.activityOpen hmeter :), hsettle, hlimit, fun hroom => ?_,
      fun hl ha => ?_, fun hl => ?_⟩
    · obtain ⟨_, hends⟩ := y.overruns.endStopping_spec
      have hall : b.Raises 5 y.overrun := (hy.raises.trans (State.raise_raises _ _)).trans hends
      have hlen := hall.length_le
      rw [show b.console.raised = [] from hlive.2, List.length_nil] at hlen
      refine exists_notice (s := s) ⟨_, hends.mem (List.mem_append_right _ (List.mem_singleton_self _)), rfl⟩ hall.1 ?_
      show s.console.notices.length + y.overrun.console.raised.length ≤ 16
      omega
    · obtain ⟨f, hf⟩ := hy.activity
      have hlost : y.activity.linkLost = false := by
        rw [hf, Activity.stepped_eq]
        exact hl
      obtain ⟨_, hact, hlink, hsupply⟩ := State.overrun_of_closing hlost (hy.engine ▸ ha)
      rw [hy.closing, hy.link] at hlink
      refine ⟨(congrArg Activity.state hact :), (congrArg Activity.faultPending hact :),
        (congrArg Supply.phase hsupply :), (s.activityOffers_offer _).congr hlink, ?_⟩
      refine Eq.trans ?_ (hy.record_map .overrun)
      rw [State.commitNotices_supply, hsupply]
      cases y.supply.record <;> rfl
    · exact hy.overran_lost (s := b) hlive.2 hl
  · have hlive := h.1.1
    have hset : s.settings = some c := h.1.2.2.1
    have hf : s.activity.state.flows = true := by rcases hs with hs | hs <;> rw [hs] <;> rfl
    obtain ⟨cells, hpattern⟩ := State.pattern_of_back h
    obtain ⟨hbeyond, hstops⟩ :=
      State.meterStep_of_reverse (s := (s.sees cells).setPosition p) (time := time) hset hf hlt
    simp only [List.mem_cons, List.not_mem_nil, or_false] at hi
    rcases hi with rfl | rfl
    · have hrow : s.reverseFlow time held levels = s.pattern time held levels :=
        if_pos ⟨hle, by rw [hpattern]; exact hbeyond⟩
      exact ⟨_, exec_of_eq (f := State.reverseFlow time held levels) rfl hlive (hrow.trans hpattern), hstops⟩
    · exact ⟨_, exec_of_eq (f := State.pattern time held levels) rfl hlive hpattern, hstops⟩
  · have hlive := h.1.1
    have hf : s.activity.state.flows = true := by rcases hs with hs | hs <;> rw [hs] <;> rfl
    obtain ⟨cells, hpattern⟩ := State.pattern_of_wrong h
    let b := (s.sees cells).setPosition
      (if forwardOf c.sensors q = some p ∨ forwardOf c.sensors p = some q ∨ legal c.sensors p = true then p else q)
    have hnine : (b.phaseError).meter.phaseErrors = 9 := by
      refine (congrArg Meter.phaseErrors b.phaseError_spec.1 :).trans ?_
      show countUp s.meter.phaseErrors = 9
      rw [hphase]
      rfl
    have hfault : b.phaseError = State.stopWith .meterFault
        { b with meter := { b.meter with phaseErrors := countUp b.meter.phaseErrors } } := by
      refine State.meterLimits_of_phase hf hle ?_
      show 8 < countUp s.meter.phaseErrors
      rw [hphase]
      decide
    have hstops : s.StopsFor .meterFault b.phaseError.commitNotices := by
      rw [hfault]
      exact State.stopsFor_of_record rfl
    simp only [List.mem_cons, List.not_mem_nil, or_false] at hi
    rcases hi with rfl | rfl
    · have hrow : s.meterFault time held levels = s.pattern time held levels :=
        if_pos ⟨Nat.le_of_eq hphase, by rw [hpattern, hnine]; decide⟩
      exact ⟨_, exec_of_eq (f := State.meterFault time held levels) rfl hlive (hrow.trans hpattern), hstops⟩
    · exact ⟨_, exec_of_eq (f := State.pattern time held levels) rfl hlive hpattern, hstops⟩

end Sys2Proof.Machine
end

section
/-! The duty-cycle inputs, the gauge unit's readings, the timers of the meter and the clock (R92 to R97, R145, R158,
R186). -/

namespace Sys2Proof.Machine

/-! ## Edges (R95 to R97) -/

/-- A rising edge behind a whole period completes a measurement. -/
theorem State.dutyRise_of_period {s : State} {n : DutyCell} {time rise fall : Nat}
    (hr : (s.meter.duty n).running = true) (h1 : (s.meter.duty n).lastRise = some rise)
    (h2 : (s.meter.duty n).lastFall = some fall) :
    s.dutyRise n time = (s.setDuty n { s.meter.duty n with
      lastRise := some time, lastFall := none, waitTimer := some 250000
      reading := s.measure n (fall - rise) (time - rise) }, true) := by
  rw [State.dutyRise]
  refine (if_neg (by rw [hr]; nofun)).trans ?_
  rw [h1, h2]

/-- One that has no period before it starts one. -/
theorem State.dutyRise_of_first {s : State} {n : DutyCell} {time : Nat} (hr : (s.meter.duty n).running = true)
    (h : (s.meter.duty n).lastRise = none ∨ (s.meter.duty n).lastFall = none) :
    s.dutyRise n time = (s.setDuty n { s.meter.duty n with
      lastRise := some time, lastFall := none, waitTimer := some 250000 }, false) := by
  rw [State.dutyRise]
  refine (if_neg (by rw [hr]; nofun)).trans ?_
  split
  next h1 h2 => rcases h with h | h <;> simp_all
  next => rfl

theorem State.dutyMeasurement_of_first {s : State} {n : DutyCell} {time : Nat} (hr : (s.meter.duty n).running = true)
    (h : (s.meter.duty n).lastRise = none ∨ (s.meter.duty n).lastFall = none) :
    s.dutyMeasurement n time = s.setDuty n { s.meter.duty n with
      lastRise := some time, lastFall := none, waitTimer := some 250000 } := by
  rw [State.dutyMeasurement, State.dutyRise_of_first hr h]
  exact if_neg fun h' => Bool.false_ne_true h'.2

/-! ## The readings of the gauge unit (R145) -/

theorem State.gaugeReading_of_idle {s : State} (h : s.gauge.state ≠ .sampling) : s.gaugeReading = s := if_pos h

theorem State.gaugeReading_of_none {s : State} (h : s.gauge.state = .sampling) (hr : s.meter.gau.reading = none) :
    s.gaugeReading = s.gaugeUnstable .noReading := by
  rw [State.gaugeReading, if_neg (Classical.not_not.mpr h), hr]

theorem State.gaugeReading_of_some {s : State} {l : Nat} (h : s.gauge.state = .sampling)
    (hr : s.meter.gau.reading = some (l : Int)) : s.gaugeReading =
      if s.gauge.readings.length < 15 then { s with gauge := { s.gauge with readings := s.gauge.readings ++ [l] } }
      else s.gaugeDone (s.gauge.readings ++ [l]) := by
  rw [State.gaugeReading, if_neg (Classical.not_not.mpr h), hr]
  refine ite_congr_of_iff ?_ rfl rfl
  rw [List.length_append, List.length_singleton]
  omega

theorem spreadOut_iff {l : List Nat} : spreadOut l = true ↔ ∃ a ∈ l, ∃ b ∈ l, b + 10 < a := by
  simp [spreadOut]

theorem State.gaugeDone_of_spread {s : State} {l : List Nat} (h : ∃ a ∈ l, ∃ b ∈ l, b + 10 < a) :
    s.gaugeDone l = s.gaugeUnstable .spread := if_pos (spreadOut_iff.mpr h)

theorem State.gaugeDone_of_near {s : State} {l : List Nat} (h : ∀ a ∈ l, ∀ b ∈ l, a ≤ b + 10) :
    s.gaugeDone l = State.offer .gauge (.gauge (s.gauging l))
      { s with gauge := { s.gauge with state := .sending, readings := l, sent := some (s.gauging l) } } := by
  refine if_neg fun h' => ?_
  obtain ⟨a, ha, b, hb, hlt⟩ := spreadOut_iff.mp h'
  exact absurd (h a ha b hb) (Nat.not_le.mpr hlt)

/-- The station with the level `d` read at GAU. -/
theorem State.dutyMeasurement_gau {s : State} {time rise fall : Nat} {c : Settings} (hr : s.meter.gau.running = true)
    (h1 : s.meter.gau.lastRise = some rise) (h2 : s.meter.gau.lastFall = some fall) (hset : s.settings = some c) :
    let level := (fall - rise) * c.gaugeFactor.getD 0 / 1000
    s.dutyMeasurement .gau time = State.gaugeReading { s with meter := { s.meter with
      gau := { s.meter.gau with
        lastRise := some time, lastFall := none, waitTimer := some 250000
        reading := if level ≤ 20000 then some (level : Int) else none } } } := by
  intro level
  have hmeasure : s.measure .gau (fall - rise) (time - rise) = if level ≤ 20000 then some (level : Int) else none := by
    rw [State.measure, hset, levelOf]
    rfl
  have hrise := State.dutyRise_of_period (n := .gau) (time := time) hr h1 h2
  rw [hmeasure] at hrise
  rw [State.dutyMeasurement, hrise]
  exact if_pos ⟨rfl, rfl⟩

theorem State.dutyTimeout_of_waits {s : State} {n : DutyCell} (h : (s.meter.duty n).waitTimer.isSome = true) :
    s.dutyTimeout n = s.setDuty n { s.meter.duty n with
      lastRise := none, lastFall := none, reading := none, waitTimer := none } := if_pos h

theorem State.withOffer_of_none {s : State} {o : Origin} {p : Payload} (h : s.link.queued o = none) :
    s.link.offer o 0 p = s.withOffer o p := by
  rw [Link.offer_of_none 0 p h]
  rfl

/-- Settles O50. -/
theorem dutyInputsAndTimers : Obligations.DutyInputsAndTimers := by
  refine ⟨⟨fun s time rise fall hlive hr h1 h2 => ?_, fun s time rise fall c hlive hr h1 h2 hset => ?_,
    fun s n time hlive hr => ?_, fun s n hlive h => ?_⟩, fun s hlive h => ?_, fun s hlive h => ?_, fun s hlive => ?_,
    fun s hlive => ?_, fun s n hlive hn => ?_, fun s hlive hn => ?_⟩
  · intro duty d
    refine exec_of_quiet (f := State.dutyMeasurement .tmp time) rfl hlive ?_ rfl
    rw [State.dutyMeasurement, State.dutyRise_of_period (n := .tmp) hr h1 h2]
    exact if_neg fun h => DutyCell.noConfusion h.1
  · intro level d
    have hduty : s.dutyMeasurement .gau time = State.gaugeReading { s with meter := { s.meter with gau := d } } :=
      State.dutyMeasurement_gau hr h1 h2 hset
    have hsome (h : level ≤ 20000) : d.reading = some (level : Int) := if_pos h
    refine ⟨fun hg => ?_, fun hg hle hlen => ?_, fun hg hlt => ?_, fun hg hle hlen => ?_⟩
    · refine exec_of_quiet (f := State.dutyMeasurement .gau time) rfl hlive (hduty.trans ?_) rfl
      exact State.gaugeReading_of_idle (s := { s with meter := { s.meter with gau := d } }) hg
    · refine exec_of_quiet (f := State.dutyMeasurement .gau time) rfl hlive (hduty.trans ?_) rfl
      exact (State.gaugeReading_of_some (s := { s with meter := { s.meter with gau := d } }) hg (hsome hle)).trans
        (if_pos hlen)
    · refine next_act_of_notice (f := State.dutyMeasurement .gau time) hlive (hduty.trans ?_) hlive.2
      exact State.gaugeReading_of_none (s := { s with meter := { s.meter with gau := d } }) hg
        (if_neg (Nat.not_le.mpr hlt))
    · intro all
      have hdone : s.dutyMeasurement .gau time =
          State.gaugeDone all { s with meter := { s.meter with gau := d } } :=
        hduty.trans ((State.gaugeReading_of_some (s := { s with meter := { s.meter with gau := d } }) hg
          (hsome hle)).trans (if_neg (by show ¬s.gauge.readings.length < 15; omega)))
      refine ⟨fun hspread => ?_, fun hnear hq => ?_⟩
      · exact next_act_of_notice (f := State.dutyMeasurement .gau time) hlive
          (hdone.trans (State.gaugeDone_of_spread hspread)) hlive.2
      · intro g
        refine exec_of_quiet (f := State.dutyMeasurement .gau time) rfl hlive (hdone.trans ?_) rfl
        have hg : State.gauging all { s with meter := { s.meter with gau := d } } = g := by
          have hset' : ({ s with meter := { s.meter with gau := d } } : State).settings = some c := hset
          rw [State.gauging, hset']
          rfl
        rw [State.gaugeDone_of_near hnear, hg, ← State.withOffer_of_none hq]
        rfl
  · intro d
    refine ⟨fun h => ?_, ?_⟩
    · exact exec_of_quiet (f := State.dutyMeasurement n time) rfl hlive (State.dutyMeasurement_of_first hr h)
        (State.setDuty_console _ _ _)
    · exact exec_of_quiet (f := State.dutyFall n time) rfl hlive (if_pos hr) (State.setDuty_console _ _ _)
  · have htimeout := State.dutyTimeout_of_waits h
    refine ⟨fun hn => ?_, fun hn hg => ?_⟩
    · refine exec_of_quiet (f := State.dutyCycleTimeout n) rfl hlive ?_ (State.setDuty_console _ _ _)
      rw [State.dutyCycleTimeout, htimeout]
      refine ite_eq_right_iff.mpr fun hgau => ?_
      refine if_neg fun h' => ?_
      rcases hn with hn | hn
      · exact DutyCell.noConfusion (hn.symm.trans hgau)
      · rw [State.setDuty_gauge] at h'
        exact hn h'.1
    · subst hn
      have heq : s.dutyCycleTimeout .gau = State.gaugeUnstable .noReading (s.setDuty .gau
          { s.meter.gau with lastRise := none, lastFall := none, reading := none, waitTimer := none }) := by
        rw [State.dutyCycleTimeout, htimeout]
        exact (if_pos rfl).trans (if_pos ⟨hg, rfl⟩)
      exact ⟨_, exec_of_eq (f := State.dutyCycleTimeout .gau) rfl hlive heq, rfl, rfl⟩
  · exact exec_of_quiet (f := State.unauthTimeout) rfl hlive (if_pos h) rfl
  · exact exec_of_quiet (f := State.flowRateTimeout) rfl hlive (if_pos h) rfl
  · exact exec_of_quiet (f := State.recentFlowEnd) rfl hlive rfl rfl
  · exact next_act_of_quiet (f := State.attnReleaseEnd) hlive rfl hlive.2
  · refine ⟨fun hlt => ?_, fun heq => ?_⟩
    · refine exec_of_quiet (f := State.tick) rfl hlive ?_ rfl
      rw [State.tick, hn]
      dsimp only
      rw [if_pos hlt]
    · refine exec_of_quiet (f := State.tick) rfl hlive ?_ rfl
      rw [State.tick, hn]
      dsimp only
      rw [if_neg (Nat.not_lt.mpr (Nat.le_of_eq heq.symm))]
  · refine exec_of_quiet (f := State.tick) rfl hlive ?_ rfl
    rw [State.tick, hn]

end Sys2Proof.Machine
end

section
/-! The nozzle: lifted it begins a fill, hung it ends one (R102 to R105, R110, R112, R118 to R120, R123). -/

namespace Sys2Proof.Machine

/-! ## Back to IDLE at a DISPENSE station (R100, R104) -/

theorem State.releaseAtReceipt_of_other {s : State} (h : s.role ≠ some .receipt) : s.releaseAtReceipt = s := by
  unfold State.releaseAtReceipt
  split
  case h_1 hr => exact absurd hr h
  case h_2 => rfl

/-- At another role than RECEIPT the return to IDLE releases nothing. -/
theorem State.toIdle_ident_of_other {s : State} (q : Option Nat) (h : s.role ≠ some .receipt) :
    (s.toIdle q).ident = s.ident := by
  rw [State.toIdle, State.releaseAtReceipt_of_other h, State.enterAct_ident]
  rfl

/-- A hang met in OPENING leaves what is identified. -/
theorem State.pendEnd_hung_ident {s : State} (h : s.role ≠ some .receipt) : (s.pendEnd .hung).ident = s.ident := by
  unfold State.pendEnd
  split
  · rfl
  · let y : State := { s with activity := { s.activity with pendingEnd := some .hung } }
    by_cases hw : s.link.withdrawable .activity s.openKind = true
    · have hwithdraw : y.withdraw .activity s.openKind = { y with link := y.link.remove .activity } := if_pos hw
      have heq : (y.withdraw .activity s.openKind).openWithdrawn =
          ({ y with link := y.link.remove .activity } : State).toIdle none := by
        rw [hwithdraw]
        rfl
      refine (if_pos hw : _ = (y.withdraw .activity s.openKind).openWithdrawn) ▸ ?_
      rw [heq]
      exact State.toIdle_ident_of_other (s := { y with link := y.link.remove .activity }) none h
    · exact (if_neg hw : _ = y) ▸ rfl

/-! ## The nozzle is lifted (R102, R103, R105) -/

/-- What the fill asks for depends on the preset alone of what the controller holds. -/
theorem State.AsksForFill.of_preset {s z t : State} {r : IdResult} (h : z.AsksForFill r t) (hl : z.link = s.link)
    (hreplica : z.replica = s.replica) (hpreset : z.activity.preset = s.activity.preset) (hclock : z.clock = s.clock)
    (hsettings : z.settings = s.settings) : s.AsksForFill r t := by
  have hhose : z.hose = s.hose := by rw [State.hose, State.hose, hsettings]
  simp only [State.AsksForFill, hreplica, hpreset, hclock, hhose] at h ⊢
  obtain ⟨h1, h2, h3, h4⟩ := h
  exact ⟨h1, h2, h3, h4.of_link hl⟩

theorem State.completeResult_of_none {s : State} (h : ∀ c ∈ s.ident.context, s.ident.state = .identified →
    c.gradePending = true ∨ c.result = none) : s.completeResult = none := by
  unfold State.completeResult
  split
  next c hs hc =>
    rcases h c hc hs with hg | hr
    · exact if_pos hg
    · rw [hr]
      exact ite_self none
  next => rfl

theorem State.completeResult_of_some {s : State} {c : Inlet} (hs : s.ident.state = .identified)
    (hc : s.ident.context = some c) (hg : c.gradePending = false) : s.completeResult = c.result := by
  rw [State.completeResult, hs, hc]
  exact if_neg (ne_true_of_eq_false hg)

/-- REFUSED out of IDENTIFIED at DISPENSE: the context is discarded, whatever the unlock state. -/
theorem State.refuse_of_dispense {s : State} (x : Reason) (hr : s.role ≠ some .receipt)
    (hs : s.ident.state = .identified) : (s.refuse x).ident = Ident.reset ∧ (s.refuse x).activity.state = .refused x
      ∧ (s.refuse x).link = s.link := by
  have hreleased : s.releaseAtReceipt.releaseResult = s.relockAndDiscard := by
    rw [State.releaseAtReceipt_of_other hr]
    exact if_pos hs
  refine ⟨?_, by rw [State.refuse_activity], State.link_of_core (State.refuse_core x s)⟩
  rw [State.refuse, hreleased, State.enterAct_ident, State.relockAndDiscard_ident]

theorem State.nozRise_of_dispense {s : State} (h : s.role = some .dispense) :
    s.nozRise = if s.activity.state = .idle then (s.enterAct .awaitingId).lookAtResult else s := by
  rw [State.nozRise, h]

/-- The station in AWAITING_ID, its nozzle just lifted. -/
def State.lifted (s : State) : State := (s.passed .noz true).enterAct .awaitingId

theorem State.lifted_core (s : State) : s.lifted.core = (s.passed .noz true).core := State.enterAct_core _ _

theorem State.lifted_activity (s : State) : s.lifted.activity = { s.activity with state := .awaitingId } :=
  State.enterAct_activity _ _

theorem State.lifted_ident (s : State) : s.lifted.ident = s.ident := State.enterAct_ident _ _

theorem State.nozRise_of_idle {s : State} {held : Nat} (hp : s.meter.cells.noz.passes .noz true held = true)
    (hr : s.role = some .dispense) (hs : s.activity.state = .idle) :
    s.cellPasses .noz true held = s.lifted.lookAtResult := by
  have hpass : s.cellPasses .noz true held = (s.passed .noz true).nozRise :=
    State.cellPasses_of_passes (n := .noz) hp
  rw [hpass, State.nozRise_of_dispense (s := s.passed .noz true) hr]
  exact if_pos hs

/-! ## The nozzle is hung (R104, R110, R112, R117, R123) -/

theorem State.nozFall_of_dispense {s : State} {held : Nat} (hp : s.meter.cells.noz.passes .noz false held = true)
    (hr : s.role = some .dispense) :
    let y := s.passed .noz false
    (s.activity.state = .awaitingId → s.cellPasses .noz false held = y.toIdle s.activity.preset)
      ∧ (∀ x, s.activity.state = .refused x → s.cellPasses .noz false held = y.toIdle none)
      ∧ (s.activity.state = .writeback → s.cellPasses .noz false held = y.checkWriteback)
      ∧ (s.activity.state ≠ .awaitingId → (∀ x, s.activity.state ≠ .refused x) → s.activity.state ≠ .writeback →
        s.cellPasses .noz false held = y.endEvent .hung) := by
  intro y
  have hpass : s.cellPasses .noz false held = y.nozFall := State.cellPasses_of_passes (n := .noz) hp
  have hr' : y.role = some .dispense := hr
  rw [hpass, State.nozFall, hr']
  dsimp only
  refine ⟨fun h => ?_, fun x h => ?_, fun h => ?_, fun h1 h2 h3 => ?_⟩
  · have h' : y.activity.state = .awaitingId := h
    rw [h']
    rfl
  · have h' : y.activity.state = .refused x := h
    rw [h']
  · have h' : y.activity.state = .writeback := h
    rw [h']
  · split
    case h_1 h' => exact absurd h' h1
    case h_2 x h' => exact absurd h' (h2 x)
    case h_3 h' => exact absurd h' h3
    case h_4 => rfl

/-- Settles O51. -/
theorem nozzleBeginsTheFill : Obligations.NozzleBeginsTheFill := by
  refine ⟨fun s held hlive hp hr hs => ⟨fun hno => ?_, fun c r hid hc hg hres => ?_⟩,
    fun s held hlive hp hr hs => ?_, fun s held hlive hp hr => ?_⟩
  · have hnone : s.lifted.completeResult = none := State.completeResult_of_none (by rw [s.lifted_ident]; exact hno)
    have heq : s.cellPasses .noz true held = s.lifted :=
      (State.nozRise_of_idle hp hr hs).trans (State.lookAtResult_of_other (.inr hnone))
    exact ⟨_, exec_of_eq (f := State.cellPasses .noz true held) rfl hlive heq, s.lifted_activity,
      (State.link_of_core s.lifted_core :), s.lifted_ident⟩
  · have hcomplete : s.lifted.completeResult = some r := by
      rw [State.completeResult_of_some (by rw [s.lifted_ident]; exact hid) (by rw [s.lifted_ident]; exact hc) hg, hres]
    have hengine : s.lifted.engine = s.engine := (State.engine_of_core s.lifted_core :)
    have hsupply : s.lifted.supply = s.supply := (State.supply_of_core s.lifted_core :)
    have hlink : s.lifted.link = s.link := (State.link_of_core s.lifted_core :)
    have hrole : s.lifted.role = some .dispense := (State.role_of_core s.lifted_core :).trans hr
    have heq := (State.nozRise_of_idle hp hr hs).trans
      (State.lookAtResult_of_awaiting (by rw [s.lifted_activity]) hcomplete)
    rw [hengine, hsupply] at heq
    have hrefuse (x : Reason) := State.refuse_of_dispense (s := s.lifted.takesResult r) x
      (State.notReceipt_of hrole rfl) (by rw [State.takesResult, s.lifted_ident]; exact hid)
    refine ⟨fun ha => ?_, fun ha hrec => ?_, fun ha hrec => ?_⟩
    · rw [if_pos ha] at heq
      obtain ⟨h1, h2, h3⟩ := hrefuse .notInService
      exact ⟨_, exec_of_eq (f := State.cellPasses .noz true held) rfl hlive heq, h2,
        by rw [State.commitNotices_ident, h1]; rfl, h3.trans hlink⟩
    · rw [if_neg (by rw [ha]; nofun), if_pos hrec] at heq
      obtain ⟨h1, h2, h3⟩ := hrefuse .recoveryPending
      exact ⟨_, exec_of_eq (f := State.cellPasses .noz true held) rfl hlive heq, h2,
        by rw [State.commitNotices_ident, h1]; rfl, h3.trans hlink⟩
    · rw [if_neg (by rw [ha]; nofun), if_neg (by rw [hrec]; nofun)] at heq
      obtain ⟨h1, h2, _⟩ := State.offerOpen_dispense (s := s.lifted) r hrole
      refine ⟨_, exec_of_eq (f := State.cellPasses .noz true held) rfl hlive heq, ?_, h2.trans s.lifted_ident⟩
      exact State.AsksForFill.of_preset h1 hlink (State.replica_of_core s.lifted_core :)
        (by rw [s.lifted_activity]) (State.clock_of_core s.lifted_core :) (State.settings_of_core s.lifted_core :)
  · refine exec_of_quiet (f := State.cellPasses .noz true held) rfl hlive ?_ rfl
    have hpass : s.cellPasses .noz true held = (s.passed .noz true).nozRise :=
      State.cellPasses_of_passes (n := .noz) hp
    rw [hpass, State.nozRise_of_dispense (s := s.passed .noz true) hr]
    exact if_neg hs
  · obtain ⟨hawait, hrefused, hwrite, hother⟩ := State.nozFall_of_dispense hp hr
    have hnot : (s.passed .noz false).role ≠ some .receipt := State.notReceipt_of hr rfl
    have hidle (q : Option Nat) : ((s.passed .noz false).toIdle q).activity =
        { Activity.reset with preset := q, lastTank := s.activity.lastTank } := State.toIdle_activity q _
    refine ⟨fun hs => ?_, fun hs => ?_, fun hs => ?_, fun x hs => ?_, fun hs hd => ?_, fun hs hd => ?_⟩
    · refine exec_of_quiet (f := State.cellPasses .noz false held) rfl hlive ?_ rfl
      rw [hother (by intro h; rw [h] at hs; simp at hs) (by intro x h; rw [h] at hs; simp at hs)
        (by intro h; rw [h] at hs; simp at hs)]
      refine State.endEvent_of_other _ fun h => ?_
      have h' : s.activity.state ∈ [ActState.opening, .flowing, .slowing] := h
      simp only [List.mem_cons, List.not_mem_nil, or_false] at hs h'
      rcases hs with hs | hs | hs | hs <;> simp [hs] at h'
    · refine ⟨_, exec_of_eq (f := State.cellPasses .noz false held) rfl hlive (hawait hs), ?_, ?_, ?_, ?_⟩
      · rw [State.commitNotices_activity, hidle]
        rfl
      · rw [State.commitNotices_activity, hidle]
      · rw [State.commitNotices_activity, hidle]
        rfl
      · exact State.toIdle_ident_of_other _ hnot
    · have heq := (hother (by rw [hs]; nofun) (by rw [hs]; nofun) (by rw [hs]; nofun)).trans
        (State.endEvent_of_opening .hung (by exact hs))
      exact ⟨_, exec_of_eq (f := State.cellPasses .noz false held) rfl hlive heq,
        State.pendEnd_pendsFor .hung (s := s.passed .noz false) hs, State.pendEnd_hung_ident hnot⟩
    · refine ⟨_, exec_of_eq (f := State.cellPasses .noz false held) rfl hlive (hrefused x hs), ?_, ?_, ?_, ?_, ?_⟩
      · rw [State.commitNotices_activity, hidle]
        rfl
      · rw [State.commitNotices_activity, hidle]
      · rw [State.commitNotices_activity, hidle]
        rfl
      · exact (State.link_of_core (State.toIdle_core none (s.passed .noz false)) :)
      · exact State.toIdle_ident_of_other _ hnot
    · refine exec_of_quiet (f := State.cellPasses .noz false held) rfl hlive ((hwrite hs).trans ?_) rfl
      exact if_neg fun h => by
        have h' : s.activity.writeBackDone = true := h.2
        rw [hd] at h'
        cases h'
    · have heq := (hwrite hs).trans (State.checkWriteback_of_done (s := s.passed .noz false) hs hd)
      have hnozzle : (s.passed .noz false).nozzle = false := rfl
      rw [hnozzle] at heq
      refine ⟨_, exec_of_eq (f := State.cellPasses .noz false held) rfl hlive heq, ?_⟩
      by_cases hf : s.activity.faultPending = true
      · have hf' : (s.passed .noz false).activity.faultPending = true := hf
        rw [if_pos hf', if_pos hf, State.commitNotices_link, State.commitNotices_activity,
          State.enterFaultedValve_activity]
        exact ⟨(State.link_of_core (State.enterFaultedValve_core _) :), rfl, rfl⟩
      · have hf' : ¬(s.passed .noz false).activity.faultPending = true := hf
        rw [if_neg hf', if_neg hf, if_neg Bool.false_ne_true, State.commitNotices_link, State.commitNotices_activity, hidle]
        exact ⟨(State.link_of_core (State.toIdle_core none (s.passed .noz false)) :), rfl, rfl⟩

end Sys2Proof.Machine
end

section
/-! What ends a metered activity, and the end of STOPPING (R116 to R120, R134, R136 to R138, R165, R167). -/

namespace Sys2Proof.Machine

/-! ## The delivery hose (R134, R136, R137) -/

theorem State.dhsFall_of_receipt {s : State} {held : Nat} (hp : s.meter.cells.dhs.passes .dhs false held = true)
    (hr : s.role = some .receipt) :
    let y := s.passed .dhs false
    (∀ x, s.activity.state = .awaitingId ∨ s.activity.state = .refused x →
        s.cellPasses .dhs false held = y.toIdle none)
      ∧ (s.activity.state ≠ .awaitingId → (∀ x, s.activity.state ≠ .refused x) →
        s.cellPasses .dhs false held = y.endEvent .hoseReleased) := by
  intro y
  have hpass : s.cellPasses .dhs false held = y.dhsFall := State.cellPasses_of_passes (n := .dhs) hp
  have hr' : y.role = some .receipt := hr
  rw [hpass, State.dhsFall, hr']
  dsimp only
  refine ⟨fun x h => ?_, fun h1 h2 => ?_⟩
  · rcases h with h | h
    · have h' : y.activity.state = .awaitingId := h
      rw [h']
    · have h' : y.activity.state = .refused x := h
      rw [h']
  · split
    case h_1 h' => exact absurd h' h1
    case h_2 x h' => exact absurd h' (h2 x)
    case h_3 => rfl

/-- At RECEIPT the return to IDLE releases the context. -/
theorem State.toIdle_context_of_receipt {s : State} (q : Option Nat) (h : s.role = some .receipt) :
    (s.toIdle q).ident.context = none := by
  rw [State.toIdle, State.enterAct_ident]
  exact State.releaseAtReceipt_context h

/-- A release of the hose in OPENING that leads to IDLE has released the context. -/
theorem State.pendEnd_released {s : State} (h : s.role = some .receipt) (ho : s.activity.state = .opening)
    (hi : (s.pendEnd .hoseReleased).activity.state = .idle) : (s.pendEnd .hoseReleased).ident.context = none := by
  unfold State.pendEnd at hi ⊢
  split at hi
  · rw [ho] at hi
    cases hi
  · let y : State := { s with activity := { s.activity with pendingEnd := some .hoseReleased } }
    by_cases hw : s.link.withdrawable .activity s.openKind = true
    · have hwithdraw : y.withdraw .activity s.openKind = { y with link := y.link.remove .activity } := if_pos hw
      have heq : (y.withdraw .activity s.openKind).openWithdrawn =
          ({ y with link := y.link.remove .activity } : State).toIdle none := by
        rw [hwithdraw]
        rfl
      refine (if_pos hw : _ = (y.withdraw .activity s.openKind).openWithdrawn) ▸ ?_
      rw [heq]
      exact State.toIdle_context_of_receipt (s := { y with link := y.link.remove .activity }) none h
    · have hy : (if s.link.withdrawable .activity s.openKind = true then
          (y.withdraw .activity s.openKind).openWithdrawn else y) = y := if_neg hw
      have hi' : y.activity.state = .idle := (congrArg (fun x : State => x.activity.state) hy).symm.trans hi
      rw [show y.activity.state = .opening from ho] at hi'
      cases hi'

/-! ## The end of STOPPING (R118, R120, R138, R165) -/

theorem State.closing_of_ended (s : State) : s.activityEnded.closing =
    { openSeq := s.activity.openSeq.getD 0
      gross := max 0 (s.meter.acc / 100000)
      comp := if s.meter.uncompensated then none else some ((s.meter.comp + 5000) / 10000).toNat
      endReason := s.activity.endReason.getD .noReason
      overrun := max 0 (s.meter.acc / 100000 - s.activity.stopVolume.getD 0)
      hours := s.activity.result.bind IdResult.hours
      endTime := s.clock } := by
  have hcomp : s.meter.reportedComp.map Int.toNat =
      if s.meter.uncompensated then none else some ((s.meter.comp + 5000) / 10000).toNat := by
    rw [Meter.reportedComp]
    split <;> rfl
  rw [← hcomp]
  rfl

theorem State.endStopping_of_closing {s : State} (hl : s.activity.linkLost = false) (ha : s.engine.admitted = true) :
    s.endStopping = s.activityEnded.offerClose := by
  rw [State.endStopping_eq, hl, ha]
  rfl

theorem State.endStopping_of_lost {s : State} (h : s.activity.linkLost = true ∨ s.engine.admitted = false) :
    s.endStopping = s.endsLinkLost.holdRecord := by
  have hcond : (s.activity.linkLost || !s.engine.admitted) = true := by rcases h with h | h <;> simp [h]
  rw [State.endStopping_eq, hcond]
  rfl

theorem State.endsLinkLost_core (s : State) : s.endsLinkLost.core = s.activityEnded.core :=
  (State.endWithoutWriteBack_core
    { s.activityEnded with activity := { s.activityEnded.activity with linkLost := false } }).trans rfl

theorem State.endsLinkLost_raises (s : State) : s.Raises 2 s.endsLinkLost :=
  State.endWithoutWriteBack_raises
    { s.activityEnded with activity := { s.activityEnded.activity with linkLost := false } }

theorem State.checkWriteback_linkLost {s : State} (h : s.activity.linkLost = false) :
    s.checkWriteback.activity.linkLost = false := by
  unfold State.checkWriteback
  split
  · split
    · rw [State.enterFaultedValve_activity]
      exact h
    · split
      · exact h
      · rw [State.toIdle_activity]
        rfl
  · exact h

theorem State.endWithoutWriteBack_linkLost {s : State} (h : s.activity.linkLost = false) :
    s.endWithoutWriteBack.activity.linkLost = false := by
  unfold State.endWithoutWriteBack
  dsimp only
  split
  · rw [State.enterFaultedValve_activity, State.releaseResult_activity]
    exact h
  · split
    · rw [State.toIdle_activity]
      rfl
    · refine State.checkWriteback_linkLost ?_
      rw [State.enterAct_activity, State.releaseResult_activity]
      exact h

/-- The activity as STOPPING ends with the link lost. -/
theorem State.endsLinkLost_activity (s : State) : s.endsLinkLost.activity.linkLost = false
    ∧ s.endsLinkLost.activity.state = s.afterClosing :=
  ⟨State.endWithoutWriteBack_linkLost rfl, State.endWithoutWriteBack_state _⟩

/-- The record of a STOPPING that ends with the link lost is held, or recovered at once. -/
theorem State.endsLinkLost_holds {s : State} (hraised : s.console.raised = []) :
    let t := s.endsLinkLost.holdRecord.commitNotices
    (s.engine.admitted = false ∨ s.engine.freeze = true ∨ s.supply.waitCensus = true →
      t.link = s.link ∧ t.supply.phase = .held ∧ t.supply.record = s.supply.record)
    ∧ ∀ r e, s.engine.admitted = true → s.engine.freeze = false → s.supply.waitCensus = false →
      s.supply.record = some r → s.replica.station? s.me = some e → s.Recovers r e t (room := 8) := by
  intro t
  let w := s.endsLinkLost
  have hcore := s.endsLinkLost_core
  have hengine : w.engine = s.engine := (State.engine_of_core hcore :)
  have hsupply : w.supply = s.supply := (State.supply_of_core hcore :)
  have hreplica : w.replica = s.replica := (State.replica_of_core hcore :)
  have hme : w.me = s.me := (State.me_of_core hcore :)
  refine ⟨fun hno => ?_, fun r e ha hf hc hr he => ?_⟩
  · have hheld : w.holdRecord = w.setPhase .held := by
      refine State.runRecovery_of_not (s := w.setPhase .held) ?_
      show w.engine.admitted = false ∨ w.engine.freeze = true ∨ w.supply.waitCensus = true
      rw [hengine, hsupply]
      exact hno
    exact ⟨(congrArg State.link hheld).trans (State.link_of_core hcore :),
      (congrArg (fun x : State => x.supply.phase) hheld :),
      (congrArg (fun x : State => x.supply.record) hheld :).trans (congrArg Supply.record hsupply :)⟩
  · have hruns : w.holdRecord = (w.setPhase .held).recover r :=
      State.holdRecord_of_admitted (by rw [hsupply]; exact hr) (by rw [hengine]; exact ha) (by rw [hengine]; exact hf)
        (by rw [hsupply]; exact hc)
    have hraises := s.endsLinkLost_raises
    show s.Recovers r e w.holdRecord.commitNotices 8
    rw [hruns]
    refine State.recover_recovers (y := w.setPhase .held) ?_ (State.clock_of_core hcore :) (State.link_of_core hcore :)
      ((congrArg Supply.record hsupply).trans hr) hraises.1 fun _ => ?_
    · show w.replica.station? w.me = some e
      rw [hreplica, hme]
      exact he
    · have hlen := hraises.length_le
      rw [hraised, List.length_nil] at hlen
      exact Nat.add_le_add_right (Nat.le_trans hlen (by decide)) 8

/-- Settles O52. -/
theorem flowEndsInClosing : Obligations.FlowEndsInClosing := by
  refine ⟨fun s hlive hs => ?_, fun s held hlive hr hp => ?_, fun s i hlive hs hr hi => ?_⟩
  · have hf : s.activity.state.flows = true := by rcases hs with hs | hs <;> rw [hs] <;> rfl
    have hend (r : Reason) : s.endFlow r = s.stopWith r := if_pos hf
    refine ⟨fun held hr hp => ?_, fun held hr hp => ?_, fun h => ?_, fun h => ?_⟩
    · obtain ⟨_, _, _, hother⟩ := State.nozFall_of_dispense hp hr
      have heq := (hother (by rcases hs with h | h <;> rw [h] <;> nofun) (by rcases hs with h | h <;> rw [h] <;> nofun)
        (by rcases hs with h | h <;> rw [h] <;> nofun)).trans (State.endEvent_of_flows .hung (by exact hs))
      exact ⟨_, exec_of_eq (f := State.cellPasses .noz false held) rfl hlive heq,
        State.stopsFor_of_record (s := s) rfl⟩
    · obtain ⟨_, hother⟩ := State.dhsFall_of_receipt hp hr
      have heq := (hother (by rcases hs with h | h <;> rw [h] <;> nofun)
        (by rcases hs with h | h <;> rw [h] <;> nofun)).trans (State.endEvent_of_flows .hoseReleased (by exact hs))
      exact ⟨_, exec_of_eq (f := State.cellPasses .dhs false held) rfl hlive heq,
        State.stopsFor_of_record (s := s) rfl⟩
    · exact ⟨_, exec_of_eq (f := State.noFlowTimeout) rfl hlive ((if_pos h).trans (hend .noFlow)),
        State.stopsFor_of_record rfl⟩
    · exact ⟨_, exec_of_eq (f := State.fullTimeout) rfl hlive ((if_pos h).trans (hend .full)),
        State.stopsFor_of_record rfl⟩
  · obtain ⟨hidle, hother⟩ := State.dhsFall_of_receipt hp hr
    refine ⟨fun hs => ?_, fun hs => ?_, fun x hs => ?_⟩
    · refine exec_of_quiet (f := State.cellPasses .dhs false held) rfl hlive ?_ rfl
      rw [hother (by intro h; rw [h] at hs; simp at hs) (by intro x h; rw [h] at hs; simp at hs)]
      refine State.endEvent_of_other _ fun h => ?_
      have h' : s.activity.state ∈ [ActState.opening, .flowing, .slowing] := h
      simp only [List.mem_cons, List.not_mem_nil, or_false] at hs h'
      rcases hs with hs | hs | hs | hs <;> simp [hs] at h'
    · have heq := (hother (by rw [hs]; nofun) (by rw [hs]; nofun)).trans
        (State.endEvent_of_opening .hoseReleased (by exact hs))
      exact ⟨_, exec_of_eq (f := State.cellPasses .dhs false held) rfl hlive heq,
        State.pendEnd_pendsFor .hoseReleased (s := s.passed .dhs false) hs,
        State.pendEnd_released (s := s.passed .dhs false) hr hs⟩
    · have hact := State.toIdle_activity none (s.passed .dhs false)
      refine ⟨_, exec_of_eq (f := State.cellPasses .dhs false held) rfl hlive (hidle x hs), ?_, ?_, ?_, ?_, ?_⟩
      · rw [State.commitNotices_activity, hact]
        rfl
      · rw [State.commitNotices_activity, hact]
        rfl
      · rw [State.commitNotices_activity, hact]
        rfl
      · exact State.toIdle_context_of_receipt none hr
      · exact (State.link_of_core (State.toIdle_core none (s.passed .dhs false)) :)
  · intro gross c
    have hrow : ∃ f : State → State, exec i s = .next (s.act f) ∧ f s = s.endStopping := by
      rcases hi with ⟨rfl, h⟩ | ⟨rfl, h⟩
      · exact ⟨State.settleTimeout, rfl, if_pos ⟨hs, h⟩⟩
      · exact ⟨State.stoppingLimit, rfl, if_pos ⟨hs, h⟩⟩
    obtain ⟨f, hexec, hf⟩ := hrow
    refine ⟨fun hl ha => ?_, fun hl => ?_⟩
    · have hclosing : s.activityEnded.closing = c := s.closing_of_ended
      have hframe : s.activityEnded.closingFrame = if s.role = some .receipt then .deliveryClose c else .close c := by
        have hrole : s.activityEnded.role = s.role := rfl
        rw [State.closingFrame, hrole, hclosing]
        rcases hr with hr | hr <;> rw [hr] <;> rfl
      have heq := hf.trans (State.endStopping_of_closing hl ha)
      rw [State.offerClose] at heq
      refine ⟨_, exec_of_eq hexec hlive heq, ?_, ?_, ?_, ?_, ?_, ?_, ?_⟩
      · rw [State.commitNotices_activity, State.enterAct_activity]
      · rw [← hframe]
        exact (s.activityOffers_offer _).congr (State.enterAct_link _ _)
      · rw [State.commitNotices_supply, State.enterAct_supply]
        rfl
      · rw [State.commitNotices_supply, State.enterAct_supply]
        rfl
      · rw [State.commitNotices_meter, State.enterAct_meter]
        rfl
      · rw [State.commitNotices_activity, State.enterAct_activity]
        rfl
      · rw [State.commitNotices_activity, State.enterAct_activity]
        rfl
    · have heq := hf.trans (State.endStopping_of_lost hl)
      obtain ⟨hact, _⟩ := State.holdRecord_rest s.endsLinkLost
      obtain ⟨hlost, hstate⟩ := s.endsLinkLost_activity
      obtain ⟨hmeter, _⟩ := s.endStopping_spec
      rw [State.endStopping_of_lost hl] at hmeter
      refine ⟨_, exec_of_eq hexec hlive heq, (congrArg Meter.activityOpen hmeter :),
        (congrArg Activity.linkLost hact :).trans hlost, ?_, State.endsLinkLost_holds hlive.2⟩
      refine (congrArg Activity.state hact :).trans (hstate.trans
        (ite_congr_of_iff Iff.rfl rfl (ite_congr_of_iff ?_ rfl rfl)))
      rcases hr with hr | hr <;> simp [hr]

end Sys2Proof.Machine
end

section
/-! The console's requests in general, and the stop path (R113, R171, R173, R175 to R177). -/

namespace Sys2Proof.Machine

/-! ## Requests at a free port (R175 to R177) -/

/-- The station with a request taken and not yet answered. -/
def State.asked (code : Byte) (body : List Byte) (s : State) : State :=
  { s with console := { s.console with
    request := code :: leBytes 2 body.length ++ body, selected := true } }

/-- A request whose body reads as its block takes it is answered by the block. -/
theorem requestWith_of_parse {α : Type} {s : State} {code : Byte} {body : List Byte} {p : Parse α}
    {f : α → State → State × List Byte} {x : α} (h : s.PortFree) (hp : parseAll p body = some x) :
    s.requestWith code body p f =
      (f x (s.asked code body)).1.reply (f x (s.asked code body)).2 (code == 0x06) := by
  obtain ⟨⟨hs, _⟩, hq, hr⟩ := h
  rw [State.requestWith, hp]
  exact request_of_fit code body (f x) hq hr hs

theorem requestWith_of_noParse {α : Type} {s : State} {code : Byte} {body : List Byte} {p : Parse α}
    {f : α → State → State × List Byte} (h : s.PortFree) (hp : parseAll p body = none) :
    s.requestWith code body p f = s.answered code body badRequestReply false := by
  obtain ⟨⟨hs, _⟩, hq, hr⟩ := h
  rw [State.requestWith, hp]
  exact (request_of_unfit code body _ hq hr hs).trans rfl

/-- A request that the block answers from the state `z` that it leaves. -/
theorem exec_of_request {α : Type} {c : Instr} {s z : State} {code : Byte} {body bytes : List Byte} {p : Parse α}
    {f : α → State → State × List Byte} {x : α} (hc : exec c s = .next (s.requestWith code body p f).commitNotices)
    (h : s.PortFree) (hp : parseAll p body = some x) (hcode : (code == 0x06) = false)
    (hf : f x (s.asked code body) = (z, bytes)) : exec c s = .next (z.reply bytes false).commitNotices := by
  rw [hc, requestWith_of_parse h hp, hf, hcode]

/-- One that is answered without a notice, the rest of the station as in `y`. -/
theorem exec_of_answer {α : Type} {c : Instr} {s y : State} {code : Byte} {body bytes : List Byte} {p : Parse α}
    {f : α → State → State × List Byte} {x : α} (hc : exec c s = .next (s.requestWith code body p f).commitNotices)
    (h : s.PortFree) (hp : parseAll p body = some x) (hcode : (code == 0x06) = false)
    (hf : f x (s.asked code body) = (y.asked code body, bytes)) (hy : y.console.raised = []) :
    exec c s = .next (y.answered code body bytes false) :=
  (exec_of_request hc h hp hcode hf).trans (next_commitNotices_of_eq rfl hy)

/-- A request whose body does not read as its block takes it is answered BAD_REQUEST. -/
theorem exec_of_badBody {α : Type} {c : Instr} {s : State} {code : Byte} {body : List Byte} {p : Parse α}
    {f : α → State → State × List Byte} (hc : exec c s = .next (s.requestWith code body p f).commitNotices)
    (h : s.PortFree) (hp : parseAll p body = none) :
    exec c s = .next (s.answered code body badRequestReply false) :=
  hc.trans (next_commitNotices_of_eq (requestWith_of_noParse h hp) h.1.2)

/-! ## The stop path (R113, R171) -/

/-- The ESTOP input forces the outputs off. -/
theorem State.outputs_of_estop {s : State} (h : s.meter.cells.estop.output = true) :
    s.pump = false ∧ s.vmain = false ∧ s.vtrim = false := by
  have hoff : s.forcedOff = true := by simp [State.forcedOff, h]
  simp [State.pump, State.vmain, State.vtrim, hoff]

/-- At a station IN_SERVICE whose path has no frame in the queue, STOP enters it behind the others. -/
theorem State.wantStop_enters {s : State} (b : Bool) (hs : s.link.state = .inService)
    (hq : s.link.queued .stopPath = none) (hw : s.stop.wanted = false) :
    (s.wantStop b).stop = { wanted := true, byConsole := b }
      ∧ (s.wantStop b).link.tx =
        s.link.tx ++ [s.newEntry .stopPath (.stop (Reason.code (if b then .estopConsole else .estopInput)))] := by
  let y : State := { s with stop := { wanted := true, byConsole := b }, link := s.link.dropKept .stopPath }
  have hno : s.link.withdrawable .stopPath .resume = false := by rw [Link.withdrawable, hq]
  have hwant : s.wantStop b = y.offerStop := by
    have hwithdraw : State.withdraw .stopPath .resume { s with stop := { wanted := true, byConsole := b } } =
        { s with stop := { wanted := true, byConsole := b } } := if_neg (ne_true_of_eq_false hno)
    rw [State.wantStop, hw, if_neg Bool.false_ne_true, hwithdraw]
  have hqueued : y.link.queued .stopPath = none := hq
  have hoffer : y.offerStop = y.offer .stopPath (.stop y.stop.reason) := by
    refine if_pos ⟨rfl, by rw [State.inService, show y.link.state = .inService from hs]; rfl, by rw [hqueued]; rfl⟩
  rw [hwant, hoffer]
  refine ⟨rfl, ?_⟩
  show (y.link.offer .stopPath 0 _).tx = _
  rw [Link.offer_of_none 0 _ hqueued]
  cases b <;> rfl

theorem State.estopRise_of_passes {s : State} {held : Nat} (h : s.meter.cells.estop.passes .estop true held = true) :
    s.cellPasses .estop true held = (s.passed .estop true).wantStop false := State.cellPasses_of_passes (n := .estop) h

/-- What else a wanted stop leaves as it is. -/
theorem State.wantStop_rest (b : Bool) (s : State) : (s.wantStop b).meter = s.meter
    ∧ (s.wantStop b).replica = s.replica ∧ (s.wantStop b).activity = s.activity
    ∧ (s.wantStop b).console = s.console := by
  rw [State.wantStop_eq]
  exact ⟨rfl, rfl, rfl, rfl⟩

theorem State.estopRequest_of_inService {s : State} (h : s.link.state = .inService) :
    s.estopRequest = (s.wantStop true, doneReply []) := if_pos (by rw [State.inService, h]; rfl)

theorem State.estopRequest_of_other {s : State} (h : s.link.state ≠ .inService) :
    s.estopRequest = (s, refusedReply .notInService) := if_neg (by simpa [State.inService] using h)

/-- The console's ESTOP at a station IN_SERVICE. -/
theorem exec_estop {s : State} (h : s.PortFree) (hs : s.link.state = .inService) :
    exec (.estop []) s =
      .next (((s.asked 0x0B []).wantStop true).reply [0x80, 0x00, 0x00] false).commitNotices :=
  exec_of_request (c := .estop []) rfl h (x := ()) rfl rfl (State.estopRequest_of_inService (s := s.asked 0x0B []) hs)

/-- The reply alone is left for the panel. -/
theorem State.wantStop_replies {s : State} (h : s.PortFree) :
    (((s.asked 0x0B []).wantStop true).reply [0x80, 0x00, 0x00] false).commitNotices.console.replies =
      [{ bytes := [0x80, 0x00, 0x00], toNotice := false }] := by
  obtain ⟨_, _, _, hconsole⟩ := (s.asked 0x0B []).wantStop_rest true
  have hraised : (((s.asked 0x0B []).wantStop true).reply [0x80, 0x00, 0x00] false).console.raised = [] :=
    (congrArg Console.raised hconsole).trans h.1.2
  rw [commitNotices_of_no_notice hraised]
  show ((s.asked 0x0B []).wantStop true).console.replies ++ _ = _
  rw [hconsole]
  show s.console.replies ++ _ = _
  rw [h.2.2]
  rfl

/-- Settles O53. -/
theorem stopPathOffersStop : Obligations.StopPathOffersStop := by
  refine ⟨fun s held hlive hp hs hq hw => ?_, fun s held hlive hp => ?_, fun s h hs => ?_, fun s h hs hq hw => ?_,
    fun s h hs => ?_, fun s h hq => ?_⟩
  · obtain ⟨hmeter, hreplica, _, _⟩ := (s.passed .estop true).wantStop_rest false
    obtain ⟨hstop, htx⟩ := State.wantStop_enters (s := s.passed .estop true) false hs hq hw
    obtain ⟨h1, h2, h3⟩ := State.outputs_of_estop (s := ((s.passed .estop true).wantStop false).commitNotices)
      (by rw [State.commitNotices_meter, hmeter]; rfl)
    exact ⟨_, exec_of_eq (f := State.cellPasses .estop true held) rfl hlive (State.estopRise_of_passes hp),
      hstop, htx, h1, h2, h3, hreplica⟩
  · obtain ⟨hmeter, hreplica, hact, _⟩ := (s.passed .estop true).wantStop_rest false
    obtain ⟨hwants, hothers⟩ := State.wantStop_wants false (s.passed .estop true)
    obtain ⟨h1, h2, h3⟩ := State.outputs_of_estop (s := ((s.passed .estop true).wantStop false).commitNotices)
      (by rw [State.commitNotices_meter, hmeter]; rfl)
    exact ⟨_, exec_of_eq (f := State.cellPasses .estop true held) rfl hlive (State.estopRise_of_passes hp),
      hwants, hreplica, hact, h1, h2, h3, hothers⟩
  · obtain ⟨_, hreplica, hact, _⟩ := (s.asked 0x0B []).wantStop_rest true
    obtain ⟨hwants, hothers⟩ := State.wantStop_wants true (s.asked 0x0B [])
    exact ⟨_, exec_estop h hs, hwants, hreplica, hact, hothers, State.wantStop_replies h⟩
  · obtain ⟨_, hreplica, _, _⟩ := (s.asked 0x0B []).wantStop_rest true
    obtain ⟨hstop, htx⟩ := State.wantStop_enters (s := s.asked 0x0B []) true hs hq hw
    exact ⟨_, exec_estop h hs, hstop, htx, hreplica, State.wantStop_replies h⟩
  · exact exec_of_answer (c := .estop []) rfl h (x := ()) rfl rfl
      (State.estopRequest_of_other (s := s.asked 0x0B []) hs) h.1.2
  · intro answer
    have hanswer {y : State} {bytes : List Byte}
        (hf : (s.asked 0x0C []).resumeRequest = (y.asked 0x0C [], bytes)) (hy : y.console = s.console) :
        exec (.consoleResume []) s = .next (answer y bytes) :=
      exec_of_answer (c := .consoleResume []) rfl h (x := ()) rfl rfl hf (by rw [hy]; exact h.1.2)
    by_cases hs : s.link.state ≠ .inService
    · rw [if_pos hs]
      exact hanswer (if_pos (by simpa [State.inService, State.asked] using hs)) rfl
    · have hin : ¬(s.asked 0x0C []).inService = false := by
        simp only [ne_eq, Classical.not_not] at hs
        simp [State.inService, State.asked, hs]
      rw [if_neg hs]
      by_cases he : s.meter.cells.estop.output = true
      · rw [if_pos he]
        exact hanswer ((if_neg hin).trans (if_pos he)) rfl
      · rw [if_neg he]
        cases hx : s.replica.site.stop with
        | none =>
          refine hanswer ((if_neg hin).trans ((if_neg he).trans ?_)) rfl
          have hx' : (s.asked 0x0C []).replica.site.stop = none := hx
          rw [hx']
          rfl
        | some x =>
          have hx' : (s.asked 0x0C []).replica.site.stop = some x := hx
          by_cases ho : x.origin = s.me
          · dsimp only
            rw [if_pos ho]
            refine hanswer ((if_neg hin).trans ((if_neg he).trans ?_)) rfl
            rw [hx']
            refine (if_pos ho).trans ?_
            rw [← State.withOffer_of_none hq]
            rfl
          · dsimp only
            rw [if_neg ho]
            refine hanswer ((if_neg hin).trans ((if_neg he).trans ?_)) rfl
            rw [hx']
            exact if_neg ho

end Sys2Proof.Machine
end

section
/-! The runs of the gauge unit (R143 to R146). -/

namespace Sys2Proof.Machine

/-! ## A notice raised while a request is answered (R176, R185) -/

theorem State.noticed_of_room {y : State} (b : NoticeBody) (h : y.console.notices.length < 16) :
    y.noticed b = { y with console := { y.console with
      notices := y.console.notices ++ [{ seq := y.replica.site.seq, body := b }] } } :=
  congrArg (fun c => { y with console := c }) (if_pos h)

theorem State.noticed_of_full {y : State} (b : NoticeBody) (h : ¬y.console.notices.length < 16) :
    y.noticed b = { y with console := { y.console with lost := true } } :=
  congrArg (fun c => { y with console := c }) (if_neg h)

theorem State.noticed_answered {y : State} (b : NoticeBody) (code : Byte) (body bytes : List Byte) (toNotice : Bool) :
    (y.answered code body bytes toNotice).noticed b = (y.noticed b).answered code body bytes toNotice := by
  by_cases h : y.console.notices.length < 16
  · rw [State.noticed_of_room b h]
    exact State.noticed_of_room (y := y.answered code body bytes toNotice) b h
  · rw [State.noticed_of_full b h]
    exact State.noticed_of_full (y := y.answered code body bytes toNotice) b h

/-- A request that the block answers with one notice raised, the rest of the station as in `y`. -/
theorem exec_of_told {α : Type} {c : Instr} {s y : State} {code : Byte} {body bytes : List Byte} {p : Parse α}
    {f : α → State → State × List Byte} {x : α} (b : NoticeBody)
    (hc : exec c s = .next (s.requestWith code body p f).commitNotices) (h : s.PortFree)
    (hp : parseAll p body = some x) (hcode : (code == 0x06) = false)
    (hf : f x (s.asked code body) = ((y.asked code body).raise b, bytes)) (hy : y.console.raised = []) :
    exec c s = .next ((y.noticed b).answered code body bytes false) := by
  rw [exec_of_request hc h hp hcode hf]
  have hraise : ((y.asked code body).raise b).reply bytes false = (y.answered code body bytes false).raise b := rfl
  rw [hraise, commitNotices_raise (s := y.answered code body bytes false) b hy, State.noticed_answered]

/-! ## A run begins (R143) -/

theorem State.gaugeStart_of_none {s : State} (n : Nat) (h : s.meter.gau.reading = none) :
    s.gaugeStart n = s.gaugeUnstable .noReading := if_pos (by rw [h]; rfl)

theorem State.gaugeStart_of_noTank {s : State} {n : Nat} (h : s.meter.gau.reading.isSome = true)
    (ht : s.replica.tank? n = none) : s.gaugeStart n = s.gaugeUnstable .noTank :=
  (if_neg (by rw [← Option.not_isSome, h]; nofun)).trans (if_pos (by rw [ht]; rfl))

theorem State.gaugeStart_of_ready {s : State} {n : Nat} (h : s.meter.gau.reading.isSome = true)
    (ht : (s.replica.tank? n).isSome = true) (hq : s.link.queued .gauge = none) : s.gaugeStart n = { s with
      gauge := { s.gauge with state := .calling }, link := s.withOffer .gauge (.census .flow n s.clock) } := by
  have heq : s.gaugeStart n =
      State.offer .gauge (.census .flow n s.clock) { s with gauge := { s.gauge with state := .calling } } :=
    (if_neg (by rw [← Option.not_isSome, h]; nofun)).trans (if_neg (by rw [← Option.not_isSome, ht]; nofun))
  rw [heq, ← State.withOffer_of_none hq]
  rfl

theorem State.gaugePeriod_of_timer {s : State} {n : Nat} (h : s.gauge.periodTimer.isSome = true)
    (hn : s.gaugeTank = some n) :
    let y : State := { s with gauge := { s.gauge with periodTimer := some 600000000 } }
    s.gaugePeriod = if s.gauge.state = .idle then y.gaugeStart n else y := by
  obtain ⟨t, ht⟩ := Option.isSome_iff_exists.mp h
  rw [State.gaugePeriod, ht, hn]

theorem State.gaugeNowRequest_of_tank {s : State} {n : Nat} (hn : s.gaugeTank = some n) : s.gaugeNowRequest =
    if s.engine.admitted = false then (s, refusedReply .notInService)
    else if s.gauge.state ≠ .idle then (s, refusedReply .busy) else (s.gaugeStart n, doneReply []) := by
  rw [State.gaugeNowRequest, hn]

/-! ## The results of the own census and GAUGE (R142, R144, R146) -/

/-- The write of an own frame whose result goes to the gauge unit. -/
theorem State.completeWrite_of_gauge {s y : State} {w : Writing} (hw : s.engine.writing = some w) (hl : w.limit = false)
    (hme : w.frame.sender = s.me)
    (hp : (∃ g, w.frame.payload = .gauge g) ∨ ∃ n time, w.frame.payload = .census .flow n time)
    (hy : (s.written w).handResult w.frame.payload w.result = y) (hin : y.replica.inService y.me = true) :
    s.completeWrite = y.resumeStream := by
  have hother : w.frame.payload ≠ .leave ∧ w.frame.payload.isAnnounce = false ∧ (∀ j, w.frame.payload ≠ .join j)
      ∧ w.frame.payload.kind? ≠ some .release ∧ ∀ n time, w.frame.payload ≠ .census .present n time := by
    rcases hp with ⟨x, hp⟩ | ⟨n, time, hp⟩ <;> rw [hp]
    · exact ⟨by simp, rfl, by simp, by simp [Payload.kind?], by simp⟩
    · exact ⟨by simp, rfl, by simp, by simp [Payload.kind?], by simp⟩
  obtain ⟨hleave, hannounce, hjoin, hrelease, hpresent⟩ := hother
  have hown := State.ownApplied_of_own (s := s.written w) w.result hme hleave
  rw [hy] at hown
  rw [State.completeWrite_eq hw hl, State.stands, hown, State.standing_of_stays (.inl hin) (.inr hannounce),
    State.becomeDonor_of_other _ hjoin, State.tellRecovery_of_other hrelease hpresent]

/-- The unit after a run that has ended. -/
theorem State.finish_gauge (s : State) : s.finish.gauge = s.gauge := by rw [State.finish_eq]

theorem State.gaugeCensus_of_calling {s : State} (h : s.gauge.state = .calling) (quiet : Bool) (seq : Nat) :
    s.gaugeCensus (.census quiet seq) = if quiet then
      { s with gauge := { s.gauge with state := .sampling, censusSeq := some seq, readings := [] } }
    else s.gaugeUnstable .flow := by
  refine (if_neg (Classical.not_not.mpr h)).trans ?_
  cases quiet <;> rfl

theorem State.gaugeApplied_of_sending {s : State} (g : Gauging) (res : ApplyResult) (h : s.gauge.state = .sending) :
    (∀ recorded reconciled variance suspect, res = .gauge recorded reconciled variance suspect →
        s.gaugeApplied g res = s.gaugeIdle.raise (.gaugeResult g recorded reconciled variance suspect))
      ∧ ((∀ recorded reconciled variance suspect, res ≠ .gauge recorded reconciled variance suspect) →
        s.gaugeApplied g res =
          s.gaugeIdle.raise (.gaugeResult g false false none (foundAnd TankEntry.suspect (s.replica.tank? g.tank)))) := by
  refine ⟨fun recorded reconciled variance suspect hres => ?_, fun hres => ?_⟩
  · subst hres
    exact if_neg (Classical.not_not.mpr h)
  · refine (if_neg (Classical.not_not.mpr h)).trans ?_
    have hsuspect : (match s.replica.tank? g.tank with | some t => t.suspect | none => false) =
        foundAnd TankEntry.suspect (s.replica.tank? g.tank) := by cases s.replica.tank? g.tank <;> rfl
    rw [← hsuspect]
    cases res
    case gauge => exact absurd rfl (hres _ _ _ _)
    all_goals rfl

/-- What a run that ends with a notice leaves, a retained write having ended with it. -/
theorem exec_gaugeEnds {s y : State} {w : Writing} {b : NoticeBody} (hlive : s.Live) (hw : s.engine.writing = some w)
    (hl : w.limit = false) (hme : w.frame.sender = s.me)
    (hp : (∃ g, w.frame.payload = .gauge g) ∨ ∃ n time, w.frame.payload = .census .flow n time)
    (hin : w.replica.inService s.me = true)
    (hy : (s.written w).handResult w.frame.payload w.result = (s.written w).gaugeIdle.raise b)
    (hfin : y = ((s.written w).gaugeIdle.raise b).finish) :
    exec .retainedWriteComplete s = .next y ∧ y.replica = w.replica
      ∧ y.gauge = { GaugeUnit.reset with periodTimer := s.gauge.periodTimer }
      ∧ (s.console.notices.length < 8 → ∃ n ∈ y.console.notices, n.body = b) := by
  subst hfin
  refine ⟨exec_of_eq (f := State.completeWrite) rfl hlive (State.completeWrite_of_gauge hw hl hme hp hy hin), ?_, ?_,
    fun hroom => ?_⟩
  · rw [State.finish_replica]
    rfl
  · rw [State.finish_gauge]
    rfl
  · refine State.finish_notices (s := s) (y := (s.written w).gaugeIdle.raise b)
      ⟨_, List.mem_append_right _ (List.mem_singleton_self _), rfl⟩ rfl ?_
    show s.console.notices.length + (s.console.raised ++ [_]).length ≤ 16
    rw [hlive.2, List.nil_append, List.length_singleton]
    omega

/-! ## The strapping table (R145) -/

theorem strapFrom_of_below {level l0 v0 l1 v1 : Nat} {rest : List (Nat × Nat)} (h : level < l1) :
    strapFrom level l0 v0 ((l1, v1) :: rest) = v0 + (v1 - v0) * (level - l0) / (l1 - l0) := if_pos h

/-- Points at or below the level are passed over. -/
theorem strapFrom_append {level a va l0 v0 : Nat} {before rest : List (Nat × Nat)}
    (h : ∀ x ∈ before.map Prod.fst, x ≤ level) (h0 : l0 ≤ level) :
    strapFrom level a va (before ++ (l0, v0) :: rest) = strapFrom level l0 v0 rest := by
  induction before generalizing a va with
  | nil => exact if_neg (Nat.not_lt.mpr h0)
  | cons x xs ih =>
    obtain ⟨b, vb⟩ := x
    have hb : b ≤ level := h b List.mem_cons_self
    have hxs : ∀ x ∈ xs.map Prod.fst, x ≤ level := fun x hx => h x (List.mem_cons_of_mem _ hx)
    exact (if_neg (Nat.not_lt.mpr hb)).trans (ih hxs)

/-- At or above a point of the table the volume is that of the points from there on. -/
theorem strapVolume_append {before rest : List (Nat × Nat)} {l0 v0 level : Nat}
    (hsorted : ((before ++ (l0, v0) :: rest).map Prod.fst).Pairwise (· < ·)) (h : l0 < level) :
    strapVolume (before ++ (l0, v0) :: rest) level = strapFrom level l0 v0 rest := by
  cases before with
  | nil => exact if_neg (Nat.not_le.mpr h)
  | cons x xs =>
    obtain ⟨b, vb⟩ := x
    have hless : ∀ y ∈ ((b, vb) :: xs).map Prod.fst, y < l0 := by
      intro y hy
      rw [List.map_append, List.pairwise_append] at hsorted
      exact hsorted.2.2 y hy l0 List.mem_cons_self
    have hb : b < level := Nat.lt_trans (hless b List.mem_cons_self) h
    refine (if_neg (Nat.not_le.mpr hb)).trans ?_
    exact strapFrom_append (fun y hy => Nat.le_of_lt (Nat.lt_trans (hless y (List.mem_cons_of_mem _ hy)) h))
      (Nat.le_of_lt h)

/-- A level that is a point of the table. -/
theorem strapVolume_at {before rest : List (Nat × Nat)} {l0 v0 : Nat}
    (hsorted : ((before ++ (l0, v0) :: rest).map Prod.fst).Pairwise (· < ·)) (hne : before ≠ []) :
    strapVolume (before ++ (l0, v0) :: rest) l0 = strapFrom l0 l0 v0 rest := by
  cases before with
  | nil => exact absurd rfl hne
  | cons x xs =>
    obtain ⟨b, vb⟩ := x
    have hless : ∀ y ∈ ((b, vb) :: xs).map Prod.fst, y < l0 := by
      intro y hy
      rw [List.map_append, List.pairwise_append] at hsorted
      exact hsorted.2.2 y hy l0 List.mem_cons_self
    refine (if_neg (Nat.not_le.mpr (hless b List.mem_cons_self))).trans ?_
    exact strapFrom_append (fun y hy => Nat.le_of_lt (hless y (List.mem_cons_of_mem _ hy))) (Nat.le_refl _)

theorem strapVolume_spec {before after : List (Nat × Nat)} {l0 v0 l1 v1 level : Nat}
    (hsorted : ((before ++ (l0, v0) :: (l1, v1) :: after).map Prod.fst).Pairwise (· < ·)) :
    let points := before ++ (l0, v0) :: (l1, v1) :: after
    (l0 ≤ level → level < l1 → strapVolume points level = v0 + (v1 - v0) * (level - l0) / (l1 - l0))
      ∧ (before = [] → level ≤ l0 → strapVolume points level = v0)
      ∧ (after = [] → l1 ≤ level → strapVolume points level = v1) := by
  intro points
  refine ⟨fun h0 h1 => ?_, fun hb h0 => ?_, fun ha h1 => ?_⟩
  · have hfrom : strapFrom level l0 v0 ((l1, v1) :: after) = v0 + (v1 - v0) * (level - l0) / (l1 - l0) :=
      strapFrom_of_below h1
    rcases Nat.lt_or_eq_of_le h0 with hlt | rfl
    · exact (strapVolume_append hsorted hlt).trans hfrom
    · by_cases hne : before = []
      · subst hne
        refine (if_pos (Nat.le_refl _) : strapVolume points l0 = v0).trans ?_
        rw [Nat.sub_self, Nat.mul_zero, Nat.zero_div, Nat.add_zero]
      · exact (strapVolume_at hsorted hne).trans hfrom
  · subst hb
    exact if_pos h0
  · subst ha
    have hlt : l0 < l1 := by
      rw [List.map_append, List.pairwise_append] at hsorted
      exact (List.pairwise_cons.mp hsorted.2.1).1 l1 List.mem_cons_self
    refine (strapVolume_append hsorted (Nat.lt_of_lt_of_le hlt h1)).trans ?_
    exact if_neg (Nat.not_lt.mpr h1)

end Sys2Proof.Machine
end

section
/-! The service responder (R152 to R154), and what the gauge unit and the responder do with their frames. -/

namespace Sys2Proof.Machine

/-! ## The responder's next frame (R152 to R154) -/

theorem State.responderPump_of_queued {s : State} {e : TxEntry} (hq : s.link.queued .responder = some e) :
    s.responderPump = s := if_pos (by rw [hq]; rfl)

/-- With its place free the responder offers the waiting BUSY. -/
theorem State.responderPump_of_busy {s : State} {n : Nat} (hq : s.link.queued .responder = none)
    (hb : s.responder.waitingBusy = some n) : s.responderPump = { s with
      responder := { s.responder with waitingBusy := none }, link := s.link.enter .responder n .busy } := by
  rw [State.responderPump, hq, hb]
  simp only [State.offerTo, Link.offer_of_none _ _ hq]
  rfl

/-- Without a waiting BUSY, and with no DATA to build, nothing happens. -/
theorem State.responderPump_of_still {s : State} (hq : s.link.queued .responder = none)
    (hb : s.responder.waitingBusy = none)
    (h : ∀ c, s.responder.context = some c → c.lastBuilt = true ∨ s.engine.freeze = true ∨ c.paused = true) :
    s.responderPump = s := by
  rw [State.responderPump, hq, hb]
  refine (if_neg nofun).trans ?_
  cases hc : s.responder.context with
  | none => rfl
  | some c =>
    refine if_pos ?_
    rw [Bool.or_eq_true, Bool.or_eq_true, or_assoc]
    exact h c hc

/-- A context that goes on has its next DATA built. -/
theorem State.responderPump_of_context {s : State} {c : ServiceContext} (hq : s.link.queued .responder = none)
    (hb : s.responder.waitingBusy = none) (hc : s.responder.context = some c) (hlast : c.lastBuilt = false)
    (hfreeze : s.engine.freeze = false) (hpaused : c.paused = false) : s.responderPump = { s with
      responder := { s.responder with context := some (buildData s.replica c).2 }
      link := s.link.enter .responder c.requester (buildData s.replica c).1 } := by
  rw [State.responderPump, hq, hb, hc]
  simp only [hlast, hfreeze, hpaused, State.offerTo, Link.offer_of_none _ _ hq]
  rfl

/-- What is built is the DATA of the context. -/
theorem State.buildsData_of_buildData {s t : State} {c : ServiceContext} {e : TxEntry}
    (hr : t.responder = { context := some (buildData s.replica c).2, waitingBusy := none })
    (hq : t.link.queued .responder = some e) (hdest : e.dest = c.requester)
    (hp : e.payload = (buildData s.replica c).1) : s.BuildsData c t := by
  have hend (m : Nat) : (c.remaining - m == 0) = decide (c.remaining ≤ m) := by
    rw [Bool.eq_iff_iff, beq_iff_eq, decide_eq_true_eq, Nat.sub_eq_zero_iff_le]
  refine ⟨fun k hk => ?_, fun hk => ⟨e, hq, hdest, ?_⟩⟩
  · rw [buildData, hk] at hr hp
    dsimp only at hr hp
    rw [hend] at hr hp
    exact ⟨hr, e, hq, hdest, hp⟩
  · rw [hp, buildData, hk]

theorem State.responderPump_builds {s y : State} {c : ServiceContext} (hq : s.link.queued .responder = none)
    (hb : s.responder.waitingBusy = none) (hc : s.responder.context = some c) (hlast : c.lastBuilt = false)
    (hfreeze : s.engine.freeze = false) (hpaused : c.paused = false) (hy : y.replica = s.replica) :
    s.responderPump.replica = s.replica ∧ s.responderPump.link.inbound = s.link.inbound
      ∧ (∃ e, s.responderPump.link.queued .responder = some e) ∧ y.BuildsData c s.responderPump := by
  rw [State.responderPump_of_context hq hb hc hlast hfreeze hpaused]
  refine ⟨rfl, rfl, ⟨_, Link.enter_queued _ _ hq⟩, ?_⟩
  refine State.buildsData_of_buildData ?_ (Link.enter_queued _ _ hq) rfl (by rw [hy])
  show ({ context := some (buildData s.replica c).2, waitingBusy := s.responder.waitingBusy } : Responder) = _
  rw [hy, hb]

/-! ## A READ (R152) -/

/-- The front of the inbound queue, a READ, at a station IN_SERVICE. -/
theorem State.serviceRead_takes {s : State} {f : Machine.Frame} {rest : List Machine.Frame} {table start count : Nat}
    (hs : s.link.state = .inService) (hin : s.link.inbound = f :: rest) (hp : f.payload = .read table start count) :
    s.takeKind .read State.serviceRead = (s.behind rest).takeRead f.sender table start count := by
  have hins : (s.behind rest).inService = true := by
    show (s.link.state == .inService) = true
    rw [hs]
    rfl
  have hkind : f.payload.kind? = some .read := by rw [hp]; rfl
  have hserves : State.serviceRead f (s.behind rest) = (s.behind rest).takeRead f.sender table start count := by
    rw [State.serviceRead, if_pos hins, hp]
  rw [State.takeKind, hin, State.popInbound_of_cons hin, ← hserves]
  exact if_pos hkind

/-- While a donation or another READ goes on, the answer is BUSY. -/
theorem State.takeRead_of_busy {s : State} (requester table start count : Nat)
    (h : s.engine.freeze = true ∨ s.responder.context.isSome = true) :
    s.takeRead requester table start count = s.offerBusy requester := if_pos (Bool.or_eq_true_iff.mpr h)

theorem State.takeRead_of_free {s : State} (requester table start count : Nat) (h : s.engine.freeze = false)
    (hc : s.responder.context = none) : s.takeRead requester table start count =
      State.responderPump { s with responder :=
        { s.responder with context := some (readContext requester table start count) } } :=
  if_neg (by rw [h, hc]; nofun)

theorem State.offerBusy_of_free {s : State} (n : Nat) (h : s.link.queued .responder = none) :
    s.offerBusy n = { s with link := s.link.enter .responder n .busy } := by
  refine (if_pos (by rw [h]; rfl)).trans ?_
  rw [State.offerTo, Link.offer_of_none _ _ h]

theorem State.offerBusy_of_queued {s : State} {e : TxEntry} (n : Nat) (h : s.link.queued .responder = some e) :
    s.offerBusy n = { s with responder :=
      if s.responder.waitingBusy = none then { s.responder with waitingBusy := some n } else s.responder } := by
  refine (if_neg (by rw [h]; nofun)).trans ?_
  cases hb : s.responder.waitingBusy with
  | none => rfl
  | some m => rfl

theorem readContext_eq (requester table start count : Nat) : readContext requester table start count =
    { requester, table, position := start, lastBuilt := false, paused := false
      remaining :=
        if ((ofCode tableCodes (BitVec.ofNat 8 table)).isSome = true ∧ table < 256) ∧ 1 ≤ count ∧ count ≤ 64
        then count else 0 } := by
  rw [readContext]
  simp only [Bool.and_eq_true, decide_eq_true_eq, and_assoc]
  split <;> rfl

/-- The first DATA of a READ. -/
theorem State.buildsData_of_read {s t : State} {requester table start count : Nat}
    (h : s.BuildsData (readContext requester table start count) t) :
    ∃ e, t.link.queued .responder = some e ∧ e.dest = requester
      ∧ (∀ k, ofCode tableCodes (BitVec.ofNat 8 table) = some k → table < 256 → 1 ≤ count → count ≤ 64 →
        let es := (s.replica.entriesFrom k start).take (min 2 count)
        e.payload = .data table s.replica.site.seq es
          (decide (count ≤ es.length) || ((s.replica.entriesFrom k start).drop es.length).isEmpty))
      ∧ ((ofCode tableCodes (BitVec.ofNat 8 table) = none ∨ count = 0 ∨ 64 < count) →
        e.payload = .data table s.replica.site.seq [] true) := by
  rw [readContext_eq] at h
  obtain ⟨hknown, hunknown⟩ := h
  cases hk : ofCode tableCodes (BitVec.ofNat 8 table) with
  | none =>
    obtain ⟨e, hq, hdest, hp⟩ := hunknown hk
    exact ⟨e, hq, hdest, nofun, fun _ => hp⟩
  | some k =>
    obtain ⟨_, e, hq, hdest, hp⟩ := hknown k hk
    refine ⟨e, hq, hdest, fun k' hk' htable hone hcount => ?_, fun hbad => ?_⟩
    · obtain rfl := Option.some.inj hk'
      rw [if_pos ⟨⟨by rw [hk]; rfl, htable⟩, hone, hcount⟩] at hp
      exact hp
    · have hno : ¬(((ofCode tableCodes (BitVec.ofNat 8 table)).isSome = true ∧ table < 256)
          ∧ 1 ≤ count ∧ count ≤ 64) := by
        rintro ⟨_, hone, hcount⟩
        rcases hbad with hbad | hbad | hbad
        · cases hbad
        · omega
        · omega
      rw [if_neg hno] at hp
      exact hp

/-! ## The responder's frames leave (R152, R154) -/

/-- The context that a frame of the responder leaves with its outcome. -/
def State.leftContext (p : Payload) (accept : Bool) (s : State) : Option ServiceContext :=
  let goesOn : Bool :=
    match p with
    | .data _ _ _ endFlag => accept && !endFlag
    | _ => true
  if goesOn then s.responder.context else none

theorem State.responderOutcome_of_window (p : Payload) (accept : Bool) (s : State) :
    s.responderOutcome p (if accept then .taken else .notTaken) =
      State.responderPump { s with responder := { s.responder with context := s.leftContext p accept } } := by
  unfold State.responderOutcome State.leftContext
  cases p
  case data table seq es endFlag => cases accept <;> cases endFlag <;> rfl
  all_goals rfl

/-- The own service frame of the responder leaves, and the next one is offered. -/
theorem State.frameLeaves_of_responder {s : State} {e : TxEntry} (accept : Bool) (ho : e.origin = .responder) :
    let y : State := State.responderPump { s with
      link := s.link.remove .responder, responder := { s.responder with context := s.leftContext e.payload accept } }
    s.frameLeaves e (if accept then .taken else .notTaken) = { y with link := y.link.offerKept .responder } := by
  rw [State.frameLeaves, ho]
  exact congrArg (fun y : State => { y with link := y.link.offerKept .responder })
    (State.responderOutcome_of_window e.payload accept { s with link := s.link.remove .responder })

end Sys2Proof.Machine
end

section
/-! The gauge unit's runs and the service reads, settled. -/

namespace Sys2Proof.Machine

/-! ## The gauge unit's period and requests (R143) -/

theorem exec_gaugePeriod {s : State} {n : Nat} (hlive : s.Live) (htimer : s.gauge.periodTimer.isSome = true)
    (hn : s.gaugeTank = some n) :
    let g : GaugeUnit := { s.gauge with periodTimer := some 600000000 }
    let g0 : GaugeUnit := { GaugeUnit.reset with periodTimer := some 600000000 }
    (s.gauge.state ≠ .idle → exec .gaugePeriod s = .next { s with gauge := g })
    ∧ (s.gauge.state = .idle → s.meter.gau.reading = none →
      exec .gaugePeriod s = .next ({ s with gauge := g0 }.noticed (.gaugeUnstable .noReading)))
    ∧ (s.gauge.state = .idle → s.meter.gau.reading.isSome = true → s.replica.tank? n = none →
      exec .gaugePeriod s = .next ({ s with gauge := g0 }.noticed (.gaugeUnstable .noTank)))
    ∧ (s.gauge.state = .idle → s.meter.gau.reading.isSome = true →
      (s.replica.tank? n).isSome = true → s.link.queued .gauge = none →
      exec .gaugePeriod s = .next { s with
        gauge := { g with state := .calling }, link := s.withOffer .gauge (.census .flow n s.clock) }) := by
  intro g g0
  have hperiod := State.gaugePeriod_of_timer htimer hn
  dsimp only at hperiod
  have hstart (h : s.gauge.state = .idle) := hperiod.trans (if_pos h)
  have hunstable (b : Reason) {f : State} (hf : s.gaugePeriod = f)
      (h : f = State.gaugeUnstable b { s with gauge := g }) :
      exec .gaugePeriod s = .next ({ s with gauge := g0 }.noticed (.gaugeUnstable b)) := by
    refine next_act_of_notice (s := s) (f := State.gaugePeriod) hlive (y := { s with gauge := g0 }) ?_ hlive.2
    exact hf.trans h
  refine ⟨fun h => ?_, fun h hr => ?_, fun h hr ht => ?_, fun h hr ht hq => ?_⟩
  · exact exec_of_quiet (f := State.gaugePeriod) rfl hlive (hperiod.trans (if_neg h)) rfl
  · exact hunstable _ (hstart h) (State.gaugeStart_of_none (s := { s with gauge := g }) n hr)
  · exact hunstable _ (hstart h) (State.gaugeStart_of_noTank (s := { s with gauge := g }) hr ht)
  · refine exec_of_quiet (f := State.gaugePeriod) rfl hlive ((hstart h).trans ?_) rfl
    exact State.gaugeStart_of_ready (s := { s with gauge := g }) hr ht hq

theorem exec_gaugeNow {s : State} (h : s.PortFree) :
    let answer (t : State) (bytes : List Byte) := t.answered 0x0E [] bytes false
    (s.gaugeTank = none → exec (.gaugeNow []) s = .next (answer s (refusedReply .noGauge)))
    ∧ ∀ n, s.gaugeTank = some n →
      (s.engine.admitted = false →
        exec (.gaugeNow []) s = .next (answer s (refusedReply .notInService)))
      ∧ (s.engine.admitted = true → s.gauge.state ≠ .idle →
        exec (.gaugeNow []) s = .next (answer s (refusedReply .busy)))
      ∧ (s.engine.admitted = true → s.gauge.state = .idle → s.meter.gau.reading.isSome = true →
        (s.replica.tank? n).isSome = true → s.link.queued .gauge = none →
        let t : State := { s with
          gauge := { s.gauge with state := .calling }, link := s.withOffer .gauge (.census .flow n s.clock) }
        exec (.gaugeNow []) s = .next (answer t [0x80, 0x00, 0x00]))
      ∧ (s.engine.admitted = true → s.gauge.state = .idle →
        (s.meter.gau.reading = none ∨ s.replica.tank? n = none) →
        let cause : Reason := if s.meter.gau.reading = none then .noReading else .noTank
        let t : State := State.noticed (.gaugeUnstable cause)
          { s with gauge := { GaugeUnit.reset with periodTimer := s.gauge.periodTimer } }
        exec (.gaugeNow []) s = .next (answer t [0x80, 0x00, 0x00])) := by
  intro answer
  have hanswer {y : State} {bytes : List Byte}
      (hf : (s.asked 0x0E []).gaugeNowRequest = (y.asked 0x0E [], bytes)) (hy : y.console = s.console) :
      exec (.gaugeNow []) s = .next (answer y bytes) :=
    exec_of_answer (c := .gaugeNow []) rfl h (x := ()) rfl rfl hf (by rw [hy]; exact h.1.2)
  refine ⟨fun hn => hanswer ?_ rfl, fun n hn => ?_⟩
  · rw [State.gaugeNowRequest, show (s.asked 0x0E []).gaugeTank = none from hn]
  · have hrequest := State.gaugeNowRequest_of_tank (s := s.asked 0x0E []) hn
    have hstarts (hadm : s.engine.admitted = true) (hidle : s.gauge.state = .idle) :
        (s.asked 0x0E []).gaugeNowRequest = ((s.asked 0x0E []).gaugeStart n, doneReply []) :=
      (hrequest.trans (if_neg (Bool.not_eq_false _ ▸ hadm))).trans (if_neg (Classical.not_not.mpr hidle))
    refine ⟨fun hadm => ?_, fun hadm hbusy => ?_, fun hadm hidle hr ht hq => ?_, fun hadm hidle hno => ?_⟩
    · exact hanswer (hrequest.trans (if_pos hadm)) rfl
    · exact hanswer ((hrequest.trans (if_neg (Bool.not_eq_false _ ▸ hadm))).trans (if_pos hbusy)) rfl
    · refine hanswer ((hstarts hadm hidle).trans ?_) rfl
      rw [State.gaugeStart_of_ready (s := s.asked 0x0E []) hr ht hq]
      rfl
    · intro cause t
      have hunstable : (s.asked 0x0E []).gaugeStart n = (s.asked 0x0E []).gaugeUnstable cause := by
        by_cases hr : s.meter.gau.reading = none
        · rw [show cause = .noReading from if_pos hr]
          exact State.gaugeStart_of_none n hr
        · rw [show cause = .noTank from if_neg hr]
          exact State.gaugeStart_of_noTank (Option.isSome_iff_ne_none.mpr hr) (hno.resolve_left hr)
      refine exec_of_told (c := .gaugeNow []) (y := s.gaugeIdle) (.gaugeUnstable cause) rfl h (x := ()) rfl rfl ?_ h.1.2
      refine (hstarts hadm hidle).trans ?_
      rw [hunstable]
      rfl

/-! ## Its results, and its frame left UNDELIVERED (R142, R144, R146) -/

theorem exec_gaugeResult {s : State} {w : Writing} (hlive : s.Live) (hw : s.engine.writing = some w)
    (hl : w.limit = false) (hme : w.frame.sender = s.me) (hin : w.replica.inService s.me = true) :
    let idle : GaugeUnit := { GaugeUnit.reset with periodTimer := s.gauge.periodTimer }
    let tells (t : State) (b : NoticeBody) : Prop :=
      s.console.notices.length < 8 → ∃ n ∈ t.console.notices, n.body = b
    (∀ n time quiet seq, w.frame.payload = .census .flow n time → w.result = .census quiet seq →
      s.gauge.state = .calling →
      ∃ t, exec .retainedWriteComplete s = .next t ∧ t.replica = w.replica
        ∧ (quiet = true → t.gauge =
          { s.gauge with state := .sampling, censusSeq := some seq, readings := [] })
        ∧ (quiet = false → t.gauge = idle ∧ tells t (.gaugeUnstable .flow)))
    ∧ ∀ g, w.frame.payload = .gauge g → s.gauge.state = .sending →
      ∃ t, exec .retainedWriteComplete s = .next t ∧ t.replica = w.replica ∧ t.gauge = idle
        ∧ (∀ recorded reconciled variance suspect,
          w.result = .gauge recorded reconciled variance suspect →
          tells t (.gaugeResult g recorded reconciled variance suspect))
        ∧ (w.result = .noChange →
          tells t (.gaugeResult g false false none (foundAnd TankEntry.suspect (w.replica.tank? g.tank)))) := by
  intro idle tells
  refine ⟨fun n time quiet seq hp hres hstate => ?_, fun g hp hstate => ?_⟩
  · have hown : w.frame.payload = .census .flow n time → (s.written w).handResult w.frame.payload w.result =
        (s.written w).gaugeCensus (.census quiet seq) := fun hp => by rw [hp, hres]; rfl
    have hcensus := (hown hp).trans (State.gaugeCensus_of_calling (s := s.written w) hstate quiet seq)
    cases quiet with
    | true =>
      refine ⟨_, exec_of_eq (f := State.completeWrite) rfl hlive
        (State.completeWrite_of_gauge hw hl hme (.inr ⟨n, time, hp⟩) hcensus hin), ?_, fun _ => ?_, nofun⟩
      · exact State.finish_replica _
      · exact State.finish_gauge _
    | false =>
      obtain ⟨hexec, hreplica, hgauge, htells⟩ := exec_gaugeEnds hlive hw hl hme (.inr ⟨n, time, hp⟩) hin hcensus rfl
      exact ⟨_, hexec, hreplica, nofun, fun _ => ⟨hgauge, htells⟩⟩
  · have hown : (s.written w).handResult w.frame.payload w.result = (s.written w).gaugeApplied g w.result := by
      rw [hp]
      rfl
    obtain ⟨hgauging, hother⟩ := State.gaugeApplied_of_sending (s := s.written w) g w.result hstate
    by_cases hres : ∃ recorded reconciled variance suspect, w.result = .gauge recorded reconciled variance suspect
    · obtain ⟨a, b, c, d, hres⟩ := hres
      obtain ⟨hexec, hreplica, hgauge, htells⟩ :=
        exec_gaugeEnds hlive hw hl hme (.inl ⟨g, hp⟩) hin (hown.trans (hgauging a b c d hres)) rfl
      refine ⟨_, hexec, hreplica, hgauge, fun a' b' c' d' h' => ?_, fun h' => ?_⟩
      · obtain ⟨rfl, rfl, rfl, rfl⟩ : a = a' ∧ b = b' ∧ c = c' ∧ d = d' := by
          simpa using hres.symm.trans h'
        exact htells
      · rw [hres] at h'
        cases h'
    · have hno : ∀ recorded reconciled variance suspect, w.result ≠ .gauge recorded reconciled variance suspect :=
        fun a b c d h => hres ⟨a, b, c, d, h⟩
      obtain ⟨hexec, hreplica, hgauge, htells⟩ :=
        exec_gaugeEnds hlive hw hl hme (.inl ⟨g, hp⟩) hin (hown.trans (hother hno)) rfl
      exact ⟨_, hexec, hreplica, hgauge, fun a b c d h => absurd h (hno a b c d), fun _ => htells⟩

theorem State.gaugeFrameLost_of_running {s : State} (h : s.gauge.state = .calling ∨ s.gauge.state = .sending) :
    s.gaugeFrameLost = s.gaugeUnstable .link := by
  unfold State.gaugeFrameLost
  rcases h with h | h <;> rw [h]

theorem exec_gaugeUndelivered {s : State} {x : Slots} {w : OnWire} {e : TxEntry} (h : s.Sends w e)
    (ho : w.origin = .gauge) (hv : x.void = true) (he : e.voids = 15)
    (hstate : s.gauge.state = .calling ∨ s.gauge.state = .sending) :
    ∃ t, exec (.undelivered x) s = .next t ∧ t.replica = s.replica
      ∧ t.link = { s.link.afterLeaving .gauge with voidHold := true }
      ∧ t.gauge = { GaugeUnit.reset with periodTimer := s.gauge.periodTimer }
      ∧ (s.console.notices.length < 8 → ∃ n ∈ t.console.notices, n.body = .gaugeUnstable .link) := by
  have hy : State.blockOutcome w.origin e.payload .undelivered { s with link := s.voidHeld.link.remove w.origin } =
      State.gaugeUnstable .link { s with link := s.voidHeld.link.remove w.origin } := by
    rw [ho]
    exact State.gaugeFrameLost_of_running (s := { s with link := s.voidHeld.link.remove .gauge }) hstate
  have hund := State.undelivered_of_link h hv he hy rfl
  rw [ho] at hund
  refine ⟨_, exec_of_eq (f := State.undelivered x) rfl h.1 hund, rfl, rfl, rfl, fun hroom => ?_⟩
  refine exists_notice (b := .gaugeUnstable .link) ⟨_, List.mem_append_right _ (List.mem_singleton_self _), rfl⟩ rfl ?_
  show s.console.notices.length + (s.console.raised ++ [_]).length ≤ 16
  rw [h.1.2, List.nil_append, List.length_singleton]
  omega

/-! ## Reads and the responder's frames (R152 to R154) -/

theorem exec_serviceRead {s : State} {f : Machine.Frame} {rest : List Machine.Frame} {table start count : Nat}
    (hlive : s.Live) (hs : s.link.state = .inService) (hin : s.link.inbound = f :: rest)
    (hp : f.payload = .read table start count) {y : State}
    (hy : (s.behind rest).takeRead f.sender table start count = y) :
    exec .serviceRead s = .next y.commitNotices :=
  exec_of_eq (f := State.takeKind .read State.serviceRead) rfl hlive ((State.serviceRead_takes hs hin hp).trans hy)

/-- A frame of the responder has left in its window, and what the block leaves next. -/
theorem exec_responderWindow {s : State} {rx : List Bit} {x : Slots} {w : OnWire} {e : TxEntry} (h : s.Sends w e)
    (hk : w.frame.payload.category = .service) (ho : w.origin = .responder) (hv : x.void = false) :
    (∀ n, s.responder.waitingBusy = some n →
      let b : TxEntry :=
        { origin := .responder, dest := n, payload := .busy, voids := 0, entered := s.link.entered }
      exec (.serviceWindow rx x) s = .next { s with
        link := { s.link with
          wire := none, entered := s.link.entered + 1,
          tx := (s.link.tx.filter fun y => decide (y.origin ≠ .responder)) ++ [b] },
        responder := { context := s.leftContext e.payload x.accept, waitingBusy := none } })
    ∧ (s.responder.waitingBusy = none →
      (∀ c, s.leftContext e.payload x.accept = some c →
        c.lastBuilt = true ∨ s.engine.freeze = true ∨ c.paused = true) →
      exec (.serviceWindow rx x) s = .next { s with
        link := s.link.afterLeaving .responder
        responder := { context := s.leftContext e.payload x.accept, waitingBusy := none } })
    ∧ ∀ c, s.responder.waitingBusy = none → s.leftContext e.payload x.accept = some c → c.lastBuilt = false →
      s.engine.freeze = false → c.paused = false →
      ∃ t, exec (.serviceWindow rx x) s = .next t ∧ t.replica = s.replica ∧ s.BuildsData c t := by
  have horigin : e.origin = .responder := h.origin.trans ho
  let y : State := { s with
    link := s.link.remove .responder, responder := { s.responder with context := s.leftContext e.payload x.accept } }
  have hfree : y.link.queued .responder = none := Link.remove_queued _ _
  have hleaves : s.window .service rx x =
      { y.responderPump with link := y.responderPump.link.offerKept .responder } :=
    (State.window_of_service rx h hk hv).trans (State.frameLeaves_of_responder x.accept horigin)
  have hon := h.onWire
  rw [horigin] at hon
  have hwire : (s.link.remove .responder).wire = none := if_pos hon
  refine ⟨fun n hn => ?_, fun hb hstill => ?_, fun c hb hc hlast hfreeze hpaused => ?_⟩
  · refine exec_of_quiet (f := State.window .service rx x) rfl h.1 (hleaves.trans ?_) rfl
    rw [State.responderPump_of_busy (s := y) hfree hn, Link.offerKept_of_queued (Link.enter_queued _ _ hfree)]
    show ({ s with
      link := { s.link with tx := _, wire := (s.link.remove .responder).wire, entered := _ }, responder := _ } : State) = _
    rw [hwire]
    rfl
  · refine exec_of_quiet (f := State.window .service rx x) rfl h.1 (hleaves.trans ?_) rfl
    rw [State.responderPump_of_still (s := y) hfree hb hstill, ← Link.remove_offerKept (.inl hon)]
    show ({ s with link := _, responder := { context := _, waitingBusy := s.responder.waitingBusy } } : State) = _
    rw [hb]
  · obtain ⟨hreplica, _, ⟨z, hz⟩, hbuilds⟩ :=
      State.responderPump_builds (s := y) (y := s) hfree hb hc hlast hfreeze hpaused rfl
    rw [Link.offerKept_of_queued hz] at hleaves
    exact ⟨_, exec_of_eq (c := .serviceWindow rx x) (f := State.window .service rx x) rfl h.1 hleaves, hreplica, hbuilds⟩

/-- Settles O54. -/
theorem gaugeRunsAndServiceReads : Obligations.GaugeRunsAndServiceReads := by
  refine ⟨⟨fun s n hlive htimer hn => exec_gaugePeriod hlive htimer hn, fun s h => exec_gaugeNow h⟩,
    ⟨fun s w hlive hw hl hme _ hin => exec_gaugeResult hlive hw hl hme hin,
      fun s x w e h ho hv he hstate => exec_gaugeUndelivered h ho hv he hstate,
      fun before after l0 v0 l1 v1 level hsorted => strapVolume_spec hsorted⟩,
    fun s f rest table start count hlive hs hin hp hq => ⟨fun hfreeze hresponder => ?_, fun hbusy => ?_⟩,
    fun s f rest table start count e hlive hs hin hp hq => ?_,
    fun s rx x w e h hk ho hv => ?_, fun s x w e table seq es endFlag h ho hp hv he hb => ?_⟩
  · have hcontext : s.responder.context = none := by rw [hresponder]
    have hwaits : s.responder.waitingBusy = none := by rw [hresponder]
    let y : State := { s.behind rest with responder :=
      { s.responder with context := some (readContext f.sender table start count) } }
    have htake := State.takeRead_of_free (s := s.behind rest) f.sender table start count hfreeze hcontext
    have hc := readContext_eq f.sender table start count
    obtain ⟨hreplica, hinbound, _, hbuilds⟩ := State.responderPump_builds (s := y) (y := s) hq hwaits rfl
      (congrArg ServiceContext.lastBuilt hc) hfreeze (congrArg ServiceContext.paused hc) rfl
    obtain ⟨e, hqueued, hdest, hknown, hunknown⟩ := State.buildsData_of_read hbuilds
    exact ⟨_, e, exec_serviceRead hlive hs hin hp htake, hinbound, hreplica, hqueued, hdest, hknown, hunknown⟩
  · have htake := (State.takeRead_of_busy (s := s.behind rest) f.sender table start count hbusy).trans
      (State.offerBusy_of_free (s := s.behind rest) f.sender hq)
    exact ⟨_, _, exec_serviceRead hlive hs hin hp htake, rfl, rfl, rfl, Link.enter_queued _ _ hq, rfl, rfl⟩
  · intro l known c
    refine ⟨fun hbusy => ?_, fun hfreeze hcontext => ?_⟩
    · have htake := (State.takeRead_of_busy (s := s.behind rest) f.sender table start count hbusy).trans
        (State.offerBusy_of_queued (s := s.behind rest) f.sender hq)
      exact exec_of_quiet (f := State.takeKind .read State.serviceRead) rfl hlive
        ((State.serviceRead_takes hs hin hp).trans htake) rfl
    · have htake := State.takeRead_of_free (s := s.behind rest) f.sender table start count hfreeze hcontext
      have hc : readContext f.sender table start count = c := readContext_eq f.sender table start count
      rw [hc] at htake
      have hwaits := htake.trans (State.responderPump_of_queued hq)
      exact exec_of_quiet (f := State.takeKind .read State.serviceRead) rfl hlive
        ((State.serviceRead_takes hs hin hp).trans hwaits) rfl
  · exact exec_responderWindow h hk ho hv
  · have hout : State.blockOutcome w.origin e.payload .undelivered { s with link := s.voidHeld.link.remove w.origin } =
        { s with
          link := s.voidHeld.link.remove w.origin
          responder := { context := none, waitingBusy := none } } := by
      rw [ho, hp, ← hb]
      exact State.responderPump_of_still (s := { s with
        link := s.voidHeld.link.remove .responder, responder := { s.responder with context := none } })
        (Link.remove_queued _ _) hb nofun
    have hund := State.undelivered_of_link h hv he hout rfl
    rw [ho] at hund
    exact exec_of_quiet (f := State.undelivered x) rfl h.1 hund rfl

end Sys2Proof.Machine
end

section
/-! The supply drop and reset (R86, R164, R181). -/

namespace Sys2Proof.Machine

/-! ## A retained write in progress (R27, R164) -/

/-- Completed or not, it leaves the tables, the limit mark and the counter of free values as it says, and no write. -/
theorem State.settleWrite_spec (s : State) :
    s.settleWrite = { s with
        engine := { s.engine with writing := none }, replica := s.settleWrite.replica
        limitReached := s.settleWrite.limitReached, free := s.settleWrite.free }
      ∧ (s.engine.writing = none → s.settleWrite.replica = s.replica ∧ s.settleWrite.limitReached = s.limitReached)
      ∧ ∀ w, s.engine.writing = some w → s.settleWrite.replica = w.replica ∨ s.settleWrite.replica = s.replica := by
  cases hw : s.engine.writing with
  | none =>
    have hstays : s.settleWrite = s := by rw [State.settleWrite, hw]
    refine ⟨hstays.trans ?_, fun _ => by rw [hstays]; exact ⟨rfl, rfl⟩, fun _ h => by cases h⟩
    rw [hstays, ← hw]
  | some w =>
    have hsettles : s.settleWrite = { s with
        engine := { s.engine with writing := none }
        replica := if Config.writeCompletes s.free then w.replica else s.replica
        limitReached := s.limitReached || (Config.writeCompletes s.free && w.limit)
        free := s.free + 1 } := by rw [State.settleWrite, hw]
    rw [hsettles]
    refine ⟨rfl, nofun, fun w' h => ?_⟩
    obtain rfl := Option.some.inj h
    by_cases hdone : Config.writeCompletes s.free = true
    · exact .inl (if_pos hdone)
    · exact .inr (if_neg hdone)

/-! ## The supply drop (R164) -/

/-- The record of a running activity with its final values. -/
def State.droppedRecord (s : State) : Option ActRecord :=
  if s.supply.phase = .running then s.supply.record.map fun r =>
    { r with gross := s.meter.gross, comp := s.meter.reportedComp, endReason := some (r.endReason.getD .powerLoss) }
  else s.supply.record

theorem State.finalRecord_eq (s : State) :
    s.finalRecord = { s with supply := { s.supply with record := s.droppedRecord } } := by
  unfold State.finalRecord State.droppedRecord
  split <;> rfl

theorem State.supplyDrop_eq (s : State) : s.supplyDrop = { s.finalRecord.settleWrite with
    link := { s.link with wire := none }
    port := { s.port with sent := [] }
    supply := { s.supply with record := s.droppedRecord, state := .powerDown } } := by
  obtain ⟨hsettled, _⟩ := s.finalRecord.settleWrite_spec
  rw [State.supplyDrop, hsettled, s.finalRecord_eq]

/-- In POWER_DOWN the outputs are off (R113). -/
theorem State.outputs_of_powerDown {s : State} (h : s.supply.state = .powerDown) :
    s.pump = false ∧ s.vmain = false ∧ s.vtrim = false := by
  have hoff : s.forcedOff = true := by simp [State.forcedOff, h]
  simp [State.pump, State.vmain, State.vtrim, hoff]

/-- What a supply drop leaves. -/
theorem State.supplyDrop_spec (s : State) :
    let t := s.supplyDrop
    t.supply.state = .powerDown ∧ t.console = s.console ∧ t.engine.writing = none
      ∧ (s.engine.writing = none → t.replica = s.replica)
      ∧ (∀ w, s.engine.writing = some w → t.replica = w.replica ∨ t.replica = s.replica)
      ∧ t.supply.record = s.droppedRecord := by
  obtain ⟨hsettled, hnone, hsome⟩ := s.finalRecord.settleWrite_spec
  rw [s.finalRecord_eq] at hsettled hnone hsome
  intro t
  have ht : t = _ := s.supplyDrop_eq
  rw [s.finalRecord_eq, hsettled] at ht
  rw [ht]
  exact ⟨rfl, rfl, rfl, fun h => (hnone h).1, hsome, rfl⟩

theorem State.svmRise_of_passes {s : State} {held : Nat} (h : s.meter.cells.svm.passes .svm true held = true) :
    s.cellPasses .svm true held = (s.passed .svm true).supplyDrop := State.cellPasses_of_passes (n := .svm) h

/-! ## Reset (R181) -/

/-- Reset, with a write in progress completed or not. -/
theorem State.resetNow_eq (inputs : BitVec 8) (s : State) :
    let r := State.resetWith inputs s.settleWrite.replica s.wiped s.settleWrite.limitReached s.supply.record
      s.settleWrite.free s.pending
    s.resetNow inputs = if inputs.getLsbD 6 then r.supplyDrop else r := by
  obtain ⟨hsettled, _⟩ := s.settleWrite_spec
  intro r
  have hr : r = State.resetWith inputs s.settleWrite.replica s.settleWrite.wiped s.settleWrite.limitReached
      s.settleWrite.supply.record s.settleWrite.free s.settleWrite.pending := by
    rw [congrArg State.wiped hsettled, congrArg State.supply hsettled, congrArg State.pending hsettled]
  rw [hr]
  rfl

theorem State.resetNow_of_up {s : State} {inputs : BitVec 8} (h : inputs.getLsbD 6 = false) :
    s.resetNow inputs = State.resetWith inputs s.settleWrite.replica s.wiped s.settleWrite.limitReached
      s.supply.record s.settleWrite.free s.pending :=
  (s.resetNow_eq inputs).trans (if_neg (ne_true_of_eq_false h))

/-- A supply that is down at the first sample. -/
theorem State.resetNow_of_down {s : State} {inputs : BitVec 8} (h : inputs.getLsbD 6 = true) :
    (s.resetNow inputs).supply.state = .powerDown ∧ (s.resetNow inputs).supply.record = s.supply.record := by
  rw [s.resetNow_eq inputs, if_pos h]
  obtain ⟨hdown, _, _, _, _, hrecord⟩ := (State.resetWith inputs s.settleWrite.replica s.wiped
    s.settleWrite.limitReached s.supply.record s.settleWrite.free s.pending).supplyDrop_spec
  exact ⟨hdown, hrecord.trans (if_neg (by simp [State.resetWith]))⟩

theorem State.discardPartial_nil (s : State) : s.discardPartial [] = s := by
  unfold State.discardPartial
  split
  case h_1 hpartial => cases hpartial
  case h_2 => rfl

/-- SEL rises with no request cut short. -/
theorem State.selRise_nil (clocked : Nat) (inputs : BitVec 8) (s : State) : s.selRise clocked [] inputs =
    if s.console.resetPending then (s.clockBytes clocked).endTransaction.resetNow inputs
    else (s.clockBytes clocked).endTransaction := by
  rw [State.selRise, State.discardPartial_nil]
  rfl

/-- SEL rises behind a RESET. -/
theorem exec_selRise_of_reset {s : State} {clocked : Nat} {inputs : BitVec 8} (hpending : s.console.resetPending = true)
    (hw : s.engine.writing = none) (h : inputs.getLsbD 6 = false) :
    exec (.selRise clocked [] inputs) s = .next
      (State.resetWith inputs s.replica s.wiped s.limitReached s.supply.record s.free s.pending) := by
  let y := (s.clockBytes clocked).endTransaction
  have hsettles : y.settleWrite = y := by
    rw [State.settleWrite, show y.engine.writing = none from hw]
  have hreset : s.selRise clocked [] inputs =
      State.resetWith inputs s.replica s.wiped s.limitReached s.supply.record s.free s.pending := by
    rw [State.selRise_nil, if_pos hpending, State.resetNow_of_up h, hsettles]
    rfl
  exact next_commitNotices_of_eq hreset rfl

/-- RESET is answered in POWER_DOWN too. -/
theorem exec_reset {s : State} (hraised : s.console.raised = []) (hrequest : s.console.request = [])
    (hreplies : s.console.replies = []) :
    exec (.reset []) s = .next (State.answered 0x03 [] [0x80, 0x00, 0x00] false
      { s with console := { s.console with resetPending := true } }) := by
  have heq : s.requestWith 0x03 [] parseNothing (fun _ => State.resetRequest) =
      State.answered 0x03 [] [0x80, 0x00, 0x00] false
        { s with console := { s.console with resetPending := true } } :=
    request_of_answered [] _ hrequest hreplies rfl
  exact next_commitNotices_of_eq heq hraised

/-- Settles O55. -/
theorem supplyDropAndReset : Obligations.SupplyDropAndReset := by
  refine ⟨fun s held hlive hp => ?_, fun s inputs h => ?_, fun s inputs h => ?_,
    fun s h1 h2 h3 => exec_reset h1 h2 h3, fun s clocked inputs _ hpending hw h => exec_selRise_of_reset hpending hw h⟩
  · obtain ⟨hdown, hconsole, hwriting, hnone, hsome, hrecord⟩ := (s.passed .svm true).supplyDrop_spec
    have hexec := exec_of_quiet (c := .supplyDrop held) (f := State.cellPasses .svm true held) rfl hlive
      (State.svmRise_of_passes hp) hconsole
    obtain ⟨hpump, hmain, htrim⟩ := State.outputs_of_powerDown hdown
    exact ⟨_, hexec, hdown, hpump, hmain, htrim, hwriting, hnone, hsome, hrecord⟩
  · obtain ⟨_, hnone, hsome⟩ := s.settleWrite_spec
    exact ⟨_, _, _, congrArg Host.Outcome.next (State.resetNow_of_up h), hnone, hsome⟩
  · obtain ⟨hdown, hrecord⟩ := State.resetNow_of_down (s := s) h
    exact ⟨_, rfl, hdown, hrecord⟩

end Sys2Proof.Machine
end

section
/-! The console's transactions (R175, R176, R186) and the bodies that its requests read (R188). -/

namespace Sys2Proof.Machine

/-! ## Transactions (R175, R176, R186) -/

/-- Behind an unfinished reply a request is answered WRONG_STATE. -/
theorem request_of_unfinished {s : State} {code : Byte} (body : List Byte) (fits : Bool)
    (f : State → State × List Byte) (hq : s.console.request = []) (hr : s.console.replies ≠ []) :
    s.request code body fits f = s.answered code body wrongStateReply false := by
  simp [State.request, State.answered, State.reply, hq, hr]

/-- Bytes of the one reply left are clocked out. -/
theorem State.clockBytes_of_one {s : State} {r : Reply} (n : Nat) (h : s.console.replies = [r]) :
    s.clockBytes n = { s with console :=
      if n < r.bytes.length then { s.console with replies := [{ r with bytes := r.bytes.drop n }] }
      else { s.console with replies := [], noticeClocked := s.console.noticeClocked || r.toNotice } } := by
  rw [State.clockBytes, h, clockOut]
  split
  · rw [Bool.or_false]
  · rfl

theorem State.clockBytes_of_none {s : State} (n : Nat) (h : s.console.replies = []) : s.clockBytes n = s := by
  rw [State.clockBytes, h, clockOut, Bool.or_false, ← h]

/-- A request cut short is answered BAD_REQUEST. -/
theorem State.discardPartial_of_cut {s : State} {b : Byte} (bs : List Byte) (h : s.console.request = []) (hb : b ≠ 0) :
    s.discardPartial (b :: bs) = s.reply badRequestReply false := by
  unfold State.discardPartial
  rw [h]
  exact if_neg hb

/-- The transaction ends at a station with its supply up. -/
theorem State.endTransaction_of_live {s : State} (h : s.supply.state = .normal) :
    s.endTransaction = { s with console := { s.console with
      request := [], selected := false, noticeClocked := false
      releasing := s.console.releasing || s.console.noticeClocked } } := by
  rw [State.endTransaction, h, show (SupplyState.normal != .powerDown) = true from rfl, Bool.and_true]

/-- Settles O56. -/
theorem consoleTransactions : Obligations.ConsoleTransactions := by
  refine ⟨fun c code body s hc hlive hq hr => ?_, fun code body s h hcode => ?_, fun s r clocked hlive hq hr => ?_,
    fun s r clocked inputs hlive hreset hr hclocked => ?_, fun s b bs inputs h hreset hnotice hb => ?_⟩
  · obtain ⟨fits, f, hexec⟩ := exec_of_requestOf s hc
    exact hexec.trans (next_commitNotices_of_eq (request_of_unfinished body fits f hq hr) hlive.2)
  · obtain ⟨⟨hs, hraised⟩, hq, hr⟩ := h
    exact next_commitNotices_of_eq
      ((unknownRequest_eq body s hcode).trans (request_of_unfit code body _ hq hr hs)) hraised
  · have hclock := State.clockBytes_of_one (s := { s with console := { s.console with
      request := [0x00], selected := true } }) clocked hr
    have heq : s.noRequest clocked = _ := (if_pos (by rw [hq]; rfl)).trans hclock
    refine next_commitNotices_of_eq (heq.trans ?_) ?_
    · rfl
    · split <;> exact hlive.2
  · have heq := s.selRise_nil clocked inputs
    rw [if_neg (ne_true_of_eq_false hreset), State.clockBytes_of_one clocked hr, if_neg (Nat.not_lt.mpr hclocked),
      State.endTransaction_of_live (s := { s with console := { s.console with
        replies := [], noticeClocked := s.console.noticeClocked || r.toNotice } }) hlive.1] at heq
    dsimp only at heq
    rw [← Bool.or_assoc] at heq
    exact next_commitNotices_of_eq heq hlive.2
  · obtain ⟨⟨hs, hraised⟩, hq, hr⟩ := h
    have hrise : s.selRise 0 (b :: bs) inputs = (s.reply badRequestReply false).endTransaction := by
      rw [State.selRise, State.clockBytes_of_none 0 hr, State.discardPartial_of_cut bs hq hb]
      exact if_neg (ne_true_of_eq_false hreset)
    rw [State.endTransaction_of_live (s := s.reply badRequestReply false) hs] at hrise
    refine next_commitNotices_of_eq (hrise.trans ?_) hraised
    simp only [State.reply, hq, hr, hnotice, Bool.or_false]
    rfl

/-! ## Bodies (R188) -/

theorem leBytes_length (n v : Nat) : (leBytes n v).length = n := by
  induction n generalizing v with
  | zero => rfl
  | succ n ih => exact congrArg Nat.succ (ih (v / 256))

theorem leNat_leBytes {n v : Nat} (h : v < 256 ^ n) : leNat (leBytes n v) = v := by
  induction n generalizing v with
  | zero =>
    rw [Nat.pow_zero, Nat.lt_one_iff] at h
    subst h
    rfl
  | succ n ih =>
    have hrest : v / 256 < 256 ^ n := Nat.div_lt_of_lt_mul (by rwa [Nat.pow_succ, Nat.mul_comm] at h)
    rw [leBytes, leNat, ih hrest, BitVec.toNat_ofNat]
    omega

/-- A field is read from as many bytes as it has. -/
theorem parseNat_append {n : Nat} {bs : List Byte} (rest : List Byte) (h : bs.length = n) :
    parseNat n (bs ++ rest) = some (leNat bs, rest) := by
  subst h
  rw [parseNat, if_neg (by rw [List.length_append]; omega), List.take_left, List.drop_left]

theorem parseNat_leBytes {n v : Nat} (rest : List Byte) (h : v < 256 ^ n) :
    parseNat n (leBytes n v ++ rest) = some (v, rest) := by
  rw [parseNat_append rest (leBytes_length n v), leNat_leBytes h]

theorem parseAll_of_whole {α : Type} {p : Parse α} {bs : List Byte} {x : α} (h : p bs = some (x, [])) :
    parseAll p bs = some x := by
  rw [parseAll, h]

/-- A body of one field. -/
theorem parseAll_parseNat {n : Nat} {bs : List Byte} (h : bs.length = n) : parseAll (parseNat n) bs = some (leNat bs) :=
  parseAll_of_whole (by rw [← List.append_nil bs, parseNat_append [] h, List.append_nil])

theorem parseAll_parseNat_leBytes {n v : Nat} (h : v < 256 ^ n) : parseAll (parseNat n) (leBytes n v) = some v := by
  rw [parseAll_parseNat (leBytes_length n v), leNat_leBytes h]

theorem parseAll_parseNat_of_ne {n : Nat} {bs : List Byte} (h : bs.length ≠ n) : parseAll (parseNat n) bs = none := by
  rw [parseAll, parseNat]
  by_cases hlt : bs.length < n
  · rw [if_pos hlt]
  · have hleft : (bs.drop n).length ≠ 0 := by rw [List.length_drop]; omega
    rw [if_neg hlt]
    cases hd : bs.drop n with
    | nil => exact absurd (congrArg List.length hd) hleft
    | cons b rest => rfl

end Sys2Proof.Machine
end

section
/-! The requests that report: STATUS, NOTICE, READ (R153, R182, R183, R185). -/

namespace Sys2Proof.Machine

/-- NOTICE reads the front of the queue; its reply counts for ATTN (R186). -/
theorem exec_notice {s y : State} {bytes : List Byte} (h : s.PortFree)
    (hf : (s.asked 0x06 []).noticeRequest = (y.asked 0x06 [], bytes)) (hy : y.console.raised = []) :
    exec (.notice []) s = .next (y.answered 0x06 [] bytes true) := by
  have heq : s.requestWith 0x06 [] parseNothing (fun _ => State.noticeRequest) = y.answered 0x06 [] bytes true := by
    rw [requestWith_of_parse (x := ()) h rfl, hf]
    rfl
  exact next_commitNotices_of_eq heq hy

/-! ## READ (R153, R183) -/

theorem parseReadKey_cons (table : Byte) (bs : List Byte) :
    parseReadKey (table :: bs) = (parseNat 4 bs).map fun x => ((table, x.1), x.2) := by
  show (parseNat 4 bs).bind _ = _
  cases parseNat 4 bs <;> rfl

theorem parseAll_readKey {table : Byte} {key : Nat} (h : key < 2 ^ 32) :
    parseAll parseReadKey (table :: leBytes 4 key) = some (table, key) := by
  refine parseAll_of_whole ?_
  have hkey : parseNat 4 (leBytes 4 key) = some (key, []) := by
    rw [← List.append_nil (leBytes 4 key), parseNat_leBytes [] h]
  rw [parseReadKey_cons, hkey]
  rfl

theorem State.readRequest_of_none {s : State} {table : Byte} (key : Nat) (h : ofCode tableCodes table = none) :
    s.readRequest table key = (s, badRequestReply) := by rw [State.readRequest, h]

theorem State.readRequest_of_some {s : State} {table : Byte} {t : Table} (key : Nat)
    (h : ofCode tableCodes table = some t) : s.readRequest table key = (s, doneReply (readBody s.replica t key)) := by
  rw [State.readRequest, h]

theorem readTable_of_other {t : Table} (r : Replica) (key : Nat) (h : t ≠ .site) : readTable r t key =
    ((r.entriesOf t).find? fun e => e.key == key,
      ((r.entriesOf t).find? fun e => decide (key < e.key)).map Entry.key) := by
  cases t
  case site => exact absurd rfl h
  all_goals rfl

theorem readBody_of_other {t : Table} (r : Replica) (key : Nat) (h : t ≠ .site) :
    let entry := (r.entriesOf t).find? fun e => e.key == key
    let next := (r.entriesOf t).find? fun e => decide (key < e.key)
    readBody r t key = [presence [entry.isSome, next.isSome]] ++ leBytes 6 r.site.seq ++ optBytes encodeEntry entry
      ++ optBytes (fun (e : Entry) => leBytes 4 e.key) next := by
  intro entry next
  rw [readBody, readTable_of_other r key h]
  show [presence [entry.isSome, (next.map Entry.key).isSome]] ++ _ ++ _ ++ optBytes (leBytes 4) (next.map Entry.key) = _
  cases next <;> rfl

/-- Settles O58. -/
theorem reportRequests : Obligations.ReportRequests := by
  refine ⟨fun s h => ?_, fun s n rest h hn => ?_, fun s h hn => ?_, fun s table key h hkey => ?_⟩
  · have hstatus : (s.asked 0x05 []).statusRequest = (State.asked 0x05 [] { s with
        meter := { s.meter with cells := s.meter.cells.clearGlitches }, free := s.free + 4 },
        doneReply s.statusBody) := by
      rw [State.statusRequest, if_neg (by rw [show (s.asked 0x05 []).supply.state = .normal from h.1.1]; nofun)]
      rfl
    exact exec_of_answer (c := .status []) rfl h (x := ()) rfl rfl hstatus h.1.2
  · refine exec_notice h ?_ h.1.2
    rw [State.noticeRequest, show (s.asked 0x06 []).console.notices = n :: rest from hn]
    rfl
  · refine exec_notice h ?_ h.1.2
    rw [State.noticeRequest, show (s.asked 0x06 []).console.notices = [] from hn]
    rfl
  · intro body
    have hanswer {bytes : List Byte}
        (hf : (s.asked 0x07 body).readRequest table key = (s.asked 0x07 body, bytes)) :
        exec (.consoleRead body) s = .next (s.answered 0x07 body bytes false) :=
      exec_of_answer (c := .consoleRead body) rfl h (x := (table, key)) (parseAll_readKey hkey) rfl hf h.1.2
    refine ⟨fun ht => hanswer (State.readRequest_of_none key ht), fun ht => ?_, fun k ht hk => ?_⟩
    · refine hanswer ((State.readRequest_of_some key ht).trans ?_)
      rw [readBody]
      simp [readTable, optBytes, State.asked]
    · intro entry next
      exact hanswer ((State.readRequest_of_some key ht).trans
        (congrArg (fun b => (s.asked 0x07 body, doneReply b)) (readBody_of_other s.replica key hk)))

end Sys2Proof.Machine
end

section
/-! CONFIGURE, START and WIPE (R178 to R180). -/

namespace Sys2Proof.Machine

/-! ## The reply alone is left for the panel -/

theorem Console.enter_replies (c : Console) (n : Notice) : (c.enter n).replies = c.replies := by
  unfold Console.enter
  split <;> rfl

theorem Console.foldl_enter_replies (l : List Notice) (c : Console) : (l.foldl Console.enter c).replies = c.replies := by
  induction l generalizing c with
  | nil => rfl
  | cons n l ih => exact (ih (c.enter n)).trans (c.enter_replies n)

@[simp] theorem State.commitNotices_replies (s : State) : s.commitNotices.console.replies = s.console.replies :=
  Console.foldl_enter_replies _ _

theorem State.noticed_settings (b : NoticeBody) (s : State) : (s.noticed b).settings = s.settings := by
  by_cases h : s.console.notices.length < 16
  · rw [State.noticed_of_room b h]
    rfl
  · rw [State.noticed_of_full b h]
    rfl

theorem State.noticed_replies (b : NoticeBody) (s : State) : (s.noticed b).console.replies = s.console.replies :=
  Console.enter_replies _ _

theorem badConfigReply_eq (n : Nat) :
    badConfigReply n = [0x81, 0x02, 0x00, Reason.code .badConfig, BitVec.ofNat 8 n] := by
  simp [badConfigReply, replyBytes, leBytes]

/-! ## START (R82, R83, R87, R95) -/

/-- The filter settings of the eight cells. -/
theorem Cells.configure_eq (x : Cells) (c : Settings) : x.configure c =
    { a := x.a.configure (c.filter 0) false
      b := x.b.configure (c.filter 1) false
      c := x.c.configure (c.filter 2) (decide (c.sensors = .two))
      noz := x.noz.configure (c.filter 3) (decide (c.role ≠ .dispense))
      cpl := x.cpl.configure (c.filter 4) false
      estop := x.estop.configure (c.filter 5) false
      svm := x.svm.configure (c.filter 6) false
      dhs := x.dhs.configure (c.filter 7) (decide (c.role ≠ .receipt)) } := by
  have hrole (r : Role) : (c.role != r) = decide (c.role ≠ r) := (decide_not (p := c.role = r)).symm
  rw [Cells.configure, hrole, hrole]
  rfl

/-- START does not change the pattern that is seen. -/
theorem seenPattern_configure (x : Cells) (c : Settings) :
    seenPattern c.sensors (x.configure c).pattern = seenPattern c.sensors x.pattern := by
  rw [Cells.configure_eq]
  simp only [Cells.pattern, FilterCell.configure, Bool.not_false, Bool.and_true]
  cases hs : c.sensors with
  | two => rfl
  | three =>
    show (Pattern.mk _ _ (x.c.output && true)) = _
    rw [Bool.and_true]
    rfl

/-- Of the patterns that are seen, those of three sensors at one level are not legal. -/
theorem legal_seenPattern (m : SensorMode) (p : Pattern) : legal m (seenPattern m p) =
    !decide (m = .three ∧ (seenPattern m p).a = (seenPattern m p).b ∧ (seenPattern m p).b = (seenPattern m p).c) := by
  obtain ⟨a, b, c⟩ := p
  cases m
  case two => revert a b c; decide
  case three => revert a b c; decide

theorem Meter.configure_position (m : Meter) (c : Settings) :
    (m.running = true → (m.configure c).position = m.position)
      ∧ (m.running = false → (m.configure c).position =
        let p := seenPattern c.sensors m.cells.pattern
        if c.sensors = .three ∧ p.a = p.b ∧ p.b = p.c then none else some p) := by
  refine ⟨fun h => if_pos h, fun h => ?_⟩
  refine (if_neg (ne_true_of_eq_false h)).trans ?_
  rw [seenPattern_configure, legal_seenPattern]
  by_cases hillegal : c.sensors = .three ∧ (seenPattern c.sensors m.cells.pattern).a =
      (seenPattern c.sensors m.cells.pattern).b ∧
      (seenPattern c.sensors m.cells.pattern).b = (seenPattern c.sensors m.cells.pattern).c
  · rw [if_pos hillegal, decide_eq_true hillegal]
    rfl
  · rw [if_neg hillegal, decide_eq_false hillegal]
    rfl

/-- The station that has begun to listen. -/
def State.starts (c : Settings) (s : State) : State :=
  { s with
    console := { s.console with started := true }
    meter := s.meter.configure c
    link := { s.link with lostPlace := true, voidHold := false, state := .listening, reason := .noReason, voidRun := 0 }
    engine := s.engine.onLinkState .listening }

theorem State.startRequest_of_ready {s : State} {c : Settings} (hs : s.link.state = .offline)
    (hc : s.console.config = some c) (hw : s.wiped = true) :
    s.startRequest = ((s.starts c).raise (.linkState .listening .noReason), doneReply []) := by
  rw [State.startRequest, hc]
  refine (if_neg (Classical.not_not.mpr hs)).trans ?_
  exact (if_pos hw).trans rfl

theorem exec_start {s : State} {c : Settings} (h : s.PortFree) (hs : s.link.state = .offline)
    (hc : s.console.config = some c) (hw : s.wiped = true) :
    exec (.start []) s =
      .next (((s.starts c).noticed (.linkState .listening .noReason)).answered 0x02 [] [0x80, 0x00, 0x00] false) :=
  exec_of_told (c := .start []) (.linkState .listening .noReason) rfl h (x := ()) rfl rfl
    (State.startRequest_of_ready (s := s.asked 0x02 []) hs hc hw) h.1.2

/-! ## WIPE (R180) -/

theorem leNat_lt (bs : List Byte) : leNat bs < 256 ^ bs.length := by
  induction bs with
  | nil => exact Nat.one_pos
  | cons b bs ih =>
    have hb : b.toNat < 256 := b.isLt
    rw [leNat, List.length_cons, Nat.pow_succ]
    omega

/-- The bytes of a field are those of its value. -/
theorem leBytes_leNat (bs : List Byte) : leBytes bs.length (leNat bs) = bs := by
  induction bs with
  | nil => rfl
  | cons b bs ih =>
    have hb : b.toNat < 256 := b.isLt
    have hdiv : (b.toNat + 256 * leNat bs) / 256 = leNat bs := by omega
    have hbyte : BitVec.ofNat 8 (b.toNat + 256 * leNat bs) = b := by
      apply BitVec.eq_of_toNat_eq
      rw [BitVec.toNat_ofNat]
      omega
    rw [List.length_cons, leBytes, leNat, hdiv, hbyte, ih]

theorem keyCheckOf_leNat {body : List Byte} (h : body.length = 8) :
    keyCheckOf (BitVec.ofNat 64 (leNat body)) = crc body := by
  have hlt : leNat body < 2 ^ 64 := by
    have hlt' := leNat_lt body
    rw [h] at hlt'
    exact hlt'
  rw [keyCheckOf, BitVec.toNat_ofNat, Nat.mod_eq_of_lt hlt, ← h, leBytes_leNat]

/-- Settles O57. -/
theorem setUpRequests : Obligations.SetUpRequests := by
  refine ⟨fun s body c h hp => ?_, fun s body h hp => exec_of_badBody (c := .configure body) rfl h hp, fun s h => ?_,
    fun s body h hlen => ?_⟩
  · intro answer
    have hanswer {y : State} {bytes : List Byte}
        (hf : (s.asked 0x01 body).configure c = (y.asked 0x01 body, bytes)) (hy : y.console.raised = []) :
        exec (.configure body) s = .next (answer y bytes) :=
      exec_of_answer (c := .configure body) rfl h hp rfl hf hy
    by_cases hset : s.link.state ≠ .offline ∨ s.console.started = true
    · rw [if_pos hset]
      exact hanswer (if_pos hset) h.1.2
    · rw [if_neg hset]
      cases hfault : c.firstFault with
      | some n =>
        refine hanswer ((if_neg hset).trans ?_) h.1.2
        rw [hfault, ← badConfigReply_eq]
      | none =>
        refine hanswer ((if_neg hset).trans ?_) h.1.2
        rw [hfault]
        rfl
  · have hanswer {bytes : List Byte} (hf : (s.asked 0x02 []).startRequest = (s.asked 0x02 [], bytes)) :
        exec (.start []) s = .next (s.answered 0x02 [] bytes false) :=
      exec_of_answer (c := .start []) rfl h (x := ()) rfl rfl hf h.1.2
    refine ⟨fun hs => hanswer (if_pos hs), fun hs hc => ?_, fun c hs hc => ⟨fun hw => ?_, fun hw => ?_⟩⟩
    · refine hanswer ((if_neg (Classical.not_not.mpr hs)).trans ?_)
      rw [show (s.asked 0x02 []).console.config = none from hc]
    · refine hanswer ((if_neg (Classical.not_not.mpr hs)).trans ?_)
      rw [show (s.asked 0x02 []).console.config = some c from hc]
      exact if_neg (ne_true_of_eq_false hw)
    · obtain ⟨hkept, hplaced⟩ := s.meter.configure_position c
      have hreplies : ((s.starts c).noticed (.linkState .listening .noReason)).console.replies = [] :=
        (State.noticed_replies _ _).trans h.2.2
      have hsettings : ((s.starts c).noticed (.linkState .listening .noReason)).settings = some c :=
        (State.noticed_settings _ _).trans hc
      refine ⟨_, exec_start h hs hc hw, rfl, rfl, rfl, hsettings, rfl, rfl, rfl, rfl, Cells.configure_eq _ c, hkept,
        hplaced, rfl, ?_⟩
      show _ ++ _ = _
      rw [hreplies]
      rfl
  · have hread := parseAll_parseNat hlen
    refine ⟨fun hs => ?_, fun hs => ?_⟩
    · exact exec_of_answer (c := .wipe body) rfl h hread rfl (if_pos hs) h.1.2
    · refine exec_of_answer (c := .wipe body) rfl h hread rfl ((if_neg (Classical.not_not.mpr hs)).trans ?_) h.1.2
      rw [keyCheckOf_leNat hlen]
      rfl

end Sys2Proof.Machine
end

section
/-! CLEAR-FAULT and LEAVE (R174, R184), and requests answered in the order of a rule's checks. -/

namespace Sys2Proof.Machine

/-! ## Requests answered in the order of their checks -/

/-- The first check of a rule that fails answers; without one the request is done as `y` says. -/
def firstAnswer (s : State) (l : List (List Byte × Bool)) (y : State × List Byte) : State × List Byte :=
  match l.find? Prod.snd with
  | some x => (s, x.1)
  | none => y

theorem firstAnswer_nil (s : State) (y : State × List Byte) : firstAnswer s [] y = y := rfl

theorem firstAnswer_cons (s : State) (x : List Byte × Bool) (l : List (List Byte × Bool)) (y : State × List Byte) :
    firstAnswer s (x :: l) y = if x.2 = true then (s, x.1) else firstAnswer s l y := by
  rw [firstAnswer, List.find?_cons]
  cases x.2 <;> rfl

theorem firstAnswer_of_some {s : State} {l : List (List Byte × Bool)} {y : State × List Byte} {x : List Byte × Bool}
    (h : l.find? Prod.snd = some x) : firstAnswer s l y = (s, x.1) := by rw [firstAnswer, h]

theorem firstAnswer_of_none {s : State} {l : List (List Byte × Bool)} {y : State × List Byte}
    (h : l.find? Prod.snd = none) : firstAnswer s l y = y := by rw [firstAnswer, h]

/-! ## The reply alone is left for the panel -/

theorem State.replies_of_core {s t : State} (h : t.core = s.core) : t.console.replies = s.console.replies :=
  (congrArg (fun u : State => u.console.replies) h :)

theorem State.reply_replies {z : State} (bytes : List Byte) (h : z.console.replies = []) :
    (z.reply bytes false).commitNotices.console.replies = [{ bytes, toNotice := false }] := by
  rw [State.commitNotices_replies]
  show z.console.replies ++ _ = _
  rw [h]
  rfl

/-! ## CLEAR-FAULT (R174) -/

theorem exec_clearFault {s z : State} {bytes : List Byte} (h : s.PortFree)
    (hf : (s.asked 0x0F []).clearFaultRequest = (z, bytes)) :
    exec (.clearFault []) s = .next (z.reply bytes false).commitNotices :=
  exec_of_request (c := .clearFault []) rfl h (x := ()) rfl rfl hf

theorem State.clearFaultRequest_of_link {s : State} (h : s.link.state = .faulted) :
    s.clearFaultRequest = (s.setLink .listening .noReason).clearValveFault := if_pos h

theorem State.clearFaultRequest_of_valve {s : State} (h : s.link.state ≠ .faulted) (ha : s.activity.state = .faulted) :
    s.clearFaultRequest = s.clearValveFault := (if_neg h).trans (if_pos ha)

theorem State.clearValveFault_of_other {s : State} (h : s.activity.state ≠ .faulted) :
    s.clearValveFault = (s, doneReply []) := if_neg h

theorem State.clearValveFault_of_flow {s : State} (h : s.activity.state = .faulted) (he : s.meter.episode = true) :
    s.clearValveFault = (s, refusedReply .flowPresent) := (if_pos h).trans (if_pos he)

theorem State.clearValveFault_of_still {s : State} (h : s.activity.state = .faulted) (he : s.meter.episode = false) :
    s.clearValveFault = (s.toIdle none, doneReply []) := (if_pos h).trans (if_neg (ne_true_of_eq_false he))

/-! ## LEAVE (R184) -/

theorem State.leaveRequest_eq (s : State) : s.leaveRequest = firstAnswer s
    [(refusedReply .notInService, s.link.state != .inService || !s.engine.admitted),
      (wrongStateReply, s.engine.leavePending), (wrongStateReply, s.activity.state != .idle),
      (refusedReply .recoveryPending, s.supply.record.isSome)]
    (State.offer .membership .leave { s with engine := { s.engine with leavePending := true } }, doneReply []) := by
  simp only [firstAnswer_cons, firstAnswer_nil, State.leaveRequest, State.inService, Bool.or_eq_true, bne_iff_ne,
    Bool.not_eq_true', beq_eq_false_iff_ne]

/-- Settles O60. -/
theorem clearFaultAndLeave : Obligations.ClearFaultAndLeave := by
  refine ⟨fun s h => ⟨fun hl ha => ?_, fun hl ha => ?_, fun hl ha he => ?_, fun hl ha he => ?_, fun hl ha => ?_⟩,
    fun s h => ?_⟩
  · refine ⟨_, exec_clearFault h ((State.clearFaultRequest_of_link (s := s.asked 0x0F []) hl).trans
      (State.clearValveFault_of_other ha)), rfl, rfl, rfl, State.reply_replies _ h.2.2⟩
  · exact exec_of_answer (c := .clearFault []) rfl h (x := ()) rfl rfl ((if_neg hl).trans (if_neg ha)) h.1.2
  · exact exec_of_answer (c := .clearFault []) rfl h (x := ()) rfl rfl
      ((State.clearFaultRequest_of_valve (s := s.asked 0x0F []) hl ha).trans (State.clearValveFault_of_flow ha he))
      h.1.2
  · have hcore : ((s.asked 0x0F []).toIdle none).core = (s.asked 0x0F []).core := State.toIdle_core _ _
    have hlink : ((s.asked 0x0F []).toIdle none).link = s.link := (State.link_of_core hcore :)
    have hidle := congrArg Activity.state (State.toIdle_activity none (s.asked 0x0F []))
    exact ⟨_, exec_clearFault h ((State.clearFaultRequest_of_valve (s := s.asked 0x0F []) hl ha).trans
      (State.clearValveFault_of_still ha he)), hidle, hlink,
      State.reply_replies _ ((State.replies_of_core hcore).trans h.2.2)⟩
  · let y := (s.asked 0x0F []).setLink .listening .noReason
    have hrequest : (s.asked 0x0F []).clearFaultRequest = y.clearValveFault := State.clearFaultRequest_of_link hl
    cases he : s.meter.episode with
    | true =>
      refine ⟨_, exec_clearFault h (hrequest.trans (State.clearValveFault_of_flow (s := y) ha he)), rfl, rfl,
        fun _ => ⟨ha, State.reply_replies _ h.2.2⟩, nofun⟩
    | false =>
      have hcore : (y.toIdle none).core = y.core := State.toIdle_core _ _
      have hstate : (y.toIdle none).link.state = .listening := congrArg Link.state (State.link_of_core hcore)
      have hreplica : (y.toIdle none).replica = s.replica := (State.replica_of_core hcore :)
      have hidle : (y.toIdle none).activity.state = .idle := congrArg Activity.state (State.toIdle_activity none y)
      have hreplies : (y.toIdle none).console.replies = [] := (State.replies_of_core hcore).trans h.2.2
      exact ⟨_, exec_clearFault h (hrequest.trans (State.clearValveFault_of_still (s := y) ha he)), hstate, hreplica,
        nofun, fun _ => ⟨hidle, State.reply_replies _ hreplies⟩⟩
  · intro order
    have hrequest := (s.asked 0x10 []).leaveRequest_eq
    refine ⟨fun x hx => ?_, fun hnone hq => ?_⟩
    · exact exec_of_answer (c := .consoleLeave []) rfl h (x := ()) rfl rfl
        (hrequest.trans (firstAnswer_of_some hx)) h.1.2
    · refine exec_of_answer (c := .consoleLeave []) rfl h (x := ()) rfl rfl
        ((hrequest.trans (firstAnswer_of_none hnone)).trans ?_) h.1.2
      rw [← State.withOffer_of_none hq]
      rfl

end Sys2Proof.Machine
end

section
/-! PRESET, CANCEL and what the attendant's requests share (R104, R124, R140, R175, R177). -/

namespace Sys2Proof.Machine

/-! ## OFFLINE, and bodies of the wrong length (R175, R177) -/

theorem notOffline_of_other {f : State → State × List Byte} {s : State} (h : s.link.state ≠ .offline) :
    notOffline f s = f s := if_neg h

/-- An attendant's request in OFFLINE. -/
theorem exec_of_offline {α : Type} {c : Instr} {s : State} {code : Byte} {body : List Byte} {p : Parse α}
    {g : α → State → State × List Byte} {x : α}
    (hc : exec c s = .next (s.requestWith code body p fun v => notOffline (g v)).commitNotices) (h : s.PortFree)
    (hp : parseAll p body = some x) (hcode : (code == 0x06) = false) (hs : s.link.state = .offline) :
    exec c s = .next (s.answered code body [0x83, 0x00, 0x00] false) :=
  exec_of_answer hc h hp hcode (if_pos hs) h.1.2

theorem parseDelivery_eq (bs : List Byte) : parseDelivery bs =
    (parseNat 1 bs).bind fun x => (parseNat 4 x.2).map fun y => ((x.1, y.1), y.2) := by
  show (parseNat 1 bs).bind _ = _
  cases parseNat 1 bs with
  | none => rfl
  | some x =>
    show (parseNat 4 x.2).bind _ = (parseNat 4 x.2).map _
    cases parseNat 4 x.2 <;> rfl

theorem parseDelivery_cons (b : Byte) (rest : List Byte) :
    parseDelivery (b :: rest) = (parseNat 4 rest).map fun y => ((leNat [b], y.1), y.2) := by
  have htank : parseNat 1 (b :: rest) = some (leNat [b], rest) := parseNat_append (bs := [b]) rest rfl
  rw [parseDelivery_eq, htank]
  rfl

theorem parseAll_delivery {tank declared : Nat} (ht : tank < 2 ^ 8) (hd : declared < 2 ^ 32) :
    parseAll parseDelivery (leBytes 1 tank ++ leBytes 4 declared) = some (tank, declared) := by
  have hdeclared : parseNat 4 (leBytes 4 declared) = some (declared, []) := by
    rw [← List.append_nil (leBytes 4 declared), parseNat_leBytes [] hd]
  have htank : leNat [BitVec.ofNat 8 tank] = tank := leNat_leBytes (n := 1) ht
  refine parseAll_of_whole ?_
  refine (parseDelivery_cons (BitVec.ofNat 8 tank) (leBytes 4 declared)).trans ?_
  rw [hdeclared, htank]
  rfl

theorem parseAll_delivery_of_length {bs : List Byte} (h : bs.length = 5) :
    ∃ x, parseAll parseDelivery bs = some x := by
  obtain ⟨b, rest, rfl⟩ : ∃ b rest, bs = b :: rest := List.exists_cons_of_length_eq_add_one h
  have hrest : rest.length = 4 := by simpa using h
  have hdeclared : parseNat 4 rest = some (leNat rest, []) := by
    have happend := parseNat_append [] hrest
    rwa [List.append_nil] at happend
  refine ⟨(leNat [b], leNat rest), parseAll_of_whole ?_⟩
  rw [parseDelivery_cons, hdeclared]
  rfl

theorem parseAll_delivery_of_ne {bs : List Byte} (h : bs.length ≠ 5) : parseAll parseDelivery bs = none := by
  cases bs with
  | nil => rfl
  | cons b rest =>
    have hrest : rest.length ≠ 4 := by simpa using h
    have hdeclared := parseAll_parseNat_of_ne hrest
    rw [parseAll] at hdeclared ⊢
    rw [parseDelivery_cons]
    cases hp : parseNat 4 rest with
    | none => rfl
    | some y =>
      obtain ⟨v, left⟩ := y
      rw [hp] at hdeclared
      cases left with
      | nil => cases hdeclared
      | cons => rfl

/-- Each of the four by its layout, and in OFFLINE. -/
theorem exec_attendant {x : (List Byte → Instr) × Byte × Nat} {body : List Byte} {s : State}
    (hx : x ∈ [(Instr.preset, (0x08 : Byte), 4), (.keyedId, 0x09, 2), (.cancel, 0x0A, 0), (.delivery, 0x0D, 5)])
    (h : s.PortFree) :
    (body.length ≠ x.2.2 → exec (x.1 body) s = .next (s.answered x.2.1 body [0x82, 0x00, 0x00] false))
    ∧ (body.length = x.2.2 → s.link.state = .offline →
      exec (x.1 body) s = .next (s.answered x.2.1 body [0x83, 0x00, 0x00] false)) := by
  simp only [List.mem_cons, List.not_mem_nil, or_false] at hx
  rcases hx with rfl | rfl | rfl | rfl
  · exact ⟨fun hne => exec_of_badBody (c := .preset body) rfl h (parseAll_parseNat_of_ne hne),
      fun hlen hs => exec_of_offline (c := .preset body) rfl h (parseAll_parseNat hlen) rfl hs⟩
  · exact ⟨fun hne => exec_of_badBody (c := .keyedId body) rfl h (parseAll_parseNat_of_ne hne),
      fun hlen hs => exec_of_offline (c := .keyedId body) rfl h (parseAll_parseNat hlen) rfl hs⟩
  · refine ⟨fun hne => exec_of_badBody (c := .cancel body) rfl h (parseAll_nothing_of_ne ?_), fun hlen hs => ?_⟩
    · exact fun hnil => hne (by rw [hnil]; rfl)
    · obtain rfl := List.eq_nil_of_length_eq_zero hlen
      exact exec_of_offline (c := .cancel []) rfl h (x := ()) rfl rfl hs
  · refine ⟨fun hne => exec_of_badBody (c := .delivery body) rfl h (parseAll_delivery_of_ne hne), fun hlen hs => ?_⟩
    obtain ⟨y, hy⟩ := parseAll_delivery_of_length hlen
    exact exec_of_offline (c := .delivery body) rfl h hy rfl hs

/-! ## PRESET (R104) -/

theorem exec_preset {s : State} {v : Nat} (h : s.PortFree) (hs : s.link.state ≠ .offline) (hv : v < 2 ^ 32) :
    let answer (t : State) (bytes : List Byte) := t.answered 0x08 (leBytes 4 v) bytes false
    let store (p : Option Nat) : State := { s with activity := { s.activity with preset := p } }
    exec (.preset (leBytes 4 v)) s = .next
      (if 99999 < v then answer s [0x82, 0x00, 0x00]
      else if s.role ≠ some .dispense then answer s (refusedReply .wrongRole)
      else if s.activity.state ≠ .idle ∧ s.activity.state ≠ .awaitingId then
        answer s [0x83, 0x00, 0x00]
      else if v = 0 then answer (store none) [0x80, 0x00, 0x00]
      else if v < s.replica.site.minFill then answer s (refusedReply .belowMinimum)
      else answer (store (some v)) [0x80, 0x00, 0x00]) := by
  intro answer store
  have hanswer {y : State} {bytes : List Byte}
      (hf : (s.asked 0x08 (leBytes 4 v)).presetRequest v = (y.asked 0x08 (leBytes 4 v), bytes))
      (hy : y.console.raised = []) : exec (.preset (leBytes 4 v)) s = .next (answer y bytes) :=
    exec_of_answer (c := .preset (leBytes 4 v)) rfl h (parseAll_parseNat_leBytes hv) rfl
      ((notOffline_of_other (s := s.asked 0x08 (leBytes 4 v)) hs).trans hf) hy
  by_cases h1 : 99999 < v
  · rw [if_pos h1]
    exact hanswer (if_pos h1) h.1.2
  rw [if_neg h1]
  by_cases h2 : s.role ≠ some .dispense
  · rw [if_pos h2]
    exact hanswer ((if_neg h1).trans (if_pos h2)) h.1.2
  rw [if_neg h2]
  by_cases h3 : s.activity.state ≠ .idle ∧ s.activity.state ≠ .awaitingId
  · rw [if_pos h3]
    exact hanswer ((if_neg h1).trans ((if_neg h2).trans (if_pos h3))) h.1.2
  rw [if_neg h3]
  by_cases h4 : v = 0
  · rw [if_pos h4]
    exact hanswer ((if_neg h1).trans ((if_neg h2).trans ((if_neg h3).trans (if_pos h4)))) h.1.2
  rw [if_neg h4]
  by_cases h5 : v < s.replica.site.minFill
  · rw [if_pos h5]
    exact hanswer ((if_neg h1).trans ((if_neg h2).trans ((if_neg h3).trans ((if_neg h4).trans (if_pos h5))))) h.1.2
  · rw [if_neg h5]
    exact hanswer ((if_neg h1).trans ((if_neg h2).trans ((if_neg h3).trans ((if_neg h4).trans (if_neg h5))))) h.1.2

/-! ## CANCEL (R124, R140) -/

theorem ActState.takesCancel_iff (st : ActState) :
    st.takesCancel = true ↔ st ∈ [ActState.awaitingId, .opening, .flowing, .slowing] := by
  cases st <;> simp [ActState.takesCancel]

theorem State.cancelRequest_of_taken {s : State} (hr : s.role ≠ some .office)
    (h : s.activity.state ∈ [ActState.awaitingId, .opening, .flowing, .slowing]) :
    s.cancelRequest = (s.cancelActivity, doneReply []) :=
  (if_neg hr).trans (if_pos (s.activity.state.takesCancel_iff.mpr h))

theorem State.cancelActivity_of_ne {s : State} (h : s.activity.state ≠ .awaitingId) :
    s.cancelActivity = s.endEvent .cancelled := by
  unfold State.cancelActivity
  split
  next h' => exact absurd h' h
  next => rfl

/-- An end event met in OPENING, by what is pending and whether the frame can be withdrawn (R110, R136). -/
theorem State.pendEnd_of_pending {s : State} {r : Reason} (x : Reason) (h : s.activity.pendingEnd = some r) :
    s.pendEnd x = s := by rw [State.pendEnd, h]

theorem State.pendEnd_of_kept {s : State} (x : Reason) (h : s.activity.pendingEnd = none)
    (hw : s.link.withdrawable .activity s.openKind = false) :
    s.pendEnd x = { s with activity := { s.activity with pendingEnd := some x } } := by
  rw [State.pendEnd, h]
  exact if_neg (ne_true_of_eq_false hw)

theorem State.pendEnd_of_withdrawn {s : State} (x : Reason) (h : s.activity.pendingEnd = none)
    (hw : s.link.withdrawable .activity s.openKind = true) : s.pendEnd x = State.openWithdrawn { s with
      activity := { s.activity with pendingEnd := some x }, link := s.link.remove .activity } := by
  rw [State.pendEnd, h]
  refine (if_pos hw).trans (congrArg State.openWithdrawn ?_)
  exact if_pos hw

theorem State.stopWith_replies (r : Reason) (s : State) : (s.stopWith r).console.replies = s.console.replies :=
  (State.replies_of_core (State.enterAct_core _ _)).trans rfl

theorem exec_cancel {s : State} (h : s.PortFree) (hs : s.link.state ≠ .offline) :
    (s.role = some .office →
      exec (.cancel []) s = .next (s.answered 0x0A [] (refusedReply .wrongRole) false))
    ∧ (s.role ≠ some .office →
      s.activity.state ∉ [ActState.awaitingId, .opening, .flowing, .slowing] →
      exec (.cancel []) s = .next (s.answered 0x0A [] [0x83, 0x00, 0x00] false))
    ∧ (s.role ≠ some .office → s.activity.state = .awaitingId →
      ∃ t, exec (.cancel []) s = .next t ∧ t.activity.state = .refused .cancelled
        ∧ t.console.replies = [{ bytes := [0x80, 0x00, 0x00], toNotice := false }])
    ∧ (s.role ≠ some .office → s.activity.state = .opening →
      (∀ r, s.activity.pendingEnd = some r →
        exec (.cancel []) s = .next (s.answered 0x0A [] [0x80, 0x00, 0x00] false))
      ∧ (s.activity.pendingEnd = none →
        let a : Activity := { s.activity with pendingEnd := some .cancelled }
        (s.link.withdrawable .activity s.openKind = false → exec (.cancel []) s =
          .next (State.answered 0x0A [] [0x80, 0x00, 0x00] false { s with activity := a }))
        ∧ (s.link.withdrawable .activity s.openKind = true →
          ∃ t, exec (.cancel []) s = .next t ∧ t.activity.state = .refused .cancelled
            ∧ t.activity.preset = none ∧ t.link = s.link.remove .activity
            ∧ t.console.replies = [{ bytes := [0x80, 0x00, 0x00], toNotice := false }])))
    ∧ (s.role ≠ some .office → (s.activity.state = .flowing ∨ s.activity.state = .slowing) →
      ∃ t, exec (.cancel []) s = .next t ∧ s.StopsFor .cancelled t
        ∧ t.console.replies = [{ bytes := [0x80, 0x00, 0x00], toNotice := false }]) := by
  have hrefuse {bytes : List Byte} (hf : (s.asked 0x0A []).cancelRequest = (s.asked 0x0A [], bytes)) :
      exec (.cancel []) s = .next (s.answered 0x0A [] bytes false) :=
    exec_of_answer (c := .cancel []) rfl h (x := ()) rfl rfl
      ((notOffline_of_other (s := s.asked 0x0A []) hs).trans hf) h.1.2
  have htaken (hr : s.role ≠ some .office)
      (hact : s.activity.state ∈ [ActState.awaitingId, .opening, .flowing, .slowing]) :
      notOffline State.cancelRequest (s.asked 0x0A []) = ((s.asked 0x0A []).cancelActivity, doneReply []) :=
    (notOffline_of_other (s := s.asked 0x0A []) hs).trans (State.cancelRequest_of_taken (s := s.asked 0x0A []) hr hact)
  have hexec {z : State} (hr : s.role ≠ some .office)
      (hact : s.activity.state ∈ [ActState.awaitingId, .opening, .flowing, .slowing])
      (hz : (s.asked 0x0A []).cancelActivity = z) :
      exec (.cancel []) s = .next (z.reply [0x80, 0x00, 0x00] false).commitNotices :=
    exec_of_request (c := .cancel []) rfl h (x := ()) rfl rfl ((htaken hr hact).trans (by rw [hz]; rfl))
  refine ⟨fun hr => hrefuse (if_pos hr), fun hr hact => ?_, fun hr hact => ?_, fun hr hact => ?_, fun hr hact => ?_⟩
  · refine hrefuse ((if_neg hr).trans (if_neg ?_))
    exact fun htakes => hact (s.activity.state.takesCancel_iff.mp htakes)
  · have hz : (s.asked 0x0A []).cancelActivity = (s.asked 0x0A []).refuse .cancelled := by
      rw [State.cancelActivity, show (s.asked 0x0A []).activity.state = .awaitingId from hact]
    have hreplies := State.replies_of_core (State.refuse_core .cancelled (s.asked 0x0A []))
    have hrefused : ((s.asked 0x0A []).refuse .cancelled).activity.state = .refused .cancelled := by
      rw [State.refuse_activity]
    exact ⟨_, hexec hr (by rw [hact]; simp) hz, hrefused, State.reply_replies _ (hreplies.trans h.2.2)⟩
  · have hmem : s.activity.state ∈ [ActState.awaitingId, .opening, .flowing, .slowing] := by rw [hact]; simp
    have hz : (s.asked 0x0A []).cancelActivity = (s.asked 0x0A []).pendEnd .cancelled :=
      (State.cancelActivity_of_ne (s := s.asked 0x0A [])
        (by rw [show (s.asked 0x0A []).activity.state = _ from hact]; nofun)).trans
        (State.endEvent_of_opening .cancelled hact)
    refine ⟨fun r hr' => ?_, fun hnone => ⟨fun hw => ?_, fun hw => ?_⟩⟩
    · refine (hexec hr hmem (hz.trans (State.pendEnd_of_pending .cancelled hr'))).trans ?_
      exact next_commitNotices_of_eq rfl h.1.2
    · refine (hexec hr hmem (hz.trans (State.pendEnd_of_kept .cancelled hnone hw))).trans ?_
      exact next_commitNotices_of_eq rfl h.1.2
    · have heq := hz.trans (State.pendEnd_of_withdrawn (s := s.asked 0x0A []) .cancelled hnone hw)
      obtain ⟨hcore, hpreset, hstate⟩ := State.openWithdrawn_spec (r := .cancelled) (s := { s.asked 0x0A [] with
        activity := { s.activity with pendingEnd := some .cancelled }, link := s.link.remove .activity }) rfl
      exact ⟨_, hexec hr hmem heq, hstate, hpreset, State.link_of_core hcore,
        State.reply_replies _ ((State.replies_of_core hcore).trans h.2.2)⟩
  · have hmem : s.activity.state ∈ [ActState.awaitingId, .opening, .flowing, .slowing] := by
      rcases hact with hact | hact <;> rw [hact] <;> simp
    have hz : (s.asked 0x0A []).cancelActivity = (s.asked 0x0A []).stopWith .cancelled :=
      (State.cancelActivity_of_ne (s := s.asked 0x0A [])
        (by rcases hact with hact | hact <;> rw [show (s.asked 0x0A []).activity.state = _ from hact] <;> nofun)).trans
        (State.endEvent_of_flows .cancelled hact)
    have hreplies := State.stopWith_replies .cancelled (s.asked 0x0A [])
    exact ⟨_, hexec hr hmem hz, (State.stopWith_stopsFor .cancelled (s.asked 0x0A []) :),
      State.reply_replies _ (hreplies.trans h.2.2)⟩

end Sys2Proof.Machine
end

section
/-! KEYED-ID (R66, R102, R119). -/

namespace Sys2Proof.Machine

/-! ## The panel, as a result is handed on -/

theorem State.offerOpen_replies (r : IdResult) (s : State) : (s.offerOpen r).console.replies = s.console.replies := by
  unfold State.offerOpen
  split
  · exact (State.replies_of_core (State.enterAct_core _ _)).trans rfl
  · exact (State.replies_of_core (State.enterAct_core _ _)).trans rfl

theorem State.lookAtResult_replies (s : State) : s.lookAtResult.console.replies = s.console.replies := by
  by_cases hs : s.activity.state ≠ .awaitingId
  · rw [State.lookAtResult_of_other (.inl hs)]
  · cases hr : s.completeResult with
    | none => rw [State.lookAtResult_of_other (.inr hr)]
    | some r =>
      rw [State.lookAtResult_of_awaiting (Classical.not_not.mp hs) hr]
      split
      · exact (State.replies_of_core (State.refuse_core _ _)).trans rfl
      · split
        · exact (State.replies_of_core (State.refuse_core _ _)).trans rfl
        · exact (State.offerOpen_replies _ _).trans rfl

theorem State.resultReported_replies (s : State) : s.resultReported.console.replies = s.console.replies := by
  unfold State.resultReported
  split
  · exact State.replies_of_core s.releaseResult_core
  · exact s.lookAtResult_replies

/-! ## A result held with the tag locked -/

/-- What a held result comes to at a station that is no RECEIPT station. -/
theorem State.resultReported_of_held {s : State} {c : Inlet} {r : IdResult} (hrole : s.role = some .dispense)
    (hs : s.ident.state = .identified) (hc : s.ident.context = some c) (hg : c.gradePending = false)
    (hr : c.result = some r) :
    (s.activity.state ≠ .awaitingId → s.activity.state ≠ .faulted → s.resultReported = s)
      ∧ (s.activity.state = .faulted →
        s.resultReported.ident = Ident.reset ∧ s.resultReported.activity = s.activity)
      ∧ (s.activity.state = .awaitingId → s.engine.admitted = false →
        s.resultReported.activity.state = .refused .notInService ∧ s.resultReported.ident = Ident.reset)
      ∧ (s.activity.state = .awaitingId → s.engine.admitted = true → s.supply.record.isSome = true →
        s.resultReported.activity.state = .refused .recoveryPending ∧ s.resultReported.ident = Ident.reset)
      ∧ (s.activity.state = .awaitingId → s.engine.admitted = true → s.supply.record = none →
        s.AsksForFill r s.resultReported) := by
  have hlook (h : s.activity.state ≠ .faulted) : s.resultReported = s.lookAtResult := if_neg h
  have hcomplete : s.completeResult = some r := (State.completeResult_of_some hs hc hg).trans hr
  have hawaits (h : s.activity.state = .awaitingId) :=
    (hlook (by rw [h]; nofun)).trans (State.lookAtResult_of_awaiting h hcomplete)
  have hrefused (x : Reason) := State.refuse_of_dispense (s := s.takesResult r) x
    (by rw [show (s.takesResult r).role = _ from hrole]; simp) hs
  refine ⟨fun h h' => (hlook h').trans (State.lookAtResult_of_other (.inl h)), fun h => ?_, fun h had => ?_,
    fun h had hrec => ?_, fun h had hrec => ?_⟩
  · have heq : s.resultReported = s.relockAndDiscard := (if_pos h).trans (if_pos hs)
    rw [heq, State.relockAndDiscard_eq]
    exact ⟨rfl, rfl⟩
  · rw [(hawaits h).trans (if_pos had)]
    exact ⟨(hrefused _).2.1, (hrefused _).1⟩
  · rw [((hawaits h).trans (if_neg (by rw [had]; nofun))).trans (if_pos hrec)]
    exact ⟨(hrefused _).2.1, (hrefused _).1⟩
  · rw [((hawaits h).trans (if_neg (by rw [had]; nofun))).trans (if_neg (by rw [hrec]; nofun))]
    exact (State.offerOpen_dispense r hrole).1

/-! ## A keyed identification (R66) -/

/-- The station with the context that KEYED-ID opens. -/
def State.keyedOpens (s : State) : State :=
  { s.discardContext with ident := { s.discardContext.ident with context := some (newInlet .keyed false none) } }

/-- The station IDENTIFIED by KEYED-ID, before the result is handed on. -/
def State.keyedHolds (r : IdResult) (s : State) : State :=
  State.raiseIdent .noReason { s.keyedOpens with ident := { s.keyedOpens.ident with
    state := .identified, runTimer := none
    context := some { newInlet .keyed false none with result := some r, gradePending := false } } }

/-- The checks of a keyed identification in their order. -/
theorem State.keyedFailure_eq (n : Nat) (s : State) :
    let m := s.replica.machine? n
    s.keyedFailure n = firstReason
      [(.unknownMachine, m.isNone),
        (.misgrade, (s.hose.bind s.replica.tank?).map TankEntry.grade != m.map MachineEntry.grade),
        (.barred, foundAnd MachineEntry.barred m), (.heldElsewhere, foundAnd (fun x => x.hold.isSome) m)] := by
  intro m
  have hm : m = s.replica.machine? n := rfl
  rw [State.keyedFailure, ← hm]
  cases m with
  | none => rfl
  | some e =>
    simp only [firstReason_cons, firstReason_nil, Option.isNone_some, Option.map_some, bne_iff_ne, foundAnd,
      State.tankGrade, Bool.false_eq_true, if_false]
    rfl

theorem State.relockIfUnlocked_of_locked {s : State} (h : s.unlock ≠ .unlocked) : s.relockIfUnlocked = s := if_neg h

theorem State.keyedIdentify_of_failure {s : State} {n : Nat} {x : Reason} (h : s.keyedFailure n = some x) :
    (s.keyedIdentify n).ident.state = .failed x ∧ (s.keyedIdentify n).activity = s.activity
      ∧ (s.keyedIdentify n).core = s.core := by
  have hopen : s.keyedOpens.keyedFailure n = some x := h
  have heq : s.keyedIdentify n = s.keyedOpens.identFail x := by
    show (match s.keyedOpens.keyedFailure n with | some r => _ | none => _) = _
    rw [hopen]
    rfl
  let z : State := State.raiseIdent x { s.keyedOpens with
    ident := { s.keyedOpens.ident with state := .failed x, runTimer := none } }
  have hlocked : z.unlock ≠ .unlocked := nofun
  have hfail : s.keyedOpens.identFail x = z := State.relockIfUnlocked_of_locked hlocked
  rw [heq, hfail]
  exact ⟨rfl, rfl, rfl⟩

theorem State.keyedIdentify_of_success {s : State} {n : Nat} (hrole : s.role = some .dispense)
    (h : s.keyedFailure n = none) : s.keyedIdentify n = (s.keyedHolds (s.keyedResult n)).resultReported := by
  have hopen : s.keyedOpens.keyedFailure n = none := h
  have hreceipt : (s.keyedHolds (s.keyedResult n)).isReceipt = false := by
    rw [State.isReceipt, show (s.keyedHolds (s.keyedResult n)).role = _ from hrole]
    rfl
  have heq : s.keyedIdentify n = s.keyedOpens.identSucceed (s.keyedResult n) false := by
    show (match s.keyedOpens.keyedFailure n with | some r => _ | none => _) = _
    rw [hopen]
    rfl
  rw [heq]
  refine congrArg State.resultReported ?_
  exact if_neg (ne_true_of_eq_false hreceipt)

theorem State.keyedResult_of_machine {s : State} {n : Nat} {e : MachineEntry} (h : s.replica.machine? n = some e) :
    s.keyedResult n =
      { mode := .keyed, number := n, grade := e.grade, capacity := e.capacity, hours := none, level := none } := by
  rw [State.keyedResult, h]

theorem State.keyedIdentify_replies {s : State} (n : Nat) (hrole : s.role = some .dispense) :
    (s.keyedIdentify n).console.replies = s.console.replies := by
  cases h : s.keyedFailure n with
  | some x => exact State.replies_of_core (State.keyedIdentify_of_failure h).2.2
  | none =>
    rw [State.keyedIdentify_of_success hrole h, State.resultReported_replies]
    rfl

/-- What a keyed identification of a known machine comes to. -/
theorem State.keyedIdentify_spec {s : State} {n : Nat} {e : MachineEntry} (hrole : s.role = some .dispense)
    (h : s.keyedFailure n = none) (he : s.replica.machine? n = some e) :
    let t := s.keyedIdentify n
    let r : IdResult :=
      { mode := .keyed, number := n, grade := e.grade, capacity := e.capacity, hours := none, level := none }
    (s.activity.state ≠ .awaitingId → s.activity.state ≠ .faulted →
        t.ident.state = .identified ∧ t.ident.context.bind Inlet.result = some r ∧ t.activity = s.activity)
      ∧ (s.activity.state = .faulted → t.ident.state = .idle ∧ t.ident.context = none ∧ t.activity = s.activity)
      ∧ (s.activity.state = .awaitingId → s.engine.admitted = false →
        t.activity.state = .refused .notInService ∧ t.ident.state = .idle)
      ∧ (s.activity.state = .awaitingId → s.engine.admitted = true → s.supply.record.isSome = true →
        t.activity.state = .refused .recoveryPending ∧ t.ident.state = .idle)
      ∧ (s.activity.state = .awaitingId → s.engine.admitted = true → s.supply.record = none →
        s.AsksForFill r t) := by
  intro t r
  have ht : t = (s.keyedHolds r).resultReported := by
    rw [show t = _ from State.keyedIdentify_of_success hrole h, State.keyedResult_of_machine he]
  obtain ⟨hheld, hfault, hout, hrecover, hopens⟩ :=
    State.resultReported_of_held (s := s.keyedHolds r) (r := r) hrole rfl rfl rfl rfl
  rw [ht]
  refine ⟨fun h1 h2 => ?_, fun h1 => ?_, fun h1 h2 => ?_, fun h1 h2 h3 => ?_, fun h1 h2 h3 => ?_⟩
  · rw [hheld h1 h2]
    exact ⟨rfl, rfl, rfl⟩
  · obtain ⟨g1, g2⟩ := hfault h1
    rw [g1, g2]
    exact ⟨rfl, rfl, rfl⟩
  · obtain ⟨g1, g2⟩ := hout h1 h2
    rw [g2]
    exact ⟨g1, rfl⟩
  · obtain ⟨g1, g2⟩ := hrecover h1 h2 h3
    rw [g2]
    exact ⟨g1, rfl⟩
  · exact (hopens h1 h2 h3).of_parts rfl rfl rfl rfl rfl

/-- KEYED-ID answers by its checks. -/
theorem State.keyedRequest_eq (n : Nat) (s : State) : s.keyedRequest n = firstAnswer s
    [(badRequestReply, decide (n = 0) || decide (n = 65535)), (refusedReply .wrongRole, s.role != some .dispense),
      (wrongStateReply, s.meter.cells.cpl.output || !s.ident.state.takesKeyed),
      (refusedReply .keyedNotPermitted, !s.replica.site.keyed)] (s.keyedIdentify n, doneReply []) := by
  simp only [firstAnswer_cons, firstAnswer_nil, State.keyedRequest, Bool.or_eq_true, bne_iff_ne, decide_eq_true_eq,
    Bool.not_eq_true']

theorem exec_keyedId {s : State} {n : Nat} (h : s.PortFree) (hs : s.link.state ≠ .offline) (hn : n < 2 ^ 16) :
    let answer (bytes : List Byte) := s.answered 0x09 (leBytes 2 n) bytes false
    let order := [(badRequestReply, decide (n = 0) || decide (n = 65535)),
      (refusedReply .wrongRole, s.role != some .dispense),
      (wrongStateReply, s.meter.cells.cpl.output || !s.ident.state.takesKeyed),
      (refusedReply .keyedNotPermitted, !s.replica.site.keyed)]
    (∀ x, order.find? Prod.snd = some x → exec (.keyedId (leBytes 2 n)) s = .next (answer x.1))
    ∧ (order.find? Prod.snd = none → exec (.keyedId (leBytes 2 n)) s =
      .next (((s.asked 0x09 (leBytes 2 n)).keyedIdentify n).reply [0x80, 0x00, 0x00] false).commitNotices) := by
  intro answer order
  have hrequest := (notOffline_of_other (f := State.keyedRequest n) (s := s.asked 0x09 (leBytes 2 n)) hs).trans
    (State.keyedRequest_eq n _)
  refine ⟨fun x hx => ?_, fun hnone => ?_⟩
  · exact exec_of_answer (c := .keyedId (leBytes 2 n)) rfl h (parseAll_parseNat_leBytes hn) rfl
      (hrequest.trans (firstAnswer_of_some hx)) h.1.2
  · exact exec_of_request (c := .keyedId (leBytes 2 n)) rfl h (parseAll_parseNat_leBytes hn) rfl
      (hrequest.trans (firstAnswer_of_none hnone))

end Sys2Proof.Machine
end

section
/-! DELIVERY (R63, R133, R134), and the attendant's requests settled. -/

namespace Sys2Proof.Machine

/-! ## The named tank reaches the identification controller (R63, R133) -/

theorem State.identFail_leaves (x : Reason) (s : State) : (s.identFail x).ident.state = .failed x
    ∧ (s.identFail x).activity = s.activity ∧ (s.identFail x).core = s.core := by
  unfold State.identFail State.relockIfUnlocked
  split
  · exact ⟨rfl, rfl, rfl⟩
  · exact ⟨rfl, rfl, rfl⟩

/-- With no grade open, the tank is noted alone. -/
theorem State.nameTank_of_closed {s : State} (n : Nat)
    (h : ∀ c ∈ s.ident.context, s.ident.state = .identified → c.gradePending = false) :
    s.nameTank n = s.modContext fun c => { c with namedTank := some n } := by
  cases hc : s.ident.context with
  | none =>
    have hnone : (s.modContext fun c => { c with namedTank := some n }).ident.context = none := by
      rw [State.modContext, hc]
      rfl
    rw [State.nameTank]
    split
    next c' _ hc' =>
      rw [hnone] at hc'
      cases hc'
    next => rfl
  | some c =>
    have hsome : (s.modContext fun c => { c with namedTank := some n }).ident.context =
        some { c with namedTank := some n } := by
      rw [State.modContext, hc]
      rfl
    rw [State.nameTank, hsome]
    split
    next c' hs hc' =>
      obtain rfl := Option.some.inj hc'
      exact if_neg (ne_true_of_eq_false (h c hc hs))
    next => rfl

/-- The station with the tank named in the context of the run that is held. -/
def State.grades (n : Nat) (c : Inlet) (s : State) : State :=
  { s with ident := { s.ident with context := some { c with namedTank := some n, gradePending := false } } }

theorem State.nameTank_of_identified {s : State} {c : Inlet} (n : Nat) (hs : s.ident.state = .identified)
    (hc : s.ident.context = some c) : s.nameTank n =
      if c.gradePending then
        if (s.replica.tank? n).map TankEntry.grade = c.result.map IdResult.grade ∧ c.result.isSome = true then
          s.grades n c
        else (s.modContext fun c => { c with namedTank := some n }).identFail .misgrade
      else s.modContext fun c => { c with namedTank := some n } := by
  have hcontext : (s.modContext fun c => { c with namedTank := some n }).ident.context =
      some { c with namedTank := some n } := by
    rw [State.modContext, hc]
    rfl
  have hgraded : (s.modContext fun c => { c with namedTank := some n }).modContext
      (fun c => { c with gradePending := false }) = s.grades n c := by
    rw [State.modContext, hcontext]
    rfl
  rw [State.nameTank, show (s.modContext fun c => { c with namedTank := some n }).ident.state = .identified from hs,
    hcontext, hgraded]
  rfl

/-- A tank of the result's grade, or a grade that was closed before. -/
theorem State.nameTank_of_result {s : State} {c : Inlet} {r : IdResult} (n : Nat) (hs : s.ident.state = .identified)
    (hc : s.ident.context = some c) (hr : c.result = some r)
    (hg : c.gradePending = true → (s.replica.tank? n).map TankEntry.grade = some r.grade) :
    s.nameTank n = s.grades n c := by
  rw [State.nameTank_of_identified n hs hc]
  cases hpending : c.gradePending with
  | true =>
    refine (if_pos rfl).trans (if_pos ⟨?_, by rw [hr]; rfl⟩)
    rw [hg hpending, hr]
    rfl
  | false =>
    refine (if_neg nofun).trans ?_
    rw [State.modContext, State.grades, hc, ← hpending]
    rfl

/-- A tank of another grade, or no result. -/
theorem State.nameTank_of_misgrade {s : State} {c : Inlet} (n : Nat) (hs : s.ident.state = .identified)
    (hc : s.ident.context = some c) (hpending : c.gradePending = true)
    (hg : c.result = none ∨ (s.replica.tank? n).map TankEntry.grade ≠ c.result.map IdResult.grade) :
    s.nameTank n = (s.modContext fun c => { c with namedTank := some n }).identFail .misgrade := by
  rw [State.nameTank_of_identified n hs hc, if_pos hpending]
  refine if_neg ?_
  rintro ⟨hgrade, hsome⟩
  rcases hg with hnone | hne
  · rw [hnone] at hsome
    cases hsome
  · exact hne hgrade

theorem State.nameTank_core (n : Nat) (s : State) : (s.nameTank n).core = s.core := by
  unfold State.nameTank
  dsimp only
  split
  · split
    · split
      · rfl
      · exact (State.identFail_leaves _ _).2.2
    · rfl
  · rfl

/-! ## A DELIVERY that is taken (R133, R134) -/

/-- The station that awaits the tanker's identification for the tank `n`. -/
def State.names (n v : Nat) (s : State) : State :=
  { s with activity := { s.activity with namedTank := some n, declared := some v } }

def State.awaitsTanker (n v : Nat) (s : State) : State := ((s.names n v).nameTank n).enterAct .awaitingId

theorem State.startDelivery_eq (n v : Nat) (s : State) : s.startDelivery n v = (s.awaitsTanker n v).lookAtResult := rfl

theorem State.awaitsTanker_core (n v : Nat) (s : State) : (s.awaitsTanker n v).core = s.core :=
  (State.enterAct_core _ _).trans ((State.nameTank_core n (s.names n v)).trans rfl)

theorem State.startDelivery_replies (n v : Nat) (s : State) :
    (s.startDelivery n v).console.replies = s.console.replies := by
  rw [State.startDelivery_eq, State.lookAtResult_replies]
  exact State.replies_of_core (s.awaitsTanker_core n v)

/-- Without a result it waits for one. -/
theorem State.startDelivery_waits {s : State} (n v : Nat) (h : ∀ c ∈ s.ident.context, s.ident.state = .identified →
    c.gradePending = false ∧ c.result = none) :
    (s.startDelivery n v).activity = { s.activity with
        state := .awaitingId, namedTank := some n, declared := some v }
      ∧ (s.startDelivery n v).ident.state = s.ident.state
      ∧ (s.startDelivery n v).ident.context =
        s.ident.context.map fun (c : Inlet) => { c with namedTank := some n } := by
  have hnamed : (s.names n v).nameTank n = (s.names n v).modContext fun c => { c with namedTank := some n } :=
    State.nameTank_of_closed n fun c hc hs => (h c hc hs).1
  have hwaits : s.awaitsTanker n v =
      ((s.names n v).modContext fun c => { c with namedTank := some n }).enterAct .awaitingId := by
    rw [State.awaitsTanker, hnamed]
  have hnone : (s.awaitsTanker n v).completeResult = none := by
    refine State.completeResult_of_none fun c hc hs => .inr ?_
    rw [hwaits, State.enterAct_ident] at hc hs
    obtain ⟨c0, hc0, rfl⟩ : ∃ c0 ∈ s.ident.context, { c0 with namedTank := some n } = c := by
      simpa [State.modContext, State.names] using hc
    exact (h c0 hc0 hs).2
  rw [State.startDelivery_eq, State.lookAtResult_of_other (.inr hnone), hwaits, State.enterAct_activity,
    State.enterAct_ident]
  exact ⟨rfl, rfl, rfl⟩

/-- A tank of another grade than that identified ends the run. -/
theorem State.startDelivery_misgrades {s : State} {c : Inlet} (n v : Nat) (hs : s.ident.state = .identified)
    (hc : s.ident.context = some c) (hpending : c.gradePending = true)
    (hg : c.result = none ∨ (s.replica.tank? n).map TankEntry.grade ≠ c.result.map IdResult.grade) :
    (s.startDelivery n v).activity.state = .awaitingId ∧ (s.startDelivery n v).ident.state = .failed .misgrade := by
  have hnamed := State.nameTank_of_misgrade (s := s.names n v) n hs hc hpending hg
  have hfailed : (s.awaitsTanker n v).ident.state = .failed .misgrade := by
    rw [State.awaitsTanker, hnamed, State.enterAct_ident]
    exact (State.identFail_leaves _ _).1
  have hnone : (s.awaitsTanker n v).completeResult = none :=
    State.completeResult_of_none fun _ _ h' => by rw [hfailed] at h'; cases h'
  rw [State.startDelivery_eq, State.lookAtResult_of_other (.inr hnone)]
  exact ⟨congrArg Activity.state (State.enterAct_activity _ _), hfailed⟩

theorem State.refuse_of_receipt {s : State} (x : Reason) (h : s.role = some .receipt) :
    (s.refuse x).activity.state = .refused x ∧ (s.refuse x).ident.context = none := by
  refine ⟨by rw [State.refuse_activity], ?_⟩
  rw [State.refuse, State.enterAct_ident]
  exact State.releaseResult_context (State.releaseAtReceipt_context h)

theorem State.offerOpen_receipt_activity {s : State} (r : IdResult) (h : s.role = some .receipt) :
    (s.offerOpen r).activity = { s.activity with state := .opening } := by
  rw [State.offerOpen, h]
  exact State.enterAct_activity _ _

/-- With a result of the tank's grade it is refused, or opens. -/
theorem State.startDelivery_opens {s : State} {c : Inlet} {r : IdResult} (n v : Nat) (hrole : s.role = some .receipt)
    (hs : s.ident.state = .identified) (hc : s.ident.context = some c) (hr : c.result = some r)
    (hg : c.gradePending = true → (s.replica.tank? n).map TankEntry.grade = some r.grade) :
    let t := s.startDelivery n v
    (s.engine.admitted = false → t.activity.state = .refused .notInService ∧ t.ident.context = none)
      ∧ (s.engine.admitted = true → s.supply.record.isSome = true →
        t.activity.state = .refused .recoveryPending ∧ t.ident.context = none)
      ∧ (s.engine.admitted = true → s.supply.record = none →
        let d : DeliveryRequest :=
          { tank := n, tanker := r.number, grade := r.grade, declared := v, mode := .tag,
            hours := r.hours, openTime := s.clock }
        t.activity.state = .opening ∧ t.activity.namedTank = some n
          ∧ t.activity.declared = some v ∧ t.activity.result = some r
          ∧ s.ActivityOffers (.deliveryOpen d) t) := by
  intro t
  let y := s.awaitsTanker n v
  have hnamed := State.nameTank_of_result (s := s.names n v) n hs hc hr hg
  have hy : y = ((s.names n v).grades n c).enterAct .awaitingId := congrArg (State.enterAct .awaitingId) hnamed
  have hcore : y.core = s.core := s.awaitsTanker_core n v
  have hident : y.ident = ((s.names n v).grades n c).ident := by rw [hy, State.enterAct_ident]
  have hactivity : y.activity = { (s.names n v).activity with state := .awaitingId } := by
    rw [hy, State.enterAct_activity]
    rfl
  have hrole' : y.role = some .receipt := (State.role_of_core hcore).trans hrole
  have hcomplete : y.completeResult = some r :=
    (State.completeResult_of_some (c := { c with namedTank := some n, gradePending := false })
      (by rw [hident]; exact hs) (by rw [hident]; rfl) rfl).trans hr
  have hlook := (State.startDelivery_eq n v s).trans
    (State.lookAtResult_of_awaiting (s := y) (congrArg Activity.state hactivity) hcomplete)
  rw [State.engine_of_core hcore, State.supply_of_core hcore] at hlook
  have hrefused (x : Reason) := State.refuse_of_receipt (s := y.takesResult r) x hrole'
  refine ⟨fun had => ?_, fun had hrec => ?_, fun had hrec => ?_⟩
  · rw [show t = _ from hlook, if_pos had]
    exact hrefused _
  · rw [show t = _ from hlook, if_neg (by rw [had]; nofun), if_pos hrec]
    exact hrefused _
  · intro d
    rw [show t = _ from hlook, if_neg (by rw [had]; nofun), if_neg (by rw [hrec]; nofun)]
    obtain ⟨_, _, _, _, hoffers⟩ := State.offerOpen_receipt (s := y) r hrole'
    have hd : y.deliveryRequest r = d := by
      simp only [State.deliveryRequest, hactivity, State.clock_of_core hcore]
      rfl
    rw [hd] at hoffers
    have hopened := State.offerOpen_receipt_activity (s := y.takesResult r) r hrole'
    rw [hopened]
    refine ⟨rfl, ?_, ?_, rfl, hoffers.of_link (State.link_of_core hcore)⟩
    · exact congrArg Activity.namedTank hactivity
    · exact congrArg Activity.declared hactivity

/-- DELIVERY answers by its checks. -/
theorem State.deliveryAnswer_eq (n v : Nat) (s : State) : s.deliveryAnswer n v = firstAnswer s
    [(badRequestReply, !within 1 8 n || !within 1000 999999 v), (refusedReply .wrongRole, s.role != some .receipt),
      (refusedReply .notServed, !tankInSet (s.served.getD 0) n),
      (wrongStateReply, s.activity.state != .idle || !s.meter.cells.dhs.output)]
    (s.startDelivery n v, doneReply []) := by
  simp only [firstAnswer_cons, firstAnswer_nil, State.deliveryAnswer, Bool.or_eq_true, bne_iff_ne, Bool.not_eq_true']

theorem exec_delivery {s : State} {n v : Nat} (h : s.PortFree) (hs : s.link.state ≠ .offline) (hn : n < 2 ^ 8)
    (hv : v < 2 ^ 32) :
    let body := leBytes 1 n ++ leBytes 4 v
    let order := [(badRequestReply, !within 1 8 n || !within 1000 999999 v),
      (refusedReply .wrongRole, s.role != some .receipt),
      (refusedReply .notServed, !tankInSet (s.served.getD 0) n),
      (wrongStateReply, s.activity.state != .idle || !s.meter.cells.dhs.output)]
    (∀ x, order.find? Prod.snd = some x → exec (.delivery body) s = .next (s.answered 0x0D body x.1 false))
    ∧ (order.find? Prod.snd = none → exec (.delivery body) s =
      .next (((s.asked 0x0D body).startDelivery n v).reply [0x80, 0x00, 0x00] false).commitNotices) := by
  intro body order
  have hrequest := (notOffline_of_other (f := State.deliveryAnswer n v) (s := s.asked 0x0D body) hs).trans
    (State.deliveryAnswer_eq n v _)
  refine ⟨fun x hx => ?_, fun hnone => ?_⟩
  · exact exec_of_answer (c := .delivery body) rfl h (parseAll_delivery hn hv) rfl
      (hrequest.trans (firstAnswer_of_some hx)) h.1.2
  · exact exec_of_request (c := .delivery body) rfl h (parseAll_delivery hn hv) rfl
      (hrequest.trans (firstAnswer_of_none hnone))

/-- The role that the second check of a rule asks for, once its checks have passed. -/
theorem role_of_checks {s : State} {r : Role} {a x y : List Byte × Bool} {b : List Byte}
    (h : [a, (b, s.role != some r), x, y].find? Prod.snd = none) : s.role = some r := by
  have hno := List.find?_eq_none.mp h (b, s.role != some r) (by simp)
  simpa using hno

/-- The reply leaves the controllers and the link engine. -/
theorem State.reply_leaves (bytes : List Byte) (z : State) :
    let t := (z.reply bytes false).commitNotices
    t.activity = z.activity ∧ t.ident = z.ident ∧ t.link = z.link := ⟨rfl, rfl, rfl⟩

/-- Settles O59. -/
theorem attendantRequests : Obligations.AttendantRequests := by
  refine ⟨fun x body s hx h => exec_attendant hx h, fun s v h hs hv => exec_preset h hs hv, fun s n h hs hn => ?_,
    fun s h hs => exec_cancel h hs, fun s n v h hs hn hv => ?_⟩
  · obtain ⟨hfirst, hnone⟩ := exec_keyedId h hs hn
    intro answer order
    refine ⟨hfirst, fun hpass => ?_⟩
    intro m found
    have hrole : s.role = some .dispense := role_of_checks hpass
    let y := s.asked 0x09 (leBytes 2 n)
    have hfailure : y.keyedFailure n = found := y.keyedFailure_eq n
    have hreplies : (y.keyedIdentify n).console.replies = [] :=
      (State.keyedIdentify_replies (s := y) n hrole).trans h.2.2
    refine ⟨_, hnone hpass, State.reply_replies _ hreplies, fun x hx => ?_, fun hfound e he => ?_⟩
    · obtain ⟨hstate, hact, _⟩ := State.keyedIdentify_of_failure (hfailure.trans hx)
      exact ⟨hstate, hact⟩
    · obtain ⟨h1, h2, h3, h4, h5⟩ := State.keyedIdentify_spec (s := y) hrole (hfailure.trans hfound) he
      exact ⟨h1, h2, h3, h4, h5⟩
  · obtain ⟨hfirst, hnone⟩ := exec_delivery h hs hn hv
    intro body order grade
    refine ⟨hfirst, fun hpass => ?_⟩
    have hrole : s.role = some .receipt := role_of_checks hpass
    let y := s.asked 0x0D body
    have hreplies : (y.startDelivery n v).console.replies = [] := (y.startDelivery_replies n v).trans h.2.2
    obtain ⟨hact, hid, hlink⟩ := State.reply_leaves [0x80, 0x00, 0x00] (y.startDelivery n v)
    refine ⟨_, hnone hpass, State.reply_replies _ hreplies, fun hopen => ?_, fun c hident hc => ⟨fun hp hg => ?_, ?_⟩⟩
    · rw [hact, hid]
      exact State.startDelivery_waits (s := y) n v hopen
    · rw [hact, hid]
      exact State.startDelivery_misgrades (s := y) n v hident hc hp hg
    · intro r hr hg
      obtain ⟨hout, hrecover, hopens⟩ := State.startDelivery_opens (s := y) n v hrole hident hc hr hg
      rw [hact, hid]
      refine ⟨hout, hrecover, fun had hrec => ?_⟩
      obtain ⟨h1, h2, h3, h4, hoffers⟩ := hopens had hrec
      exact ⟨h1, h2, h3, h4, hoffers.congr hlink⟩

end Sys2Proof.Machine
end

section
/-! What the readers of fields make of the bytes of fields (11, R188). -/

namespace Sys2Proof.Machine

/-! ## Readers -/

/-- A reader takes exactly the bytes `bs` off the front, and gives `x`. -/
def Reads {α : Type} (p : Parse α) (bs : List Byte) (x : α) : Prop := ∀ rest, p (bs ++ rest) = some (x, rest)

section
variable {α β : Type} {p : Parse α} {k : α → Parse β} {bs cs : List Byte} {x : α} {y : β}

theorem Reads.pure (x : α) : Reads (Pure.pure x : Parse α) [] x := fun _ => rfl

/-- One reader after another. -/
theorem Reads.bind (h : Reads p bs x) (h' : Reads (k x) cs y) : Reads (p >>= k) (bs ++ cs) y := by
  intro rest
  show (p (bs ++ cs ++ rest)).bind _ = _
  rw [List.append_assoc, h]
  exact h' rest

/-- The last reader of a layout. -/
theorem Reads.map (f : α → β) (h : Reads p bs x) : Reads (p >>= fun a => Pure.pure (f a)) bs (f x) := by
  intro rest
  show (p (bs ++ rest)).bind _ = _
  rw [h]
  rfl

/-- A reader that takes no bytes is over at once. -/
theorem Reads.bind_nil (h : Reads p bs x) (h' : Reads (k x) [] y) : Reads (p >>= k) bs y := by
  rw [← List.append_nil bs]
  exact h.bind h'

/-- A layout read whole. -/
theorem Reads.parseAll (h : Reads p bs x) : parseAll p bs = some x := by
  refine parseAll_of_whole ?_
  rw [← List.append_nil bs, h]

end

/-! ## Fields -/

theorem reads_byte (b : Byte) : Reads parseByte [b] b := fun _ => rfl

theorem reads_nat {n v : Nat} (h : fitsNat n v = true) : Reads (parseNat n) (leBytes n v) v := by
  intro rest
  refine parseNat_leBytes rest ?_
  rw [fitsNat, decide_eq_true_eq, Nat.pow_mul] at h
  exact h

/-- A signed value comes back from its two's complement. -/
theorem signed_mod {n : Nat} {v : Int} (h : fitsInt (n + 1) v = true) :
    signed (n + 1) (v % (2 ^ (8 * (n + 1)) : Nat)).toNat = v := by
  simp only [fitsInt, Bool.and_eq_true, decide_eq_true_eq] at h
  obtain ⟨hlo, hhi⟩ := h
  have hdouble : 2 ^ (8 * (n + 1)) = 2 * 2 ^ (8 * (n + 1) - 1) := by
    rw [← Nat.pow_succ']
    rfl
  rw [signed, hdouble]
  generalize 2 ^ (8 * (n + 1) - 1) = m at hlo hhi
  by_cases hneg : v < 0
  · have hmod : v % ((2 * m : Nat) : Int) = v + (2 * m : Nat) := by
      rw [← Int.add_emod_right, Int.emod_eq_of_lt (by omega) (by omega)]
    rw [hmod, if_neg (by omega)]
    omega
  · have hmod : v % ((2 * m : Nat) : Int) = v := Int.emod_eq_of_lt (by omega) (by omega)
    rw [hmod, if_pos (by omega)]
    omega

theorem reads_int {n : Nat} {v : Int} (h : fitsInt (n + 1) v = true) :
    Reads (parseInt (n + 1)) (leInt (n + 1) v) v := by
  have hpos : 0 < 2 ^ (8 * (n + 1)) := Nat.two_pow_pos _
  have hlt : (v % (2 ^ (8 * (n + 1)) : Nat)).toNat < 2 ^ (8 * (n + 1)) := by
    have hmod := Int.emod_lt_of_pos v (Int.natCast_pos.mpr hpos)
    have hnonneg := Int.emod_nonneg v (Int.natCast_ne_zero.mpr (Nat.ne_of_gt hpos))
    omega
  have hread := Reads.map (signed (n + 1)) (reads_nat (n := n + 1) (decide_eq_true hlt))
  rw [signed_mod h] at hread
  exact hread

theorem reads_flag (b : Bool) : Reads parseFlag [flagByte b] b := by
  cases b <;> exact fun _ => rfl

/-- A code byte names the value that it was made from. -/
theorem reads_code {α : Type} [DecidableEq α] {table : List (α × Nat)} {x : α}
    (h : ofCode table (codeIn table x) = some x) : Reads (parseCode (ofCode table)) [codeIn table x] x := by
  intro rest
  show (match ofCode table (codeIn table x) with | some x => _ | none => _ : Parse α) rest = _
  rw [h]
  rfl

theorem reads_tankSet {x : BitVec 8} (h : someTank x = true) : Reads parseTankSet [x] x := by
  intro rest
  have hne : x ≠ 0 := by simpa [someTank] using h
  show (if x = 0 then failure else Pure.pure x : Parse (BitVec 8)) rest = _
  rw [if_neg hne]
  rfl

/-! ## Optional fields (R188) -/

theorem reads_opt {α : Type} {p : Parse α} {f : α → List Byte} {o : Option α} {b : Bool} (hb : b = o.isSome)
    (h : ∀ x ∈ o, Reads p (f x) x) : Reads (parseOpt b p) (optBytes f o) o := by
  subst hb
  cases o with
  | none => exact Reads.pure none
  | some x => exact (h x rfl).map some

theorem of_fitsOpt {α : Type} {f : α → Bool} {o : Option α} (h : fitsOpt f o = true) : ∀ x ∈ o, f x = true := by
  rintro x rfl
  exact h

theorem reads_optNat {n : Nat} {o : Option Nat} {b : Bool} (hb : b = o.isSome) (h : fitsOpt (fitsNat n) o = true) :
    Reads (parseOpt b (parseNat n)) (optBytes (leBytes n) o) o :=
  reads_opt hb fun x hx => reads_nat (of_fitsOpt h x hx)

theorem reads_optInt {n : Nat} {o : Option Int} {b : Bool} (hb : b = o.isSome)
    (h : fitsOpt (fitsInt (n + 1)) o = true) :
    Reads (parseOpt b (parseInt (n + 1))) (optBytes (leInt (n + 1)) o) o :=
  reads_opt hb fun x hx => reads_int (of_fitsOpt h x hx)

/-- The bits of a presence byte are its options. -/
theorem presence_toNat_lt {l : List Bool} (h : l.length ≤ 8) : (presence l).toNat < 2 ^ l.length := by
  induction l with
  | nil => exact Nat.one_pos
  | cons b l ih =>
    have hl := ih (by rw [List.length_cons] at h; omega)
    have hflag : (flagByte b).toNat ≤ 1 := by cases b <;> decide
    have hsum : (presence (b :: l)).toNat ≤ (flagByte b).toNat + 2 * (presence l).toNat := by
      rw [presence, BitVec.toNat_add, BitVec.toNat_mul]
      exact Nat.le_trans (Nat.mod_le _ _) (Nat.add_le_add_left (Nat.mod_le _ _) _)
    rw [List.length_cons, Nat.pow_succ]
    omega

theorem presence_getLsbD {l : List Bool} (h : l.length ≤ 8) (i : Nat) :
    (presence l).getLsbD i = (l[i]?).getD false := by
  induction l generalizing i with
  | nil => simp [presence]
  | cons b l ih =>
    have hl : l.length ≤ 8 := by rw [List.length_cons] at h; omega
    have hsmall : (presence l).toNat < 2 ^ 7 :=
      Nat.lt_of_lt_of_le (presence_toNat_lt hl) (Nat.pow_le_pow_right (by decide) (by rw [List.length_cons] at h; omega))
    have hflag : (flagByte b).toNat = b.toNat := by cases b <;> rfl
    have hsum : (presence (b :: l)).toNat = b.toNat + 2 * (presence l).toNat := by
      have hb : b.toNat ≤ 1 := b.toNat_le
      rw [presence, BitVec.toNat_add, BitVec.toNat_mul, hflag, show (2 : Byte).toNat = 2 from rfl]
      omega
    rw [BitVec.getLsbD, hsum]
    cases i with
    | zero =>
      rw [Nat.testBit_zero, Nat.add_mul_mod_self_left]
      cases b <;> rfl
    | succ i =>
      have hhalf : (b.toNat + 2 * (presence l).toNat) / 2 = (presence l).toNat := by
        have hb : b.toNat ≤ 1 := b.toNat_le
        omega
      rw [Nat.testBit_succ, hhalf, List.getElem?_cons_succ]
      exact ih hl i

theorem reads_presence {l : List Bool} (h : l.length ≤ 8) : Reads (parsePresence l.length) [presence l] (presence l) := by
  intro rest
  show (if (presence l).toNat < 2 ^ l.length then Pure.pure (presence l) else failure : Parse Byte) rest = _
  rw [if_pos (presence_toNat_lt h)]
  rfl

end Sys2Proof.Machine
end

section
/-! The layouts of payloads and table entries, read back (11.4, 11.5, R188). -/

namespace Sys2Proof.Machine

theorem Reads.congr {α : Type} {p : Parse α} {bs : List Byte} {x y : α} (h : Reads p bs x) (hxy : x = y) :
    Reads p bs y := hxy ▸ h

/-- An option's bit of the presence byte. -/
theorem presence_bit {l : List Bool} (i : Nat) {b : Bool} (h : l.length ≤ 8) (hb : l[i]? = some b) :
    (presence l).getLsbD i = b := by
  rw [presence_getLsbD h, hb]
  rfl

/-! ## Codes (11.3, 11.6, R190) -/

theorem ofCode_reason (r : Reason) : ofCode reasonCodes (codeIn reasonCodes r) = some r := by cases r <;> rfl
theorem ofCode_activityKind (k : ActivityKind) : ofCode activityKindCodes (codeIn activityKindCodes k) = some k := by
  cases k <;> rfl
theorem ofCode_endingKind (k : EndingKind) : ofCode endingKindCodes (codeIn endingKindCodes k) = some k := by
  cases k <;> rfl
theorem ofCode_recordKind (k : RecordKind) : ofCode recordKindCodes (codeIn recordKindCodes k) = some k := by
  cases k <;> rfl
theorem ofCode_idMode (m : IdMode) : ofCode idModeCodes (codeIn idModeCodes m) = some m := by cases m <;> rfl
theorem ofCode_restock (r : RestockState) : ofCode restockCodes (codeIn restockCodes r) = some r := by cases r <;> rfl
theorem ofCode_censusKind (k : CensusKind) : ofCode censusKindCodes (codeIn censusKindCodes k) = some k := by
  cases k <;> rfl
theorem ofCode_grantMode (m : GrantMode) : ofCode grantModeCodes (codeIn grantModeCodes m) = some m := by
  cases m <;> rfl
theorem ofCode_role (r : Role) : ofCode roleCodes (codeIn roleCodes r) = some r := by cases r <;> rfl
theorem ofCode_membership (m : Membership) : ofCode membershipCodes (codeIn membershipCodes m) = some m := by
  cases m <;> rfl
theorem ofCode_table (t : Table) : ofCode tableCodes (codeIn tableCodes t) = some t := by cases t <;> rfl

theorem fitsNat_check (k : Check) : fitsNat 2 k.toNat = true := decide_eq_true k.isLt

theorem ofNat_toNat_check (k : Check) : BitVec.ofNat 16 k.toNat = k := by
  rw [BitVec.ofNat_toNat, BitVec.setWidth_eq]

/-! ## Payloads (11.4) -/

theorem reads_closing {c : Closing} (h : c.fits = true) : Reads parseClosing (encodeClosing c) c := by
  simp only [Closing.fits, Bool.and_eq_true] at h
  obtain ⟨⟨⟨⟨⟨hseq, hgross⟩, hcomp⟩, hoverrun⟩, hhours⟩, htime⟩ := h
  unfold parseClosing encodeClosing
  simp only [List.append_assoc]
  exact .bind (reads_presence (by simp)) <| .bind (reads_nat hseq) <| .bind (reads_int hgross) <|
    .bind (reads_optNat (presence_bit 0 (by simp) rfl) hcomp) <| .bind (reads_code (ofCode_reason _)) <|
    .bind (reads_int hoverrun) <| .bind (reads_optNat (presence_bit 1 (by simp) rfl) hhours) <|
    .map _ (reads_optNat (presence_bit 2 (by simp) rfl) htime)

theorem reads_adjust {a : Adjusting} (h : (Payload.adjust a).fits = true) :
    Reads parseAdjust (encodePayload (.adjust a)) a := by
  simp only [Payload.fits, Bool.and_eq_true] at h
  obtain ⟨⟨⟨⟨⟨hseq, hparty⟩, htank⟩, hbefore⟩, hdelta⟩, htime⟩ := h
  unfold parseAdjust encodePayload
  simp only [List.append_assoc]
  exact .bind (reads_presence (by simp)) <| .bind (reads_nat hseq) <| .bind (reads_code (ofCode_activityKind _)) <|
    .bind (reads_nat hparty) <| .bind (reads_nat htank) <| .bind (reads_code (ofCode_idMode _)) <|
    .bind (reads_int hbefore) <| .bind (reads_int hdelta) <|
    .map _ (reads_optNat (presence_bit 0 (by simp) rfl) htime)

theorem reads_open {o : OpenRequest} (h : (Payload.openFill o).fits = true) :
    Reads parseOpen (encodePayload (.openFill o)) o := by
  obtain ⟨machine, tank, requested, mode, hours, openTime⟩ := o
  simp only [Payload.fits, Bool.and_eq_true] at h
  obtain ⟨⟨⟨⟨hmachine, htank⟩, hrequested⟩, hhours⟩, htime⟩ := h
  have hmode (b : Byte) (hb : ofCode idModeCodes b = mode) : Reads parseOpen ([presence [hours.isSome, openTime.isSome]]
      ++ (leBytes 2 machine ++ (leBytes 1 tank ++ (leBytes 4 requested ++ ([b] ++ (optBytes (leBytes 4) hours
      ++ optBytes (leBytes 4) openTime)))))) { machine, tank, requested, mode, hours, openTime } := by
    subst hb
    unfold parseOpen
    exact .bind (reads_presence (by simp)) <| .bind (reads_nat hmachine) <| .bind (reads_nat htank) <|
      .bind (reads_nat hrequested) <| .bind (reads_byte b) <|
      .bind (reads_optNat (presence_bit 0 (by simp) rfl) hhours) <|
      .map _ (reads_optNat (presence_bit 1 (by simp) rfl) htime)
  unfold encodePayload
  simp only [List.append_assoc]
  cases mode with
  | none => exact hmode 0 rfl
  | some m => exact hmode _ (ofCode_idMode m)

theorem reads_deliveryOpen {d : DeliveryRequest} (h : (Payload.deliveryOpen d).fits = true) :
    Reads parseDeliveryOpen (encodePayload (.deliveryOpen d)) d := by
  simp only [Payload.fits, Bool.and_eq_true] at h
  obtain ⟨⟨⟨⟨⟨htank, htanker⟩, hgrade⟩, hdeclared⟩, hhours⟩, htime⟩ := h
  unfold parseDeliveryOpen encodePayload
  simp only [List.append_assoc]
  exact .bind (reads_presence (by simp)) <| .bind (reads_nat htank) <| .bind (reads_nat htanker) <|
    .bind (reads_nat hgrade) <| .bind (reads_nat hdeclared) <| .bind (reads_code (ofCode_idMode _)) <|
    .bind (reads_optNat (presence_bit 0 (by simp) rfl) hhours) <|
    .map _ (reads_optNat (presence_bit 1 (by simp) rfl) htime)

theorem reads_gauging {g : Gauging} (h : (Payload.gauge g).fits = true) :
    Reads parseGauging (encodePayload (.gauge g)) g := by
  simp only [Payload.fits, Bool.and_eq_true] at h
  obtain ⟨⟨⟨⟨htank, hlevel⟩, hvolume⟩, htemperature⟩, hcensus⟩ := h
  unfold parseGauging encodePayload
  simp only [List.append_assoc]
  exact .bind (reads_presence (by simp)) <| .bind (reads_nat htank) <| .bind (reads_nat hlevel) <|
    .bind (reads_int hvolume) <| .bind (reads_optInt (presence_bit 0 (by simp) rfl) htemperature) <|
    .map _ (reads_nat hcensus)

theorem reads_census {k : CensusKind} {n : Nat} {time : Option Nat} (h : (Payload.census k n time).fits = true) :
    Reads parseCensus (encodePayload (.census k n time)) (.census k n time) := by
  simp only [Payload.fits, Bool.and_eq_true] at h
  obtain ⟨hargument, htime⟩ := h
  unfold parseCensus encodePayload
  simp only [List.append_assoc]
  exact .bind (reads_presence (by simp)) <| .bind (reads_code (ofCode_censusKind _)) <|
    .bind (reads_nat hargument) <| .map _ (reads_optNat (presence_bit 0 (by simp) rfl) htime)

theorem reads_grant {g : Granting} (h : (Payload.grant g).fits = true) :
    Reads parseGrant (encodePayload (.grant g)) g := by
  simp only [Payload.fits, Bool.and_eq_true] at h
  obtain ⟨⟨⟨⟨hmachine, hvalue⟩, hgrade⟩, hcapacity⟩, hcentre⟩ := h
  unfold parseGrant encodePayload
  simp only [List.append_assoc]
  exact .bind (reads_nat hmachine) <| .bind (reads_code (ofCode_grantMode _)) <| .bind (reads_int hvalue) <|
    .bind (reads_nat hgrade) <| .bind (reads_nat hcapacity) <| .map _ (reads_nat hcentre)

theorem reads_tankSetting {t : TankSetting} (h : (Payload.tankSet t).fits = true) :
    Reads parseTankSetting (encodePayload (.tankSet t)) t := by
  simp only [Payload.fits, Bool.and_eq_true] at h
  obtain ⟨⟨⟨⟨htank, hgrade⟩, hcapacity⟩, hreorder⟩, hbook⟩ := h
  unfold parseTankSetting encodePayload
  simp only [List.append_assoc]
  exact .bind (reads_presence (by simp)) <| .bind (reads_nat htank) <| .bind (reads_nat hgrade) <|
    .bind (reads_nat hcapacity) <| .bind (reads_nat hreorder) <|
    .map _ (reads_optInt (presence_bit 0 (by simp) rfl) hbook)

theorem reads_siteSet {m t : Option Nat} {keyed : Option Bool} (h : (Payload.siteSet m t keyed).fits = true) :
    Reads parseSiteSet (encodePayload (.siteSet m t keyed)) (.siteSet m t keyed) := by
  simp only [Payload.fits, Bool.and_eq_true] at h
  obtain ⟨hmin, htolerance⟩ := h
  unfold parseSiteSet encodePayload
  simp only [List.append_assoc]
  exact .bind (reads_presence (by simp)) <| .bind (reads_optNat (presence_bit 0 (by simp) rfl) hmin) <|
    .bind (reads_optNat (presence_bit 1 (by simp) rfl) htolerance) <|
    .map _ (reads_opt (presence_bit 2 (by simp) rfl) fun b _ => reads_flag b)

/-- The served tanks, where there are any. -/
theorem reads_served {o : Option (BitVec 8)} {b : Bool} (hb : b = o.isSome) (h : fitsOpt someTank o = true) :
    Reads (parseOpt b parseTankSet) (optBytes (fun x => [x]) o) o :=
  reads_opt hb fun x hx => reads_tankSet (of_fitsOpt h x hx)

theorem reads_join {j : Joining} (h : (Payload.join j).fits = true) : Reads parseJoin (encodePayload (.join j)) j := by
  simp only [Payload.fits, Bool.and_eq_true] at h
  obtain ⟨⟨⟨hstation, hhose⟩, hserved⟩, hretained⟩ := h
  refine Reads.congr (x := { j with keyCheck := BitVec.ofNat 16 j.keyCheck.toNat }) ?_ (by rw [ofNat_toNat_check])
  unfold parseJoin encodePayload
  simp only [List.append_assoc]
  exact .bind (reads_presence (by simp)) <| .bind (reads_nat hstation) <| .bind (reads_code (ofCode_role _)) <|
    .bind (reads_optNat (presence_bit 0 (by simp) rfl) hhose) <|
    .bind (reads_served (presence_bit 1 (by simp) rfl) hserved) <| .bind (reads_nat (fitsNat_check _)) <|
    .map _ (reads_nat hretained)

theorem reads_announce {a : Announcing} (h : (Payload.announce a).fits = true) :
    Reads parseAnnounce (encodePayload (.announce a)) a := by
  simp only [Payload.fits, Bool.and_eq_true] at h
  obtain ⟨hhose, hserved⟩ := h
  refine Reads.congr (x := { a with keyCheck := BitVec.ofNat 16 a.keyCheck.toNat }) ?_ (by rw [ofNat_toNat_check])
  unfold parseAnnounce encodePayload
  simp only [List.append_assoc]
  exact .bind (reads_presence (by simp)) <| .bind (reads_flag _) <| .bind (reads_code (ofCode_role _)) <|
    .bind (reads_optNat (presence_bit 0 (by simp) rfl) hhose) <|
    .bind (reads_served (presence_bit 1 (by simp) rfl) hserved) <| .map _ (reads_nat (fitsNat_check _))

theorem reads_seal {x : Sealing} (h : (Payload.sealRound x).fits = true) :
    Reads parseSeal (encodePayload (.sealRound x)) x := by
  simp only [Payload.fits, Bool.and_eq_true] at h
  obtain ⟨⟨hwinner, hretained⟩, hcandidates⟩ := h
  refine Reads.congr (x := { x with keyCheck := BitVec.ofNat 16 x.keyCheck.toNat }) ?_ (by rw [ofNat_toNat_check])
  unfold parseSeal encodePayload
  simp only [List.append_assoc]
  exact .bind (reads_nat hwinner) <| .bind (reads_nat hretained) <| .bind (reads_nat (fitsNat_check _)) <|
    .map _ (reads_nat hcandidates)

theorem reads_snapHead {n : Nat} {k : Check} {c : Counts} (h : (Payload.snapHead n k c).fits = true) :
    Reads parseSnapHead (encodePayload (.snapHead n k c)) (.snapHead n k c) := by
  simp only [Payload.fits, Bool.and_eq_true] at h
  obtain ⟨⟨⟨⟨⟨⟨hseq, hsite⟩, hstations⟩, htanks⟩, hcentres⟩, hmachines⟩, hlog⟩ := h
  refine Reads.congr (x := .snapHead n (BitVec.ofNat 16 k.toNat) c) ?_ (by rw [ofNat_toNat_check])
  unfold parseSnapHead encodePayload
  simp only [List.append_assoc]
  exact .bind (reads_nat hseq) <| .bind (reads_nat (fitsNat_check _)) <| .bind (reads_nat hsite) <|
    .bind (reads_nat hstations) <| .bind (reads_nat htanks) <| .bind (reads_nat hcentres) <|
    .bind (reads_nat hmachines) <| .map _ (reads_nat hlog)

/-! ## Table entries (11.5) -/

theorem reads_site {r : SiteRecord} (h : (Entry.site r).fits = true) : Reads parseSite (encodeSite r) r := by
  simp only [Entry.fits, Bool.and_eq_true] at h
  obtain ⟨⟨⟨⟨hseq, hnext⟩, hmin⟩, htolerance⟩, hstop⟩ := h
  have hinfo : ∀ x ∈ r.stop, Reads (do
      let origin ← parseNat 1
      let reason ← parseByte
      let seq ← parseNat 6
      return { origin, reason, seq : StopInfo }) (leBytes 1 x.origin ++ [x.reason] ++ leBytes 6 x.seq) x := by
    intro x hx
    obtain ⟨horigin, hseq⟩ := Bool.and_eq_true_iff.mp (of_fitsOpt hstop x hx)
    rw [List.append_assoc]
    exact .bind (reads_nat horigin) <| .bind (reads_byte _) <| .map _ (reads_nat hseq)
  refine Reads.congr (x := { r with keyCheck := BitVec.ofNat 16 r.keyCheck.toNat }) ?_ (by rw [ofNat_toNat_check])
  unfold parseSite encodeSite
  simp only [List.append_assoc]
  simp only [List.append_assoc] at hinfo
  exact .bind (reads_presence (by simp)) <| .bind (reads_nat hseq) <| .bind (reads_nat hnext) <|
    .bind (reads_flag _) <| .bind (reads_opt (presence_bit 0 (by simp) rfl) hinfo) <| .bind (reads_nat hmin) <|
    .bind (reads_nat htolerance) <| .bind (reads_flag _) <| .map _ (reads_nat (fitsNat_check _))

theorem reads_activity {a : OpenActivity} {timed : Bool} (ht : timed = a.openTime.isSome) (h : a.fits = true) :
    Reads (parseActivity timed) (encodeActivity a) a := by
  simp only [OpenActivity.fits, Bool.and_eq_true] at h
  obtain ⟨⟨⟨⟨⟨hseq, hparty⟩, htank⟩, hvolume⟩, hprogress⟩, htime⟩ := h
  unfold parseActivity encodeActivity
  simp only [List.append_assoc]
  exact .bind (reads_code (ofCode_activityKind _)) <| .bind (reads_nat hseq) <| .bind (reads_nat hparty) <|
    .bind (reads_nat htank) <| .bind (reads_nat hvolume) <| .bind (reads_nat hprogress) <|
    .bind (reads_code (ofCode_idMode _)) <| .map _ (reads_optNat ht htime)

theorem reads_last {x : LastEnded} (h : (fitsNat 6 x.openSeq && fitsInt 4 x.billed) = true) :
    Reads parseLast (leBytes 6 x.openSeq ++ ([codeIn endingKindCodes x.kind] ++ leInt 4 x.billed)) x := by
  obtain ⟨hseq, hbilled⟩ := Bool.and_eq_true_iff.mp h
  exact .bind (reads_nat hseq) <| .bind (reads_code (ofCode_endingKind _)) <| .map _ (reads_int hbilled)

/-- A layout whose presence byte passes its check. -/
theorem Reads.of_guard {α : Type} {c : Bool} {q p : Parse α} {bs : List Byte} {x : α} (hc : c = false)
    (h : Reads p bs x) : Reads (if c = true then q else p) bs x := by
  subst hc
  exact h

/-- The options of a station entry, in the order of its presence byte. -/
def StationEntry.options (e : StationEntry) : List Bool :=
  [e.role.isSome, e.hose.isSome, e.served.isSome, e.donor.isSome, e.donatingTo.isSome, e.activity.isSome,
    (e.activity.bind OpenActivity.openTime).isSome, e.last.isSome]

theorem reads_station {e : StationEntry} (h : (Entry.station e).fits = true) :
    Reads parseStation (encodeStation e) e := by
  simp only [Entry.fits, Bool.and_eq_true] at h
  obtain ⟨⟨⟨⟨⟨⟨⟨hnumber, hmisses⟩, hhose⟩, hserved⟩, hdonor⟩, hto⟩, hactivity⟩, hlast⟩ := h
  have hbit (i : Nat) {b : Bool} (hb : e.options[i]? = some b) : (presence e.options).getLsbD i = b :=
    presence_bit i (Nat.le_refl 8) hb
  have htimed : (presence e.options).getLsbD 6 = (e.activity.bind OpenActivity.openTime).isSome := hbit 6 rfl
  have hguard : ((presence e.options).getLsbD 6 && !(presence e.options).getLsbD 5) = false := by
    rw [htimed, hbit 5 (b := e.activity.isSome) rfl]
    cases e.activity with
    | none => rfl
    | some a => exact Bool.and_false _
  have hopen : ∀ a ∈ e.activity, Reads (parseActivity ((presence e.options).getLsbD 6)) (encodeActivity a) a := by
    intro a ha
    refine reads_activity (htimed.trans ?_) (of_fitsOpt hactivity a ha)
    rw [Option.mem_def.mp ha]
    rfl
  unfold parseStation encodeStation
  simp only [List.append_assoc]
  exact .bind (reads_presence (l := e.options) (Nat.le_refl 8)) <| .of_guard hguard <| .bind (reads_nat hnumber) <|
    .bind (reads_code (ofCode_membership _)) <| .bind (reads_nat hmisses) <|
    .bind (reads_opt (hbit 0 rfl) fun r _ => reads_code (ofCode_role r)) <| .bind (reads_optNat (hbit 1 rfl) hhose) <|
    .bind (reads_served (hbit 2 rfl) hserved) <| .bind (reads_optNat (hbit 3 rfl) hdonor) <|
    .bind (reads_optNat (hbit 4 rfl) hto) <| .bind (reads_opt (hbit 5 rfl) hopen) <|
    .map _ (reads_opt (hbit 7 rfl) fun x hx => reads_last (of_fitsOpt hlast x hx))

/-- The bytes of a tank's last gauging, one field behind another. -/
def LastGauge.bytes (g : LastGauge) : List Byte :=
  leInt 4 g.volume ++ (leBytes 2 g.level ++ (leBytes 1 g.station ++ (leBytes 6 g.seq ++ ([flagByte g.reconciled]
    ++ (optBytes (leInt 2) g.temperature ++ optBytes (leInt 4) g.variance)))))

theorem reads_gaugeEntry {g : LastGauge} {temp var : Bool} (ht : temp = g.temperature.isSome)
    (hv : var = g.variance.isSome) (h : (fitsInt 4 g.volume && fitsNat 2 g.level && fitsNat 1 g.station
      && fitsNat 6 g.seq && fitsOpt (fitsInt 2) g.temperature && fitsOpt (fitsInt 4) g.variance) = true) :
    Reads (parseGaugeEntry temp var) g.bytes g := by
  simp only [Bool.and_eq_true] at h
  obtain ⟨⟨⟨⟨⟨hvolume, hlevel⟩, hstation⟩, hseq⟩, htemperature⟩, hvariance⟩ := h
  exact .bind (reads_int hvolume) <| .bind (reads_nat hlevel) <| .bind (reads_nat hstation) <|
    .bind (reads_nat hseq) <| .bind (reads_flag _) <| .bind (reads_optInt ht htemperature) <|
    .map _ (reads_optInt hv hvariance)

/-- The options of a tank entry, in the order of its presence byte. -/
def TankEntry.options (e : TankEntry) : List Bool :=
  [e.deliveryStation.isSome, e.quietSince.isSome, e.lastGauge.isSome,
    (e.lastGauge.bind LastGauge.temperature).isSome, (e.lastGauge.bind LastGauge.variance).isSome]

theorem reads_tank {e : TankEntry} (h : (Entry.tank e).fits = true) : Reads parseTank (encodeTank e) e := by
  simp only [Entry.fits] at h
  obtain ⟨h, hgauge⟩ := Bool.and_eq_true_iff.mp h
  simp only [Bool.and_eq_true] at h
  obtain ⟨⟨⟨⟨⟨⟨⟨hnumber, hgrade⟩, hcapacity⟩, hbook⟩, hreserved⟩, hreorder⟩, hdelivery⟩, hquiet⟩ := h
  have hbit (i : Nat) {b : Bool} (hb : e.options[i]? = some b) : (presence e.options).getLsbD i = b :=
    presence_bit i (by decide : 5 ≤ 8) hb
  have htemp : (presence e.options).getLsbD 3 = (e.lastGauge.bind LastGauge.temperature).isSome := hbit 3 rfl
  have hvar : (presence e.options).getLsbD 4 = (e.lastGauge.bind LastGauge.variance).isSome := hbit 4 rfl
  have hguard : (((presence e.options).getLsbD 3 || (presence e.options).getLsbD 4)
      && !(presence e.options).getLsbD 2) = false := by
    rw [htemp, hvar, hbit 2 (b := e.lastGauge.isSome) rfl]
    cases e.lastGauge with
    | none => rfl
    | some g => exact Bool.and_false _
  have hentry : ∀ g ∈ e.lastGauge,
      Reads (parseGaugeEntry ((presence e.options).getLsbD 3) ((presence e.options).getLsbD 4)) g.bytes g := by
    intro g hg
    refine reads_gaugeEntry (htemp.trans ?_) (hvar.trans ?_) (of_fitsOpt hgauge g hg)
    · rw [Option.mem_def.mp hg]
      rfl
    · rw [Option.mem_def.mp hg]
      rfl
  unfold parseTank encodeTank
  simp only [List.append_assoc]
  exact .bind (reads_presence (l := e.options) (by decide : 5 ≤ 8)) <| .of_guard hguard <| .bind (reads_nat hnumber) <|
    .bind (reads_nat hgrade) <| .bind (reads_nat hcapacity) <| .bind (reads_int hbook) <| .bind (reads_nat hreserved) <|
    .bind (reads_nat hreorder) <| .bind (reads_code (ofCode_restock _)) <|
    .bind (reads_optNat (hbit 0 rfl) hdelivery) <| .bind (reads_optNat (hbit 1 rfl) hquiet) <|
    .bind (reads_opt (hbit 2 rfl) hentry) <| .map _ (reads_flag _)

theorem reads_costCentre {e : CostCentre} (h : (Entry.costCentre e).fits = true) :
    Reads parseCostCentre (encodeCostCentre e) e := by
  simp only [Entry.fits, Bool.and_eq_true] at h
  obtain ⟨⟨⟨hnumber, hgross⟩, hcomp⟩, hfills⟩ := h
  unfold parseCostCentre encodeCostCentre
  simp only [List.append_assoc]
  exact .bind (reads_nat hnumber) <| .bind (reads_nat hgross) <| .bind (reads_nat hcomp) <|
    .bind (reads_nat hfills) <| .map _ (reads_flag _)

theorem reads_hold {x : Hold} (h : (fitsNat 1 x.station && fitsNat 6 x.openSeq) = true) :
    Reads parseHold (leBytes 1 x.station ++ leBytes 6 x.openSeq) x := by
  obtain ⟨hstation, hseq⟩ := Bool.and_eq_true_iff.mp h
  exact .bind (reads_nat hstation) <| .map _ (reads_nat hseq)

theorem reads_lastFill {x : LastFill} (h : (fitsNat 4 x.record && fitsInt 4 x.gross) = true) :
    Reads parseLastFill (leBytes 4 x.record ++ leInt 4 x.gross) x := by
  obtain ⟨hrecord, hgross⟩ := Bool.and_eq_true_iff.mp h
  exact .bind (reads_nat hrecord) <| .map _ (reads_int hgross)

theorem reads_machine {e : MachineEntry} (h : (Entry.machine e).fits = true) :
    Reads parseMachine (encodeMachine e) e := by
  simp only [Entry.fits, Bool.and_eq_true] at h
  obtain ⟨⟨⟨⟨⟨⟨hnumber, hgrade⟩, hcapacity⟩, hallowance⟩, hcentre⟩, hhold⟩, hlast⟩ := h
  unfold parseMachine encodeMachine
  simp only [List.append_assoc]
  exact .bind (reads_presence (by simp)) <| .bind (reads_nat hnumber) <| .bind (reads_nat hgrade) <|
    .bind (reads_nat hcapacity) <| .bind (reads_int hallowance) <| .bind (reads_nat hcentre) <|
    .bind (reads_flag _) <| .bind (reads_flag _) <|
    .bind (reads_opt (presence_bit 0 (by simp) rfl) fun x hx => reads_hold (of_fitsOpt hhold x hx)) <|
    .map _ (reads_opt (presence_bit 1 (by simp) rfl) fun x hx => reads_lastFill (of_fitsOpt hlast x hx))

theorem reads_record {r : Record} (h : (Entry.record r).fits = true) : Reads parseRecord (encodeRecord r) r := by
  simp only [Entry.fits, Bool.and_eq_true] at h
  obtain ⟨⟨⟨⟨⟨⟨⟨⟨⟨⟨⟨hnumber, hmade⟩, hstation⟩, hseq⟩, hparty⟩, htank⟩, hgross⟩, hcomp⟩, hcentre⟩, hhours⟩, hopen⟩,
    hend⟩ := h
  unfold parseRecord encodeRecord
  simp only [List.append_assoc]
  exact .bind (reads_presence (by simp)) <| .bind (reads_nat hnumber) <| .bind (reads_nat hmade) <|
    .bind (reads_code (ofCode_recordKind _)) <| .bind (reads_nat hstation) <| .bind (reads_nat hseq) <|
    .bind (reads_nat hparty) <| .bind (reads_nat htank) <| .bind (reads_int hgross) <|
    .bind (reads_optNat (presence_bit 0 (by simp) rfl) hcomp) <|
    .bind (reads_optNat (presence_bit 1 (by simp) rfl) hcentre) <|
    .bind (reads_opt (presence_bit 2 (by simp) rfl) fun x _ => reads_code (ofCode_reason x)) <|
    .bind (reads_code (ofCode_idMode _)) <| .bind (reads_optNat (presence_bit 3 (by simp) rfl) hhours) <|
    .bind (reads_optNat (presence_bit 4 (by simp) rfl) hopen) <|
    .map _ (reads_optNat (presence_bit 5 (by simp) rfl) hend)

end Sys2Proof.Machine
end

section
/-! A payload comes back from its bytes (11.3 to 11.5, R188, R189). -/

namespace Sys2Proof.Machine

/-! ## Lists of entries (R37, R153) -/

theorem reads_entry {e : Entry} (h : e.fits = true) : Reads (parseEntry e.table) (encodeEntry e) e := by
  cases e with
  | site r => exact (reads_site h).map _
  | station e => exact (reads_station h).map _
  | tank e => exact (reads_tank h).map _
  | costCentre e => exact (reads_costCentre h).map _
  | machine e => exact (reads_machine h).map _
  | record r => exact (reads_record h).map _

/-- The entries of a DATA frame. -/
theorem reads_entriesOf {t : Table} {es : List Entry} (h : ∀ e ∈ es, e.table = t ∧ e.fits = true) :
    Reads (parseEntriesOf t es.length) (es.flatMap encodeEntry) es := by
  induction es with
  | nil => exact .pure []
  | cons e es ih =>
    obtain ⟨htable, hfits⟩ := h e List.mem_cons_self
    have hentry := reads_entry hfits
    rw [htable] at hentry
    exact .bind hentry <| .map _ (ih fun x hx => h x (List.mem_cons_of_mem _ hx))

/-- The entries of a SNAP frame, each behind its table code. -/
theorem reads_codedEntries {es : List Entry} (h : ∀ e ∈ es, e.fits = true) :
    Reads (parseCodedEntries es.length) (es.flatMap fun e => codeIn tableCodes e.table :: encodeEntry e) es := by
  induction es with
  | nil => exact .pure []
  | cons e es ih =>
    have hrest := ih fun x hx => h x (List.mem_cons_of_mem _ hx)
    have hread : Reads (parseCodedEntries (e :: es).length) ([codeIn tableCodes e.table] ++ (encodeEntry e
        ++ es.flatMap fun e => codeIn tableCodes e.table :: encodeEntry e)) (e :: es) :=
      .bind (reads_code (ofCode_table e.table)) <| .bind (reads_entry (h e List.mem_cons_self)) <| .map _ hrest
    exact hread

theorem reads_data {table n : Nat} {es : List Entry} {endFlag : Bool}
    (h : (Payload.data table n es endFlag).fits = true) :
    Reads parseData (encodePayload (.data table n es endFlag)) (.data table n es endFlag) := by
  simp only [Payload.fits, Bool.and_eq_true] at h
  obtain ⟨⟨hseq, hcount⟩, hdata⟩ := h
  obtain ⟨htable, hentries⟩ := Bool.and_eq_true_iff.mp hdata
  have hcode : (BitVec.ofNat 8 table).toNat = table := by
    have hlt : table < 2 ^ 8 := of_decide_eq_true htable
    rw [BitVec.toNat_ofNat, Nat.mod_eq_of_lt hlt]
  unfold parseData encodePayload
  simp only [List.append_assoc]
  refine .bind (bs := leBytes 1 table) (reads_byte _) <| .bind (reads_nat hseq) <| .bind (reads_nat hcount) <|
    .bind (reads_flag _) ?_
  rw [hcode]
  cases ht : ofCode tableCodes (BitVec.ofNat 8 table) with
  | some t =>
    rw [ht] at hentries
    refine .map _ (reads_entriesOf fun e he => ?_)
    simpa using List.all_eq_true.mp hentries e he
  | none =>
    rw [ht] at hentries
    obtain rfl := List.isEmpty_iff.mp hentries
    exact .pure _

/-- The payload of a known kind comes back from its bytes. -/
theorem reads_payload {p : Payload} {k : Kind} (hk : p.kind? = some k) (h : p.fits = true) :
    Reads (parsePayload k) (encodePayload p) p := by
  cases p
  case malformed => cases h
  case unknown => cases hk
  all_goals obtain rfl := Option.some.inj hk
  case stop b => exact (reads_byte b).map _
  case resume | leave | busy | snapEnd | snapAbort => exact .pure _
  case close c => exact (reads_closing h).map _
  case deliveryClose c => exact (reads_closing h).map _
  case adjust a => exact (reads_adjust h).map _
  case openFill o => exact (reads_open h).map _
  case deliveryOpen d => exact (reads_deliveryOpen h).map _
  case progress n v =>
    obtain ⟨hseq, hvolume⟩ := Bool.and_eq_true_iff.mp h
    exact .bind (reads_nat hseq) <| .map _ (reads_nat hvolume)
  case gauge g => exact (reads_gauging h).map _
  case census kind n time => exact reads_census h
  case grant g => exact (reads_grant h).map _
  case bar | unbar | drop => exact (reads_nat h).map _
  case release | time | order | ccClear => exact (reads_nat h).map _
  case tankSet t => exact (reads_tankSetting h).map _
  case siteSet m t keyed => exact reads_siteSet h
  case join j => exact (reads_join h).map _
  case announce a => exact (reads_announce h).map _
  case found n key =>
    have hread : Reads (parsePayload .found) (encodePayload (.found n key)) (.found n (BitVec.ofNat 16 key.toNat)) :=
      .bind (reads_nat h) <| .map _ (reads_nat (fitsNat_check key))
    rwa [ofNat_toNat_check] at hread
  case sealRound x => exact (reads_seal h).map _
  case read table start count =>
    simp only [Payload.fits, Bool.and_eq_true] at h
    obtain ⟨⟨htable, hstart⟩, hcount⟩ := h
    simp only [encodePayload, List.append_assoc]
    exact .bind (reads_nat htable) <| .bind (reads_nat hstart) <| .map _ (reads_nat hcount)
  case data table n es endFlag => exact reads_data h
  case snapHead n key c => exact reads_snapHead h
  case snap es =>
    obtain ⟨hcount, hentries⟩ := Bool.and_eq_true_iff.mp h
    exact .bind (reads_nat hcount) <| .map _ (reads_codedEntries (List.all_eq_true.mp hentries))

/-! ## The kind of a payload, from its class and kind byte (R189) -/

/-- Every kind is found by its codes. -/
theorem kindOf_codes (k : Kind) : kindOf k.codes.1 (BitVec.ofNat 8 k.codes.2) = some k := by cases k <;> rfl

/-- A payload of a known kind has the class and kind byte of the kind. -/
theorem Payload.codes_of_kind {p : Payload} {k : Kind} (h : p.kind? = some k) :
    p.cls = k.codes.1 ∧ p.kindByte = BitVec.ofNat 8 k.codes.2 := by
  cases p
  case unknown => cases h
  all_goals
    obtain rfl := Option.some.inj h
    exact ⟨rfl, rfl⟩

/-- The kind that a receiver makes out. -/
theorem kindOf_payload {p : Payload} (h : p.fits = true) : kindOf p.cls p.kindByte = p.kind? := by
  cases hk : p.kind? with
  | some k =>
    obtain ⟨hcls, hbyte⟩ := Payload.codes_of_kind hk
    rw [hcls, hbyte, kindOf_codes]
  | none =>
    cases p
    case unknown cls kind bytes =>
      have hnone : (decide (cls < 8) && (kindOf cls kind).isNone) = true := h
      exact Option.isNone_iff_eq_none.mp (Bool.and_eq_true_iff.mp hnone).2
    all_goals cases hk

/-- Settles O10, layout by layout. -/
theorem payloadRoundTrip : Obligations.PayloadRoundTrip := by
  intro p h
  rw [decodePayload, kindOf_payload h]
  cases hk : p.kind? with
  | some k =>
    dsimp only
    rw [(reads_payload hk h).parseAll]
  | none =>
    cases p
    case unknown cls kind bytes => rfl
    all_goals cases hk

end Sys2Proof.Machine
end

section
/-! A frame comes back from the bits on the wire (R1, R2, R4, R7, R187, R189). -/

namespace Sys2Proof.Machine

/-! ## Stuffing and its removal (R2) -/

/-- Taking out what was stuffed leaves the data bits, wherever the run stands. -/
theorem rxEventsFrom_stuffFrom (v : Bit) (n r : Nat) (bits : List Bit) :
    rxEventsFrom v n r (stuffFrom v n bits) = bits.map RxEvent.bit := by
  induction bits generalizing v n r with
  | nil =>
    by_cases hn : n = 5
    · subst hn
      have hne : ¬(!v) = v := by cases v <;> decide
      rw [stuffFrom, if_pos rfl, rxEventsFrom]
      simp only [if_true, if_neg hne]
      rfl
    · rw [stuffFrom, if_neg hn]
      rfl
  | cons b bs ih =>
    by_cases hn : n = 5
    · subst hn
      have hne : ¬(!v) = v := by cases v <;> decide
      rw [stuffFrom, if_pos rfl, rxEventsFrom]
      simp only [if_true, if_neg hne]
      rw [rxEventsFrom, if_neg (by decide), ih]
      rfl
    · rw [stuffFrom, if_neg hn, rxEventsFrom]
      simp only [if_neg hn]
      rw [ih]
      rfl

/-! ## Bytes and bits (R1) -/

theorem ofBoolListBE_byteBits (b : Byte) : (BitVec.ofBoolListBE [b.getLsbD 7, b.getLsbD 6, b.getLsbD 5, b.getLsbD 4,
    b.getLsbD 3, b.getLsbD 2, b.getLsbD 1, b.getLsbD 0] : BitVec 8) = b := by
  revert b
  decide +kernel

theorem bytesOfBits_flatMap (bs : List Byte) : bytesOfBits (bs.flatMap byteBits) = bs := by
  induction bs with
  | nil => rfl
  | cons b bs ih =>
    exact congr (congrArg List.cons (ofBoolListBE_byteBits b)) ih

theorem flatMap_byteBits_length (bs : List Byte) : (bs.flatMap byteBits).length = 8 * bs.length := by
  induction bs with
  | nil => rfl
  | cons b bs ih =>
    rw [List.flatMap_cons, List.length_append, ih, List.length_cons]
    show 8 + _ = _
    omega

/-- What a receiver finds in bytes sent without an error. -/
def eventsOf (bs : List Byte) : List RxEvent := (bs.flatMap byteBits).map RxEvent.bit

theorem eventsOf_append (as bs : List Byte) : eventsOf (as ++ bs) = eventsOf as ++ eventsOf bs := by
  rw [eventsOf, List.flatMap_append, List.map_append]
  rfl

/-! ## Taking bits off (R7) -/

theorem takeStrict_bits (as : List Bit) (evs : List RxEvent) :
    takeStrict as.length (as.map RxEvent.bit ++ evs) = .bits as false evs := by
  induction as with
  | nil => rfl
  | cons a as ih =>
    show takeStrict (as.length + 1) (.bit a :: (as.map RxEvent.bit ++ evs)) = _
    rw [takeStrict, ih]

theorem takeLoose_bits (as : List Bit) : takeLoose as.length false (as.map RxEvent.bit) = .bits as false [] := by
  induction as with
  | nil => rfl
  | cons a as ih =>
    show takeLoose (as.length + 1) false (.bit a :: as.map RxEvent.bit) = _
    rw [takeLoose, ih]

/-- A header field sent without an error is read as it is. -/
theorem readHeader_bytes {n : Nat} {bs rest : List Byte} (k : List Byte → List RxEvent → Rx) (h : n = 8 * bs.length) :
    readHeader n (eventsOf (bs ++ rest)) k = k bs (eventsOf rest) := by
  subst h
  rw [readHeader, eventsOf_append, ← flatMap_byteBits_length]
  have htake : takeStrict (bs.flatMap byteBits).length (eventsOf bs ++ eventsOf rest) =
      .bits (bs.flatMap byteBits) false (eventsOf rest) := takeStrict_bits _ _
  rw [htake]
  dsimp only
  rw [bytesOfBits_flatMap]

theorem readHeader_byte (b : Byte) (rest : List Byte) (k : List Byte → List RxEvent → Rx) :
    readHeader 8 (eventsOf ([b] ++ rest)) k = k [b] (eventsOf rest) := readHeader_bytes k rfl

/-! ## Payload and check (R7, R187) -/

theorem fieldOf_leBytes {n v : Nat} (h : v < 256 ^ n) : fieldOf ((leBytes n v).flatMap byteBits) = v := by
  rw [fieldOf, bytesOfBits_flatMap, leNat_leBytes h]

theorem receiveBody_bytes (cls sender dest : Nat) (kind : Byte) (seq16 : BitVec 16) (header body : List Byte) :
    receiveBody cls sender dest kind seq16 header body.length
        (eventsOf (body ++ leBytes 2 (crc (header ++ body)).toNat)) =
      .window
        { frame := { sender, dest, seq16, payload := decodePayload cls kind body, map := none }, error := none } := by
  let check := leBytes 2 (crc (header ++ body)).toNat
  have hlength : 8 * body.length + 16 = ((body ++ check).flatMap byteBits).length := by
    rw [flatMap_byteBits_length, List.length_append, leBytes_length]
    omega
  have htake : takeLoose (8 * body.length + 16) false (eventsOf (body ++ check)) =
      .bits ((body ++ check).flatMap byteBits) false [] := by
    rw [hlength]
    exact takeLoose_bits _
  have hsplit : (body ++ check).flatMap byteBits = body.flatMap byteBits ++ check.flatMap byteBits :=
    List.flatMap_append
  have hbody : bytesOfBits (((body ++ check).flatMap byteBits).take (8 * body.length)) = body := by
    rw [hsplit, List.take_left' (flatMap_byteBits_length body), bytesOfBits_flatMap]
  have hcheck : fieldOf (((body ++ check).flatMap byteBits).drop (8 * body.length)) = (crc (header ++ body)).toNat := by
    rw [hsplit, List.drop_left' (flatMap_byteBits_length body)]
    exact fieldOf_leBytes (crc (header ++ body)).isLt
  rw [receiveBody, htake]
  dsimp only
  rw [hbody, hcheck]
  simp

theorem leNat_singleton (b : Byte) : leNat [b] = b.toNat := rfl

theorem receiveLength_bytes {cls sender dest : Nat} {kind : Byte} {seq16 : BitVec 16} {header body : List Byte}
    (hok : lengthOk cls kind body.length = true) (hlen : body.length ≤ 112) :
    receiveLength cls sender dest kind seq16 header (eventsOf (leBytes 1 body.length
        ++ (body ++ leBytes 2 (crc (header ++ leBytes 1 body.length ++ body)).toNat))) =
      .window
        { frame := { sender, dest, seq16, payload := decodePayload cls kind body, map := none }, error := none } := by
  have hn : leNat (leBytes 1 body.length) = body.length := leNat_leBytes (by omega)
  rw [receiveLength, readHeader_bytes (n := 8) (bs := leBytes 1 body.length) _ rfl, hn]
  dsimp only
  rw [if_pos hok]
  exact receiveBody_bytes cls sender dest kind seq16 (header ++ leBytes 1 body.length) body

/-! ## The header (R4, R7, R189) -/

theorem leInt_length (n : Nat) (v : Int) : (leInt n v).length = n := leBytes_length n _

theorem optBytes_length {α : Type} {f : α → List Byte} {n : Nat} (h : ∀ x, (f x).length = n) (o : Option α) :
    (optBytes f o).length = 0 ∨ (optBytes f o).length = n := by
  cases o with
  | none => exact .inl rfl
  | some x => exact .inr (h x)

theorem encodeClosing_length (c : Closing) : (encodeClosing c).length = 16 ∨ (encodeClosing c).length = 20
    ∨ (encodeClosing c).length = 24 ∨ (encodeClosing c).length = 28 := by
  have hcomp := optBytes_length (leBytes_length 4) c.comp
  have hhours := optBytes_length (leBytes_length 4) c.hours
  have htime := optBytes_length (leBytes_length 4) c.endTime
  simp only [encodeClosing, List.length_append, leBytes_length, leInt_length, List.length_singleton]
  omega

/-- The length of a payload is one that its kind's layout allows. -/
theorem lengthFits_payload {p : Payload} {k : Kind} (hk : p.kind? = some k) (h : p.fits = true) :
    lengthFits k (encodePayload p).length = true := by
  cases p
  case malformed => cases h
  case unknown => cases hk
  all_goals
    obtain rfl := Option.some.inj hk
    simp only [lengthFits, Bool.or_eq_true, Bool.and_eq_true, beq_iff_eq, decide_eq_true_eq]
  case close c => exact or_assoc.mpr (or_assoc.mpr (encodeClosing_length c))
  case deliveryClose c => exact or_assoc.mpr (or_assoc.mpr (encodeClosing_length c))
  all_goals
    simp only [encodePayload, List.length_append, leBytes_length, leInt_length, List.length_singleton, List.length_nil]
  case adjust a =>
    have := optBytes_length (leBytes_length 4) a.time
    omega
  case openFill o =>
    have := optBytes_length (leBytes_length 4) o.hours
    have := optBytes_length (leBytes_length 4) o.openTime
    omega
  case deliveryOpen d =>
    have := optBytes_length (leBytes_length 4) d.hours
    have := optBytes_length (leBytes_length 4) d.openTime
    omega
  case gauge g =>
    have := optBytes_length (leInt_length 2) g.temperature
    omega
  case census kind n time =>
    have := optBytes_length (leBytes_length 4) time
    omega
  case tankSet t =>
    have := optBytes_length (leInt_length 4) t.book
    omega
  case siteSet m t keyed =>
    have := optBytes_length (leBytes_length 2) m
    have := optBytes_length (leBytes_length 2) t
    have := optBytes_length (f := fun b => [flagByte b]) (n := 1) (fun _ => rfl) keyed
    omega
  case join j =>
    have := optBytes_length (leBytes_length 1) j.hose
    have := optBytes_length (f := fun x => [x]) (n := 1) (fun _ => rfl) j.served
    omega
  case announce a =>
    have := optBytes_length (leBytes_length 1) a.hose
    have := optBytes_length (f := fun x => [x]) (n := 1) (fun _ => rfl) a.served
    omega
  all_goals omega

theorem lengthOk_payload {p : Payload} (h : p.fits = true) (hlen : (encodePayload p).length ≤ 112) :
    lengthOk p.cls p.kindByte (encodePayload p).length = true := by
  rw [lengthOk, kindOf_payload h, decide_eq_true hlen, Bool.true_and]
  cases hk : p.kind? with
  | none => rfl
  | some k => exact lengthFits_payload hk h

theorem replicaHeader_payload {p : Payload} (h : p.fits = true) : replicaHeader p.cls p.kindByte = p.isReplica := by
  rw [replicaHeader, kindOf_payload h, Payload.isReplica, Payload.isFounding, Bool.not_or, Bool.and_assoc]
  rfl

theorem Payload.cls_lt {p : Payload} (h : p.fits = true) : p.cls < 8 := by
  cases hk : p.kind? with
  | some k =>
    rw [(Payload.codes_of_kind hk).1]
    cases k <;> decide
  | none =>
    cases p
    case unknown cls kind bytes =>
      have hcls : (decide (cls < 8) && (kindOf cls kind).isNone) = true := h
      exact of_decide_eq_true (Bool.and_eq_true_iff.mp hcls).1
    all_goals cases hk

theorem contentionByte_toNat {cls sender : Nat} (hc : cls < 8) (hs : sender ≤ 31) :
    (contentionByte cls sender).toNat = cls * 32 + sender := by
  rw [contentionByte, BitVec.toNat_ofNat]
  omega

theorem dest_le_of_destFits {cls dest : Nat} (h : destFits cls dest = true) : dest ≤ 31 := by
  unfold destFits at h
  split at h
  · rw [beq_iff_eq] at h
    omega
  · exact of_decide_eq_true (Bool.and_eq_true_iff.mp h).2

/-- The seq16 of a replica frame, or its absence, as the bytes that carry it. -/
def Frame.seqBytes (f : Frame) : List Byte := if f.payload.isReplica then leBytes 2 f.seq16.toNat else []

/-- A frame's bytes, one field behind another. -/
theorem frameBytes_eq (f : Frame) : frameBytes f = [0x93#8] ++ ([contentionByte f.payload.cls f.sender]
    ++ ([BitVec.ofNat 8 f.dest] ++ ([f.payload.kindByte] ++ (f.seqBytes ++ (leBytes 1 (encodePayload f.payload).length
    ++ (encodePayload f.payload ++ leBytes 2 (crc (checkedBytes f)).toNat)))))) := by
  simp only [frameBytes, checkedBytes, Frame.seqBytes, List.cons_append, List.nil_append, List.append_assoc]

theorem checkedBytes_eq (f : Frame) : checkedBytes f = [contentionByte f.payload.cls f.sender]
    ++ [BitVec.ofNat 8 f.dest] ++ [f.payload.kindByte] ++ f.seqBytes ++ leBytes 1 (encodePayload f.payload).length
    ++ encodePayload f.payload := rfl

/-- Settles O11: what was stuffed is taken out again, and each field is read as it was sent. -/
theorem frameRoundTrip : Obligations.FrameRoundTrip := by
  intro f h
  simp only [Frame.fits, Bool.and_eq_true, decide_eq_true_eq] at h
  obtain ⟨⟨⟨⟨⟨⟨hsender, hsender'⟩, hdest⟩, hpayload⟩, hlen⟩, hseq⟩, hmap⟩ := h
  have hevents : rxEvents (wireBits f) = eventsOf (frameBytes f) := rxEventsFrom_stuffFrom true 0 0 _
  have hbyte := contentionByte_toNat (Payload.cls_lt hpayload) hsender'
  have hcls : leNat [contentionByte f.payload.cls f.sender] / 32 = f.payload.cls := by
    rw [leNat_singleton, hbyte]
    omega
  have hfrom : leNat [contentionByte f.payload.cls f.sender] % 32 = f.sender := by
    rw [leNat_singleton, hbyte]
    omega
  have hto : leNat [BitVec.ofNat 8 f.dest] = f.dest := by
    have hle := dest_le_of_destFits hdest
    rw [leNat_singleton, BitVec.toNat_ofNat]
    omega
  have hkind : BitVec.ofNat 8 (leNat [f.payload.kindByte]) = f.payload.kindByte := by
    rw [leNat_singleton, BitVec.ofNat_toNat, BitVec.setWidth_eq]
  have hframe : ({ sender := f.sender, dest := f.dest, seq16 := f.seq16, payload := f.payload, map := none } :
      Machine.Frame) = f := by
    rw [← Option.isNone_iff_eq_none.mp hmap]
  have hdecode : decodePayload f.payload.cls f.payload.kindByte (encodePayload f.payload) = f.payload :=
    payloadRoundTrip f.payload hpayload
  have hok := lengthOk_payload hpayload hlen
  have hsync : ([0x93#8] != [0x93#8]) = false := rfl
  rw [receive, hevents, frameBytes_eq, readHeader_byte]
  dsimp only
  rw [hsync, if_neg Bool.false_ne_true, readHeader_byte, hcls, hfrom, if_neg (by omega), readHeader_byte]
  rw [hto, hdest, if_neg (by decide), readHeader_byte]
  rw [hkind, replicaHeader_payload hpayload, checkedBytes_eq]
  cases hreplica : f.payload.isReplica with
  | true =>
    have hbytes : f.seqBytes = leBytes 2 f.seq16.toNat := if_pos hreplica
    have hnumber : BitVec.ofNat 16 (leNat (leBytes 2 f.seq16.toNat)) = f.seq16 := by
      rw [leNat_leBytes f.seq16.isLt, BitVec.ofNat_toNat, BitVec.setWidth_eq]
    rw [if_pos rfl, hbytes, readHeader_bytes (n := 16) (bs := leBytes 2 f.seq16.toNat) _ rfl, hnumber,
      receiveLength_bytes hok hlen, hdecode, hframe]
  | false =>
    have hbytes : f.seqBytes = [] := if_neg (ne_true_of_eq_false hreplica)
    have hzero : f.seq16 = 0 := by
      rw [hreplica, Bool.false_or, beq_iff_eq] at hseq
      exact hseq
    rw [if_neg Bool.false_ne_true, hbytes, List.append_nil, List.nil_append, receiveLength_bytes hok hlen, hdecode,
      ← hzero, hframe]

end Sys2Proof.Machine
end
